-- ==== Sys2Proof/Word.lean ====
section
/-! DEFINITION. The word types of the model and their plainest arithmetic. -/

namespace Sys2Proof

/-- A 32-bit register or image word (R7). -/
abbrev Word := BitVec 32

/-- One octet. -/
abbrev Byte := BitVec 8

/-- A 64-bit value: digests, stamps held in register pairs, U64 objects. -/
abbrev W64 := BitVec 64

/-- Saturating increment of a 32-bit count (R10). -/
def satInc (w : Word) : Word := if w = 0xFFFFFFFF#32 then w else w + 1#32

/-- Saturating count of `k` further events. -/
def satAdd (w : Word) (k : Nat) : Word := BitVec.ofNat 32 (min (w.toNat + k) 0xFFFFFFFF)

end Sys2Proof
end

