-- ==== Sys2Proof/Syntax.lean ====
section
/-! DEFINITION. The commands of the block: one constructor of `Instr` per row of spec/opcode_table.json, with its operands. -/

namespace Sys2Proof

/-- A channel letter (R4, R14). -/
inductive Ch where | A | B | C
deriving DecidableEq, Repr

/-- One of the two links a channel has (R31 to R33): link 0 leads to the next channel in the order A, B, C, A; link 1 to the previous. -/
inductive Link where | next | prev
deriving DecidableEq, Repr

/-- The power domains of a channel (Table 19-4). -/
inductive Domain where | keep | core | fabric | port | field
deriving DecidableEq, Repr

/-- One of the two feeds (R475). -/
inductive Feed where | f1 | f2
deriving DecidableEq, Repr

/-- A Millrace ring (R216). -/
inductive Ring where | r1 | r2
deriving DecidableEq, Repr

/-- A port of a ring node (Table 8-1). -/
inductive RPort where | p0 | p1
deriving DecidableEq, Repr

/-- An ECN plane (R36). -/
inductive Plane where | a | b
deriving DecidableEq, Repr

/-- A network port that serves message data (R261, R268). -/
inductive NetPort where | planeA | planeB | service
deriving DecidableEq, Repr

/-- A memory error found by S4 or S5 in one array: its memory (0 SRAM, 1 image SRAM, 2 dynamic memory), the array or bank,
the spare rows used, and whether the spares were exhausted or a spare failed (R64). -/
structure MemFind where
  mem : Nat
  arr : Nat
  used : Nat
  bad : Bool
deriving DecidableEq, Repr

/-- What a cell's self-test found in S2 or S3 (R65, R66; the codes of Table 2-15). -/
inductive CellFind where | ok | core0 | core1 | comparator | delay
deriving DecidableEq, Repr

/-- What an assay step found (R62 to R68). -/
structure AssayFind where
  /-- The step's own result for everything but cells and memory rows. -/
  pass : Bool
  /-- Cell findings, used in S2 and S3: one per cell, 0 to 7. -/
  cells : List CellFind
  /-- Soft repairs, used in S4 and S5. -/
  mems : List MemFind
  /-- S1 or S7 found a transistor that stays conducting (R68). -/
  stuckOn : Bool
deriving DecidableEq, Repr

/-- An initiator on a channel's fabric (Table 1-17). -/
inductive Initiator where
  | core (hart : Nat)
  | reeve
  | engine (n : Nat)
  | debug
deriving DecidableEq, Repr

/-- A Millrace window as it passes (R223). -/
structure MWin where
  num : Nat
  empty : Bool
  bellfill : Bool
  writer : Nat
  wcyc : Word
  payload : List Byte
  crcOk : Bool
deriving DecidableEq, Repr

/-- A Millrace frame as it passes the node (R221, R224, R229). -/
structure MFrame where
  inPort : RPort
  hcrcOk : Bool
  rcrcOk : Bool
  /-- The trailer repeats CYCLE and LEN and ends with 0x5AA5, and exactly LEN octets came (R224). -/
  bodyOk : Bool
  /-- It ended with transmit error (R218, R224). -/
  txErr : Bool
  /-- LEN (R221). -/
  len : Nat
  /-- Octets that came. -/
  octets : Nat
  cycle : Word
  sched : Word
  bell : Nat
  rank : Nat
  tstamp : Nat
  delay : Nat
  hops : Nat
  line : Bool
  wins : List MWin
  /-- Residence of this frame in the node, ns (R229). -/
  res : Nat
  /-- Time base of the owning channel when offset 0 crossed the in-port MDI (R244). -/
  tArr : Nat
  /-- What the node asked to substitute beside its own windows and octets 28 to 35: first and last octet of each run (R241). -/
  reqs : List (Nat × Nat)
  /-- Time base of the owning channel when offset 0 passed the window stage (R231). -/
  stamp : Nat
deriving DecidableEq, Repr

/-- A TRDP process data telegram as received (R257, R259). -/
structure Telegram where
  fcsOk : Bool
  hdrOk : Bool
  /-- Message type Pd or Pp and no unsupported option (R253, R257). -/
  typeOk : Bool
  /-- The message type is Pp, an answer to a pull (R257, R275). -/
  pp : Bool
  comId : Word
  src : Word
  seq : Word
  data : List Word
  /-- SDTv2: the safety code is correct for the SID of the subscription's SMI (R259). -/
  scOk : Bool
  ssc : Word
  /-- Owner stamp, ns (R143). -/
  stamp : Nat
deriving DecidableEq, Repr

/-- The header of a message data telegram (R253, R261). -/
structure MdHead where
  comId : Word
  /-- Message type Mr or Mn of its row, and no unsupported option. -/
  plain : Bool
  /-- Reply timeout, ns; of no meaning in an Mn. -/
  timeout : Nat
  /-- Source IP address. -/
  src : Word
deriving DecidableEq, Repr

/-- A frame at the switch (R254): source and destination MAC addresses and queue, 0 the first. -/
structure EthHead where
  src : Nat
  dst : Nat
  prio : Nat
deriving DecidableEq, Repr

/-- The header of an IPv4 packet (R253). -/
structure IpHead where
  /-- No fragment and no option. -/
  plain : Bool
  src : Word
deriving DecidableEq, Repr

/-- A ring port that goes down (R219, R243): the port, and the frame in passage with the octets that passed. -/
structure PortLoss where
  port : RPort
  part : Option (MFrame × Nat)
deriving DecidableEq, Repr

/-- The head of a PTP message (R253, R262): the master's clockIdentity, and whether the message keeps to the supported options: no fragment,
no IP option, no peer delay, no multicast alternative of Delay_Resp. -/
structure PtpHead where
  gm : W64
  plain : Bool
deriving DecidableEq, Repr

/-- The head of a Pr (R253): the ComId asked for, and whether the packet has no fragment, no IP option and no unsupported TRDP option. -/
structure PullHead where
  comId : Word
  plain : Bool
deriving DecidableEq, Repr

/-- An ARP request (R253, R254): the address asked for, the sender's addresses and front port, and whether it is one for IPv4 over Ethernet. -/
structure ArpHead where
  ip : Word
  src : Word
  mac : Nat
  ingress : RPort
  plain : Bool
deriving DecidableEq, Repr

/-- An Announce message, with the data set that BMCA compares (R262). -/
structure Announce where
  gm : W64
  /-- BMCA rank of the data set: a smaller value is the better master. -/
  rank : Nat
  logSync : Int
  utc : Int
  domain : Nat
  /-- No fragment, no IP option, no unsupported PTP option (R253). -/
  plain : Bool
deriving DecidableEq, Repr

/-- One entry of a dictionary request (Table 14-4). -/
structure DEntry where
  index : Nat
  sub : Nat
  data : List Byte
  token : Nat
deriving DecidableEq, Repr

/-- A dictionary request (R377). -/
structure DReq where
  tag : Byte
  /-- Header fields 0 and N as Table 14-4 requires. -/
  hdrOk : Bool
  /-- Message length in octets. -/
  len : Nat
  entries : List DEntry
deriving DecidableEq, Repr

/-- How a dictionary request arrived (Table 14-8). -/
inductive Transport where
  | host
  | md (p : NetPort) (src : Word) (session : Word)
  | ring (r : Ring) (node : Nat)
  | capacity
  /-- Message data that needs no reply (Mn). -/
  | notify (p : NetPort) (src : Word)
  /-- A legacy message (R447): 0 the host window, 1 MVB message data, 2 UDP on the service port. -/
  | legacy (kind : Nat)
  /-- Entry `k` of the request of several entries that the channel serves as call `id`: where the answer of an entry goes, no transport of a
  command. -/
  | part (id k : Nat)
deriving DecidableEq, Repr

/-- A lane packet (R460). -/
structure LanePkt where
  ok : Bool
  tag : Byte
  cnt : Nat
  addr : Nat
  data : List Word
deriving DecidableEq, Repr

/-- A host message (R465). -/
structure HostMsg where
  id : Word
  kind : Nat
  tag : Byte
  token : Nat
  data : List Byte
deriving DecidableEq, Repr

/-- Where a brigade message comes from: a node of a network, or a host lane (R403). -/
structure Peer where
  transport : Nat
  addr : Word
deriving DecidableEq, Repr

/-- A manifest (Table 15-3). `raw` is octets 0 to 447, `sig` octets 448 to 511. -/
structure Manifest where
  magic : Word
  mver : Nat
  kind : Nat
  keyslot : Nat
  imglen : Nat
  nblk : Nat
  secver : Nat
  fwver : Nat
  cfmt : Nat
  mincfmt : Nat
  product : Nat
  hwmin : Nat
  sha : List Byte
  raw : List Byte
  sig : List Byte
deriving DecidableEq, Repr

/-- Data that a brigade message carries besides its header (R403). -/
structure BrigadeHdr where
  imgid : Word
  block : Nat
  piece : Nat
  reason : Nat
  map : W64
  /-- HCRC passed (R403). -/
  ok : Bool
  /-- It arrived as a WRITE of object 0x5820.01, whose request carries this tag. -/
  dict : Option Byte
deriving DecidableEq, Repr

/-- The pair status of the partner (Table 11-3). -/
structure PairStatus where
  role : Nat
  drive : Bool
  timeValid : Bool
  req : Bool
  recP : Bool
  progdiff : Bool
  mode : Nat
  track : Nat
  cb : Nat
  klo : Word
  pdig : W64
  pdk : Word
  health : Word
  prog : W64
  xseq : Nat
  xkind : Nat
  xarea : Nat
  xtask : Nat
  xpage : Nat
deriving DecidableEq, Repr

/-- A record entry of a pair transfer: a timer (identity, duration, start stamp, state) or an item
(identity, type, words) (R311, R315). -/
structure XEntry where
  ident : Word
  dur : Word
  start : Int
  typ : Nat
  words : List Word
deriving DecidableEq, Repr

/-- The body of a pair record (R311). -/
structure PairRecord where
  status : PairStatus
  words : List Word
  entries : List XEntry
  ce : Nat
  ke : Nat
  edig : W64
deriving DecidableEq, Repr

/-- The standby tests (R308). -/
inductive StandbyTest where
  | h1 (cell : Nat) (ok : Bool)
  | h2 (corrected uncorrectable : Nat)
  | h3 (net idx : Nat) (ok stuckOn : Bool)
deriving DecidableEq, Repr

/-- The findings of Table 12-5. -/
inductive Finding where
  | stuckOn (idx : Nat)
  | stuckOff (idx : Nat)
  | energised
  | extHigh
  | openLoad
  | over
  | short
deriving DecidableEq, Repr

/-- One network's readings at an alignment instant (R334). -/
structure NetReading where
  tcond : BitVec 12
  qplus : Bool
  qminusLow : Bool
  current : Nat
deriving DecidableEq, Repr

/-- A 64-bit register pair with a shadowed high word (R94), by name of its low register. -/
inductive ShadowReg where
  | now | tickNum | gm | chgLdig | bridgeEvt | bridgeEvtPub | pairPdig | voteDig | votePeer0 | votePeer1
  | voteRs | voteRsPeer0 | voteRsPeer1 | nvmLdig
deriving DecidableEq, Repr

/-- A debugger's register: a GPR or a CSR, by number (R131). -/
inductive DbgReg where
  | gpr (n : Nat)
  | csr (n : Nat)
  /-- No register: an abstract command of another type than Access Register. -/
  | other (cmdtype : Nat)
deriving DecidableEq, Repr

/-- A run of the program buffer: the hart, and the words that the debugger has written into the buffer (R131, R133). -/
structure BufRun where
  hart : Nat
  words : List (BitVec 32)
deriving DecidableEq, Repr

/-- THE COMMANDS: one constructor per row of spec/opcode_table.json. -/
inductive Instr where
  -- power (R57, R475 to R481)
  | feedStartThreshold (mv1 mv2 : Nat)
  | keepInRegulation (ch : Ch)
  | domainsInRegulation (ch : Ch)
  | powerFailFlush (ch : Ch) (mv1 mv2 : Nat)
  | flushComplete (ch : Ch) (mv1 mv2 : Nat)
  | keepLeavesRegulation (ch : Ch)
  | feedLowWarning (ch : Ch) (feed : Feed) (mv : Nat)
  | feedOver (ch : Ch) (feed : Feed) (mv : Nat)
  | feedCurrentLimit (ch : Ch) (feed : Feed)
  | domainOutOfRegulation (ch : Ch) (d : Domain)
  | domainShutdownDone (ch : Ch)
  | dieHot (ch : Ch) (temp : BitVec 16)
  | overtemperature (ch : Ch) (temp : BitVec 16)
  -- clocks (R78 to R90)
  | laneLock (ch : Ch)
  | laneLoss (ch : Ch)
  | holdoverExpiry (ch : Ch)
  | rootPllLock (ch : Ch)
  | rootPllLossOfLock (ch : Ch)
  | dividerStart (ch : Ch)
  | watchQualification (ch : Ch) (groups : List Nat)
  | watchRecalibration (ch : Ch) (count : Nat)
  | monitorWindow (ch : Ch) (counts : List Nat)
  | keepClockSwitched (ch : Ch)
  | multiplexerHang (ch : Ch) (n : Nat)
  | fallbackShutdownDone (ch : Ch)
  | clockStartRetry (ch : Ch)
  -- start-up and assay (R59 to R71)
  | reeveRelease (ch : Ch) (ga : Nat) (late : Bool)
  | assayStepComplete (ch : Ch) (r : AssayFind)
  | assayStepAbandon (ch : Ch)
  | assayStepRetry (ch : Ch)
  | s7WaitLimit
  | startImageVerification (ch : Ch)
  | legacyTranslation (ch : Ch)
  | journalScan (ch : Ch)
  | startDecision
  -- tick, vote and cross links
  | tickBoundary (ch : Ch)
  | judgementInstant (ch : Ch)
  | boundaryMessageReceive (rx tx : Ch) (ok : Bool) (arrival : Nat)
  | completionNoticeReceive (rx tx : Ch) (ok : Bool)
  | resyncPageSumList (ch : Ch) (ok : Bool)
  | resyncPageRequest (ch : Ch) (ok : Bool)
  | resyncPageData (ch : Ch) (ok : Bool)
  | resyncTimerSnapshot (ch : Ch) (ok : Bool)
  | resyncTimerOperations (ch : Ch) (ok : Bool)
  | resyncTimeout (ch : Ch)
  | forwardedInputReceive (rx tx : Ch) (ok : Bool)
  | xlinkSegmentRelay (relay : Ch) (ok : Bool)
  | linkLost (ch : Ch) (link : Link)
  | linkUp (ch : Ch) (link : Link) (peer : Nat) (latency : Nat)
  -- Xtok instructions (R118 to R125)
  | tkLdin (ch : Ch) (hart rd rs1 : Nat) (imm : BitVec 12)
  | tkLdfr (ch : Ch) (hart rd rs1 : Nat) (imm : BitVec 12)
  | tkLdrs (ch : Ch) (hart rd rs1 : Nat) (imm : BitVec 12)
  | tkLdso (ch : Ch) (hart rd rs1 : Nat) (imm : BitVec 12)
  | tkStout (ch : Ch) (hart rs1 rs2 : Nat) (imm : BitVec 12)
  | tkStrs (ch : Ch) (hart rs1 rs2 : Nat) (imm : BitVec 12)
  | tkRdrel (ch : Ch) (hart rd rs1 : Nat) (imm : BitVec 12)
  | tkTmstart (ch : Ch) (hart rs1 rs2 : Nat)
  | tkTmstop (ch : Ch) (hart rs1 : Nat)
  | tkTmel (ch : Ch) (hart rd rs1 : Nat)
  | tkTmst (ch : Ch) (hart rd rs1 : Nat)
  | tkNext (ch : Ch) (hart rd : Nat)
  | tkSdone (ch : Ch) (hart : Nat)
  | sliceCompleteReport (ch : Ch) (hart : Nat)
  | tkWait (ch : Ch) (hart : Nat)
  | tkWaitResume (ch : Ch) (hart : Nat)
  | tkSid (ch : Ch) (hart rd : Nat)
  | tkPtag (ch : Ch) (hart rd : Nat)
  | tkPchk (ch : Ch) (hart rd rs1 : Nat)
  | inputFreezeComplete (ch : Ch) (task : Nat)
  -- core operations (R29, R110 to R117)
  | coreLoadStore (ch : Ch) (ini : Initiator) (write : Bool) (size addr : Nat) (data : Word) (rd : Nat) (signed : Bool)
  | fence (ch : Ch) (hart : Nat)
  | fenceI (ch : Ch) (hart : Nat)
  | wfi (ch : Ch) (hart : Nat)
  | csrTimeRead (ch : Ch) (hart rd csr : Nat)
  | customCsrAccess (ch : Ch) (hart rd csr : Nat) (write : Bool) (value : Word)
  | externalInterrupt (ch : Ch) (hart : Nat)
  | comparatorMismatch (ch : Ch) (cell : Nat) (groups : BitVec 13)
  | signatureCompare (ch : Ch) (cell : Nat)
  -- debug (R131 to R135, R489)
  | debugHaltRequest (ch : Ch) (hart : Nat)
  | debugResumeRequest (ch : Ch) (hart : Nat)
  | debugStep (ch : Ch) (hart : Nat)
  | debugRegisterRead (ch : Ch) (hart : Nat) (r : DbgReg)
  | debugRegisterWrite (ch : Ch) (hart : Nat) (r : DbgReg) (value : Word)
  | debugProgramBufferExec (ch : Ch) (p : BufRun)
  | debugSystemBusRead (ch : Ch) (size addr : Nat)
  | debugSystemBusWrite (ch : Ch) (size addr : Nat) (value : Word)
  | debugTriggerWrite (ch : Ch) (hart trig : Nat) (tdata1 tdata2 : Word)
  | debugLogPop (ch : Ch) (ini : Initiator)
  | tapIdcode (ch : Ch)
  | tapBypass (ch : Ch)
  -- mode commands (R55, R56, R189, R344)
  | cmdStop (ch : Ch)
  | cmdRestart (ch : Ch)
  | cmdCommission (ch : Ch)
  | cmdMaintain (ch : Ch)
  | cmdRecover (ch : Ch)
  | automaticRestart (ch : Ch)
  | proofTestDue (ch : Ch)
  | resetRequest (ch : Ch) (value : Byte)
  | resetWindowExpiry (ch : Ch)
  -- online change (R197 to R212)
  | chgLoad (ch : Ch)
  | chgArm (ch : Ch)
  | chgCancel (ch : Ch)
  | chgRollback (ch : Ch)
  | changeVerification (ch : Ch)
  | loadDigestReceive (rx tx : Ch) (ok : Bool)
  | loadDigestTimeout (ch : Ch)
  | changeConfirmation (ch : Ch) (value : Word)
  | armWindowExpiry (ch : Ch)
  | trialLimitExpiry (ch : Ch)
  -- Millrace (R216 to R252)
  | portUp (r : Ring) (p : RPort)
  | portUsable (r : Ring) (p : RPort)
  | portDown (r : Ring) (d : PortLoss)
  | loopChange (r : Ring)
  | bypassRelaySwitched (r : Ring)
  | probeSend (r : Ring) (p : RPort) (t1 : Nat)
  | probeRequestReceive (r : Ring) (p : RPort) (seq turn : Nat) (ok : Bool)
  | probeResponseReceive (r : Ring) (p : RPort) (seq turn t4 : Nat) (ok : Bool)
  | framePassage (r : Ring) (f : MFrame)
  | ringSampleBlockDiscard (r : Ring)
  | windowFetch (r : Ring) (binding : Nat) (late : Option Nat)
  | windowReturnDeadline (r : Ring)
  | withdrawHoldExpiry (r : Ring)
  | backoffExpiry (r : Ring)
  | mailboxTimeout (r : Ring)
  | timeMark (ch : Ch) (r : Ring) (mark : Nat)
  -- train networks (R253 to R273)
  | pdTelegramDue (p : Plane) (n : Nat)
  | pdTelegramReceive (p : Plane) (t : Telegram)
  | pdPullRequest (p : Plane) (hd : PullHead) (replyComId replyIp : Word)
  | mdRequest (p : NetPort) (hd : MdHead) (session : Word) (svc : Nat) (req : DReq)
  | mdNotify (p : NetPort) (hd : MdHead) (session : Word) (svc : Nat) (req : DReq)
  | ptpSync (p : Plane) (hd : PtpHead) (seq : Nat) (twoStep : Bool) (t1 corr : Int) (t2 : Nat)
  | ptpFollowUp (p : Plane) (hd : PtpHead) (seq : Nat) (t1 corr : Int)
  | ptpAnnounce (p : Plane) (m : Announce)
  | announceTimeout (p : Plane) (gm : W64)
  | ptpDelayResp (p : Plane) (hd : PtpHead) (delay : Int) (now : Nat)
  | switchForward (p : Plane) (ingress : RPort) (hd : EthHead) (ptpEvent : Bool) (residence : Nat)
  | arpRequest (p : NetPort) (hd : ArpHead)
  | icmpEcho (p : NetPort) (ip : Word) (hd : IpHead)
  | mvbMasterFrame (fcode addr : Nat)
  | mvbSlaveFrame (addr : Nat) (okA okB : Bool) (data : List Byte) (stamp : Nat)
  -- bridge (R274 to R296)
  | bridgeForwardReceive (rx tx : Ch) (ok : Bool)
  | sequenceGapTimeout (ch : Ch) (entry : Nat)
  | postedWriteDelivery (ch : Ch) (qid dport : Nat)
  | writeLifetimeExpiry (ch : Ch) (qid dport : Nat)
  | proxyReadRequest (ch : Ch) (via : Transport) (tag : Byte) (index sub : Nat)
  | downstreamAccessStart (ch : Ch) (slot : Nat)
  | downstreamReadComplete (ch : Ch) (slot : Nat) (data : List Byte) (token : Nat)
  | downstreamAccessFail (ch : Ch) (slot : Nat) (abort : Word)
  | requestHoldExpiry (ch : Ch) (slot : Nat)
  | collectTimerExpiry (ch : Ch) (slot : Nat)
  | commitAcknowledge (ch : Ch) (slot : Nat)
  | commitRefused (ch : Ch) (slot : Nat)
  | commitResend (ch : Ch) (slot : Nat)
  | readYield (ch : Ch) (slot : Nat)
  | sidebandPulseEnd (ch : Ch) (e : Nat)
  | hostMessageAnswer (ch : Ch) (m : HostMsg)
  -- module pair (R297 to R319)
  | pairStatusReceive (rx : Ch) (r : Ring) (wcyc : Word) (ps : PairStatus) (ok : Bool)
  | pairRecordReceive (rx : Ch) (r : Ring) (wcyc : Word) (rec : PairRecord) (ok : Bool)
  | trackTimeout (ch : Ch)
  | standbyTest (ch : Ch) (t : StandbyTest)
  -- field I/O (R320 to R349)
  | quenchExpiry (ch : Ch) (net : Nat)
  | outputFinding (ch : Ch) (net : Nat) (f : Finding)
  | transistorTestStart (ch : Ch)
  | transistorTestEnd (ch : Ch) (changed restored : Bool)
  | transistorUntested (ch : Ch) (net idx : Nat)
  | fieldSupplyLow (ch : Ch)
  | fieldSupplyRestored (ch : Ch)
  | permitInputFall (ch : Ch) (net : Nat)
  -- signal chain (R350 to R367)
  | sdFramePulse (ch : Ch)
  | sdFrameBit (ch : Ch) (k : Word)
  | sdCheckReceive (rx tx : Ch) (ok : Bool)
  | noclkDetect (ch : Ch)
  | syncPinEdge (ch : Ch) (rising wide early : Bool)
  | syncCommand (ch : Ch) (value : Byte)
  -- dictionary and journal (R368 to R396)
  | dictRead (ch : Ch) (via : Transport) (req : DReq)
  | dictWrite (ch : Ch) (via : Transport) (req : DReq)
  | dictInfo (ch : Ch) (via : Transport) (req : DReq)
  | dictNext (ch : Ch) (via : Transport) (req : DReq)
  | dictPeek (ch : Ch) (via : Transport) (req : DReq)
  | dictCommit (ch : Ch) (via : Transport) (req : DReq)
  | hallmarkConfirmation (ch : Ch) (via : Transport) (tag : Byte) (value : Word)
  | journalTransactionDistribute
  | journalRecordDurable (ch : Ch) (ok : Bool)
  | prepareReportReceive (tx : Ch)
  | journalCommitReceive (ch : Ch)
  | participantTimeout (ch : Ch)
  | partialAckTimeout
  | sequencingReeveTakeover (ch : Ch)
  | journalCompaction (ch : Ch)
  | snapshotReceive (rx tx : Ch) (ok : Bool)
  | snapshotTimer (ch : Ch)
  -- reeve (R23)
  | reeveKick (ch : Ch) (ini : Initiator)
  | reeveWatchdogTimeout (ch : Ch)
  | reeveRestart (ch : Ch)
  -- update and recovery (R397 to R423)
  | brigadeOffer (ch : Ch) (peer : Peer) (h : BrigadeHdr) (m : Manifest)
  | brigadePiece (ch : Ch) (peer : Peer) (h : BrigadeHdr) (data : List Byte)
  | brigadeStatus (ch : Ch) (peer : Peer) (h : BrigadeHdr)
  | brigadeEnd (ch : Ch) (peer : Peer) (h : BrigadeHdr)
  | brigadeRefuse (ch : Ch) (peer : Peer) (h : BrigadeHdr)
  | brigadeStatusTimer (ch : Ch)
  | brigadeResend (ch : Ch) (peer : Peer)
  | brigadeGiveUp (ch : Ch) (peer : Peer)
  | blockForwardReceive (rx tx : Ch) (ok : Bool)
  | imageVerification (ch : Ch) (slot : Nat)
  | updActivate (ch : Ch)
  | updStore (ch : Ch)
  | updFallback (ch : Ch)
  | updErase (ch : Ch)
  | updAbort (ch : Ch)
  | updInstallKey (ch : Ch) (fuseOk : Bool)
  | firmwareConfirmation (ch : Ch) (value : Word)
  | fuseAdvance (ch : Ch) (ini : Initiator) (target : Nat) (fuseOk : Bool)
  | secHashStart (ch : Ch) (ini : Initiator) (len : Word)
  | secHashDone (ch : Ch)
  | recoveryComplete
  -- chronicle (R424 to R436)
  | chronPost (ch : Ch) (ini : Initiator) (n : Nat) (value : Word)
  | recordWrite (ch : Ch)
  | chronStartScan (ch : Ch)
  | operatingSecond (ch : Ch)
  -- compatibility (R437 to R458)
  | lcmdStop (ch : Ch)
  | lcmdRestart (ch : Ch)
  | lcmdClearHistory (ch : Ch)
  | legacyMessage (ch : Ch) (via : Nat) (msg : List Byte)
  -- host port (R459 to R472)
  | laneRead (ch : Ch) (p : LanePkt)
  | laneWrite (ch : Ch) (p : LanePkt)
  | hMbxDoor (ch : Ch) (len : Nat)
  | hMbxAck (ch : Ch)
  | hMsgDoor (ch : Ch)
  | hMsgAck (ch : Ch)
  | hrstAssert (ch : Ch)
  | hrstRelease (ch : Ch)
  -- registers (R8, R94)
  | shadowLoRead (ch : Ch) (ini : Initiator) (r : ShadowReg)
  | registerWrite (ch : Ch) (ini : Initiator) (addr : Nat) (value : Word)
  -- instants
  | alignmentInstant (ch : Ch) (raw : Word) (nets : List NetReading)
  | capturedBit (ch : Ch) (bits : BitVec 12) (frame sync : Bool)
  | disciplineHoldover (ch : Ch)
  | ecnPortLinkChange (ch : Ch) (port : RPort) (up : Bool)
  | mvbSinkTimeout
  | switchDigestReceive (rx tx : Ch) (ok : Bool)
  | xlinkCodeViolation (ch : Ch) (link : Link)
  | journalBlockErased (ch : Ch) (block : Nat)
  -- exceptions (R114)
  | ecall (ch : Ch) (hart : Nat)
  | ebreak (ch : Ch) (hart : Nat)
  | illegalInstruction (ch : Ch) (hart : Nat) (bits : Word)
  | instructionAccessFault (ch : Ch) (hart : Nat) (addr : Word)
deriving DecidableEq, Repr

end Sys2Proof
end

