-- ==== Sys2Proof/Decode.lean ====
section
/-! DEFINITION. The commands that a word of opcode-table bits spells: none, since no row of the table gives bits. -/

namespace Sys2Proof

/-- The command a table word spells. No row of spec/opcode_table.json gives bits, so no word spells a command. -/
def decodeTableWord (_nbits _w : Nat) : Option Instr := none

end Sys2Proof
end

