-- ==== Sys2Proof/Config.lean ====
section
/-! DEFINITION. What the spec leaves to an implementation or to another standard: opaque values that no proof can see, each named in the assumption log. -/

namespace Sys2Proof

/-- Octet of the boot ROM at an address (Table 1-8): its content is not given (log entry 10). -/
opaque Config.romByte : Nat → Byte

/-- Ed25519 verification (R400, RFC 8032): public key, message, signature (log entry 11). -/
opaque Config.ed25519 : List Byte → List Byte → List Byte → Bool

/-- The root public key of the boot ROM (R414; log entry 11). -/
opaque Config.rootKey : List Byte
/-- Its copy in the factory area (R414; log entry 11). -/
opaque Config.rootCopy : List Byte
/-- The fused SHA-256 of the root key (R414; log entry 11). -/
opaque Config.rootFuse : List Byte

/-- Octet at a flash address of a journal record whose programming failed (R387), of the factory area or of the configuration keep area, whose
layout the spec does not give (Table 15-1; log entry 105). -/
opaque Config.flashByte : Nat → Byte

/-- How many octets of the chronicle's writes reached MRAM before power was lost, taken at the free-value counter (R426, R431; log entry 107). -/
opaque Config.cutAt : Nat → Nat

/-- Resampler coefficients before the rule of R358 is applied (log entry 12). -/
opaque Config.resampleRaw : Nat → Nat → Int

/-- The 16 coefficients of a phase as R358 requires them: signed 18-bit values whose sum is 131,072. -/
def Config.phaseOk (prof phi : Nat) : Bool :=
  let l := (List.range 16).map (fun m => Config.resampleRaw prof (64 * m + phi))
  l.all (fun h => decide (-131072 ≤ h) && decide (h ≤ 131071)) && decide (l.foldl (· + ·) 0 = 131072)

/-- Resampler coefficient h[profile][64·m + phi] (R358): any table that the rule admits; values that it does not admit give way to two
coefficients of one half (log entry 12). -/
def Config.resample (prof i : Nat) : Int :=
  if Config.phaseOk prof (i % 64) then Config.resampleRaw prof i
  else if i / 64 = 7 || i / 64 = 8 then 65536 else 0

/-- What lies at an address of image SRAM: task, bank (0 input, 1 working output, 2 working retained, 3 published output, 4 published
retained, 5 qualifiers, 6 stage outputs) and octet offset; none where no area of a configured task lies (R140, R170; log entry 13). -/
opaque Config.capPlace : Nat → Option (Nat × Nat × Nat)

/-- A data section offset of a program image's default outputs and initial retained values per task: word offsets in
section 2 (R142, Table 15-5 names no offset for them; log entry 14). -/
opaque Config.defOutOfs : Nat → Nat
/-- The same for initial retained values (log entry 14). -/
opaque Config.initRsOfs : Nat → Nat

/-- Retained words that the state of a Yarlos block of a type takes in L0 (R442; log entry 15). -/
opaque Config.yarlosState : Nat → Nat

/-- A Yarlos block of a list format and type (R441, Table 17-4): retained outputs or not, constants from PAR on, inputs and state give the
variable's value and the new state. The block library is not given (log entry 15). -/
opaque Config.yarlosBlock : Nat → Nat → Bool → List Word → List Word → List Word → Word × List Word

/-- Application codes that the diagnostic blocks of a committed retained bank have set (R450, Table 17-4; log entry 15). -/
opaque Config.yarlosCodes : List Word → List Nat

/-- Execution cost of a Yarlos block type, in µs (R443; log entry 15). -/
opaque Config.yarlosCost : Nat → Nat

/-- Bytes of the code that the translator writes (R442; log entry 15). -/
opaque Config.yarlosCode : List Byte → List Byte

/-- Serial number, week of manufacture, boot ROM version (Table 14-18, Factory; log entry 16). -/
opaque Config.serial : List Byte
/-- Week of manufacture (log entry 16). -/
opaque Config.week : Nat
/-- Boot ROM version (log entry 16). -/
opaque Config.romVersion : Word

/-- Whether a load or store instruction was a compressed one, 2 octets long: taken at the free-value counter (log entry 18). -/
opaque Config.compressed : Nat → Bool

/-- A value the spec leaves open, taken at the free-value counter (log entry 19). -/
opaque Config.freeWord : Nat → Word
/-- A bit the spec leaves open, taken at the free-value counter (log entry 19). -/
opaque Config.freeBit : Nat → Bool

/-- SDTv2 safety code of a telegram: consist identifier and SMI, which form the SID, SSC, data (R258, IEC 61375-2-3 Annex B; log entry 20). -/
opaque Config.sdtCode : List Byte → Word → Word → List Word → Word

/-- Time from the boundary to the departure of a frame that a bellringer originates, by ring and tick number (R229; log entry 98). -/
opaque Config.departNs : Nat → Nat → Nat

/-- Measured input power of the HOST domain, 0.1 W (object 0x1034.01), taken at the free-value counter (log entry 21). -/
opaque Config.hostPower : Nat → Nat

end Sys2Proof
end

