-- ==== Sys2Proof/Machine/Bytes.lean ====
section
/-! DEFINITION. Octet order, the checks of R129 and R222, and SHA-256. -/

namespace Sys2Proof.Machine
open Sys2Proof

/-- `n` octets of `v`, little-endian (R371). -/
def leB : Nat → Nat → List Byte
  | 0, _ => []
  | n + 1, v => BitVec.ofNat 8 v :: leB n (v / 256)

/-- The number that octets spell, little-endian. -/
def leN : List Byte → Nat
  | [] => 0
  | b :: bs => b.toNat + 256 * leN bs

/-- The `n`-octet number at an offset. -/
def leAt (bs : List Byte) (off n : Nat) : Nat := leN ((bs.drop off).take n)

/-- The octets of words, each little-endian. -/
def wordBytes (ws : List Word) : List Byte := ws.flatMap (fun w => leB 4 w.toNat)

/-- `n` words read from octets. -/
def bytesWords : Nat → List Byte → List Word
  | 0, _ => []
  | n + 1, bs => BitVec.ofNat 32 (leN (bs.take 4)) :: bytesWords n (bs.drop 4)

/-- Octets padded with zeros to length `n`, cut to it. -/
def padTo (n : Nat) (bs : List Byte) : List Byte := (bs ++ List.replicate (n - bs.length) 0#8).take n

/-- Octets padded with zeros to a multiple of 4. -/
def pad4 (bs : List Byte) : List Byte := bs ++ List.replicate ((4 - bs.length % 4) % 4) 0#8

/-- Shift a reflected CRC register `n` times. -/
def crcShiftR (poly : BitVec 32) : Nat → BitVec 32 → BitVec 32
  | 0, c => c
  | n + 1, c => crcShiftR poly n (if c.getLsbD 0 then (c >>> 1) ^^^ poly else c >>> 1)

/-- CRC-32 of R222 (IEEE 802.3; reflected polynomial of 0x04C1_1DB7). -/
def crc32 (bs : List Byte) : Word :=
  ~~~ (bs.foldl (fun c b => crcShiftR 0xEDB88320#32 8 (c ^^^ BitVec.setWidth 32 b)) 0xFFFFFFFF#32)

/-- CRC-32C of R222 (reflected polynomial of 0x1EDC_6F41). -/
def crc32c (bs : List Byte) : Word :=
  ~~~ (bs.foldl (fun c b => crcShiftR 0x82F63B78#32 8 (c ^^^ BitVec.setWidth 32 b)) 0xFFFFFFFF#32)

/-- Shift an MSB-first CRC register `n` times. -/
def crcShiftL {w : Nat} (poly : BitVec w) : Nat → BitVec w → BitVec w
  | 0, c => c
  | n + 1, c => crcShiftL poly n (if c.msb then (c <<< 1) ^^^ poly else c <<< 1)

/-- CRC-16 of R222: polynomial 0x1021, not reflected, no final XOR. -/
def crc16 (bs : List Byte) : BitVec 16 :=
  bs.foldl (fun c b => crcShiftL 0x1021#16 8 (c ^^^ (BitVec.setWidth 16 b <<< (8 : Nat)))) 0xFFFF#16

/-- CRC-64 of R129 (ECMA-182, not reflected: log entry 22), initial value all ones, final complement. -/
def crc64 (bs : List Byte) : W64 :=
  ~~~ (bs.foldl (fun c b => crcShiftL 0x42F0E1EBA9EA3693#64 8 (c ^^^ (BitVec.setWidth 64 b <<< (56 : Nat)))) 0xFFFFFFFFFFFFFFFF#64)

/-- Round constants of SHA-256. -/
def shaK : List Word :=
  [0x428a2f98#32, 0x71374491#32, 0xb5c0fbcf#32, 0xe9b5dba5#32, 0x3956c25b#32, 0x59f111f1#32, 0x923f82a4#32, 0xab1c5ed5#32,
   0xd807aa98#32, 0x12835b01#32, 0x243185be#32, 0x550c7dc3#32, 0x72be5d74#32, 0x80deb1fe#32, 0x9bdc06a7#32, 0xc19bf174#32,
   0xe49b69c1#32, 0xefbe4786#32, 0x0fc19dc6#32, 0x240ca1cc#32, 0x2de92c6f#32, 0x4a7484aa#32, 0x5cb0a9dc#32, 0x76f988da#32,
   0x983e5152#32, 0xa831c66d#32, 0xb00327c8#32, 0xbf597fc7#32, 0xc6e00bf3#32, 0xd5a79147#32, 0x06ca6351#32, 0x14292967#32] ++
  [0x27b70a85#32, 0x2e1b2138#32, 0x4d2c6dfc#32, 0x53380d13#32, 0x650a7354#32, 0x766a0abb#32, 0x81c2c92e#32, 0x92722c85#32,
   0xa2bfe8a1#32, 0xa81a664b#32, 0xc24b8b70#32, 0xc76c51a3#32, 0xd192e819#32, 0xd6990624#32, 0xf40e3585#32, 0x106aa070#32,
   0x19a4c116#32, 0x1e376c08#32, 0x2748774c#32, 0x34b0bcb5#32, 0x391c0cb3#32, 0x4ed8aa4a#32, 0x5b9cca4f#32, 0x682e6ff3#32,
   0x748f82ee#32, 0x78a5636f#32, 0x84c87814#32, 0x8cc70208#32, 0x90befffa#32, 0xa4506ceb#32, 0xbef9a3f7#32, 0xc67178f2#32]

/-- The number octets spell, big-endian. -/
def beN (bs : List Byte) : Nat := leN bs.reverse

/-- Extend a reversed message schedule by `n` words. -/
def shaSched : Nat → List Word → List Word
  | 0, w => w
  | n + 1, w =>
    let g (i : Nat) := w.getD i 0#32
    let s1 := (g 1).rotateRight 17 ^^^ (g 1).rotateRight 19 ^^^ (g 1) >>> 10
    let s0 := (g 14).rotateRight 7 ^^^ (g 14).rotateRight 18 ^^^ (g 14) >>> 3
    shaSched n ((s1 + g 6 + s0 + g 15) :: w)

/-- The eight working words of SHA-256. -/
structure ShaSt where
  a : Word
  b : Word
  c : Word
  d : Word
  e : Word
  f : Word
  g : Word
  h : Word

/-- One round of SHA-256 with its constant and schedule word. -/
def ShaSt.round (s : ShaSt) (kw : Word × Word) : ShaSt :=
  let s1 := s.e.rotateRight 6 ^^^ s.e.rotateRight 11 ^^^ s.e.rotateRight 25
  let t1 := s.h + s1 + ((s.e &&& s.f) ^^^ (~~~ s.e &&& s.g)) + kw.1 + kw.2
  let s0 := s.a.rotateRight 2 ^^^ s.a.rotateRight 13 ^^^ s.a.rotateRight 22
  let t2 := s0 + ((s.a &&& s.b) ^^^ (s.a &&& s.c) ^^^ (s.b &&& s.c))
  ⟨t1 + t2, s.a, s.b, s.c, s.d + t1, s.e, s.f, s.g⟩

/-- One block of 64 octets. -/
def ShaSt.block (s : ShaSt) (bs : List Byte) : ShaSt :=
  let w0 := (List.range 16).map (fun i => (BitVec.ofNat 32 (beN ((bs.drop (4 * i)).take 4)) : Word))
  let w := (shaSched 48 w0.reverse).reverse
  let t := (shaK.zip w).foldl ShaSt.round s
  ⟨s.a + t.a, s.b + t.b, s.c + t.c, s.d + t.d, s.e + t.e, s.f + t.f, s.g + t.g, s.h + t.h⟩

/-- `n` blocks of a padded message. -/
def shaBlocks : Nat → List Byte → ShaSt → ShaSt
  | 0, _, s => s
  | n + 1, bs, s => shaBlocks n (bs.drop 64) (s.block (bs.take 64))

/-- SHA-256 (FIPS 180-4), 32 octets. -/
def sha256 (bs : List Byte) : List Byte :=
  let z := (119 - bs.length % 64) % 64
  let m := bs ++ [0x80#8] ++ List.replicate z 0#8 ++ (leB 8 (8 * bs.length)).reverse
  let r := shaBlocks (m.length / 64) m
    ⟨0x6a09e667#32, 0xbb67ae85#32, 0x3c6ef372#32, 0xa54ff53a#32, 0x510e527f#32, 0x9b05688c#32, 0x1f83d9ab#32, 0x5be0cd19#32⟩
  [r.a, r.b, r.c, r.d, r.e, r.f, r.g, r.h].flatMap (fun w => (leB 4 w.toNat).reverse)

end Sys2Proof.Machine
end

