-- ==== Sys2Proof/Machine/Types.lean ====
section
/-! DEFINITION. Types shared by the blocks of State: channels, modes, flag registers, messages in flight, emissions. -/

namespace Sys2Proof.Machine
open Sys2Proof

/-- One value per channel. -/
structure Tri (α : Type) where
  a : α
  b : α
  c : α
deriving DecidableEq, Repr

/-- The value of channel `ch`. -/
def Tri.get {α : Type} (t : Tri α) : Ch → α
  | .A => t.a
  | .B => t.b
  | .C => t.c

/-- Replace the value of channel `ch`. -/
def Tri.set {α : Type} (t : Tri α) (ch : Ch) (v : α) : Tri α :=
  match ch with
  | .A => { t with a := v }
  | .B => { t with b := v }
  | .C => { t with c := v }

/-- Apply `f` to every channel's value. -/
def Tri.map {α β : Type} (f : α → β) (t : Tri α) : Tri β := ⟨f t.a, f t.b, f t.c⟩

/-- The three values in the order A, B, C. -/
def Tri.toList {α : Type} (t : Tri α) : List α := [t.a, t.b, t.c]

/-- The same value in every channel. -/
def Tri.rep {α : Type} (v : α) : Tri α := ⟨v, v, v⟩

/-- All channels in the order A, B, C. -/
def allCh : List Ch := [.A, .B, .C]

/-- The next channel in the order A, B, C, A (R33: link 0 leads to it). -/
def chNext : Ch → Ch
  | .A => .B
  | .B => .C
  | .C => .A

/-- The previous channel in the order A, B, C, A (link 1 leads to it). -/
def chPrev : Ch → Ch
  | .A => .C
  | .B => .A
  | .C => .B

/-- Channel code: 0 A, 1 B, 2 C (Table 1-12). -/
def chCode : Ch → Nat
  | .A => 0
  | .B => 1
  | .C => 2

/-- The channel at the far end of a link. -/
def peerOf (ch : Ch) : Link → Ch
  | .next => chNext ch
  | .prev => chPrev ch

/-- The link of `ch` that leads to `p` (`none` for itself). -/
def linkTo (ch p : Ch) : Option Link :=
  if p = chNext ch then some .next else if p = chPrev ch then some .prev else none

/-- The channel states of Table 2-1. -/
inductive CState where
  | off | held | testing | loading | config | ready | voting | maint | safe | out | locked
deriving DecidableEq, Repr

/-- Codes of Table 2-1. -/
def CState.code : CState → Nat
  | .off => 0 | .held => 1 | .testing => 2 | .loading => 3 | .config => 4 | .ready => 5
  | .voting => 6 | .maint => 7 | .safe => 8 | .out => 9 | .locked => 10

/-- The twelve modes (Table 0-3). -/
inductive Mode where
  | m0 | m1 | m2 | m3 | m4 | m5 | m6 | m7 | m8 | m9 | m10 | m11
deriving DecidableEq, Repr

/-- Mode numbers 0 to 11. -/
def Mode.num : Mode → Nat
  | .m0 => 0 | .m1 => 1 | .m2 => 2 | .m3 => 3 | .m4 => 4 | .m5 => 5
  | .m6 => 6 | .m7 => 7 | .m8 => 8 | .m9 => 9 | .m10 => 10 | .m11 => 11

/-- A register of W1C flags with the event counter R10 puts behind each flag. -/
structure FlagReg where
  bits : Word
  cnt : List Word
deriving DecidableEq, Repr

/-- No flag set, no event counted. -/
def FlagReg.zero : FlagReg := ⟨0#32, List.replicate 32 0#32⟩

/-- A mode or change command on its way (R55, R201, R344, R361): its value, the tick of receipt, the receipt time, the requester (none: no reply is owed). -/
structure PendCmd where
  /-- 0 mode command, 1 change command, 2 reset request, 3 sync command. -/
  kind : Nat
  value : Nat
  /-- Boundary count of the tick in which it was received. -/
  c : Nat
  /-- Time base of the receiving channel at receipt. -/
  time : Nat
  origin : Ch
  via : Option Transport
  tag : Byte
deriving DecidableEq, Repr

/-- A state write on its way (R375). -/
structure StateWrite where
  ident : Word
  task : Nat
  word : Nat
  typ : Nat
  /-- The value's octets. -/
  val : List Byte
  /-- Class J: a transaction stores it as well. -/
  persist : Bool
  /-- Entries of the request that is answered. -/
  n : Nat
  /-- First boundary count at which it may be applied. -/
  due : Nat
  origin : Ch
  via : Option Transport
  tag : Byte
deriving DecidableEq, Repr

/-- A fault notice: accused channel and cause of Table 6-5. -/
structure Notice where
  accused : Ch
  cause : Nat
deriving DecidableEq, Repr

/-- A proposed mode with its cause (R50, R52). -/
structure Proposal where
  mode : Mode
  cause : Nat
deriving DecidableEq, Repr

/-- The boundary message of R174 (Table 6-1), with what R55, R361 and R375 send with it. -/
structure BMsg where
  sender : Ch
  /-- The proposal; `none` proposes no change. -/
  prop : Option Proposal
  confirmed : Bool
  abstaining : Bool
  resync : Bool
  rdigP : Bool
  lag : Bool
  leaving : Bool
  c : Nat
  k : Nat
  odig : W64
  rdig : W64
  samples : W64
  notices : List Notice
  cmds : List PendCmd
  writes : List StateWrite
  /-- State of the sender, as CHAN_VIEW shows it (R48). -/
  cstate : CState
deriving DecidableEq, Repr

/-- A timer of the hardware timer table (R163): identity, duration in µs, start stamp in ns. -/
structure Timer where
  id : Word
  dur : Word
  /-- S, ns (R163): a step of R99 can bring it below 0 (R165). -/
  start : Int
deriving DecidableEq, Repr

/-- A timer operation (R163). -/
inductive TimerOp where
  | start (id dur : Word) (stamp : Nat)
  | stop (id : Word)
deriving DecidableEq, Repr

/-- A received input item: source key, owner stamp, payload words (R37, R143). -/
structure Item where
  /-- 0 Millrace window, 1 ECN telegram, 2 MVB port (Table 15-5 codes). -/
  kind : Nat
  /-- Ring or plane, 0 otherwise. -/
  unit : Nat
  ref : Nat
  stamp : Nat
  words : List Word
  /-- SDTv2 sequence count, 0 otherwise. -/
  ssc : Word
  /-- The item takes part in SDTv2 choice (R259). -/
  sdt : Bool
  /-- The frame's own check sequence, which travels with the item, matches its octets (R37). -/
  good : Bool
deriving DecidableEq, Repr

/-- A channel's field sample set (R145): stamp, filtered levels, rise and fall counts, readback summary (R334). -/
structure SampleSet where
  stamp : Nat
  levels : Word
  rise : List Word
  fall : List Word
  /-- Conduction, energised and pulled-low readings per network (R334). -/
  nets : List NetReading
  /-- Finding states of the sender: network and finding (R334). -/
  finds : List (Nat × Finding)
deriving DecidableEq, Repr

/-- A time-discipline sample (R97, R98): source 1 ECN A, 2 ECN B, 3 ring 1, 4 ring 2; offset; capture boundary; owner stamp. -/
structure DSample where
  src : Nat
  o : Int
  cap : Nat
  stamp : Nat
deriving DecidableEq, Repr

/-- A grant item (R299). -/
structure Grant where
  ring : Ring
  wcyc : Word
  active : Nat
deriving DecidableEq, Repr

/-- A page of one area of a task (R175): area code, page number, words. -/
structure PageData where
  area : Nat
  page : Nat
  words : List Word
deriving DecidableEq, Repr

/-- A register snapshot of a channel (R378): object address and value. -/
structure Snapshot where
  vals : List (Nat × Nat × Nat)
deriving DecidableEq, Repr

/-- One entry of a journal record (Table 14-10): KKIND, KEY, TYPE, value, WCOUNT. -/
structure JEntry where
  kkind : Nat
  key : Nat
  typ : Nat
  val : List Byte
  wcount : Nat
deriving DecidableEq, Repr

/-- A gated telegram that waits for its gate (R181, R256): a publication that fell due, or a pull answer from one. -/
inductive GateItem where
  | pub (n : Nat)
  | pp (n : Nat) (comId dst : Word)
deriving DecidableEq, Repr

/-- Which part of a content longer than one BODY a message carries (Table 6-1: at most 1,024 octets). -/
structure Part where
  first : Bool
  last : Bool
deriving DecidableEq, Repr

/-- The only part of a content that fits one BODY. -/
def Part.whole : Part := ⟨true, true⟩

/-- The body of a message on a cross link. -/
inductive XBody where
  | boundary (m : BMsg)
  | notice (task c : Nat)
  | pageSums (task c : Nat) (part : Part) (sums : List (Nat × Nat × W64))
  | pageReq (task c : Nat) (pages : List (Nat × Nat))
  | pageData (task c : Nat) (page : PageData) (seeded : List Bool)
  | timerSnap (c : Nat) (part : Part) (timers : List Timer)
  | timerOps (c : Nat) (part : Part) (ops : List TimerOp)
  | item (i : Item)
  | telegram (p : Plane) (t : Telegram)
  | samples (s : SampleSet)
  | dsample (s : DSample)
  | grant (g : Grant)
  | sdCheck (k crc : Word) (allNoclk : Bool)
  | loadDigest (dig : W64) (c bank : Nat)
  | switchDigest (bank : Nat) (dig : W64) (c : Nat)
  | snapshot (s : Snapshot)
  | block (imgid : Word) (num : Nat) (data : List Byte)
  | bridge (entry seq : Nat) (dports : List Nat) (data : List Byte) (stamp : Nat)
  | pairStatus (r : Ring) (wcyc : Word) (ps : PairStatus)
  | pairRecord (r : Ring) (wcyc : Word) (rec : PairRecord)
deriving DecidableEq, Repr

/-- Where a message in flight runs (R34, R35): on the direct link, on the link to the channel that has to relay it, or on from the one that did. -/
inductive Way where
  | direct
  | toRelay (by_ : Ch)
  | relayed (by_ : Ch)
deriving DecidableEq, Repr

/-- A cross-link message in flight. -/
structure XMsg where
  tx : Ch
  rx : Ch
  way : Way
  body : XBody
deriving DecidableEq, Repr

/-- One entry of a dictionary response (Table 14-5): abort code, token, data. -/
structure REntry where
  abort : Word
  token : Nat
  data : List Byte
deriving DecidableEq, Repr

/-- A Millrace frame as a node sends it (R221): its header octets 0 to 23, HCRC, header octets 28 to 33, RCRC, windows and trailer. A check
or a trailer that arrived failing and leaves as it came is none; `txErr` ends it with transmit error (R218). -/
structure FrameOut where
  head : List Byte
  hcrc : Option Word
  run : List Byte
  rcrc : Option (BitVec 16)
  wins : List MWin
  trailer : Option (List Byte)
  txErr : Bool
deriving DecidableEq, Repr

/-- What an Ethernet frame of the module carries (R253): process data push and pull answer, message data error and reply, ARP, ICMP echo,
IGMPv2 membership report and PTP Delay_Req. -/
inductive EthBody where
  | pd (comId dst : Word) (seq : Word) (data : List Word) (ssc : Option Word)
  | pp (comId dst : Word) (seq : Word) (data : List Word)
  | me (src session : Word)
  | mp (src session : Word) (tag : Byte) (svc rstat : Nat) (entries : List REntry)
  | arp (ip dst : Word)
  | icmp (dst : Word)
  | igmp (group : Word)
  | delayReq (gm : W64)
deriving DecidableEq, Repr

/-- What leaves the module at a port or a pin: the model's record of the outside world's view. An Ethernet frame names its port, the front
ports it leaves by, VLAN identifier (0: untagged) and priority code point, UDP port and content (R254, R255). -/
inductive Emission where
  | dictReply (via : Transport) (tag : Byte) (svc : Nat) (rstat : Nat) (entries : List REntry)
  | eth (p : NetPort) (out : List RPort) (vid : Nat) (pcp udp : Option Nat) (b : EthBody)
  | laneResp (tag : Byte) (typ stat : Nat) (data : List Word)
  | frame (r : Ring) (out : RPort) (x : FrameOut)
  | window (r : Ring) (w : MWin)
  | probe (r : Ring) (p : RPort) (response : Bool) (seq turn : Nat)
  | ptpEvent (p : Plane) (egress : RPort) (addCorr udpSum : Nat)
  | planeFrame (p : Plane) (egress : RPort) (prio : Nat)
  | mvbSlave (addr : Nat) (data : List Byte)
  | hostMsg (m : HostMsg)
  | sideband (e : Nat) (level : Bool)
  | attn (level : Bool)
  | legacyReply (via : Nat) (msg : List Byte)
  | brigade (dest : Peer) (btype : Nat) (imgid : Word) (block piece reason : Nat) (map : W64) (data : List Byte)
  | tapShift (bits : Word) (len : Nat)
  | ringWrite (r : Ring) (node index sub : Nat) (data : List Byte)
  | ringRead (r : Ring) (node index sub : Nat) (peek : Bool) (slot : Nat)
  | ringCommit (r : Ring) (node index sub token slot : Nat)
  | framePulse (sync : Bool)
deriving DecidableEq, Repr

/-- A list in runs of at most `n` elements; an empty list is one empty run. -/
def runsOf {α : Type} (n : Nat) (l : List α) : List (List α) :=
  if l.isEmpty then [[]] else (List.range ((l.length + n - 1) / n)).map (fun i => (l.drop (n * i)).take n)

/-- The runs of a list with the part that each one is. -/
def parts {α : Type} (n : Nat) (l : List α) : List (Part × List α) :=
  let ps := runsOf n l
  (ps.zipIdx).map (fun x => (⟨x.2 == 0, x.2 + 1 == ps.length⟩, x.1))

/-- Replace element `i` of a list by `f` of it; nothing beyond the end. -/
def modAt {α : Type} (f : α → α) : Nat → List α → List α
  | _, [] => []
  | 0, x :: xs => f x :: xs
  | i + 1, x :: xs => x :: modAt f i xs

/-- Element `i`, or `d` beyond the end. -/
def atD {α : Type} (d : α) : Nat → List α → α
  | _, [] => d
  | 0, x :: _ => x
  | i + 1, _ :: xs => atD d i xs

end Sys2Proof.Machine
end

