-- ==== Sys2Proof/Machine/Flags.lean ====
section
/-! DEFINITION. Flag registers with the event counters of R10: raising, clearing and reading. -/

namespace Sys2Proof.Machine
open Sys2Proof

/-- Set flag `n` and count the event (R9, R10). -/
def FlagReg.raise (f : FlagReg) (n : Nat) : FlagReg :=
  { bits := f.bits ||| (1#32 <<< n), cnt := modAt satInc n f.cnt }

/-- Set flag `n` for `k` events that happen together: each one counts (R10). -/
def FlagReg.raiseN (f : FlagReg) (k n : Nat) : FlagReg :=
  if k = 0 then f else { bits := f.bits ||| (1#32 <<< n), cnt := modAt (fun w => satAdd w k) n f.cnt }

/-- Raise a flag when a condition holds. -/
def FlagReg.raiseIf (f : FlagReg) (b : Bool) (n : Nat) : FlagReg := if b then f.raise n else f

/-- Whether flag `n` is set. -/
def FlagReg.has (f : FlagReg) (n : Nat) : Bool := f.bits.getLsbD n

/-- Write 1 to clear (R8). -/
def FlagReg.clear (f : FlagReg) (w : Word) : FlagReg := { f with bits := f.bits &&& ~~~ w }

/-- The event counter of flag `n`. -/
def FlagReg.count (f : FlagReg) (n : Nat) : Word := atD 0#32 n f.cnt

/-- The sum of the event counters of flags `a` to `b - 1`, modulo 2^32. -/
def FlagReg.sum (f : FlagReg) (a b : Nat) : Word := ((f.cnt.take b).drop a).foldl (· + ·) 0#32

end Sys2Proof.Machine
end

