-- ==== Sys2Proof/Machine/BlkCell.lean ====
section
/-! DEFINITION. State of the cells and of the debug module of one channel, with reset values (ch. 04). -/

namespace Sys2Proof.Machine
open Sys2Proof

/-- A hardware trigger of the debug module (R131, type mcontrol). -/
structure Trigger where
  tdata1 : Word
  tdata2 : Word
deriving DecidableEq, Repr

/-- What a core waits for. -/
inductive Waiting where
  | none
  /-- tk.wait (Table 4-8). -/
  | tkWait
  /-- WFI (Table 4-1). -/
  | wfi
  /-- tk.sdone, until the slice's stores and posts are accepted (Table 4-8). -/
  | sdone
deriving DecidableEq, Repr

/-- One core of a cell (R109 to R117, R129). In a bonded cell core 1 is the checker: it holds main's values two core cycles later (R113, R126). -/
structure CoreSt where
  /-- x1 to x31 (R109, 31 × 32 bits); reset DESIGN CHOICE 0. -/
  x : List Word
  /-- pc (R112, 32 bits); reset 0x0000_0000. -/
  pc : Word
  /-- mstatus.MIE; reset 0 (R112). -/
  mie : Bool
  /-- mstatus.MPIE; reset DESIGN CHOICE 0. -/
  mpie : Bool
  /-- mstatus.MPP: machine mode; reset DESIGN CHOICE 0 (user). -/
  mppM : Bool
  /-- mstatus.TW; reset DESIGN CHOICE 0. -/
  tw : Bool
  /-- mstatus.MPRV; reset 0 (privileged architecture 1.12). -/
  mprv : Bool
  /-- Privilege: user mode; reset machine mode (R112). -/
  user : Bool
  /-- mie.MEIE (R114: the only interrupt); reset DESIGN CHOICE 0. -/
  meie : Bool
  /-- mtvec, direct mode (Table 4-1); reset 0x0000_0040. -/
  mtvec : Word
  /-- mscratch; reset DESIGN CHOICE 0. -/
  mscratch : Word
  /-- mepc; reset DESIGN CHOICE 0. -/
  mepc : Word
  /-- mcause; reset 0. -/
  mcause : Word
  /-- mtval; reset DESIGN CHOICE 0. -/
  mtval : Word
  /-- mcounteren (R111, hard-wired 0 in a bonded cell); reset 0. -/
  mcounteren : Word
  /-- cycle (64 bits); reset DESIGN CHOICE 0. -/
  cycle : W64
  /-- instret (64 bits); reset DESIGN CHOICE 0. -/
  instret : W64
  /-- The shadow of timeh (R111); reset 0. -/
  timeh : Word
  /-- tkirq enables, bits 10:0 (Table 4-5); reset 0. -/
  irqE : BitVec 11
  /-- tkirq pending, bits 26:16 as 10:0 (Table 4-5); reset 0. -/
  irqP : BitVec 11
  /-- tksig and tksigh (Table 4-3, 64 bits); reset 0. -/
  sig : W64
  /-- tkslice, the handle of the current slice (R118); reset 0. -/
  slice : Word
  /-- Timer operations the current slice has posted, in order (R163); reset empty. -/
  posts : List TimerOp
  /-- What the core waits for; reset nothing. -/
  waiting : Waiting
  /-- In debug mode (R131); reset no. -/
  halted : Bool
  /-- Resumed by the debugger in this stay in M9 (Table 4-16: halted or under debug); reset no. -/
  freed : Bool
  /-- A single step is running (dcsr.step, R131); reset no. -/
  stepping : Bool
  /-- dcsr.cause (debug specification 0.13.2); reset 0. -/
  dcause : Nat
  /-- dcsr.ebreakm and dcsr.ebreaku (Table 4-2); reset 0. -/
  ebreakm : Bool
  ebreaku : Bool
  /-- dpc; reset 0. -/
  dpc : Word
  /-- Four triggers (Table 4-14); reset 0. -/
  trig : List Trigger
  /-- tselect of the debug specification: the trigger whose data registers are shown; reset 0. -/
  tselect : Nat
  /-- The instruction cache (Table 4-1, 16 KiB): the octets it holds, oldest first; reset invalidated (R112). -/
  icache : List Host.Cell
  /-- The data cache (Table 4-1, 16 KiB, write-through): the addresses whose octets it holds, oldest first; reset invalidated (R112). -/
  dcache : List Nat
deriving DecidableEq, Repr

/-- A core after reset (R112). -/
def CoreSt.init : CoreSt where
  x := List.replicate 31 0#32
  pc := 0#32
  mie := false
  mpie := false
  mppM := false
  tw := false
  mprv := false
  user := false
  meie := false
  mtvec := 0x40#32
  mscratch := 0#32
  mepc := 0#32
  mcause := 0#32
  mtval := 0#32
  mcounteren := 0#32
  cycle := 0#64
  instret := 0#64
  timeh := 0#32
  irqE := 0#11
  irqP := 0#11
  sig := 0#64
  slice := 0#32
  posts := []
  waiting := .none
  halted := false
  freed := false
  stepping := false
  dcause := 0
  ebreakm := false
  ebreaku := false
  dpc := 0#32
  trig := List.replicate 4 ⟨0#32, 0#32⟩
  tselect := 0
  icache := []
  dcache := []

/-- SYSCTL_CELL_STATE codes (Table 1-14): 0 unusable (in reset), 1 bonded running, 2 split running, 3 halted after fault. -/
inductive CellMode where | unusable | bonded | split | halted
deriving DecidableEq, Repr

/-- Code of Table 1-14. -/
def CellMode.code : CellMode → Nat
  | .unusable => 0 | .bonded => 1 | .split => 2 | .halted => 3

/-- SYSCTL_CMP_CAP[n] and SYSCTL_CMP_PC[n] (Table 4-18): kind (false comparator, true signature), groups, pc. -/
structure CmpCap where
  sig : Bool
  groups : BitVec 13
  pc : Word
deriving DecidableEq, Repr

/-- What a core sends in one cycle, as the comparator sees it (Table 4-12): fetch address, data address or first Xtok operand, write data
or second Xtok operand, and the control bits of G12. -/
structure CoreOut where
  fetch : Word
  addr : Word
  data : Word
  ctl : Byte
deriving DecidableEq, Repr

/-- What a core receives in one cycle (R126): fetch data, load data, an error response, the tkirq pending bits, the signature sample request,
and that the cycle belongs to a debug action. -/
structure CoreIn where
  fetch : Word
  load : Word
  err : Bool
  irq : BitVec 11
  sample : Bool
  debug : Bool
deriving DecidableEq, Repr

/-- The delay registers of a bonded cell (R126), two stages each: what the main core received and what it sent, the latest first. -/
structure DelayReg where
  in1 : CoreIn
  in2 : CoreIn
  out1 : CoreOut
  out2 : CoreOut
deriving DecidableEq, Repr

/-- Nothing received. -/
def CoreIn.none : CoreIn := ⟨0#32, 0#32, false, 0#11, false, false⟩

/-- Nothing sent. -/
def CoreOut.idle : CoreOut := ⟨0#32, 0#32, 0#32, 0#8⟩

/-- Empty delay registers. -/
def DelayReg.init : DelayReg := ⟨.none, .none, .idle, .idle⟩

/-- A cell: two cores (R17, R19, R20). -/
structure CellSt where
  /-- SYSCTL_CELL_STATE field (R137, Table 1-14); reset 0. -/
  mode : CellMode
  /-- The main core, or core 0 of a split cell. -/
  core0 : CoreSt
  /-- The checker core, or core 1 of a split cell. -/
  core1 : CoreSt
  /-- SYSCTL_CMP_CAP[n], SYSCTL_CMP_PC[n] (R127, R137); reset no capture. -/
  cap : Option CmpCap
  /-- tkcell.RUNNING (Table 4-4); reset 0. -/
  running : Bool
  /-- The delay registers (R126); reset DESIGN CHOICE 0. -/
  delay : DelayReg
  /-- A signature request of the slice engine that the cell has not yet answered (R129); reset none. -/
  sigReq : Bool
  /-- The snapshot buffers of the main core and of the checker: the 41 sample words taken at the request (R129); reset empty. -/
  snap0 : List Word
  snap1 : List Word
deriving DecidableEq, Repr

/-- A cell in reset. -/
def CellSt.init : CellSt := ⟨.unusable, .init, .init, none, false, .init, false, [], []⟩

/-- An action log entry (Table 4-15). -/
structure LogEntry where
  seq : Nat
  hart : Nat
  kind : Nat
  tick : Nat
  whereW : Word
  data : Word
deriving DecidableEq, Repr

/-- DEBUG (R131 to R137). -/
structure DebugBlk where
  /-- dmcontrol.dmactive (R132); reset 0. -/
  active : Bool
  /-- dmcontrol.hartsel; reset 0. -/
  hartsel : Nat
  /-- abstractcs.cmderr (R131, R134, R135); reset 0. -/
  cmderr : Nat
  /-- abstract data0; reset 0. -/
  data0 : Word
  /-- The program buffer, 8 words, as the debugger wrote it last (Table 4-14); reset DESIGN CHOICE 0. -/
  progbuf : List Word
  /-- sbdata0 (Table 4-14); reset 0. -/
  sbdata : Word
  /-- sberror of the latest system bus access; reset 0. -/
  sberror : Nat
  /-- dmi op answer of the latest access: 0 success, 2 failed (R132); reset 0. -/
  dmiOp : Nat
  /-- The action log, oldest first, at most 256 (R134); reset empty. -/
  log : List LogEntry
  /-- Sequence number of the next entry, modulo 128; reset 0. -/
  seq : Nat
  /-- DEBUG_LOG_1 and DEBUG_LOG_2 (R137); reset 0. -/
  log1 : Word
  log2 : Word
  /-- DEBUG_FLAG with counters (Table 4-20); reset 0. -/
  flag : FlagReg
  /-- Actions logged since power-on (Table 4-21, 0x2022.01-03); reset 0. -/
  logged : Word
  /-- TAP: IDCODE is the selected data register rather than BYPASS (R489); reset IDCODE. -/
  tapId : Bool
  /-- TAP bypass bit; reset 0. -/
  tapBit : Bool
deriving DecidableEq, Repr

/-- DEBUG after reset (Tables 4-19, 4-20). -/
def DebugBlk.init : DebugBlk where
  active := false
  hartsel := 0
  cmderr := 0
  data0 := 0#32
  progbuf := List.replicate 8 0#32
  sbdata := 0#32
  sberror := 0
  dmiOp := 0
  log := []
  seq := 0
  log1 := 0#32
  log2 := 0#32
  flag := .zero
  logged := 0#32
  tapId := true
  tapBit := false

end Sys2Proof.Machine
end

