-- ==== Sys2Proof/Machine/BlkCore.lean ====
section
/-! DEFINITION. State of SYSCTL, PWR, CLOCK, TIMEBASE and ASSAY of one channel, with reset values. -/

namespace Sys2Proof.Machine
open Sys2Proof

/-- SYSCTL: mode controller, partition violations, reeve supervision (R23, R26 to R31, R45 to R56, R73). -/
structure Sysctl where
  /-- SYSCTL_ID.ISSUE (R45, 8 bits): hardware issue letter; reset DESIGN CHOICE 0x41 (A). -/
  issue : Byte
  /-- SYSCTL_CELL_CFG.MIN_BONDED (R17, 4 bits); reset 5. -/
  minBonded : Nat
  /-- SYSCTL_CELL_CFG.SPLIT (R17, 8 bits); reset 0. -/
  split : BitVec 8
  /-- SYSCTL_FAB_OUTST.INT (R24); reset 0. -/
  outInt : Nat
  /-- SYSCTL_FAB_OUTST.ENG (R24); reset 0. -/
  outEng : Nat
  /-- SYSCTL_FAB_OUTST.REV (R24); reset 0. -/
  outRev : Nat
  /-- SYSCTL_FAB_OUTST.CAP (R24); reset 0. -/
  outCap : Nat
  /-- SYSCTL_PART_VIOL with its counters (R29, 7 flags); reset 0. -/
  viol : FlagReg
  /-- SYSCTL_CMP_FLAG with its counters SYSCTL_CMP_CNT (R127, R129: CMP of cells 0 to 7, SIG of cells 0 to 7); reset 0. -/
  cmp : FlagReg
  /-- SYSCTL_PART_VADDR (R30, 32 bits); reset 0. -/
  vaddr : Word
  /-- SYSCTL_PART_VSRC (R30, 16 bits); reset 0. -/
  vsrc : Word
  /-- SYSCTL_MEM_SPLIT.SRAM_SPLIT (R27); reset 64. -/
  sramSplit : Nat
  /-- SYSCTL_MEM_SPLIT.DRAM_SPLIT (R27); reset 64. -/
  dramSplit : Nat
  /-- SYSCTL_UNMAP_CNT (R40, 32 bits); reset 0. -/
  unmap : Word
  /-- SYSCTL_REEVE_STAT.STATE: 0 running, 1 restarting, 2 lost (R23); reset 1. -/
  reeveState : Nat
  /-- SYSCTL_REEVE_STAT.RESTARTS (R23, 16 bits, saturating); reset 0. -/
  reeveRestarts : Nat
  /-- Operating seconds of the reeve restarts of the last 3,600 s (R23); reset empty. -/
  reeveHist : List Nat
  /-- Time base at the last kick or release of the reeve watchdog (R23); reset 0. -/
  kickTime : Nat
  /-- Requests that reached the reeve and are unanswered: transport, tag, service, entries, passed to the sequencing reeve (R23); reset empty. -/
  unanswered : List (Transport × Byte × Nat × Nat × Bool)
  /-- SYSCTL_MODE.CSTATE (R47); reset HELD. -/
  cstate : CState
  /-- SYSCTL_MODE.MODE as this channel holds it (R48); reset M1. -/
  mode : Mode
  /-- SYSCTL_MODE.CAUSE (R53); reset 0. -/
  cause : Nat
  /-- Power-fail flush sub-state (R57); reset no. -/
  flushing : Bool
  /-- Went to HELD through a flush and waits for a start (R57); reset no. -/
  flushed : Bool
  /-- A shutdown of R479 or R481 is running; reset no. -/
  shutting : Bool
  /-- LEAVING of the boundary messages (Table 6-1); reset no. -/
  leaving : Bool
  /-- Held by HRST_n (R467); reset no. -/
  hrst : Bool
  /-- HRST_n was asserted since the last start (R467); reset no. -/
  hrstSeen : Bool
  /-- Released by the HELD sequencer in this start (R59, R60); reset no. -/
  released : Bool
  /-- This channel left VOTING and may not retry its start (R49, R86); reset no. -/
  barred : Bool
  /-- SYSCTL_MODE_FLAG with counters (R73: 0 CONFLICT, 1 CHANGE, 2 LATE); reset 0. -/
  modeFlag : FlagReg
  /-- Commands received or distributed and not yet in effect (R55, R201, R344, R361); reset empty. -/
  cmds : List PendCmd
  /-- Fault triggers of the present tick (R52); reset empty. -/
  triggers : List Proposal
  /-- The proposal in this channel's last boundary message; reset none. -/
  myProp : Option Proposal
  /-- The start decision, until the first boundary at which it takes effect (R71, R105); reset none. -/
  decided : Option Proposal
  /-- Entered M10 at this operating second (R56); reset none. -/
  m10At : Option Nat
  /-- Bus error interrupt of the reeve (R29); reset no. -/
  reeveBusErr : Bool
  /-- Refused engine accesses, counted in the engine's own block (R29): engines 0x20 to 0x27; reset 0. -/
  engErr : List Word
deriving DecidableEq, Repr

/-- SYSCTL after reset (Tables 1-12 to 1-19, 2-10 to 2-13). -/
def Sysctl.init : Sysctl where
  issue := 0x41#8
  minBonded := 5
  split := 0#8
  outInt := 0
  outEng := 0
  outRev := 0
  outCap := 0
  viol := .zero
  cmp := .zero
  vaddr := 0#32
  vsrc := 0#32
  sramSplit := 64
  dramSplit := 64
  unmap := 0#32
  reeveState := 1
  reeveRestarts := 0
  reeveHist := []
  kickTime := 0
  unanswered := []
  cstate := .held
  mode := .m1
  cause := 0
  flushing := false
  flushed := false
  shutting := false
  leaving := false
  hrst := false
  hrstSeen := false
  released := false
  barred := false
  modeFlag := .zero
  cmds := []
  triggers := []
  myProp := none
  decided := none
  m10At := none
  reeveBusErr := false
  engErr := List.replicate 8 0#32

/-- PWR (R475 to R481, R497). -/
structure PwrBlk where
  /-- PWR_STAT.FEED1_OK (R497); reset 0. -/
  ok1 : Bool
  /-- PWR_STAT.FEED2_OK (R497); reset 0. -/
  ok2 : Bool
  /-- PWR_STAT.HOT (R481); reset 0. -/
  hot : Bool
  /-- PWR_STAT.DOM[4:0] (R478): KEEP, CORE, FABRIC, PORT, FIELD; reset 0x01. -/
  dom : BitVec 5
  /-- PWR_FLAG with counters (R497); reset 0. -/
  flag : FlagReg
  /-- PWR_FEED1, mV (16 bits); reset 0. -/
  mv1 : BitVec 16
  /-- PWR_FEED2, mV (16 bits); reset 0. -/
  mv2 : BitVec 16
  /-- PWR_TEMP die temperature, 0.1 °C (I16); reset 0. -/
  die : BitVec 16
  /-- PWR_TEMP board temperature, 0.1 °C (I16); reset 0. -/
  board : BitVec 16
  /-- PWR_TEMP_MAX (I16); reset 0. -/
  dieMax : BitVec 16
  /-- PWR_POWER, 0.1 W (16 bits); reset 0. -/
  power : BitVec 16
deriving DecidableEq, Repr

/-- PWR after reset (Tables 19-19 to 19-21). -/
def PwrBlk.init : PwrBlk :=
  ⟨false, false, false, 1#5, .zero, 0#16, 0#16, 0#16, 0#16, 0#16, 0#16⟩

/-- CLOCK (R76 to R92, R107). -/
structure ClockBlk where
  /-- The CDR is enabled (R90); reset no. -/
  cdrEn : Bool
  /-- CLOCK_STAT.LANE_LOCK; reset 0. -/
  laneLock : Bool
  /-- The root PLL is enabled (R80); reset no. -/
  pllEn : Bool
  /-- CLOCK_STAT.PLL_LOCK; reset 0. -/
  pllLock : Bool
  /-- CLOCK_STAT.DIV_RUN; reset 0. -/
  divRun : Bool
  /-- CLOCK_STAT.QUAL; reset 0. -/
  qual : Bool
  /-- CLOCK_STAT.HOLDOVER (R79); reset 0. -/
  holdover : Bool
  /-- CLOCK_STAT.KEEP_SRC: keep clock from the watch oscillator (R85); reset 0. -/
  keepSrc : Bool
  /-- The watch oscillator runs (R81); reset yes, as KEEP is in regulation. -/
  watchRun : Bool
  /-- A switch of multiplexer n is requested and not complete (R88); reset none. -/
  muxReq : BitVec 8
  /-- CLOCK_MUX_STAT.SEL[7:0]; reset 0. -/
  muxSel : BitVec 8
  /-- CLOCK_MUX_STAT.FORCED[7:0] as flags with counters; reset 0. -/
  forced : FlagReg
  /-- CLOCK_MON_FLAG with counters (11 flags); reset 0. -/
  mon : FlagReg
  /-- CLOCK_WATCH.QATT (8 bits, saturating); reset 0. -/
  qatt : Nat
  /-- CLOCK_WATCH.CAL, Hz (24 bits); reset 0. -/
  cal : Nat
  /-- Monitors whose count was out of tolerance in the previous window (R83); reset none. -/
  prevOut : List Nat
  /-- CLOCK_TRIP.COUNT (KEEP retention, R87); reset 0. -/
  tripCount : Nat
  /-- CLOCK_TRIP.SRC (KEEP retention); reset 0xFF. -/
  tripSrc : Nat
  /-- CLOCK_TRIP.KIND (KEEP retention); reset 0. -/
  tripKind : Nat
  /-- A fallback is not yet recorded in the chronicle (R87, KEEP retention); reset no. -/
  tripNew : Bool
  /-- A fallback is running (R85); reset no. -/
  falling : Bool
  /-- A retry of the clock start is due 1 ms later (R84, R86); reset no. -/
  retryDue : Bool
  /-- CLOCK_CLKOUT.EN; reset 0. -/
  outEn : Bool
  /-- CLOCK_CLKOUT.SRC; reset 0. -/
  outSrc : Nat
  /-- CLOCK_CLKOUT.DIV; reset 0. -/
  outDiv : Nat
  /-- Events of sources 9 and 10 counted when CLOCK_CLKOUT was last set, from which the output's level follows (R92); reset 0. -/
  outBase : Nat
  /-- Domains whose state was lost at a forced multiplexer switch (R88); reset none. -/
  lostDom : BitVec 8
deriving DecidableEq, Repr

/-- CLOCK after reset (Tables 3-10 to 3-15). -/
def ClockBlk.init : ClockBlk where
  cdrEn := false
  laneLock := false
  pllEn := false
  pllLock := false
  divRun := false
  qual := false
  holdover := false
  keepSrc := false
  watchRun := true
  muxReq := 0#8
  muxSel := 0#8
  forced := .zero
  mon := .zero
  qatt := 0
  cal := 0
  prevOut := []
  tripCount := 0
  tripSrc := 255
  tripKind := 0
  tripNew := false
  falling := false
  retryDue := false
  outEn := false
  outSrc := 0
  outDiv := 0
  outBase := 0
  lostDom := 0#8

/-- The discipline states of Table 3-7. -/
inductive DState where | free | settling | locked | holdover
deriving DecidableEq, Repr

/-- DSTATE code. -/
def DState.code : DState → Nat
  | .free => 0 | .settling => 1 | .locked => 2 | .holdover => 3

/-- TIMEBASE (R93 to R105, R107, R163 to R167). -/
structure TimeBlk where
  /-- The 96-bit accumulator (R93); reset 0. -/
  acc : BitVec 96
  /-- The alignment counter (R77): time-base clocks since the dividers were released; reset 0. -/
  align : Nat
  /-- Number of the last alignment instant taken (R77); reset 0. -/
  alignSeen : Nat
  /-- Shadow of the upper 32 bits per initiator and register pair (R94); reset empty. -/
  shadows : List (Initiator × ShadowReg × Word)
  /-- Last applied offset o, ns (TIMEBASE_OFFSET); reset 0. -/
  offset : Int
  /-- Servo integrator f, ppb (R100); reset 0. -/
  f : Int
  /-- rate, ppb (R100); reset 0. -/
  rate : Int
  /-- trim, ppb (R95); reset 0. -/
  trim : Int
  /-- TIMEBASE_SKEW[0], [1], ns (R95); reset 0. -/
  skew0 : Int
  skew1 : Int
  /-- Peer marks received since the last boundary: link 0, link 1 (R95); reset none. -/
  mark0 : Option Int
  mark1 : Option Int
  /-- Skews of the peers' marks that came after J_c of the tick in progress (R95, R96); reset none. -/
  late0 : Option Int
  late1 : Option Int
  /-- Skews of the marks that came before the own boundary they belong to: link 0, link 1 (R95); reset none. -/
  early0 : Option Int
  early1 : Option Int
  /-- Consecutive boundaries with the peer's skew beyond 4 µs (R96); reset 0. -/
  skewRun0 : Nat
  skewRun1 : Nat
  /-- Discipline state (Table 3-7); reset FREE. -/
  dstate : DState
  /-- TIMEBASE_STAT.VALID; reset 0. -/
  valid : Bool
  /-- TIMEBASE_STAT.TICK_RUN (R105); reset 0. -/
  tickRun : Bool
  /-- TIMEBASE_STAT.ALIGNED (R95); reset 0. -/
  aligned : Bool
  /-- TIMEBASE_FLAG with counters; reset 0. -/
  flag : FlagReg
  /-- TIMEBASE_TICK_CFG.PERIOD code; reset 1 (250 µs). -/
  period : Nat
  /-- TIMEBASE_TICK_OFS, ns; reset 0. -/
  tickOfs : Nat
  /-- Tick number k of the latest boundary (R102); reset 0. -/
  k : Nat
  /-- Boundary count c of the latest boundary (R141); reset 0. -/
  c : Nat
  /-- A boundary has been acted on since the start decision; reset no. -/
  started : Bool
  /-- Stamp B_k of the latest boundary, ns; reset 0. -/
  bk : Nat
  /-- Applied step s, ns (R99); reset 0. -/
  step : Int
  /-- TIMEBASE_DISC_CFG.SRC; reset 0. -/
  src : Nat
  /-- TIMEBASE_DISC_CFG.JUMP_THR, µs; reset 1000. -/
  jump : Nat
  /-- Source in use: 0 none, 1 ECN A, 2 ECN B, 3 ring 1, 4 ring 2 (R502); reset 0. -/
  used : Nat
  /-- Boundary count from which the source in use is judged (R502); reset 0. -/
  usedAt : Nat
  /-- Boundary counts of the last valid sample of sources 1 to 4 (R502); reset none. -/
  lastValid : List (Option Nat)
  /-- Samples held, by capture boundary (R98); reset empty. -/
  held : List DSample
  /-- SAMPLES of the own message of the latest boundary, and the numbered samples it speaks of (R98); reset 0, empty. -/
  smpOwn : W64
  smpList : List DSample
  /-- Stamp of the boundary at which a sample was last applied (R99); reset none. -/
  lastApplied : Option Nat
  /-- The hardware timer table (R163, at most 4,096); reset empty. -/
  timers : List Timer
  /-- TIMEBASE_TMR_QID; reset 0. -/
  qid : Word
  /-- TIMEBASE_TMR_FLAG with counter (R166); reset 0. -/
  tmrFlag : FlagReg
deriving DecidableEq, Repr

/-- TIMEBASE after reset (Tables 3-16, 3-17, 5-15). -/
def TimeBlk.init : TimeBlk where
  acc := 0#96
  align := 0
  alignSeen := 0
  shadows := []
  offset := 0
  f := 0
  rate := 0
  trim := 0
  skew0 := 0
  skew1 := 0
  mark0 := none
  mark1 := none
  late0 := none
  late1 := none
  early0 := none
  early1 := none
  skewRun0 := 0
  skewRun1 := 0
  dstate := .free
  valid := false
  tickRun := false
  aligned := false
  flag := .zero
  period := 1
  tickOfs := 0
  k := 0
  c := 0
  started := false
  bk := 0
  step := 0
  src := 0
  jump := 1000
  used := 0
  usedAt := 0
  lastValid := [none, none, none, none]
  held := []
  smpOwn := 0#64
  smpList := []
  lastApplied := none
  timers := []
  qid := 0#32
  tmrFlag := .zero

/-- ASSAY (R62 to R70, R73). -/
structure AssayBlk where
  /-- ASSAY_STAT.STEP, 0 none, 1 to 7; reset 0. -/
  step : Nat
  /-- ASSAY_STAT.RESULT: 0 pass, 1 fail, 2 not judgeable, 3 running; reset 0. -/
  result : Nat
  /-- ASSAY_STAT.NJ_CNT (8 bits); reset 0. -/
  njCnt : Nat
  /-- Not-judged attempts of the present step (R63); reset 0. -/
  attempts : Nat
  /-- The present step is abandoned and waits for its retry (R63); reset no. -/
  waiting : Bool
  /-- A step has failed in this start; reset no. -/
  failed : Bool
  /-- All seven steps passed; reset no. -/
  done : Bool
  /-- S6 finished, S7 awaited (R62); reset no. -/
  s6done : Bool
  /-- Not finished with S6 when S7 started (R62); reset no. -/
  missedS7 : Bool
  /-- ASSAY_STAT.ELIGIBLE; reset 0. -/
  eligible : Bool
  /-- A transistor stays conducting (R68); reset no. -/
  stuckOn : Bool
  /-- ASSAY_CELL, four bits per cell; reset 0xFFFF_FFFF. -/
  cell : Word
  /-- ASSAY_RETIRE.MASK (8 bits), loaded from MRAM; reset 0 (delivered state). -/
  retireShown : BitVec 8
  /-- ASSAY_MEM[0..2]: fail, most spares used in any array, arrays repaired; reset 0. -/
  mem : List (Bool × Nat × Nat)
  /-- ASSAY_FLAG with counters; reset 0. -/
  flag : FlagReg
  /-- The firmware verified at this start (R407): its SHA, none when it failed; reset none. -/
  fwSha : Option (List Byte)
  /-- The stored program verified at this start; reset none. -/
  pgSha : Option (List Byte)
  /-- Start image verification done in this start; reset no. -/
  verified : Bool
  /-- Geographic address read at HELD release (R468, 6 bits); reset 0x3F. -/
  ga : Nat
deriving DecidableEq, Repr

/-- ASSAY after reset (Tables 2-14 to 2-17). -/
def AssayBlk.init : AssayBlk where
  step := 0
  result := 0
  njCnt := 0
  attempts := 0
  waiting := false
  failed := false
  done := false
  s6done := false
  missedS7 := false
  eligible := false
  stuckOn := false
  cell := 0xFFFFFFFF#32
  retireShown := 0#8
  mem := [(false, 0, 0), (false, 0, 0), (false, 0, 0)]
  flag := .zero
  fwSha := none
  pgSha := none
  verified := false
  ga := 63

/-- What a channel keeps in MRAM besides the chronicle and the slot directory (R56, R67, R71, R185, R189, R425). -/
structure Mram where
  /-- Operating seconds (R425, saturating at 0xFFFF_FFFF); reset DESIGN CHOICE 0. -/
  opsec : Nat
  /-- Power-cycle count (R425); reset DESIGN CHOICE 0. -/
  pcyc : Nat
  /-- Operating seconds of the automatic restarts (R56); reset empty. -/
  restarts : List Nat
  /-- Retire mask (R67, 8 bits); reset 0. -/
  retire : BitVec 8
  /-- The masks of all three channels as commands of object 0x2011 last wrote them, held in every channel (R388); reset DESIGN CHOICE 0. -/
  masks : Tri (BitVec 8)
  /-- Cell halts: cell and operating second (R67); reset empty. -/
  halts : List (Nat × Nat)
  /-- Cells that failed the previous assay (R67, 8 bits); reset 0. -/
  afail : BitVec 8
  /-- Recovery request (R55, R71); reset no. -/
  recovery : Bool
  /-- Operating second of the last start whose assay passed in all channels (R189); reset 0. -/
  proofAt : Nat
  /-- Operating seconds of the resynchronisations decided for this channel (R185); reset empty. -/
  resyncs : List Nat
deriving DecidableEq, Repr

/-- MRAM in the delivered state (R13). -/
def Mram.init : Mram := ⟨0, 0, [], 0#8, ⟨0#8, 0#8, 0#8⟩, [], 0#8, false, 0, []⟩

end Sys2Proof.Machine
end

