-- ==== Sys2Proof/Machine/BlkSlice.lean ====
section
/-! DEFINITION. State of the slice engine: program tables, task instances, queues, areas, input pools (ch. 05, R402). -/

namespace Sys2Proof.Machine
open Sys2Proof

/-- One stage of a task (Table 5-1). -/
structure StageDecl where
  slices : Nat
  outW : Nat
  rsW : Nat
deriving DecidableEq, Repr

/-- A source entry (Table 15-5), with its default values. -/
structure SourceDecl where
  /-- 0 Millrace window, 1 ECN telegram, 2 MVB port, 3 field inputs, 4 sigma-delta channel, 5 task output. -/
  kind : Nat
  /-- Substitution mode (Table 5-4). -/
  subst : Nat
  hold : Nat
  ref : Nat
  first : Nat
  len : Nat
  defs : List Word
deriving DecidableEq, Repr

/-- A task descriptor (Table 15-5), with default outputs and initial retained values (R142). -/
structure TaskDecl where
  num : Nat
  cap : Bool
  prio : Nat
  period : Nat
  phase : Nat
  inLen : Nat
  ident : Word
  entry : Word
  stages : List StageDecl
  srcs : List SourceDecl
  defOut : List Word
  initRs : List Word
deriving DecidableEq, Repr

/-- A carry-over declaration (Table 15-5). -/
structure CarryDecl where
  ident : Word
  /-- 0 variable, 1 timer, 2 field source. -/
  kind : Nat
  typ : Nat
  count : Nat
  task : Nat
  /-- 1 output, 2 retained. -/
  area : Nat
  word : Nat
deriving DecidableEq, Repr

/-- An object declaration (Table 15-5). -/
structure ObjDecl where
  index : Nat
  sub : Nat
  typ : Nat
  count : Nat
  cls : Nat
  safety : Bool
  rmask : Nat
  wmask : Nat
  ident : Word
  task : Nat
  /-- 1 output, 2 retained, 3 input. -/
  area : Nat
  word : Nat
deriving DecidableEq, Repr

/-- A program image as loaded into a bank (R402): code and decoded sections. -/
structure Program where
  /-- SHA-256 of the image (hallmark, R390). -/
  sha : List Byte
  imgid : Word
  code : List Byte
  /-- What a program bank holds of the image: code at its base, then constants, task descriptors and carry-over declarations (R197). -/
  image : List Byte
  /-- A translated Yarlos program (R443). -/
  legacy : Bool
  tasks : List TaskDecl
  carries : List CarryDecl
  objs : List ObjDecl
  /-- Millrace subscriptions: ring 0 or 1, window number (R228). -/
  subs : List (Nat × Nat)
  /-- Capacity request queue: address and length (Table 15-4). -/
  capq : Option (Nat × Nat)
deriving DecidableEq, Repr

/-- What the engine remembers of one source between releases (R143, R146, R147). -/
structure SrcRt where
  /-- AGE, saturating at 15. -/
  age : Nat
  /-- Releases since last fresh, not saturated, for the hold limit (R147). -/
  ageFull : Nat
  noval : Bool
  lastStamp : Option Nat
  /-- The newest item that this source's images lack and LATE_IN was set for (R144); the model's own. -/
  missAt : Option Nat
  /-- SDTv2 sequence count of the item used last (R259); none before the first or when re-established. -/
  lastSsc : Option Word
  /-- Consecutive releases without a copy taken (R259). -/
  noCopy : Nat
  /-- SDTv2 copies that this source no longer takes, refused or passed over (R259): plane, SSC, stamp. -/
  spent : List (Nat × Word × Nat)
  /-- Commit count of the source task at the last release (Table 5-2). -/
  lastCommits : Nat
deriving DecidableEq, Repr

/-- An edge detector (R169): input, held agreed rise and fall counts; not seeded before the first release with agreed counts. -/
structure EdgeDet where
  input : Nat
  rise : Word
  fall : Word
  seeded : Bool
deriving DecidableEq, Repr

/-- A posted timer operation with its slice (R163). -/
structure Post where
  stage : Nat
  slice : Nat
  op : TimerOp
deriving DecidableEq, Repr

/-- An instance in progress (R141, R152 to R162). -/
structure Inst where
  relC : Nat
  relK : Nat
  stamp : Nat
  due : Nat
  stage : Nat
  /-- Slices of the stage not yet complete. -/
  left : Nat
  /-- The freeze is complete and stage 0 was distributed (R149). -/
  avail : Bool
  complete : Bool
  /-- Completed after the cutoff of R157: its notice waits for the boundary message. -/
  late : Bool
  abandoned : Bool
  /-- Voting channels whose notice arrived, itself included when complete in time (R158). -/
  notices : List Ch
  /-- Attempts: stage, slice, count (R156). -/
  attempts : List (Nat × Nat × Nat)
  /-- Cells a slice faulted on: stage, slice, cell (R153). -/
  faultedOn : List (Nat × Nat × Nat)
  posts : List Post
  /-- The timer table as it stood at release (R122, R164). -/
  timers : List Timer
  /-- Time base at completion, for SLICE_TASK_TIME. -/
  doneAt : Nat
deriving DecidableEq, Repr

/-- One task as it runs: its areas (R140) and what the engine keeps of it. -/
structure TaskRt where
  decl : TaskDecl
  /-- Frozen input image and qualifier bytes (R140, R146). -/
  inImg : List Word
  qual : List Byte
  outPub : List Word
  outWork : List Word
  rsPub : List Word
  rsWork : List Word
  stageOut : List Word
  inst : Option Inst
  /-- Consecutive overruns (R160). -/
  ovrRun : Nat
  /-- Overruns since the start decision (0x2034). -/
  ovrTotal : Word
  /-- Releases since the start decision (tk.rdrel 6). -/
  releases : Nat
  /-- SLICE_TASK_TIME (ns, saturating). -/
  lastTime : Word
  srcs : List SrcRt
  edges : List EdgeDet
  /-- Commits since the start decision (Table 5-2, task output source). -/
  commits : Nat
  /-- Unsynchronised after lagging or rejoining (R178 to R184). -/
  unsync : Bool
deriving DecidableEq, Repr

/-- A range in a queue (R152): one run of untaken slices of one stage of a task, with its key. -/
structure QRange where
  task : Nat
  stage : Nat
  lo : Nat
  n : Nat
  due : Nat
  prio : Nat
deriving DecidableEq, Repr

/-- SLICE_FAULT_INFO and SLICE_FAULT_H (Table 5-13). -/
structure FaultInfo where
  handle : Word
  cell : Nat
  attempt : Nat
  cause : Nat
deriving DecidableEq, Repr

/-- The slice engine (R139 to R173). -/
structure SliceBlk where
  /-- SLICE_CFG.CUTOFF, µs; reset 10. -/
  cutoff : Nat
  /-- SLICE_CFG.OVR_LIMIT; reset 3. -/
  ovrLimit : Nat
  /-- SLICE_FLAG with counters (Table 5-12); reset 0. -/
  flag : FlagReg
  /-- SLICE_FAULT_H, SLICE_FAULT_INFO; reset 0. -/
  fault : FaultInfo
  /-- SLICE_CAP_HOLD (64 bits); reset 0. -/
  capHold : W64
  /-- SLICE_GLEAN_CNT[0..7]; reset 0. -/
  glean : List Word
  /-- SLICE_AVAIL_CNT[0..7]; reset 0. -/
  availCnt : List Word
  /-- Queues of the bonded cells 0 to 7; reset empty. -/
  q : List (List QRange)
  /-- Capacity queues of cores 0 to 15; reset empty. -/
  cq : List (List QRange)
  /-- The configured tasks in ascending number; reset none. -/
  tasks : List TaskRt
  /-- Received network items held for freezing, newest first (R143); reset empty. -/
  items : List Item
  /-- Forwarded network items that failed their check on the way into this channel, until a freeze has passed them (R144); reset empty. -/
  missed : List Item
  /-- Own sample sets, newest first (R145); reset empty. -/
  sets : List SampleSet
  /-- The previous and the next channel's sample sets, newest first (R145); reset empty. -/
  setsNext : List SampleSet
  setsPrev : List SampleSet
  /-- Field input counts of this channel: rising and falling edges (R168, 32 × 32 bits each); reset 0. -/
  rise : List Word
  fall : List Word
  /-- An agreed sample set of the latest release that formed one (R145, 0x2E20); reset none. -/
  agreed : Option SampleSet
  /-- The loaded program in use; reset none. -/
  prog : Option Program
  /-- Instances abandoned since the switch (R161, R210): task, release boundary, boundary count at the abandonment; reset empty. -/
  abandons : List (Nat × Nat × Nat)
deriving DecidableEq, Repr

/-- The slice engine after reset (Tables 5-9 to 5-14). -/
def SliceBlk.init : SliceBlk where
  cutoff := 10
  ovrLimit := 3
  flag := .zero
  fault := ⟨0#32, 0, 0, 0⟩
  capHold := 0#64
  glean := List.replicate 8 0#32
  availCnt := List.replicate 8 0#32
  q := List.replicate 8 []
  cq := List.replicate 16 []
  tasks := []
  items := []
  missed := []
  sets := []
  setsNext := []
  setsPrev := []
  rise := List.replicate 32 0#32
  fall := List.replicate 32 0#32
  agreed := none
  prog := none
  abandons := []

end Sys2Proof.Machine
end

