-- ==== Sys2Proof/Machine/BlkDict.lean ====
section
/-! DEFINITION. State of the dictionary service and journal, of update and security, of the chronicle, of compatibility mode and of the host port of one channel (ch. 14 to 18). -/

namespace Sys2Proof.Machine
open Sys2Proof

/-- A journal record (Table 14-10); `ok` is false for one that fails RCRC (R386). -/
structure JRec where
  /-- 1 PREPARE, 2 COMMIT, 3 ABORT, 4 SNAPSHOT. -/
  kind : Nat
  txn : Nat
  entries : List JEntry
  /-- Erase block the record lies in. -/
  block : Nat
  ok : Bool
  /-- The directory changes that go with the transaction; no octets of the record. -/
  acts : List (Nat × Nat)
deriving DecidableEq, Repr

/-- A write that waits to be sequenced (R384). -/
structure WaitTxn where
  entries : List JEntry
  /-- Directory, key, retire and confirmation actions it carries (R388, R398, R410 to R412): kind and operand. -/
  acts : List (Nat × Nat)
  origin : Ch
  via : Option Transport
  tag : Byte
  /-- Number of entries of the request that is answered. -/
  n : Nat
deriving DecidableEq, Repr

/-- A PREPARE as a participant holds it (R384): the transaction's number, the channel whose reeve sequences it, and what it carries. -/
structure Prep where
  num : Nat
  seq : Ch
  txn : WaitTxn
deriving DecidableEq, Repr

/-- A request of several entries whose answer waits for some of them (R5, R282, R375, R379). -/
structure Call where
  id : Nat
  via : Transport
  tag : Byte
  svc : Nat
  n : Nat
  /-- Entries that are not settled yet. -/
  open_ : List Nat
  /-- Settled entries with their answers. -/
  got : List (Nat × REntry)
  /-- State writes that begin when every command of the request is accepted. -/
  writes : List (Nat × StateWrite)
  /-- The transaction that begins when the state writes are applied, under the position of its entry. -/
  txn : Option (Nat × WaitTxn)
deriving DecidableEq, Repr

/-- A transaction as the sequencing reeve runs it (R384). -/
structure Txn where
  num : Nat
  entries : List JEntry
  /-- The actions it carries. -/
  acts : List (Nat × Nat)
  origin : Ch
  via : Option Transport
  tag : Byte
  /-- Number of entries of the request that is answered. -/
  n : Nat
  /-- Participants that reported PREPARE durable, and the hallmarks reported. -/
  prepared : List (Ch × Word)
  /-- A refusal reported. -/
  refusal : Option Word
  /-- The sequencing reeve has programmed COMMIT. -/
  committed : Bool
  /-- Participants whose COMMIT is durable. -/
  durable : List Ch
  participants : List Ch
  /-- 100 ms have passed since the sequencing reeve's COMMIT (R384 step 5). -/
  late : Bool
  /-- Participants that the entries reached over class 4 (R384 step 1). -/
  got : List Ch
  /-- Time base of the sequencing reeve at the distribution, then at its COMMIT (R384 steps 4 and 5). -/
  since : Nat
deriving DecidableEq, Repr

/-- A record being programmed by a channel's journal, with a flag: first write or the one repeat (R387). -/
structure JJob where
  entry : JRec
  repeated : Bool
deriving DecidableEq, Repr

/-- The dictionary service and NVM of one channel (R368 to R396). -/
structure DictBlk where
  /-- NVM_STAT.READY; reset 0. -/
  ready : Bool
  /-- NVM_STAT.COMPACT; reset 0. -/
  compact : Bool
  /-- NVM_STAT.ACTIVE; reset 0. -/
  active : Nat
  /-- Erase counts and octets used of the 64 blocks (R383); reset DESIGN CHOICE 0 (delivered state). -/
  blocks : List (Nat × Nat)
  /-- The journal's records in append order; reset empty (delivered state). -/
  recs : List JRec
  /-- The live set in ascending (KKIND, KEY) (R386); reset empty. -/
  live : List JEntry
  /-- Records being programmed, oldest first (R383); reset empty. -/
  jobs : List JJob
  /-- A PREPARE held whose transaction is open (R384); reset none. -/
  prep : Option Prep
  /-- The transaction this reeve sequences; reset none. -/
  txn : Option Txn
  /-- Requests waiting to be sequenced, oldest first (R384); reset empty. -/
  waiting : List WaitTxn
  /-- NVM_TXN, last committed transaction number; reset 0. -/
  lastTxn : Nat
  /-- NVM_LDIG; reset 0. -/
  ldig : W64
  /-- NVM_FLAG with counters (Table 14-16); reset 0. -/
  flag : FlagReg
  /-- Latest snapshots received of link 0 and link 1 (R378), and the own one; reset none. -/
  snap0 : Option Snapshot
  snap1 : Option Snapshot
  snapOwn : Option Snapshot
  /-- Object 0x1040.01 and 0x1040.06; reset 0. -/
  hallmark : Word
  hallStart : Word
  /-- Objects 0x1041.01-0C, this channel's part: served, refused, committed, resolved; reset 0. -/
  served : Word
  refused : Word
  committed : Word
  resolved : Word
  /-- State writes received and not yet applied (R375); reset empty. -/
  writes : List StateWrite
  /-- Requests of several entries in service, and the number of the next; reset none, 0. -/
  calls : List Call
  nextCall : Nat
  /-- Outstanding capacity requests (Table 14-8); reset 0. -/
  capOut : Nat
  /-- Client nodes with an outstanding mailbox request per ring: ring, node; reset empty. -/
  ringOut : List (Ring × Nat)
  /-- Read cursors of the chronicles A, B, C (R433); reset 0. -/
  cursors : Tri Word
deriving DecidableEq, Repr

/-- The dictionary service after reset (Tables 14-15 to 14-17), with the journal in its delivered state. -/
def DictBlk.init : DictBlk where
  ready := false
  compact := false
  active := 0
  blocks := List.replicate 64 (0, 0)
  recs := []
  live := []
  jobs := []
  prep := none
  txn := none
  waiting := []
  lastTxn := 0
  ldig := 0#64
  flag := .zero
  snap0 := none
  snap1 := none
  snapOwn := none
  hallmark := 0#32
  hallStart := 0#32
  served := 0#32
  refused := 0#32
  committed := 0#32
  resolved := 0#32
  writes := []
  calls := []
  nextCall := 0
  capOut := 0
  ringOut := []
  cursors := ⟨0#32, 0#32, 0#32⟩

/-- Slot states (Table 15-2). -/
inductive SlotSt where | empty | partial_ | verified | trial | good | failed | stored
deriving DecidableEq, Repr

/-- Codes of Table 15-2. -/
def SlotSt.code : SlotSt → Nat
  | .empty => 0 | .partial_ => 1 | .verified => 2 | .trial => 3 | .good => 4 | .failed => 5 | .stored => 6

/-- A firmware or program slot, or the transit area (R397, R398). -/
structure ImgSlot where
  st : SlotSt
  man : Option Manifest
  /-- Stored blocks, 65,536 octets each, by number. -/
  blocks : List (Nat × List Byte)
  /-- Trial start count (R411). -/
  trials : Nat
  /-- The image installed in the factory (R13), whose octets the spec does not give: its verification passes. -/
  factory : Bool
deriving DecidableEq, Repr

/-- An empty slot. -/
def ImgSlot.empty : ImgSlot := ⟨.empty, none, [], 0, false⟩

/-- The manifest of the factory firmware: a model value, since the spec gives none (R13: the module starts to M4). -/
def factoryManifest : Manifest where
  magic := 0x4D465A56#32
  mver := 1
  kind := 1
  keyslot := 0
  imglen := 0
  nblk := 0
  secver := 0
  fwver := 0
  cfmt := 0
  mincfmt := 0
  product := 0x2410
  hwmin := 0x41
  sha := List.replicate 32 0#8
  raw := List.replicate 448 0#8
  sig := List.replicate 64 0#8

/-- Firmware slot F0 as delivered (R13). -/
def ImgSlot.factorySlot : ImgSlot := ⟨.good, some factoryManifest, [], 0, true⟩

/-- An open transfer as receiver (R404). -/
structure Recv where
  peer : Peer
  /-- Slot number: 0 F0, 1 F1, 2 P0, 3 P1, 4 to 11 the places of the transit area. -/
  slot : Nat
  man : Manifest
  /-- Pieces held of blocks not yet stored: block, piece, data. -/
  pieces : List (Nat × Nat × List Byte)
deriving DecidableEq, Repr

/-- A transfer this channel sends to a neighbour (R405). -/
structure Send where
  peer : Peer
  slot : Nat
  imgid : Word
  nblk : Nat
  /-- NEXT and MAP of the latest STATUS. -/
  next : Nat
  map : W64
  /-- A STATUS has been received. -/
  started : Bool
  /-- Time base of the latest STATUS, or of the OFFER. -/
  since : Nat
  /-- Pieces sent since the latest STATUS: block and piece. -/
  sent : List (Nat × Nat)
deriving DecidableEq, Repr

/-- The configuration keep area (R413). -/
structure Keep where
  cfmt : Nat
  hallmark : Word
  live : List JEntry
  complete : Bool
deriving DecidableEq, Repr

/-- Update and SEC of one channel (R397 to R423). -/
structure UpdBlk where
  /-- Slots F0, F1, P0, P1 and the eight places of the transit area; reset F0 GOOD with the factory firmware, the others empty (R13; DESIGN CHOICE). -/
  slots : List ImgSlot
  recv : List Recv
  sends : List Send
  /-- Counter fuses reading 1 (SEC_STAT.FLOOR); reset DESIGN CHOICE 0. -/
  fuses : Nat
  /-- SHA-256 fused into the customer slot; reset none. -/
  custFuse : Option (List Byte)
  /-- Customer public key in the factory area; reset none. -/
  custKey : Option (List Byte)
  /-- SEC_STAT.ROOT_OK, CUST_OK, BUSY; reset 0. -/
  rootOk : Bool
  custOk : Bool
  busy : Bool
  /-- A fuse did not read back: not eligible at the next start (R417); reset no. -/
  fuseBad : Bool
  /-- SEC_FLAG with counters (Table 15-13); reset 0. -/
  flag : FlagReg
  /-- SEC_HASH_ADDR, SEC_HASH_LEN, SEC_HASH_OUT; reset 0. -/
  hashAddr : Word
  hashLen : Word
  hashOut : List Word
  keep : Option Keep
  /-- Object 0x5810: state, IMGID, NEXT, NBLK, REASON; reset 0. -/
  xState : Nat
  xImg : Word
  xNext : Nat
  xNblk : Nat
  xReason : Nat
  /-- Object 0x5831.01-06: blocks stored, forwarded, discarded, refusals sent, verification failures, fallbacks; reset 0. -/
  stats : List Word
  /-- Slots whose verification is due (R405 step, R406); reset empty. -/
  verify : List Nat
  /-- M3: time base at which the last transfer closed (R419); reset 0. -/
  quietAt : Nat
  /-- M3: a firmware image received there is verified; reset no. -/
  recovered : Bool
deriving DecidableEq, Repr

/-- Update after reset (Tables 15-12 to 15-15) in the delivered state. -/
def UpdBlk.init : UpdBlk where
  slots := ImgSlot.factorySlot :: List.replicate 11 ImgSlot.empty
  recv := []
  sends := []
  fuses := 0
  custFuse := none
  custKey := none
  rootOk := false
  custOk := false
  busy := false
  fuseBad := false
  flag := .zero
  hashAddr := 0#32
  hashLen := 0#32
  hashOut := List.replicate 8 0#32
  keep := none
  xState := 0
  xImg := 0#32
  xNext := 0
  xNblk := 0
  xReason := 0
  stats := List.replicate 6 0#32
  verify := []
  quietAt := 0
  recovered := false

/-- A chronicle record in the ring: offset and octets (R424, R427). -/
structure CRec where
  off : Nat
  pad : Bool
  bytes : List Byte
deriving DecidableEq, Repr

/-- The chronicle of one channel (R424 to R436). -/
structure ChronBlk where
  /-- Records in the ring, oldest first; reset DESIGN CHOICE the factory record alone (R13, log entry 76). -/
  ring : List CRec
  /-- CHRON_HEAD (MRAM); reset DESIGN CHOICE 28, behind the factory record (log entry 76). -/
  head : Nat
  /-- CHRON_TAIL (MRAM); reset DESIGN CHOICE 0. -/
  tail : Nat
  /-- CHRON_SEQ (MRAM); reset DESIGN CHOICE 1, behind the factory record (log entry 76). -/
  seq : Word
  /-- CHRON_OLDSEQ, CHRON_OVW (MRAM); reset DESIGN CHOICE 0. -/
  oldSeq : Word
  ovw : Word
  /-- What a loss of power left at HEAD before the control was stored (R431); reset none. -/
  torn : Option CRec
  /-- The two copies of the ring control at 0xD040_0000 and 0xD040_0040, 24 octets each (R426); reset: the control of the ring as delivered. -/
  ctl0 : List Byte
  ctl1 : List Byte
  /-- CHRON_STAT.READY, FLUSH; reset 0. -/
  ready : Bool
  flush : Bool
  /-- Queued records, oldest first, at most 16 (R428); reset empty. -/
  queue : List (List Byte)
  /-- CHRON_STAGE[0..16], by word offset, words of 0 not listed; reset 0. -/
  stage : List (List (Nat × Word))
  /-- CHRON_FLAG with counters (Table 16-4); reset 0. -/
  flag : FlagReg
deriving DecidableEq, Repr

/-- The factory test record of Table 0-6: TYPE 0x01, ORIGIN 31 (Table 16-0), SEQ 0, counts and time base 0. DESIGN CHOICE (log entry 76): its text is
empty, since the spec gives none. -/
def factoryRecord : List Byte :=
  let h : List Byte := leB 1 0x01 ++ leB 1 (31 * 8) ++ leB 2 0 ++ leB 4 0 ++ leB 4 0 ++ leB 4 0 ++ leB 8 0
  h ++ leB 4 (crc32 h).toNat

/-- A copy of the ring control (R426): HEAD, TAIL, next SEQ, oldest SEQ, overwrite count and CRC-32C, in the order the rule names them
(log entry 107). -/
def ctlOctets (head tail : Nat) (seq oldSeq ovw : Word) : List Byte :=
  let b := leB 4 head ++ leB 4 tail ++ leB 4 seq.toNat ++ leB 4 oldSeq.toNat ++ leB 4 ovw.toNat
  b ++ leB 4 (crc32c b).toNat

/-- The chronicle in the delivered state: the factory test record alone (R13, Tables 16-3, 16-4). -/
def ChronBlk.init : ChronBlk where
  ring := [⟨0, false, factoryRecord⟩]
  head := 28
  tail := 0
  seq := 1#32
  oldSeq := 0#32
  ovw := 0#32
  torn := none
  ctl0 := ctlOctets 28 0 1#32 0#32 0#32
  ctl1 := ctlOctets 28 0 1#32 0#32 0#32
  ready := false
  flush := false
  queue := []
  stage := List.replicate 17 []
  flag := .zero

/-- A legacy block record (Table 17-3). -/
structure LBlock where
  typ : Nat
  retained : Bool
  out : Nat
  par : Nat
  ins : List Nat
deriving DecidableEq, Repr

/-- A translated legacy list (R439, R442). -/
structure LList where
  /-- List format FVER, which selects the block library (R441). -/
  fver : Nat
  nblk : Nat
  filt : Nat
  type3 : BitVec 4
  ntune : Nat
  nhost : Nat
  nvar : Nat
  /-- MVB ports: address, F-code, source, first variable. -/
  mvb : List (Nat × Nat × Bool × Nat)
  /-- Tunables: initial value and type. -/
  tunes : List (Word × Nat)
  consts : List Word
  blocks : List LBlock
  lcrc : Word
deriving DecidableEq, Repr

/-- Compatibility mode of one channel (R437 to R458). -/
structure CompatBlk where
  /-- TSTATE; reset 0. -/
  tstate : Nat
  /-- TREASON; reset 0. -/
  treason : Nat
  /-- SYSCTL_COMPAT_BOUND; reset 0. -/
  bound : Nat
  /-- SYSCTL_COMPAT_CYC, LCYCLE; reset 0. -/
  lcycle : Word
  /-- The translated list; reset none. -/
  list : Option LList
  /-- Translation digest (R443, object 0x2050.05); reset none. -/
  digest : List Byte
  /-- Codes present at the latest evaluation (R450); reset 0x1001. -/
  present : List Nat
  /-- History, newest first: code and LCYCLE bits 15:0; entries; reset empty. -/
  history : List (Nat × Nat)
  /-- Application codes set by diagnostic blocks (0x3000 to 0x3FFF); reset empty. -/
  appCodes : List Nat
  /-- A legacy RESTART waits for M10 (R438); reset no. -/
  restartDue : Bool
  /-- LMBX_TX and LMBX_RX, by word offset; reset 0. -/
  tx : List (Nat × Word)
  rx : List Byte
deriving DecidableEq, Repr

/-- Compatibility after reset (Tables 17-13, 17-14). -/
def CompatBlk.init : CompatBlk where
  tstate := 0
  treason := 0
  bound := 0
  lcycle := 0#32
  list := none
  digest := []
  present := [0x1001]
  history := []
  appCodes := []
  restartDue := false
  tx := []
  rx := []

/-- A view entry (R463): window offset, size in octets, index, subindex, present. -/
structure ViewEnt where
  off : Nat
  size : Nat
  index : Nat
  sub : Nat
  present : Bool
deriving DecidableEq, Repr

/-- HOSTIF of one channel (R459 to R472). -/
structure HostBlk where
  /-- HOSTIF_STAT.LEGACY; reset 0. -/
  legacy : Bool
  /-- HOSTIF_STAT.GA_VALID, GA; reset 0, 0x3F. -/
  gaValid : Bool
  ga : Nat
  /-- HOSTIF_STAT.BUSY, READY; reset 0. -/
  busy : Bool
  ready : Bool
  /-- MBX_REQ by word offset; reset 0. -/
  req : List (Nat × Word)
  /-- MBX_RSP; reset empty (reads 0). -/
  rsp : List Byte
  /-- Tag and entry count of the request in service; reset none. -/
  serving : Option (Byte × Nat)
  /-- HOSTIF_STAT.IN_BUSY; HMSG_IN by word offset; reset 0. -/
  inBusy : Bool
  hin : List (Nat × Word)
  /-- HMSG_OUT and the messages behind it (R289); OUT_PEND is that it is present; reset none. -/
  hout : Option HostMsg
  houtQ : List HostMsg
  /-- Lane requests accepted and unanswered, oldest first: packet, and the response once it is formed (R461); reset empty. -/
  outst : List (LanePkt × Option Emission)
  /-- HOSTIF_FLAG with counters (Table 18-7); reset 0. -/
  flag : FlagReg
  /-- HOSTIF_RX_CNT, TX_CNT, MSG_CNT; reset 0. -/
  rx : Word
  tx : Word
  msgs : Word
  /-- The view layout fixed at the start decision (R463); reset empty. -/
  view : List ViewEnt
deriving DecidableEq, Repr

/-- HOSTIF after reset (Tables 18-6 to 18-8). -/
def HostBlk.init : HostBlk where
  legacy := false
  gaValid := false
  ga := 0x3F
  busy := false
  ready := false
  req := []
  rsp := []
  serving := none
  inBusy := false
  hin := []
  hout := none
  houtQ := []
  outst := []
  flag := .zero
  rx := 0#32
  tx := 0#32
  msgs := 0#32
  view := []

end Sys2Proof.Machine
end

