-- ==== Sys2Proof/Machine/BlkField.lean ====
section
/-! DEFINITION. State of the module pair function, of the field I/O and STO block and of the signal chain of one channel (ch. 11 to 13). -/

namespace Sys2Proof.Machine
open Sys2Proof

/-- Track states (Table 11-8). -/
inductive Track where | none | waiting | copying | tracking
deriving DecidableEq, Repr

/-- Codes of Table 11-8. -/
def Track.code : Track → Nat
  | .none => 0 | .waiting => 1 | .copying => 2 | .tracking => 3

/-- A configured pair, loaded at the start decision (objects 0x4400, 0x4410, 0x4411). -/
structure PairCfg where
  on : Bool
  ident : Nat
  grant1 : Nat
  grant2 : Nat
  pwin1 : Nat
  pwin2 : Nat
  timeout : Nat
  srcSets : List (Word × Word)
  /-- Ring, two windows. -/
  winSets : List (Nat × Nat × Nat)
deriving DecidableEq, Repr

/-- No pair. -/
def PairCfg.init : PairCfg := ⟨false, 1, 0, 0, 0, 0, 30, [], []⟩

/-- END of a transfer (R311). -/
structure PairEnd where
  ce : Nat
  ke : Nat
  dig : W64
  /-- WCYC of the window that carried it. -/
  wcyc : Word
deriving DecidableEq, Repr

/-- The pair function (R297 to R319). -/
structure PairBlk where
  /-- Configuration in force; reset not configured. -/
  cfg : PairCfg
  /-- SYSCTL_PAIR_STAT.TRACK; reset NONE. -/
  track : Track
  /-- SYSCTL_PAIR_STAT.DRIVE; reset 0. -/
  drive : Bool
  /-- SYSCTL_PAIR_STAT.PROGDIFF; reset 0. -/
  progdiff : Bool
  /-- SYSCTL_PAIR_STAT.GRANT: 0 renewed, 1 revoked, 2 missed, 3 conflict; reset 0. -/
  grant : Nat
  /-- SYSCTL_PAIR_STAT.MISS; reset 0. -/
  miss : Nat
  /-- SYSCTL_PAIR_STAT.WAIT; reset 0. -/
  wait : Nat
  /-- The first renewed grant of this activation: ring and CYCLE G (R306); reset none. -/
  g : List (Ring × Word)
  /-- Boundary count a of the activation (R306); reset none. -/
  actC : Option Nat
  /-- The safety-wired networks may be driven in this activation (R306); reset no. -/
  clear : Bool
  /-- SYSCTL_PAIR_FLAG with counters (Table 11-12); reset 0. -/
  flag : FlagReg
  /-- Grant items held (R299); reset empty. -/
  grants : List Grant
  /-- Newest partner pair status of each ring: ring, WCYC, status; reset empty. -/
  partner : List (Ring × Word × PairStatus)
  /-- SYSCTL_PAIR_XFER: last XSEQ; records or dirty pages; reset 0. -/
  xseq : Nat
  xcount : Nat
  /-- A transfer is running, as active (R311); reset no. -/
  sending : Bool
  /-- Pages still dirty: task, area, page; reset empty. -/
  dirty : List (Nat × Nat × Nat)
  cursor : Nat × Nat × Nat
  /-- Timer table entries sent; timer digest they were sent under; reset 0. -/
  tmPos : Nat
  tmDig : W64
  /-- Items sent under PROGDIFF (R315); reset 0. -/
  itPos : Nat
  /-- The record of the present cycle (R311); reset none. -/
  record : Option PairRecord
  /-- REQ is set (R310); reset no. -/
  req : Bool
  /-- Staged timers and items of a standby in COPYING; reset empty. -/
  stTimers : List Timer
  stItems : List XEntry
  /-- END held; reset none. -/
  endRec : Option PairEnd
  /-- Time base when COPYING was entered; reset 0. -/
  copyAt : Nat
  /-- KLO of the status that carried the XSEQ 0 taken; reset 0. -/
  copyK : Word
  /-- SYSCTL_PAIR_PDIG and its PDK; reset 0. -/
  pdig : W64
  pdk : Word
  /-- Health (object 0x4420): reports; H1, H2, H3 passed; missed injections, corrected, uncorrectable, H3 findings; operating second; summary; reset 0. -/
  reports : Word
  h1 : Bool
  h2 : Bool
  h3 : Bool
  /-- Cells of the H1 cycle and transistors of the H3 cycle in progress, each with its result (R308, R309); reset empty. -/
  cycle1 : List (Nat × Bool)
  cycle3 : List ((Nat × Nat) × Bool)
  missInj : Word
  corrected : Word
  uncorr : Word
  h3Finds : Word
  repSec : Nat
  summary : Word
  /-- Values of the latest report for object 0x4420.03 to .07: missed injections, corrected, uncorrectable, H3 findings, seconds; reset 0. -/
  repVals : List Word
  /-- Object 0x4421.01, .02, .06: activations, role ends, transfers completed; reset 0. -/
  activations : Word
  roleEnds : Word
  transfers : Word
  /-- Sequence counter last accepted from each source set and WCYC last taken from each window set (R303); reset empty. -/
  setSeq : List (Nat × Word)
  setCyc : List (Nat × Word)
deriving DecidableEq, Repr

/-- The pair function after reset (Tables 11-11 to 11-13). -/
def PairBlk.init : PairBlk where
  cfg := .init
  track := .none
  drive := false
  progdiff := false
  grant := 0
  miss := 0
  wait := 0
  g := []
  actC := none
  clear := false
  flag := .zero
  grants := []
  partner := []
  xseq := 0
  xcount := 0
  sending := false
  dirty := []
  cursor := (0, 0, 0)
  tmPos := 0
  tmDig := 0#64
  itPos := 0
  record := none
  req := false
  stTimers := []
  stItems := []
  endRec := none
  copyAt := 0
  copyK := 0#32
  pdig := 0#64
  pdk := 0#32
  reports := 0#32
  h1 := false
  h2 := false
  h3 := false
  cycle1 := []
  cycle3 := []
  missInj := 0#32
  corrected := 0#32
  uncorr := 0#32
  h3Finds := 0#32
  repSec := 0
  repVals := []
  summary := 0#32
  activations := 0#32
  roleEnds := 0#32
  transfers := 0#32
  setSeq := []
  setCyc := []

/-- FIELD_OUT_CFG[n] and its binding (Table 12-15, objects 0x4810, 0x4C00). -/
structure OutCfg where
  safety : Bool
  test : Bool
  safe : Nat
  wiring : Nat
  permit : Nat
  quench : Nat
  bound : Bool
  task : Nat
  ofs : Nat
  bit : Nat
deriving DecidableEq, Repr

/-- FIELD_OUT_CFG after reset (Table 12-15). -/
def OutCfg.init : OutCfg := ⟨true, true, 0, 0, 0, 20, false, 0, 0, 0⟩

/-- FIELD_OUT_STAT.STATE (Table 12-16). -/
inductive NetState where | off | driven | safe | tripped
deriving DecidableEq, Repr

/-- Codes of Table 12-16. -/
def NetState.code : NetState → Nat
  | .off => 0 | .driven => 1 | .safe => 2 | .tripped => 3

/-- One output or STO network as this channel runs it (R325 to R342). -/
structure NetRt where
  cfg : OutCfg
  /-- FIELD_OUT_STAT.STATE; reset off. -/
  state : NetState
  /-- Own transistors commanded on (FIELD_OUT_CMD); reset 0. -/
  cmd : Bool
  /-- Own drive toggling (FIELD_OUT_DRV); reset 0. -/
  drv : Bool
  /-- In quench (FIELD_OUT_QUENCH); reset 0. -/
  quench : Bool
  /-- Time base at which the quench timer expires; none while stopped. -/
  quenchAt : Option Nat
  /-- The permit input fell during ON-IF-PERMITTED (R330); reset no. -/
  permitLost : Bool
  /-- Readings at the latest alignment instant (R334); reset 0. -/
  tcond : BitVec 12
  qplus : Bool
  qminus : Bool
  current : Nat
  /-- FIELD_OUT_FIND: STUCK_OFF, STUCK_ON, NJ, EXT_HIGH, OPEN, TRIP, NOSAFE; reset 0. -/
  stuckOff : BitVec 12
  stuckOn : BitVec 12
  nj : Bool
  extHigh : Bool
  openLoad : Bool
  tripSeen : Bool
  noSafe : Bool
  /-- Finding states of this channel as sent with its summary, one for each condition of Table 12-5 that has lasted (R334); reset empty. -/
  finds : List Finding
  /-- A tripped network's bound bit has been committed OFF since; none while not (R338). -/
  offSince : Option Nat
  /-- Consecutive boundaries at which this channel's reading of a point differed from two equal ones: transistors 0 to 11, Qn+, Qn−
  (R336); reset 0. -/
  rbRun : List Nat
  /-- Time base at which the commanded state of the channel's transistors changed last (R335, R341); reset 0. -/
  chgAt : Nat
deriving DecidableEq, Repr

/-- A network after reset. -/
def NetRt.init : NetRt where
  cfg := .init
  state := .off
  cmd := false
  drv := false
  quench := false
  quenchAt := none
  permitLost := false
  tcond := 0#12
  qplus := false
  qminus := false
  current := 0
  stuckOff := 0#12
  stuckOn := 0#12
  nj := false
  extHigh := false
  openLoad := false
  tripSeen := false
  noSafe := false
  finds := []
  offSince := none
  rbRun := List.replicate 14 0
  chgAt := 0

/-- A network of an STO channel after reset: SAFETY and TEST read 1, SAFE 0 (R348). -/
def NetRt.initSto : NetRt := NetRt.init

/-- FIELD_STO_CFG[m] and the state of its feedback comparison (R341). -/
structure StoRt where
  /-- Discrepancy time, 10 ms units; reset 5. -/
  disc : Nat
  /-- FB_EN, FB_POL, feedback input; reset 0. -/
  fbEn : Bool
  fbPol : Bool
  fbIn : Nat
  /-- FAULTm; reset 0. -/
  fault : Nat
  /-- Commanded state and the commit edge of its last change; reset off, 0. -/
  cmd : Bool
  cmdAt : Nat
  /-- Feedback level seen last and the boundary of its last change; reset 0, 0. -/
  fb : Bool
  fbAt : Nat
  /-- A discrepancy runs since the given time; reset none. -/
  since : Option Nat
deriving DecidableEq, Repr

/-- An STO channel after reset (FIELD_STO_CFG 0x0500_001F). -/
def StoRt.init : StoRt := ⟨5, false, false, 0, 0, false, 0, false, 0, none⟩

/-- The reset window (R344). -/
structure ResetWin where
  /-- Time base of the opening boundary and of its end. -/
  opened : Nat
  ends : Nat
  /-- Reference rise count; none while no agreed count was had. -/
  ref : Option Word
  /-- The check of R345 waits for FSUP (R346). -/
  waiting : Bool
  /-- M1 is being proposed. -/
  granted : Bool
deriving DecidableEq, Repr

/-- FIELD (R320 to R349). -/
structure FieldBlk where
  /-- FIELD_STAT.FSUP; reset 0. -/
  fsup : Bool
  /-- Boundary at which FSUP last returned to 1 (R341); reset 0. -/
  fsupAt : Nat
  /-- FIELD_STAT.TNET and TIDX: network and transistor under test; reset none (0xFF). -/
  test : Option (Nat × Nat)
  /-- Next transistor in the order of R337: network, owned position 0 to 3; reset 0. -/
  nextTest : Nat × Nat
  /-- Time of the latest change of a transistor by its tests, by 12 × network + transistor (R335); reset empty. -/
  testChg : List (Nat × Nat)
  /-- Time base of the last test of each own transistor: four of each network in the order of R337, counted from the start decision; reset 0. -/
  tested : List Nat
  /-- FIELD_IN_RAW, FIELD_IN_LVL, FIELD_IN_AGREE; reset 0. -/
  raw : Word
  lvl : Word
  agree : Word
  /-- FIELD_IN_TYPE, 4 bits; reset 0. -/
  typ : BitVec 4
  /-- FIELD_SENSE, FIELD_RB_SENSE; reset 0. -/
  sense : Word
  rbSense : BitVec 18
  /-- Consecutive alignment instants at which the raw sample differed from the level, per input (R322); reset 0. -/
  filt : List Nat
  /-- FIELD_IN_CFG[0..31]: counting mode and F; reset 0, 100. -/
  inCfg : List (Nat × Nat)
  /-- Consecutive boundaries with this channel's level differing from two equal ones, per input (R324); reset 0. -/
  senseRun : List Nat
  /-- Networks 0 to 17. -/
  nets : List NetRt
  /-- STO channels 0 and 1. -/
  sto0 : StoRt
  sto1 : StoRt
  /-- Object 0x4C02.01, reset input; reset 31. -/
  rstIn : Nat
  /-- An STO fault was made: no STO network is driven before the next start (R342); reset no. -/
  stoDead : Bool
  /-- The safe-shutdown logic released the transistors (R333, R343); reset no. -/
  released : Bool
  /-- FIELD_FLAG with counters (Table 12-12); reset 0. -/
  flag : FlagReg
  /-- FIELD_STO_STAT.RREASON; reset 0. -/
  rreason : Nat
  /-- The reset window; reset closed. -/
  win : Option ResetWin
  /-- Object 0x4C11.05-07: requests accepted, resets made, refusals; reset 0. -/
  accepted : Word
  made : Word
  refused : Word
deriving DecidableEq, Repr

/-- FIELD after reset (Tables 12-10 to 12-17). -/
def FieldBlk.init : FieldBlk where
  fsup := false
  fsupAt := 0
  test := none
  nextTest := (0, 0)
  testChg := []
  tested := List.replicate 72 0
  raw := 0#32
  lvl := 0#32
  agree := 0#32
  typ := 0#4
  sense := 0#32
  rbSense := 0#18
  filt := List.replicate 32 0
  inCfg := List.replicate 32 (0, 100)
  senseRun := List.replicate 32 0
  nets := List.replicate 16 NetRt.init ++ [NetRt.initSto, NetRt.initSto]
  sto0 := .init
  sto1 := .init
  rstIn := 31
  stoDead := false
  released := false
  flag := .zero
  rreason := 0
  win := none
  accepted := 0#32
  made := 0#32
  refused := 0#32

/-- SDCHAIN_CFG[i] (Table 13-12). -/
structure SdCfg where
  en : Bool
  inv : Bool
  /-- Order 3, 4 or 5. -/
  order : Nat
  /-- R = 16 × 2^RCODE. -/
  rcode : Nat
  prof : Nat
  nsamp : Nat
deriving DecidableEq, Repr

/-- One input of the signal chain (R355 to R360). -/
structure SdIn where
  cfg : SdCfg
  /-- Integrators and combs, 42 bits each (R355); reset 0. -/
  integ : List (BitVec 42)
  comb : List (BitVec 42)
  /-- Bits taken since the sync (R355); reset 0. -/
  b : Nat
  /-- Decimated samples y of the tick in progress and the 16 before it, newest first, and the number n of the newest (R357); reset none. -/
  ys : List Int
  n : Nat
  /-- Length of the run of equal bits and its value (R359 STUCK); reset 0. -/
  runLen : Nat
  runBit : Bool
  stuckSeen : Bool
  /-- Saturated values of the tick (OVCNT); reset 0. -/
  ov : Nat
  /-- An output sample of the tick used a sample before settling; reset no. -/
  settling : Bool
  /-- Output samples and status word of the tick closed last, until they are delivered; reset empty, 0. -/
  cur : List Word
  curStat : Word
  /-- Output samples of the latest complete tick and its status word (SDCHAIN_IN_STAT); reset none, 0. -/
  out : List Word
  status : Word
  /-- SDCHAIN_LAST; reset 0. -/
  last : Word
deriving DecidableEq, Repr

/-- An input after reset (Table 13-12). -/
def SdIn.init : SdIn where
  cfg := ⟨false, false, 3, 0, 0, 1⟩
  integ := List.replicate 5 0#42
  comb := List.replicate 5 0#42
  b := 0
  ys := []
  n := 0
  runLen := 0
  runBit := false
  stuckSeen := false
  ov := 0
  settling := false
  cur := []
  curStat := 0#32
  out := []
  status := 0#32
  last := 0#32

/-- SDCHAIN (R350 to R367). -/
structure SdBlk where
  /-- SDCHAIN_STAT.CLKCH; reset none. -/
  clkCh : Option Ch
  /-- SDCHAIN_STAT.DRV, RUN; reset 0. -/
  drv : Bool
  run : Bool
  /-- SDCHAIN_STAT.LAST_L; reset 0. -/
  lastL : Nat
  /-- Index f_(k-1) of the last frame bit since the last sync; bits since it; reset 0. -/
  f : Nat
  since : Nat
  /-- Tick number of the tick in progress; reset 0. -/
  k : Word
  /-- A frame bit has been taken since the start; reset no. -/
  framed : Bool
  /-- A sync took effect at the opening frame bit; reset no. -/
  synced : Bool
  /-- The next frame the channel drives is one with sync (R353, R361); reset no. -/
  syncNext : Bool
  /-- A SYNC pin edge waits for the following frame but one (R361); reset no. -/
  syncLater : Bool
  /-- The frame pulse now seen is a frame with sync; reset no. -/
  pulseSync : Bool
  /-- Boundary count for which the clock channel drove its latest frame pulse (R351); reset none. -/
  pulsed : Option Nat
  /-- A tick was delivered since the latest boundary (R359); reset no. -/
  delivered : Bool
  /-- Ticks that show FRAMEERR because the role moved (R353); reset 0. -/
  moveErr : Nat
  /-- Length of the tick that a captured frame bit closed and that is not yet delivered; reset none. -/
  closed : Option Nat
  /-- NOCLK within the tick (R359); reset no. -/
  noclk : Bool
  /-- Consecutive boundaries with two reports of NOCLK (R353); reset 0. -/
  noclkRun : Nat
  /-- NOCLK reports of the latest check messages: own, link 0, link 1; reset no. -/
  rep : Bool × Bool × Bool
  /-- Channels passed over until the next start (R353); reset none. -/
  passed : List Ch
  /-- SDCHAIN_CHK, SDCHAIN_PEER_CHK[0], [1]; reset 0. -/
  chk : Word
  peer0 : Word
  peer1 : Word
  /-- Tick of the check received on each link; reset none. -/
  got0 : Option Word
  got1 : Option Word
  /-- Consecutive ticks with the own CRC against two equal ones (R362); reset 0. -/
  disRun : Nat
  /-- SDCHAIN_SENSE; reset 0. -/
  sense : BitVec 12
  /-- SDCHAIN_FLAG with counters (Table 13-11); reset 0. -/
  flag : FlagReg
  /-- Object 0x5000: preferred channel, SYNC pin enabled, edge falling; reset A, 1, rising. -/
  pref : Ch
  pinEn : Bool
  pinFall : Bool
  /-- Inputs 0 to 11. -/
  ins : List SdIn
  /-- Syncs made since power-on (0x5013.02); reset 0. -/
  syncs : Word
deriving DecidableEq, Repr

/-- SDCHAIN after reset (Tables 13-10 to 13-13). -/
def SdBlk.init : SdBlk where
  clkCh := none
  drv := false
  run := false
  lastL := 0
  f := 0
  since := 0
  k := 0#32
  framed := false
  synced := false
  syncNext := false
  syncLater := false
  pulseSync := false
  pulsed := none
  delivered := false
  moveErr := 0
  closed := none
  noclk := false
  noclkRun := 0
  rep := (false, false, false)
  passed := []
  chk := 0#32
  peer0 := 0#32
  peer1 := 0#32
  got0 := none
  got1 := none
  disRun := 0
  sense := 0#12
  flag := .zero
  pref := .A
  pinEn := true
  pinFall := false
  ins := List.replicate 12 SdIn.init
  syncs := 0#32

end Sys2Proof.Machine
end

