-- ==== Sys2Proof/Machine/BlkNet.lean ====
section
/-! DEFINITION. State of the ring node, of the Ethernet plane or service port, of the MVB device and of the bridge of one channel (ch. 08 to 10). -/

namespace Sys2Proof.Machine
open Sys2Proof

/-- Ring node states (Table 8-8). -/
inductive NState where
  | bypass | linking | listen | joined | withdrawn | originating | backoff
deriving DecidableEq, Repr

/-- Codes of Table 8-8. -/
def NState.code : NState → Nat
  | .bypass => 0 | .linking => 1 | .listen => 2 | .joined => 3 | .withdrawn => 4 | .originating => 5 | .backoff => 6

/-- A window of the schedule (R226, object 0x2802). -/
structure SWin where
  num : Nat
  off : Nat
  len : Nat
  writer : Nat
  mbox : Bool
deriving DecidableEq, Repr

/-- An own window binding (object 0x2803): kind of Table 8-6 (4 PAIR, R297). -/
structure Binding where
  kind : Nat
  win : Nat
  task : Nat
  ofs : Nat
deriving DecidableEq, Repr

/-- A window buffer filled by a fetch (R232): the window, its flags and payload; late: fell behind (R233). -/
structure WinBuf where
  win : Nat
  empty : Bool
  payload : List Byte
  late : Bool
deriving DecidableEq, Repr

/-- An entry of the reeve's bridge work list (R290): a read of an own slot, a read or commit that it makes for another channel's slot (R288),
or a write to the ring from the posted queue. -/
inductive Work where
  | slot (n : Nat)
  | away (ch : Ch) (n : Nat)
  | write (qid : Nat)
deriving DecidableEq, Repr

/-- A mailbox segment (R246). -/
structure MbSeg where
  dest : Nat
  seq : Nat
  flags : Nat
  data : List Byte
  /-- The bridge's work that it carries; none for other traffic. -/
  work : Option Work
deriving DecidableEq, Repr

/-- MILLRACE of one channel: ring 1 in A, ring 2 in B (R216 to R252). -/
structure MillBlk where
  /-- MILLRACE_STAT.ADDR; reset 0. -/
  addr : Nat
  /-- MILLRACE_STAT.NSTATE; reset BYPASS. -/
  nstate : NState
  /-- MILLRACE_STAT.SILENT; reset 0. -/
  silent : Nat
  /-- MILLRACE_STAT.LINE; reset 0. -/
  line : Bool
  /-- MILLRACE_STAT.LOOP: 0 through, 1 looping at port 0, 2 at port 1; reset 0. -/
  loop : Nat
  /-- PMA link status OK of ports 0 and 1 (R219); reset no. -/
  link0 : Bool
  link1 : Bool
  /-- MILLRACE_STAT.UP0, UP1: usable (R219); reset 0. -/
  up0 : Bool
  up1 : Bool
  /-- MILLRACE_CFG.ROLE; reset 0. -/
  role : Nat
  /-- MILLRACE_CFG.NSUB; reset 0. -/
  nsub : Nat
  /-- MILLRACE_CFG.LEN; reset 0. -/
  len : Nat
  /-- MILLRACE_SCHED; reset 0. -/
  sched : Word
  /-- MILLRACE_CYCLE; reset 0. -/
  cycle : Word
  /-- MILLRACE_DELAY[0], [1]; reset 0. -/
  delay0 : Nat
  delay1 : Nat
  /-- MILLRACE_RES; reset 0. -/
  res : Nat
  /-- MILLRACE_MARK[0..7]; reset 0. -/
  marks : List Word
  /-- MILLRACE_SUB_CRC, _EMPTY, _MISS [0..127]; reset 0. -/
  subCrc : List Word
  subEmpty : List Word
  subMiss : List Word
  /-- MILLRACE_MB_BUF, 512 words by word offset, words of 0 not listed; reset 0. -/
  mbBuf : List (Nat × Word)
  /-- MILLRACE_FLAG with counters (Table 8-14); reset 0. -/
  flag : FlagReg
  /-- MILLRACE_SHEP.LOCKED, VALID; reset 0. -/
  shepLocked : Bool
  shepValid : Bool
  /-- MILLRACE_SHEP.HOLD; reset 0. -/
  hold : Nat
  /-- Cut cycles among the last 16, newest first (CUT16); reset empty. -/
  cuts : List Bool
  /-- The present cycle is a cut cycle (R241); reset no. -/
  cutNow : Bool
  /-- The schedule's windows; reset empty. -/
  wins : List SWin
  /-- The shepherd's own copy of the windows, LEN and P (R241); reset empty and 0. -/
  shepWins : List SWin
  shepLen : Nat
  shepP : Nat
  /-- The node is addressed by 0xFF and no geographic address was agreed: it stays in BYPASS (R468); reset no. -/
  noAddr : Bool
  /-- The cycle marks of ring 1 and of ring 2 for the TIME marks, which fire in every channel (R245); reset 0. -/
  tmarks1 : List Word
  tmarks2 : List Word
  /-- Own window bindings; reset empty. -/
  binds : List Binding
  /-- Subscribed window numbers, in subscription order (R228); reset empty. -/
  subs : List Nat
  /-- Last (WRITER, WCYC) taken of each window (R231); reset empty. -/
  taken : List (Nat × Nat × Word)
  /-- Window buffers filled for the frame to come (R232); reset empty. -/
  bufs : List WinBuf
  /-- (BELL, CYCLE) of the last first passage (R229); reset none. -/
  lastFrame : Option (Nat × Word)
  /-- Time base at the last valid frame, for the BUS LED (R451); reset none. -/
  validAt : Option Nat
  /-- A frame with valid HCRC arrived in the present period (R234); reset no. -/
  heard : Bool
  /-- A frame of another bellringer that was valid arrived in this period; reset no. -/
  otherValid : Bool
  /-- The bellringer whose valid frame was processed in this period (R248); reset none. -/
  periodBell : Option Nat
  /-- The last 16 frames that passed, newest first: a later passage of one is forwarded (R229); a frame is gone from the ring after 130 hops;
  reset empty. -/
  seen : List (Nat × Word)
  /-- A frame was read on its first passage in this period (R231); reset no. -/
  passed : Bool
  /-- A frame failing its HCRC arrived in this period (R239); reset no. -/
  badHcrc : Bool
  /-- The own frame returned valid in this period (R239); reset no. -/
  ownBack : Bool
  /-- Consecutive cycles meeting R239; reset 0. -/
  contCycles : Nat
  /-- Periods of BACKOFF left (R239); reset 0. -/
  backLeft : Nat
  /-- A valid cycle was received while in BACKOFF (R239); reset no. -/
  backValid : Bool
  /-- The next boundary begins origination after a BACKOFF (R239); reset no. -/
  originNext : Bool
  /-- Windows of the returned frame, to be carried, and the numbers of those that returned in time (R236); reset empty. -/
  carry : List MWin
  back : List Nat
  /-- CYCLE of the frame originated last; reset none. -/
  origCycle : Option Word
  /-- Ring sample block: values (R244), cycles of the block; reset empty. -/
  blkSum : Int
  blkN : Nat
  blkCycles : Nat
  /-- Probe requests out: port, SEQ, t1 (R220); reset empty. -/
  probes : List (RPort × Nat × Nat)
  /-- Probe results collected at port up: port 0 and port 1; reset empty. -/
  pres0 : List Nat
  pres1 : List Nat
  /-- SEQ of the next probe; reset 0. -/
  probeSeq : Nat
  /-- Coil drive of the bypass relay (R235); reset off. -/
  coil : Bool
  /-- The relay is open; reset closed. -/
  relayOpen : Bool
  /-- MILLRACE_MB_STAT: current outgoing segment, RETRY, BUSY; reset none, SEQ 0, TO 0xFF. -/
  mbOut : Option MbSeg
  mbSeq : Nat
  mbTo : Nat
  mbRetry : Nat
  /-- Segments that wait behind the current one; reset empty. -/
  mbQueue : List MbSeg
  /-- Last SEQ taken from each sender (R247); reset empty. -/
  mbIn : List (Nat × Nat)
  /-- Acknowledgements due, one per cycle: node and SEQ (R247); reset empty. -/
  mbAck : List (Nat × Nat)
  /-- Octets of a request being received: node and data (R246); reset empty. -/
  mbPart : List (Nat × List Byte)
  /-- Whole messages received and not yet served: node and octets (R381); reset empty. -/
  mbDone : List (Nat × List Byte)
  /-- Work of the bridge whose last segment was acknowledged and that the bridge has not yet taken note of (R281); reset empty. -/
  mbSent : List Work
deriving DecidableEq, Repr

/-- MILLRACE after reset (Tables 8-11 to 8-16). -/
def MillBlk.init : MillBlk where
  addr := 0
  nstate := .bypass
  silent := 0
  line := false
  loop := 0
  link0 := false
  link1 := false
  up0 := false
  up1 := false
  role := 0
  nsub := 0
  len := 0
  sched := 0#32
  cycle := 0#32
  delay0 := 0
  delay1 := 0
  res := 0
  marks := List.replicate 8 0#32
  subCrc := List.replicate 128 0#32
  subEmpty := List.replicate 128 0#32
  subMiss := List.replicate 128 0#32
  mbBuf := []
  flag := .zero
  shepLocked := false
  shepValid := false
  hold := 0
  cuts := []
  cutNow := false
  wins := []
  shepWins := []
  shepLen := 0
  shepP := 0
  noAddr := false
  tmarks1 := List.replicate 8 0#32
  tmarks2 := List.replicate 8 0#32
  binds := []
  subs := []
  taken := []
  bufs := []
  lastFrame := none
  validAt := none
  heard := false
  otherValid := false
  periodBell := none
  seen := []
  passed := false
  badHcrc := false
  ownBack := false
  contCycles := 0
  backLeft := 0
  backValid := false
  originNext := false
  carry := []
  back := []
  origCycle := none
  blkSum := 0
  blkN := 0
  blkCycles := 0
  probes := []
  pres0 := []
  pres1 := []
  probeSeq := 0
  coil := false
  relayOpen := false
  mbOut := none
  mbSeq := 0
  mbTo := 0xFF
  mbRetry := 0
  mbQueue := []
  mbIn := []
  mbAck := []
  mbPart := []
  mbDone := []
  mbSent := []

/-- A publication (objects 0x2C10 to 0x2C13). -/
structure Pub where
  num : Nat
  kind : Nat
  task : Nat
  planeA : Bool
  planeB : Bool
  sdt : Bool
  ofs : Nat
  words : Nat
  comId : Word
  cycle : Nat
  phase : Nat
  txOfs : Nat
  dst : Word
  smi : Word
deriving DecidableEq, Repr

/-- A subscription (objects 0x2C20 to 0x2C23). -/
structure ESub where
  num : Nat
  comId : Word
  filter : Word
  planeA : Bool
  planeB : Bool
  sdt : Bool
  guard : Nat
  words : Nat
  smi : Word
  /-- Multicast group joined, 0 for unicast (object 0x2C23). -/
  group : Word
deriving DecidableEq, Repr

/-- A PTP master seen by its Announce messages (R262). -/
structure Master where
  gm : W64
  rank : Nat
  logSync : Int
  utc : Int
deriving DecidableEq, Repr

/-- ECN of one channel: plane A in A, plane B in B, the service port in C (R253 to R273). -/
structure EcnBlk where
  /-- ECN_STAT.UP0, UP1; reset 0. -/
  up0 : Bool
  up1 : Bool
  /-- ECN_STAT.SW, TC; reset 0. -/
  sw : Bool
  tc : Bool
  /-- ECN_MPD, ns; reset 0. -/
  mpd : Nat
  /-- ECN_GM: clockIdentity of the selected master; reset 0. -/
  gm : W64
  /-- A master is selected; reset none. -/
  sel : Option Master
  /-- Masters whose Announce messages are current; reset empty. -/
  masters : List Master
  /-- The last 8 delay measurements, newest first: result ns, time (R263); reset empty. -/
  delays : List (Int × Nat)
  /-- The latest Sync gave a sample (PTPST 3); reset no. -/
  sampled : Bool
  /-- A two-step Sync awaits its Follow_Up: master, sequence, correction, t2, count of the boundary after t2; reset none. -/
  sync : Option (W64 × Nat × Int × Nat × Nat)
  /-- The master selected last, whether or not one is selected now (R262); reset none. -/
  lastGm : Option W64
  /-- Samples taken (object 0x2C40.01, .02); reset 0. -/
  samples : Word
  /-- ECN_FLAG with counters (Table 9-5); reset 0. -/
  flag : FlagReg
  /-- ECN_SUB_RX[0..127], ECN_PUB_TX[0..127]; reset 0. -/
  subRx : List Word
  pubTx : List Word
  /-- Publications and subscriptions loaded at the start decision; reset empty. -/
  pubs : List Pub
  subs : List ESub
  /-- TRDP sequence counter of each publication sent next (R256); reset empty. -/
  pubSeq : List (Nat × Word)
  /-- Last accepted sequence counter: subscription, source address, counter (R257); reset empty. -/
  lastSeq : List (Nat × Word × Word)
  /-- Last bridged sequence counter by source address (R275); reset empty. -/
  bridged : List (Word × Word)
  /-- The four queues of egress ports 0 and 1, oldest frame first (R254); reset empty. -/
  queues : List (List Emission)
  /-- Message-data requests outstanding: source, session, tag (R261); reset empty. -/
  outst : List (Word × Word × Byte)
  /-- IPv4 address and prefix length (0x2C00), loaded at the start; reset 0. -/
  ip : Word
  prefixLen : Nat
  /-- VLAN identifier of the plane, 0 for untagged (0x2C00.05, .06), loaded at the start; reset 0. -/
  vlan : Nat
  /-- Dictionary service ComId (0x2C00.07), loaded at the start; reset 0. -/
  mdCom : Word
  /-- PTP domain (0x2C00.0C), loaded at the start; reset 0. -/
  domain : Nat
  /-- Consist identifier for the SID (0x2C01.01), loaded at the start; reset empty. -/
  consist : List Byte
  /-- Addresses the switch has learned, with the front port of each, newest first, at most 1,024 (R254); reset empty. -/
  macs : List (Nat × RPort)
  /-- MAC address of each IPv4 address that has asked for the module's (R254); reset empty. -/
  neigh : List (Word × Nat)
  /-- Latest answer time of each outstanding message-data request: source, session, tag, time base ns (R261); reset empty. -/
  mdDue : List (Word × Word × Byte × Nat)
deriving DecidableEq, Repr

/-- ECN after reset (Tables 9-4 to 9-6). -/
def EcnBlk.init : EcnBlk where
  up0 := false
  up1 := false
  sw := false
  tc := false
  mpd := 0
  gm := 0#64
  sel := none
  masters := []
  delays := []
  sampled := false
  sync := none
  lastGm := none
  samples := 0#32
  flag := .zero
  subRx := List.replicate 128 0#32
  pubTx := List.replicate 128 0#32
  pubs := []
  subs := []
  pubSeq := []
  lastSeq := []
  bridged := []
  queues := List.replicate 8 []
  outst := []
  ip := 0#32
  prefixLen := 0
  vlan := 0
  mdCom := 0#32
  domain := 0
  consist := []
  macs := []
  neigh := []
  mdDue := []

/-- A process data port of the MVB device (objects 0x2C81, 0x2C82). -/
structure MvbPort where
  addr : Nat
  fcode : Nat
  source : Bool
  kind : Nat
  task : Nat
  ofs : Nat
  /-- The port buffer; none before its first write (R266). -/
  buf : Option (List Byte)
deriving DecidableEq, Repr

/-- MVB of channel C (R265 to R267). -/
structure MvbBlk where
  /-- MVB_STAT.DEVADDR; reset 0. -/
  dev : Nat
  /-- Ports, at most 256; reset empty. -/
  ports : List MvbPort
  /-- MVB_STAT.TRUST: line B; reset 0. -/
  trustB : Bool
  /-- Validity of the last 16 frames on line A and B, newest first (OKA, OKB); reset empty. -/
  histA : List Bool
  histB : List Bool
  /-- Consecutive frames invalid on the trusted line and valid on the other (R267); reset 0. -/
  badRun : Nat
  /-- MVB_FLAG with counters (Table 9-8); reset 0. -/
  flag : FlagReg
  /-- A sink port's master frame awaits its slave frame: address; reset none. -/
  await : Option Nat
  /-- The gate stayed closed until the boundary after a commit: VOTED buffers are stale until written again (R266); reset no. -/
  stale : Bool
  /-- Time base at the last valid frame on line A and B, for the BUS LED (R451); reset none. -/
  validA : Option Nat
  validB : Option Nat
deriving DecidableEq, Repr

/-- MVB after reset (Tables 9-7, 9-8). -/
def MvbBlk.init : MvbBlk := ⟨0, [], false, [], [], 0, .zero, none, false, none, none⟩

/-- A routing entry (Table 10-2). -/
structure Route where
  num : Nat
  sport : Nat
  read : Bool
  side : Bool
  event : Bool
  dports : BitVec 8
  evnum : Nat
  sid : Word
  did : Word
  nmove : Nat
  move0 : Nat
  dlen : Nat
  daddr : Word
deriving DecidableEq, Repr

/-- A posted write (R279 to R281). -/
structure Posted where
  qid : Nat
  entry : Nat
  data : List Byte
  /-- Undelivered destination ports. -/
  dests : List Nat
  /-- Time base at acceptance. -/
  at_ : Nat
deriving DecidableEq, Repr

/-- Delayed-read slot states (Table 10-4). -/
inductive SlotState where | free | pending | ready | committing | handover
deriving DecidableEq, Repr

/-- Codes of Table 10-4. -/
def SlotState.code : SlotState → Nat
  | .free => 0 | .pending => 1 | .ready => 2 | .committing => 3 | .handover => 4

/-- A delayed-read slot (R283 to R291). -/
structure Slot where
  state : SlotState
  entry : Nat
  /-- The requester; none in a FREE slot. -/
  via : Option Transport
  index : Nat
  sub : Nat
  /-- The requests held: where each is answered, and its tag. -/
  held : List (Transport × Byte)
  /-- End of the collect time; none while no timer runs. -/
  until_ : Option Nat
  data : List Byte
  token : Nat
  /-- The downstream access has started. -/
  started : Bool
  /-- Posted writes it must wait for, in the queue of the target's owner (R284). -/
  waitFor : List Nat
  /-- Time base of the request (R284). -/
  asked : Nat
deriving DecidableEq, Repr

/-- A free slot. -/
def Slot.init : Slot := ⟨.free, 0, none, 0, 0, [], none, [], 0, false, [], 0⟩

/-- A forwarded item held at a sequence gap (R280). -/
structure GapHold where
  entry : Nat
  seq : Nat
  /-- Destination ports that this channel owns. -/
  dports : List Nat
  data : List Byte
  /-- Arrival, from which the gap is held open. -/
  since : Nat
  /-- Acceptance in the source port's channel (R281). -/
  at_ : Nat
deriving DecidableEq, Repr

/-- BRIDGE (R274 to R296). -/
structure BridgeBlk where
  /-- BRIDGE_STAT.WIRED; reset 0. (RUN is whether the bridge is active, Table 10-8.) -/
  wired : Bool
  /-- BRIDGE_CFG: collect time (10 µs units), write lifetime (ms); reset 200, 100. -/
  collect : Nat
  life : Nat
  /-- Routing table and moves loaded at the start decision; reset empty. -/
  routes : List Route
  moves : List Word
  /-- The posted-write queue, oldest first, at most 256; reset empty. -/
  queue : List Posted
  /-- Number of the next queue entry; reset 0. -/
  nextQid : Nat
  /-- Sequence numbers sent per entry and destination channel, next expected per entry (R280); reset empty. -/
  sentSeq : List (Nat × Nat × Nat)
  expSeq : List (Nat × Nat)
  /-- Forwarded items held at a gap; reset empty. -/
  gaps : List GapHold
  /-- TRDP sequence counter per entry (R281); reset empty. -/
  pdSeq : List (Nat × Word)
  /-- Slots 0 to 31; reset FREE. -/
  slots : List Slot
  /-- Failures to be answered to the next repeat: requester, proxy object, abort code (R285); reset empty. -/
  failed : List (Transport × Nat × Nat × Word)
  /-- The reeve's bridge work list (BRIDGE_STAT.REEVEQ, R290), at most 64; reset empty. -/
  work : List Work
  /-- BRIDGE_EVT, BRIDGE_EVT_PUB; reset 0. -/
  evt : W64
  evtPub : W64
  /-- Side-band pins asserted (R292); reset none. -/
  pins : BitVec 8
  /-- BRIDGE_WIRE_CNT[0..7]; reset 0. -/
  wireCnt : List Word
  /-- BRIDGE_FLAG with counters (Table 10-10); reset 0. -/
  flag : FlagReg
  /-- Objects 0x4002.01-06, 0x4003.01-03; reset 0. -/
  delivered : Word
  dropped : Word
  completed : Word
  /-- Last (WRITER, WCYC) bridged of each window (R275); reset empty. -/
  takenWins : List (Nat × Nat × Word)
deriving DecidableEq, Repr

/-- BRIDGE after reset (Tables 10-9 to 10-12). -/
def BridgeBlk.init : BridgeBlk where
  wired := false
  collect := 200
  life := 100
  routes := []
  moves := []
  queue := []
  nextQid := 0
  sentSeq := []
  expSeq := []
  gaps := []
  pdSeq := []
  slots := List.replicate 32 Slot.init
  failed := []
  work := []
  evt := 0#64
  evtPub := 0#64
  pins := 0#8
  wireCnt := List.replicate 8 0#32
  flag := .zero
  delivered := 0#32
  dropped := 0#32
  completed := 0#32
  takenWins := []

end Sys2Proof.Machine
end

