-- ==== Sys2Proof/Machine/BlkVote.lean ====
section
/-! DEFINITION. State of the vote, of resynchronisation and of the online change of one channel, with reset values (ch. 06, 07). -/

namespace Sys2Proof.Machine
open Sys2Proof

/-- VOTE_STAT.STATE (Table 6-8). -/
inductive VState where | voting | abstaining | resync | notVoting
deriving DecidableEq, Repr

/-- Code of Table 6-8. -/
def VState.code : VState → Nat
  | .voting => 0 | .abstaining => 1 | .resync => 2 | .notVoting => 3

/-- A running resynchronisation of this channel (R185 to R187). -/
structure RsRun where
  src : Ch
  /-- The boundary b of the decision. -/
  b : Nat
  /-- The boundary from which it is void (R187). -/
  limit : Nat
  /-- The timer snapshot is installed (R186 step 2). -/
  snap : Bool
  /-- Boundary count up to which timer operations are applied. -/
  opsC : Nat
  /-- Tasks whose instance is held: task, release boundary, page-sum list received (R186 step 3). -/
  held : List (Nat × Nat × Bool)
  /-- Pages requested and not installed: task, area and page. -/
  want : List (Nat × Nat × Nat)
  /-- Pages installed. -/
  pages : Nat
deriving DecidableEq, Repr

/-- VOTE (R174 to R196). -/
structure VoteBlk where
  /-- VOTE_STAT.STATE; reset 3 not voting. -/
  state : VState
  /-- VOTE_STAT.GATE; reset 0. -/
  gate : Bool
  /-- VOTE_STAT.CONF; reset 0. -/
  conf : Bool
  /-- Confirmed at the previous boundary (FLAGS bit 0); reset no. -/
  confPrev : Bool
  /-- Lagging at this boundary (R158); reset no. -/
  lag : Bool
  /-- VOTE_STAT.NOMAJ; reset 0. -/
  nomaj : Bool
  /-- VOTE_STAT.AGREE, the bits of the other channels; reset 0. -/
  agree : BitVec 3
  /-- The own bit of VOTE_STAT.AGREE, which shows 1 while voting; reset 0, the channel's bit from the first mode on. -/
  own : BitVec 3
  /-- The judgement of this boundary has been made (R178); reset yes. -/
  judged : Bool
  /-- VOTE_CFG.PROOF_H; reset 720. -/
  proofH : Nat
  /-- VOTE_DIG; reset 0. -/
  dig : W64
  /-- VOTE_PEER[0], [1]; reset 0. -/
  peer0 : W64
  peer1 : W64
  /-- VOTE_RS; reset 0. -/
  rs : W64
  /-- VOTE_RS_PEER[0], [1]; reset 0. -/
  rsPeer0 : W64
  rsPeer1 : W64
  /-- Operating seconds of the minority outcomes of the last 3,600 s (VOTE_MIN_HOUR); reset empty. -/
  minHour : List Nat
  /-- VOTE_FLAG with counters (Table 6-10); reset 0. -/
  flag : FlagReg
  /-- VOTE_RUN.SILENT, link 0 and link 1; reset 0. -/
  silent0 : Nat
  silent1 : Nat
  /-- VOTE_RUN.MIN_RUN (16 bits, saturating); reset 0. -/
  minRun : Nat
  /-- VOTE_OUT: causes for A, B, C; reset 0. -/
  out : Tri Nat
  /-- Boundary message received on link 0 and link 1 for the present boundary; reset none. -/
  msg0 : Option BMsg
  msg1 : Option BMsg
  /-- Latest boundary message received on each link, for any boundary; reset none. -/
  last0 : Option BMsg
  last1 : Option BMsg
  /-- Messages for the boundary before, whose proposals, samples and notices act at the present one (R50, R98, R191); reset none. -/
  prev0 : Option BMsg
  prev1 : Option BMsg
  /-- Fault notices to be put in the next boundary message, at most 4; reset empty. -/
  notices : List Notice
  /-- Notices this channel put in its last boundary message (R191); reset empty. -/
  sentNotices : List Notice
  /-- This channel was counted in the vote when it sent them: neither resynchronising nor lagging (R178, R191); reset no. -/
  sentCounted : Bool
  /-- Tasks committed at the present boundary, for a confirmation after abstaining (R179); reset empty. -/
  committedNow : List Nat
  /-- Gated frames that wait (R181); reset empty. -/
  gateQ : List GateItem
  /-- The latest judgement was minority or no majority: the gate cannot open for that commit (R181); reset no. -/
  shut : Bool
  /-- Reads of voted outputs that wait (R182): transport, service and request; reset empty. -/
  reads : List (Transport × Nat × DReq)
  /-- A running resynchronisation of this channel; reset none. -/
  run : Option RsRun
  /-- After its end: the source, the boundary up to which its timer operations are applied, and the ending boundary, while those of the
  ending boundary are still to come (R186 step 2); reset none. -/
  tail : Option (Ch × Nat × Nat)
  /-- The channel this channel is source for (R186), with the decision boundary and the pages sent; reset none. -/
  serving : Option (Ch × Nat × Nat)
  /-- A resynchronisation decision of another channel is known: that channel and the decision boundary (R187); reset none. -/
  other : Option (Ch × Nat)
  /-- Resynchronisations decided for this channel (0x2403.01-03); reset 0. -/
  rsCount : Word
  /-- The channel abstained when the mode took effect and stays released (R179); reset no. -/
  frozenAbstain : Bool
deriving DecidableEq, Repr

/-- VOTE after reset (Tables 6-8 to 6-12). -/
def VoteBlk.init : VoteBlk where
  state := .notVoting
  gate := false
  conf := false
  confPrev := false
  lag := false
  nomaj := false
  agree := 0#3
  own := 0#3
  judged := true
  proofH := 720
  dig := 0#64
  peer0 := 0#64
  peer1 := 0#64
  rs := 0#64
  rsPeer0 := 0#64
  rsPeer1 := 0#64
  minHour := []
  flag := .zero
  silent0 := 0
  silent1 := 0
  minRun := 0
  out := ⟨0, 0, 0⟩
  msg0 := none
  msg1 := none
  last0 := none
  last1 := none
  prev0 := none
  prev1 := none
  notices := []
  sentNotices := []
  sentCounted := false
  committedNow := []
  gateQ := []
  shut := false
  reads := []
  run := none
  tail := none
  serving := none
  other := none
  rsCount := 0#32
  frozenAbstain := false

/-- Change states (Table 7-1). -/
inductive ChgState where
  | idle | loading | verifying | ready | armed | trial | rollback | failed
deriving DecidableEq, Repr

/-- Codes of Table 7-1. -/
def ChgState.code : ChgState → Nat
  | .idle => 0 | .loading => 1 | .verifying => 2 | .ready => 3
  | .armed => 4 | .trial => 5 | .rollback => 6 | .failed => 7

/-- One entry of the carry-over map (R203, R204). -/
structure CarryEntry where
  ident : Word
  oldTyp : Nat
  newTyp : Nat
  /-- Action code 0 to 9 (Table 7-4). -/
  action : Nat
  oldIdx : Nat
  newIdx : Nat
  count : Nat
  /-- Task and area (1 output, 2 retained) of the old and the new place. -/
  oldTask : Nat
  oldArea : Nat
  newTask : Nat
  newArea : Nat
deriving DecidableEq, Repr

/-- The online change (R197 to R215). -/
structure ChangeBlk where
  /-- SLICE_CHG_STAT.STATE; reset IDLE. -/
  state : ChgState
  /-- SLICE_CHG_STAT.REASON; reset 0. -/
  reason : Nat
  /-- Object 0x2040.07, the REASON of the latest failure; reset 0. -/
  lastReason : Nat
  /-- SLICE_CHG_STAT.BANK; reset 0. -/
  bank : Nat
  /-- SLICE_CHG_STAT.TRIAL_S; reset 0. -/
  trialS : Nat
  /-- SLICE_CHG_FLAG with counters (Table 7-11); reset 0. -/
  flag : FlagReg
  /-- SLICE_CHG_SWC; reset 0. -/
  swc : Nat
  /-- SLICE_CHG_WORDS; reset 0. -/
  words : Nat
  /-- SLICE_CHG_LDIG; reset 0. -/
  ldig : W64
  /-- The load digest has been sent; reset no. -/
  ldigSent : Bool
  /-- Load digests received on link 0 and link 1; reset none. -/
  ldig0 : Option W64
  ldig1 : Option W64
  /-- Boundary count at which ARMED was entered; reset 0. -/
  armC : Nat
  /-- The program in the bank not running, during a change (R197); reset none. -/
  newProg : Option Program
  /-- The new areas (R198) or, in TRIAL and ROLLBACK, the old program's areas kept (R208); reset empty. -/
  newTasks : List TaskRt
  /-- Carry-over map; reset empty. -/
  map : List CarryEntry
  /-- Switch digest (R207): bank and digest; reset none. -/
  swDig : Option (Nat × W64)
  /-- Switch digests received on link 0 and 1 (R207): bank, digest and boundary count; reset none. -/
  sw0 : Option (Nat × W64 × Nat)
  sw1 : Option (Nat × W64 × Nat)
  /-- Object 0x2040.04; reset 0. -/
  hallmark : Word
  /-- Object 0x2041.01-0A; reset 0. -/
  actions : List Word
  /-- Object 0x2042.01-03; reset 0. -/
  confirmed : Word
  rolled : Word
  failed : Word
deriving DecidableEq, Repr

/-- The change function after reset (Tables 7-10 to 7-12). -/
def ChangeBlk.init : ChangeBlk where
  state := .idle
  reason := 0
  lastReason := 0
  bank := 0
  trialS := 0
  flag := .zero
  swc := 0
  words := 0
  ldig := 0#64
  ldigSent := false
  ldig0 := none
  ldig1 := none
  armC := 0
  newProg := none
  newTasks := []
  map := []
  swDig := none
  sw0 := none
  sw1 := none
  hallmark := 0#32
  actions := List.replicate 10 0#32
  confirmed := 0#32
  rolled := 0#32
  failed := 0#32

end Sys2Proof.Machine
end

