-- ==== Sys2Proof/Machine/BlkXlink.lean ====
section
/-! DEFINITION. State of the cross-link block of one channel, with reset values (R32 to R35, Table 1-20). -/

namespace Sys2Proof.Machine
open Sys2Proof

/-- One end of a cross link (XLINK_LINK_STAT[n]). -/
structure LinkEnd where
  /-- UP; reset 0. -/
  up : Bool
  /-- PEER: 0 A, 1 B, 2 C, 3 none; reset 3. -/
  peer : Nat
  /-- LOSS and CODE_ERR; reset 0. -/
  loss : Bool
  codeErr : Bool
  /-- XLINK_LOSS_CNT, XLINK_CODE_CNT; reset 0. -/
  lossCnt : Word
  codeCnt : Word
  /-- Time base of the code violations of the last 1 ms (R33); reset empty. -/
  viol : List Nat
  /-- Latency measured at link-up, ns (R95); reset 0. -/
  lat : Nat
deriving DecidableEq, Repr

/-- A link end after reset. -/
def LinkEnd.init : LinkEnd := ⟨false, 3, false, false, 0#32, 0#32, [], 0⟩

/-- XLINK of one channel. -/
structure XlinkBlk where
  /-- Link 0, to the next channel. -/
  l0 : LinkEnd
  /-- Link 1, to the previous channel. -/
  l1 : LinkEnd
  /-- Segments discarded because their check failed (R35); reset 0. -/
  discarded : Word
deriving DecidableEq, Repr

/-- XLINK after reset. -/
def XlinkBlk.init : XlinkBlk := ⟨.init, .init, 0#32⟩

end Sys2Proof.Machine
end

