-- ==== Sys2Proof/Machine/State.lean ====
section
/-! DEFINITION. The state of the module, the reasons a command can stop, and the state after reset. -/

namespace Sys2Proof.Machine
open Sys2Proof

/-- One channel: every block the spec gives it, its memory, and what it has sent to the outside. -/
structure Chan where
  sys : Sysctl
  pwr : PwrBlk
  clk : ClockBlk
  tb : TimeBlk
  assay : AssayBlk
  mram : Mram
  xl : XlinkBlk
  /-- Cells 0 to 7. -/
  cells : List CellSt
  dbg : DebugBlk
  sl : SliceBlk
  vote : VoteBlk
  chg : ChangeBlk
  mill : MillBlk
  ecn : EcnBlk
  mvb : MvbBlk
  bridge : BridgeBlk
  pair : PairBlk
  field : FieldBlk
  sd : SdBlk
  dict : DictBlk
  upd : UpdBlk
  chron : ChronBlk
  compat : CompatBlk
  host : HostBlk
  /-- Boot ROM, SRAM, dynamic memory, flash and MRAM octets (Table 1-8): strictly rising addresses, none equal to what an unlisted address reads as. -/
  mem : List Host.Cell
  /-- What left the channel's ports and pins, oldest first (the model's own record). -/
  sent : List Emission
deriving DecidableEq, Repr

/-- The module: three channels, the cross-link messages in flight, the free-value counter (the model's own), and the commands that wait. -/
structure State where
  ch : Tri Chan
  /-- Cross-link messages in flight, oldest first (R32). -/
  wire : List XMsg
  /-- The model's own counter that free values are taken at; no statement rests on it. -/
  free : Nat
  /-- Commands that wait, first in first out. -/
  pending : List Instr
deriving DecidableEq, Repr

/-- Why a command stops the machine. No command of this part does: the spec names an effect, or no effect, for every command of its table. -/
inductive Fault where
  /-- Raised by nobody; safe. -/
  | none
deriving DecidableEq, Repr

/-- Why a command has no meaning. -/
inductive Refusal where
  /-- Raised by `exec` for a command whose meaning is not written; safe: the machine stops where the part goes on. -/
  | notModelled (mnemonic : String)
deriving DecidableEq, Repr

/-- A channel right after reset, KEEP in regulation (R57, R58, Table 2-2 row 1), in the delivered state of R13. -/
def Chan.init : Chan where
  sys := .init
  pwr := .init
  clk := .init
  tb := .init
  assay := .init
  mram := .init
  xl := .init
  cells := List.replicate 8 CellSt.init
  dbg := .init
  sl := .init
  vote := .init
  chg := .init
  mill := .init
  ecn := .init
  mvb := .init
  bridge := .init
  pair := .init
  field := .init
  sd := .init
  dict := .init
  upd := .init
  chron := .init
  compat := .init
  host := .init
  mem := []
  sent := []

/-- The module right after reset: every channel HELD in M1. -/
def State.reset : State where
  ch := .rep .init
  wire := []
  free := 0
  pending := []

end Sys2Proof.Machine
end

