-- ==== Sys2Proof/Machine/Ops.lean ====
section
/-! DEFINITION. Operations that the meanings share: channels, time, memory, cross-link sending, chronicle posts, proposals. -/

namespace Sys2Proof.Machine
open Sys2Proof

/-- The state of channel `ch`. -/
def State.chan (s : State) (ch : Ch) : Chan := s.ch.get ch

/-- Change channel `ch`. -/
def State.upd (s : State) (ch : Ch) (f : Chan → Chan) : State := { s with ch := s.ch.set ch (f (s.ch.get ch)) }

/-- Change every channel. -/
def State.updAll (s : State) (f : Ch → Chan → Chan) : State :=
  { s with ch := ⟨f .A s.ch.a, f .B s.ch.b, f .C s.ch.c⟩ }

/-- Fold an operation over the channels A, B, C. -/
def State.each (s : State) (f : Ch → State → State) : State := f .C (f .B (f .A s))

/-- Take the free-value counter's present value and advance it. -/
def State.tick (s : State) : State := { s with free := s.free + 1 }

/-- A command's effect that always completes. -/
abbrev Out := Host.Outcome State Fault Refusal

/-- The outcome of a command that only changes channel `ch`. -/
def onChan (s : State) (ch : Ch) (f : Chan → Chan) : Out := .next (s.upd ch f)

/-- The outcome of a command with a guard: without its cause it changes nothing (log entry 1). -/
def guardC (b : Bool) (s t : State) : Out := .next (if b then t else s)

/-! Time -/

/-- Nanoseconds of the time base (R93: bits 95:32 of the accumulator). -/
def Chan.now (c : Chan) : Nat := c.tb.acc.toNat / 4294967296

/-- Tick period in ns by the code of TIMEBASE_TICK_CFG (R102): 0 125 µs, 1 250 µs, 2 500 µs, 3 1,000 µs, 4 2,000 µs. -/
def periodNs : Nat → Nat
  | 0 => 125000 | 1 => 250000 | 2 => 500000 | 3 => 1000000 | _ => 2000000

/-- Increment per time-base clock, in units of 2⁻³² ns (R93), with the limit of ±300,000 ppb. DESIGN CHOICE (log entry 81): it is rounded
down; the spec gives no rounding. -/
def TimeBlk.inc (t : TimeBlk) : Nat :=
  (17179869184 * (1000000000 + max (-300000) (min (t.rate + t.trim) 300000)) / 1000000000).toNat

/-- Bring the time base to `ns` if it is behind it, and the alignment counter by as many clocks (R77). -/
def TimeBlk.reach (t : TimeBlk) (ns : Nat) : TimeBlk :=
  if t.acc.toNat / 4294967296 < ns then
    { t with acc := BitVec.ofNat 96 (ns * 4294967296), align := t.align + (ns * 4294967296 - t.acc.toNat + t.inc - 1) / t.inc }
  else t

/-- Step the time base forward to `ns` (R95): the alignment counter, which counts root cycles, does not move (R77). -/
def TimeBlk.alignTo (t : TimeBlk) (ns : Nat) : TimeBlk :=
  if t.acc.toNat / 4294967296 < ns then { t with acc := BitVec.ofNat 96 (ns * 4294967296) } else t

/-- `n` time-base clocks (R77, R93). -/
def TimeBlk.clocks (t : TimeBlk) (n : Nat) : TimeBlk := { t with acc := t.acc + BitVec.ofNat 96 (n * t.inc), align := t.align + n }

/-- Time-base clocks between two alignment instants: 3,000 root cycles (R77). -/
def alignClocks : Nat := 250

/-- The number of the next alignment instant to take: the first one not taken, or the latest when the counter is past it. -/
def TimeBlk.nextInstant (t : TimeBlk) : Nat := max (t.alignSeen + 1) (t.align / alignClocks)

/-- The alignment counter comes to the next alignment instant, and the time base with it (R77). -/
def TimeBlk.toInstant (t : TimeBlk) : TimeBlk :=
  let n := t.nextInstant
  { t.clocks (n * alignClocks - t.align) with alignSeen := n }

/-- Stamp and number of the latest tick boundary as R102 places them: 0 before the start decision, and until the first boundary is
acted on the one before it (log entry 82). -/
def TimeBlk.latest (t : TimeBlk) : Nat × Nat :=
  if !t.tickRun then (0, 0) else if t.started then (t.bk, t.k) else (t.bk - periodNs t.period, t.k - 1)

/-- The tick period of a channel, ns. -/
def Chan.period (c : Chan) : Nat := periodNs c.tb.period

/-! Modes -/

/-- Releases and commits are made: M5 to M8 (R141, Table 5-8). -/
def Mode.runs : Mode → Bool
  | .m5 | .m6 | .m7 | .m8 => true
  | _ => false

/-- M9, M10 or M11. -/
def Mode.stopped : Mode → Bool
  | .m9 | .m10 | .m11 => true
  | _ => false

/-- The modes whose boundary messages carry fault notices (Table 6-7): M5 to M11. -/
def Mode.speaks (m : Mode) : Bool := m.runs || m.stopped

/-- Modes in which networks and ring nodes are active in native personality: M5, M7 to M11. -/
def Mode.networks : Mode → Bool
  | .m5 | .m7 | .m8 | .m9 | .m10 | .m11 => true
  | _ => false

/-- A channel that is neither OFF, HELD nor OUT (R48). -/
def CState.present : CState → Bool
  | .off | .held | .out => false
  | _ => true

/-- The states as one channel sees them: CHAN_VIEW (Table 2-11) shows every change at once (R48). -/
def State.view (s : State) (ch : Ch) : CState := (s.chan ch).sys.cstate

/-- Channels in VOTING. -/
def State.votingChs (s : State) : List Ch := allCh.filter (fun c => s.view c == .voting)

/-- SYSCTL_CHAN_VIEW (Table 2-11). -/
def State.chanView (s : State) : Word :=
  BitVec.ofNat 32 ((s.view .A).code + 16 * (s.view .B).code + 256 * (s.view .C).code)

/-- The first channel the spec's view of the module mode is read from: a present channel, A first. -/
def State.leader (s : State) : Ch :=
  if (s.view .A).present then .A else if (s.view .B).present then .B else if (s.view .C).present then .C else .A

/-- The module mode in force. -/
def State.mode (s : State) : Mode := (s.chan s.leader).sys.mode

/-! Memory -/

/-- What a byte that nothing has written reads as, by address: the boot ROM's octet, elsewhere zero (log entry 2). -/
def memDefault (a : Nat) : Byte := if a < 0x10000 then Config.romByte a else 0#8

/-- The byte at `a`: listed, or the default. -/
def memRead : List Host.Cell → Nat → Byte
  | [], a => memDefault a
  | (k, v) :: r, a => if k = a then v else memRead r a

/-- List the byte at `a` in its place. -/
def memPut : List Host.Cell → Nat → Byte → List Host.Cell
  | [], a, b => [(a, b)]
  | (k, v) :: r, a, b => if a < k then (a, b) :: (k, v) :: r else if k = a then (a, b) :: r else (k, v) :: memPut r a b

/-- Write the byte at `a`, keeping the canonical form: the default is not listed. -/
def memWrite (m : List Host.Cell) (a : Nat) (b : Byte) : List Host.Cell :=
  if b = memDefault a then m.filter (fun x => x.1 != a) else memPut m a b

/-- Fill memory from an address with octets, above the boot ROM, keeping the canonical form. -/
def memFill (m : List Host.Cell) (base : Nat) (bs : List Byte) : List Host.Cell :=
  m.filter (fun x => decide (x.1 < base)) ++
  (bs.zipIdx).filterMap (fun x => if x.1 = 0#8 then none else some (base + x.2, x.1)) ++
  m.filter (fun x => decide (base + bs.length ≤ x.1))

/-- Every listed address is above `lo` and rising, and no byte is the default. -/
def memWfFrom : Nat → List Host.Cell → Bool
  | _, [] => true
  | lo, (k, v) :: r => decide (lo ≤ k) && decide (v ≠ memDefault k) && memWfFrom (k + 1) r

/-- The canonical form of memory. -/
def Memory.wf (m : List Host.Cell) : Bool := memWfFrom 0 m

/-- The word at a word offset of a window buffer that lists no zero. -/
def wGet : List (Nat × Word) → Nat → Word
  | [], _ => 0#32
  | (k, v) :: r, i => if i = k then v else wGet r i

/-- Write a word of a window buffer, keeping offsets rising and listing no zero. -/
def wPut : List (Nat × Word) → Nat → Word → List (Nat × Word)
  | [], i, w => if w = 0#32 then [] else [(i, w)]
  | (k, v) :: r, i, w =>
    if i < k then (if w = 0#32 then (k, v) :: r else (i, w) :: (k, v) :: r)
    else if i = k then (if w = 0#32 then r else (i, w) :: r)
    else (k, v) :: wPut r i w

/-- The first `n` octets of a window buffer. -/
def wBytes (l : List (Nat × Word)) (n : Nat) : List Byte :=
  ((List.range ((n + 3) / 4)).flatMap (fun i => leB 4 (wGet l i).toNat)).take n

/-! Association lists -/

/-- The value of a key, `d` when there is none. -/
def assocD {α β : Type} [DecidableEq α] (d : β) (k : α) : List (α × β) → β
  | [] => d
  | (a, b) :: r => if a = k then b else assocD d k r

/-- Set the value of a key. -/
def assocSet {α β : Type} [DecidableEq α] (k : α) (v : β) : List (α × β) → List (α × β)
  | [] => [(k, v)]
  | (a, b) :: r => if a = k then (k, v) :: r else (a, b) :: assocSet k v r

/-! Emissions and the chronicle -/

/-- Record what leaves a port or a pin. -/
def Chan.emit (c : Chan) (e : Emission) : Chan := { c with sent := c.sent ++ [e] }

/-- The header, padded payload and CRC of a record as posted now (R424). -/
def Chan.recordBytes (c : Chan) (typ origin : Nat) (payload : List Byte) : List Byte :=
  let h : List Byte := leB 1 typ ++ leB 1 (origin * 8 + (if c.tb.valid then 1 else 0)) ++ leB 2 payload.length ++
    leB 4 c.mram.opsec ++ leB 4 c.mram.pcyc ++ leB 4 (c.chron.seq.toNat + c.chron.queue.length) ++ leB 8 c.now
  let b := h ++ pad4 payload
  b ++ leB 4 (crc32 b).toNat

/-- Post a record (R428): a full queue drops it; the flush refuses it (R430). -/
def Chan.post (c : Chan) (typ origin : Nat) (payload : List Byte) : Chan :=
  if c.chron.flush then c
  else if 16 ≤ c.chron.queue.length then { c with chron := { c.chron with flag := c.chron.flag.raise 0 } }
  else { c with chron := { c.chron with queue := c.chron.queue ++ [c.recordBytes typ origin payload] } }

/-- A record the reeve writes (R432: ORIGIN 16). -/
def Chan.log (c : Chan) (typ : Nat) (payload : List Byte) : Chan := c.post typ 16 payload

/-- A record the hardware writes (R432: ORIGIN 17 for types 0x02 and 0x08). -/
def Chan.logHw (c : Chan) (typ : Nat) (payload : List Byte) : Chan := c.post typ 17 payload

/-- Words as the octets of a payload. -/
def payW (ws : List Word) : List Byte := wordBytes ws

/-! Proposals and notices -/

/-- A fault trigger of this tick (R52). -/
def Chan.trigger (c : Chan) (m : Mode) (cause : Nat) : Chan :=
  { c with sys := { c.sys with triggers := c.sys.triggers ++ [⟨m, cause⟩] } }

/-- Put a fault notice in the next boundary message (R191: at most 4). -/
def Chan.notice (c : Chan) (accused : Ch) (cause : Nat) : Chan :=
  let n : Notice := ⟨accused, cause⟩
  if c.vote.notices.contains n || 4 ≤ c.vote.notices.length then c
  else { c with vote := { c.vote with notices := c.vote.notices ++ [n] } }

/-! Cross links (R32 to R35) -/

/-- The end of link `l`. -/
def Chan.lend (c : Chan) : Link → LinkEnd
  | .next => c.xl.l0
  | .prev => c.xl.l1

/-- Change the end of link `l`. -/
def Chan.setEnd (c : Chan) (l : Link) (f : LinkEnd → LinkEnd) : Chan :=
  match l with
  | .next => { c with xl := { c.xl with l0 := f c.xl.l0 } }
  | .prev => { c with xl := { c.xl with l1 := f c.xl.l1 } }

/-- Both ends of the direct link between two channels are up. -/
def State.linked (s : State) (a b : Ch) : Bool :=
  match linkTo a b, linkTo b a with
  | some la, some lb => ((s.chan a).lend la).up && ((s.chan b).lend lb).up
  | _, _ => false

/-- The third channel. -/
def third (a b : Ch) : Ch :=
  match a, b with
  | .A, .B => .C | .B, .A => .C
  | .A, .C => .B | .C, .A => .B
  | .B, .C => .A | .C, .B => .A
  | .A, .A => .A | .B, .B => .B | .C, .C => .C

/-- Traffic class of a message (Table 1-5). -/
def XBody.cls : XBody → Nat
  | .boundary _ | .notice _ _ | .loadDigest _ _ _ | .switchDigest _ _ _ => 1
  | .item _ | .telegram _ _ | .samples _ | .dsample _ | .grant _ | .sdCheck _ _ _ | .bridge _ _ _ _ _ | .pairStatus _ _ _ => 2
  | .pageSums _ _ _ _ | .pageReq _ _ _ | .pageData _ _ _ _ | .timerSnap _ _ _ | .timerOps _ _ _ | .pairRecord _ _ _ => 3
  | .snapshot _ | .block _ _ _ => 4

/-! Kinds of messages -/

/-- A shared image block. -/
def XBody.isBlock : XBody → Bool
  | .block _ _ _ => true
  | _ => false

/-- A boundary message. -/
def XBody.isBoundary : XBody → Bool
  | .boundary _ => true
  | _ => false

/-- A bridged item. -/
def XBody.isBridge : XBody → Bool
  | .bridge _ _ _ _ _ => true
  | _ => false

/-- A load digest. -/
def XBody.isLoadDigest : XBody → Bool
  | .loadDigest _ _ _ => true
  | _ => false

/-- A completion notice. -/
def XBody.isNotice : XBody → Bool
  | .notice _ _ => true
  | _ => false

/-- A partner's pair status. -/
def XBody.isPairStatus : XBody → Bool
  | .pairStatus _ _ _ => true
  | _ => false

/-- A partner's transfer record. -/
def XBody.isPairRecord : XBody → Bool
  | .pairRecord _ _ _ => true
  | _ => false

/-- A message of page data. -/
def XBody.isResync : XBody → Bool
  | .timerSnap _ _ _ | .timerOps _ _ _ | .pageSums _ _ _ _ | .pageReq _ _ _ | .pageData _ _ _ _ => true
  | _ => false

def XBody.isPageData : XBody → Bool
  | .pageData _ _ _ _ => true
  | _ => false

/-- A page request. -/
def XBody.isPageReq : XBody → Bool
  | .pageReq _ _ _ => true
  | _ => false

/-- A page sum list. -/
def XBody.isPageSums : XBody → Bool
  | .pageSums _ _ _ _ => true
  | _ => false

/-- A signal-chain check message. -/
def XBody.isSdCheck : XBody → Bool
  | .sdCheck _ _ _ => true
  | _ => false

/-- A snapshot. -/
def XBody.isSnapshot : XBody → Bool
  | .snapshot _ => true
  | _ => false

/-- A switch digest. -/
def XBody.isSwitchDigest : XBody → Bool
  | .switchDigest _ _ _ => true
  | _ => false

/-- A list of timer operations. -/
def XBody.isTimerOps : XBody → Bool
  | .timerOps _ _ _ => true
  | _ => false

/-- A timer snapshot. -/
def XBody.isTimerSnap : XBody → Bool
  | .timerSnap _ _ _ => true
  | _ => false

/-- The traffic that the links of a channel carry in its mode (Table 1-11): none in M0 and M1, classes 1 and 4 in M3, and in M8 only
the link between the remaining channels, with the messages that a channel on its way out still sends (R57, R479). -/
def State.carries (s : State) (tx rx : Ch) (cls : Nat) : Bool :=
  match (s.chan tx).sys.mode with
  | .m0 | .m1 => false
  | .m3 => cls = 1 || cls = 4
  | .m8 => (s.view tx != .out || (decide (cls = 1) && (s.chan tx).sys.leaving)) && s.view rx != .out
  | _ => true

/-- The direct link from `tx` to `rx` works and carries the class. -/
def State.direct (s : State) (tx rx : Ch) (cls : Nat) : Bool := s.carries tx rx cls && s.linked tx rx

/-- The third channel can relay the class from `tx` to `rx`: classes 1 and 2, over two links that carry it (R34, Table 1-11). -/
def State.relays (s : State) (tx rx : Ch) (cls : Nat) : Bool :=
  decide (cls ≤ 2) && s.direct tx (third tx rx) cls && s.direct (third tx rx) rx cls

/-- A message of class `cls` finds a way from `tx` to `rx`: the direct link, or for classes 1 and 2 the other two (R34). -/
def State.reach (s : State) (tx rx : Ch) (cls : Nat) : Bool := decide (tx = rx) || s.direct tx rx cls || s.relays tx rx cls

/-- Send a message: on the direct link, else relayed for classes 1 and 2 when the other two links are up (R34), else it is lost. -/
def State.send (s : State) (tx rx : Ch) (b : XBody) : State :=
  if tx = rx then s
  else if s.direct tx rx b.cls then { s with wire := s.wire ++ [⟨tx, rx, .direct, b⟩] }
  else if s.relays tx rx b.cls then { s with wire := s.wire ++ [⟨tx, rx, .toRelay (third tx rx), b⟩] }
  else s

/-- Send to both other channels. -/
def State.sendBoth (s : State) (tx : Ch) (b : XBody) : State :=
  (s.send tx (chNext tx) b).send tx (chPrev tx) b

/-- Take the first message that satisfies `p` off the wire. -/
def wireTake (p : XMsg → Bool) : List XMsg → Option (XMsg × List XMsg)
  | [] => none
  | m :: r => if p m then some (m, r) else
    match wireTake p r with
    | some (x, r') => some (x, m :: r')
    | none => none

/-- The link a message runs on: who sends and who receives on it. -/
def XMsg.link (m : XMsg) : Ch × Ch :=
  match m.way with
  | .direct => (m.tx, m.rx)
  | .toRelay r => (m.tx, r)
  | .relayed r => (r, m.rx)

/-- The message has nothing left to cross but the link to its receiver. -/
def XMsg.lastLink (m : XMsg) : Bool :=
  match m.way with
  | .toRelay _ => false
  | _ => true

/-- A message of a higher class that came on the same link earlier, whoever sent it, is still there (R32: strict priority). -/
def aheadOf (w : List XMsg) (m : XMsg) : Bool :=
  (w.takeWhile (fun x => x != m)).any (fun x => x.link == m.link && decide (x.body.cls < m.body.cls))

/-- A message that fails its check is discarded and counted at its receiver (R35). -/
def Chan.discard (c : Chan) : Chan := { c with xl := { c.xl with discarded := satInc c.xl.discarded } }

/-- Receive the first delivered message from `tx` to `rx` that satisfies `p`; `bad` is what a message that fails its check leaves besides its
count. Without such a message, or while one of a higher class is ahead of it, nothing changes. -/
def State.recvOr (s : State) (rx tx : Ch) (ok : Bool) (p : XBody → Bool) (bad : XBody → Chan → Chan) (f : XBody → State → State) : State :=
  match wireTake (fun m => m.rx == rx && m.tx == tx && m.lastLink && p m.body) s.wire with
  | none => s
  | some (m, w) =>
    if aheadOf s.wire m then s
    else if ok then f m.body { s with wire := w }
    else { s with wire := w }.upd rx (fun c => bad m.body c.discard)

/-- Receive a message whose loss leaves nothing but its count. -/
def State.recv (s : State) (rx tx : Ch) (ok : Bool) (p : XBody → Bool) (f : XBody → State → State) : State :=
  s.recvOr rx tx ok p (fun _ c => c) f

/-! Cells -/

/-- The usable bonded cells: cells that run bonded. -/
def Chan.bondedCells (c : Chan) : List Nat := (List.range 8).filter (fun n => ((c.cells[n]?).map (·.mode)) == some CellMode.bonded)

/-- The cells that run split. -/
def Chan.splitCells (c : Chan) : List Nat := (List.range 8).filter (fun n => ((c.cells[n]?).map (·.mode)) == some CellMode.split)

/-- Cell `n`. -/
def Chan.cell (c : Chan) (n : Nat) : CellSt := (c.cells[n]?).getD CellSt.init

/-- Change cell `n`. -/
def Chan.updCell (c : Chan) (n : Nat) (f : CellSt → CellSt) : Chan := { c with cells := modAt f n c.cells }

/-- The core with hart number `h` = cell × 2 + core (R20). -/
def Chan.core (c : Chan) (h : Nat) : CoreSt := if h % 2 = 0 then (c.cell (h / 2)).core0 else (c.cell (h / 2)).core1

/-- Change a core and, in a bonded cell, its checker, which repeats the main core's stream (R113). -/
def Chan.updPair (c : Chan) (h : Nat) (f : CoreSt → CoreSt) : Chan :=
  c.updCell (h / 2) (fun x =>
    if x.mode = .split then (if h % 2 = 0 then { x with core0 := f x.core0 } else { x with core1 := f x.core1 })
    else { x with core0 := f x.core0, core1 := f x.core1 })

end Sys2Proof.Machine
end

