-- ==== Sys2Proof/Machine/Slice.lean ====
section
/-! DEFINITION. The slice engine: areas, ranges, tk.next, completion, faults, digest sums, releases, commits (ch. 05, R175 to R177). -/

namespace Sys2Proof.Machine
open Sys2Proof

/-! Areas (R140) -/

/-- The last stage of a task. -/
def TaskDecl.last (d : TaskDecl) : Nat := d.stages.length - 1

/-- Stage `i` of a task. -/
def TaskDecl.stage (d : TaskDecl) (i : Nat) : StageDecl := (d.stages[i]?).getD ⟨0, 0, 0⟩

/-- Words of one output bank. -/
def TaskDecl.outLen (d : TaskDecl) : Nat := (d.stage d.last).slices * (d.stage d.last).outW

/-- First word of a stage in a retained-state bank. -/
def TaskDecl.rsBase (d : TaskDecl) (i : Nat) : Nat := (d.stages.take i).foldl (fun a x => a + x.slices * x.rsW) 0

/-- Words of one retained-state bank. -/
def TaskDecl.rsLen (d : TaskDecl) : Nat := d.rsBase d.stages.length

/-- First word of a stage in the stage-output area. -/
def TaskDecl.soBase (d : TaskDecl) (i : Nat) : Nat := (d.stages.take i).foldl (fun a x => a + x.slices * x.outW) 0

/-- Words of the stage-output area. -/
def TaskDecl.soLen (d : TaskDecl) : Nat := d.soBase d.last

/-- Words of the voted or unvoted area a task takes: images, qualifiers and banks (R140), in octets. -/
def TaskDecl.octets (d : TaskDecl) : Nat := 4 * d.inLen + d.inLen + 8 * d.outLen + 8 * d.rsLen + 4 * d.soLen

/-- A list of exactly `n` words, padded with zeros. -/
def fixW (n : Nat) (l : List Word) : List Word := (l ++ List.replicate (n - l.length) 0#32).take n

/-- A source before the first release. -/
def SrcRt.init : SrcRt := ⟨0, 0, true, none, none, none, 0, [], 0⟩

/-- The field inputs that a task declares, by whichever of its sources, in ascending number (R169). -/
def TaskDecl.fieldInputs (d : TaskDecl) : List Nat := (List.range 32).filter (fun i => d.srcs.any (fun x => x.kind == 3 && x.ref.testBit i))

/-- A task's areas and state as the start decision sets them (R142). -/
def TaskRt.start (d : TaskDecl) : TaskRt where
  decl := d
  inImg := fixW d.inLen []
  qual := List.replicate d.inLen 0#8
  outPub := fixW d.outLen d.defOut
  outWork := fixW d.outLen []
  rsPub := fixW d.rsLen d.initRs
  rsWork := fixW d.rsLen []
  stageOut := fixW d.soLen []
  inst := none
  ovrRun := 0
  ovrTotal := 0#32
  releases := 0
  lastTime := 0#32
  srcs := d.srcs.map (fun _ => SrcRt.init)
  edges := d.fieldInputs.map (fun i => ⟨i, 0#32, 0#32, false⟩)
  commits := 0
  unsync := false

/-! Tasks -/

/-- Task number `n`. -/
def SliceBlk.task (e : SliceBlk) (n : Nat) : Option TaskRt := e.tasks.find? (fun t => t.decl.num == n)

/-- Change task `n`. -/
def SliceBlk.updTask (e : SliceBlk) (n : Nat) (f : TaskRt → TaskRt) : SliceBlk :=
  { e with tasks := e.tasks.map (fun t => if t.decl.num = n then f t else t) }

/-- Change the instance of a task. -/
def TaskRt.updInst (t : TaskRt) (f : Inst → Inst) : TaskRt := { t with inst := t.inst.map f }

/-- An instance is in progress: neither abandoned (R161) nor committed. -/
def TaskRt.inProgress (t : TaskRt) : Bool :=
  match t.inst with
  | some i => !i.abandoned
  | none => false

/-- Bits of the configured integrity tasks (R172: SLICE_CAP_HOLD ignores them). -/
def SliceBlk.integrityBits (e : SliceBlk) : W64 :=
  e.tasks.foldl (fun (w : W64) (t : TaskRt) => if t.decl.cap then w else w ||| (1#64 <<< t.decl.num)) 0#64

/-! Handles (Table 4-6) -/

/-- The handle of a slice. -/
def mkHandle (task stage slice : Nat) (cap : Bool) : Word :=
  BitVec.ofNat 32 (task * 67108864 + stage * 4194304 + slice * 4096 + (if cap then 2 else 0) + 1)

/-- TASK of a handle. -/
def hTask (h : Word) : Nat := h.toNat / 67108864
/-- STAGE of a handle. -/
def hStage (h : Word) : Nat := h.toNat / 4194304 % 16
/-- SLICE of a handle. -/
def hSlice (h : Word) : Nat := h.toNat / 4096 % 1024

/-! Ranges and queues (R152, R153) -/

/-- Key order: the earlier due count, then the smaller PRIO. -/
def keyLt (a b : Nat × Nat) : Bool := a.1 < b.1 || (a.1 == b.1 && a.2 < b.2)

/-- The key of a range. -/
def QRange.key (r : QRange) : Nat × Nat := (r.due, r.prio)

/-- Insert a range in key order, after ranges of the same key. -/
def qInsert (r : QRange) : List QRange → List QRange
  | [] => [r]
  | x :: xs => if keyLt r.key x.key then r :: x :: xs else x :: qInsert r xs

/-- Sizes of the contiguous ranges for `n` slices on `m` cells (R152). -/
def splitSizes (n m : Nat) : List Nat := (List.range m).map (fun j => n / m + (if j < n % m then 1 else 0))

/-- Distribute ranges starting at slice `first` over the named queues. -/
def distribute (t st due prio : Nat) : List Nat → List Nat → Nat → List (List QRange) → List (List QRange)
  | c :: cs, z :: zs, first, q =>
    distribute t st due prio cs zs (first + z) (if z = 0 then q else modAt (qInsert ⟨t, st, first, z, due, prio⟩) c q)
  | _, _, _, q => q

/-- The cores of the usable split cells, ascending. -/
def Chan.capCores (c : Chan) : List Nat := c.splitCells.flatMap (fun n => [2 * n, 2 * n + 1])

/-- Set AVAIL_P in every cell of the partition that waits in tk.wait, and count each setting (R154). -/
def Chan.availAll (c : Chan) (cap : Bool) : Chan :=
  let waitingCell (n : Nat) : Bool :=
    let x := c.cell n
    (if cap then x.mode == .split && (x.core0.waiting == .tkWait || x.core1.waiting == .tkWait)
     else x.mode == .bonded && x.core0.waiting == .tkWait)
  let set (k : CoreSt) : CoreSt := if k.waiting = .tkWait then { k with irqP := k.irqP ||| 1#11 } else k
  /- each core of a split cell has its own AVAIL_P; a bonded cell has one -/
  let settings (n : Nat) : Nat :=
    if !waitingCell n then 0
    else if cap then ((c.cell n).core0.waiting == .tkWait).toNat + ((c.cell n).core1.waiting == .tkWait).toNat
    else 1
  { c with
    cells := (List.range 8).foldl (fun cs n => if waitingCell n then modAt (fun x => { x with core0 := set x.core0, core1 := set x.core1 }) n cs else cs) c.cells
    sl := { c.sl with availCnt := (List.range 8).foldl (fun l n => modAt (fun w => satAdd w (settings n)) n l) c.sl.availCnt } }

/-- A stage becomes available: its slices are divided into ranges (R152, R155), and every range inserted sets AVAIL_P (R154). -/
def Chan.startStage (c : Chan) (t : TaskRt) (i : Inst) (st : Nat) : Chan :=
  let n := (t.decl.stage st).slices
  let cells := if t.decl.cap then c.capCores else c.bondedCells
  let sizes := splitSizes n cells.length
  let e := c.sl.updTask t.decl.num (fun x => x.updInst (fun y => { y with stage := st, left := n }))
  let e := if t.decl.cap then { e with cq := distribute t.decl.num st i.due t.decl.prio cells sizes 0 e.cq }
           else { e with q := distribute t.decl.num st i.due t.decl.prio cells sizes 0 e.q }
  (sizes.filter (fun z => decide (0 < z))).foldl (fun (c : Chan) _ => c.availAll t.decl.cap) { c with sl := e }

/-- The first range of a queue. -/
def qHead (q : List (List QRange)) (n : Nat) : Option QRange := ((q[n]?).getD []).head?

/-- Whether a range's slices have all faulted on cell `cell` (a slice put back after a fault, R156). -/
def SliceBlk.barredOn (e : SliceBlk) (r : QRange) (cell : Nat) : Bool :=
  match e.task r.task with
  | none => false
  | some t =>
    match t.inst with
    | none => false
    | some i => (List.range r.n).all (fun k => i.faultedOn.contains (r.stage, r.lo + k, cell))

/-- The earliest key among the first ranges that the cell may take from. -/
def earliest (heads : List (Nat × QRange)) : Option (Nat × Nat) :=
  heads.foldl (fun best h => match best with
    | none => some h.2.key
    | some k => if keyLt h.2.key k then some h.2.key else some k) none

/-- Better victim: more untaken slices, then earlier in cyclic order after `c` (R153). -/
def victimLt (c m : Nat) (a b : Nat × QRange) : Bool :=
  a.2.n > b.2.n || (a.2.n == b.2.n && (a.1 + m - c - 1) % m < (b.1 + m - c - 1) % m)

/-- The victim among queues whose first range has the key: halted cells first, lowest number first (R153). -/
def victim (c m : Nat) (halted : Nat → Bool) (heads : List (Nat × QRange)) : Option (Nat × QRange) :=
  match heads.find? (fun h => halted h.1) with
  | some h => some h
  | none => heads.foldl (fun best h => match best with
      | none => some h
      | some b => if victimLt c m h b then some h else some b) none

/-- Take the lowest untaken slice of the first range of a queue. -/
def qTake (n : Nat) (q : List (List QRange)) : List (List QRange) :=
  modAt (fun l => match l with
    | [] => []
    | r :: rs => if r.n ≤ 1 then rs else { r with lo := r.lo + 1, n := r.n - 1 } :: rs) n q

/-- Move the upper max(1, r/2) slices of the victim's first range to the head of queue `n` (R153 step 4). -/
def qGlean (v n : Nat) (r : QRange) (q : List (List QRange)) : List (List QRange) :=
  let k := if r.n ≤ 1 then 1 else r.n / 2
  let q := modAt (fun l => match l with
    | [] => []
    | x :: xs => if x.n ≤ k then xs else { x with n := x.n - k } :: xs) v q
  modAt (fun l => { r with lo := r.lo + r.n - k, n := k } :: l) n q

/-- tk.next for queue `n` of `m` (R153): the queues after it and the slice taken, with whether it gleaned. DESIGN CHOICE (log entry 93): a
first range whose slices have all faulted on the cell does not count in the search for the earliest key, so the cell goes on to the next key. -/
def SliceBlk.next (e : SliceBlk) (q : List (List QRange)) (n m : Nat) (cellOf : Nat → Nat) (halted : Nat → Bool) :
    Option (List (List QRange) × QRange × Bool) :=
  let heads := (List.range m).filterMap (fun k => (qHead q k).map (fun r => (k, r)))
  let open_ := heads.filter (fun h => !e.barredOn h.2 (cellOf n))
  match earliest open_ with
  | none => none
  | some key =>
    match open_.find? (fun h => h.1 == n && h.2.key == key) with
    | some h => some (qTake n q, h.2, false)
    | none =>
      match victim n m halted (open_.filter (fun h => h.2.key == key)) with
      | none => none
      | some (v, r) =>
        let k := if r.n ≤ 1 then 1 else r.n / 2
        some (qTake n (qGlean v n r q), { r with lo := r.lo + r.n - k, n := k }, true)

/-! Completion (R155, R157) -/

/-- The voting channels a completion notice counts for: a notice of channel `from_` for task `n` due at `due`. -/
def SliceBlk.addNotice (e : SliceBlk) (n due : Nat) (from_ : Ch) : SliceBlk :=
  e.updTask n (fun t => t.updInst (fun i =>
    if i.due = due && !i.notices.contains from_ then { i with notices := i.notices ++ [from_] } else i))

/-- A slice of the stage is complete: posts taken over, barrier passed, task completed (R155). -/
def Chan.sliceDone (c : Chan) (h : Word) (ops : List TimerOp) : Chan :=
  match c.sl.task (hTask h) with
  | none => c
  | some t =>
    match t.inst with
    | none => c
    | some i =>
      if i.abandoned || i.complete || hStage h ≠ i.stage then c
      else
        let i1 := { i with left := i.left - 1, posts := i.posts ++ ops.map (fun o => ⟨hStage h, hSlice h, o⟩) }
        let put (j : Inst) : Chan := { c with sl := c.sl.updTask (hTask h) (fun x => { x with inst := some j }) }
        if i1.left > 0 then put i1
        else if i1.stage < t.decl.last then
          (put i1).startStage { t with inst := some i1 } i1 (i1.stage + 1)
        else
          let dt := BitVec.ofNat 32 (min (c.now - i1.stamp) 0xFFFFFFFF)
          { c with sl := c.sl.updTask (hTask h) (fun x =>
              { x with inst := some { i1 with complete := true, doneAt := c.now }, lastTime := dt }) }

/-! Slice faults (R156, R161) -/

/-- Replace `n` words from `off` by those of another list. -/
def copyW (src : List Word) (off n : Nat) (dst : List Word) : List Word :=
  dst.take off ++ fixW (min n (dst.length - off)) ((src.drop off).take n) ++ dst.drop (off + n)

/-- Restore a slice's words in the working banks to their values at release. -/
def TaskRt.restore (t : TaskRt) (st sl : Nat) : TaskRt :=
  let d := t.decl.stage st
  let t := if st = t.decl.last then { t with outWork := copyW [] (sl * d.outW) d.outW t.outWork }
           else { t with stageOut := copyW [] (t.decl.soBase st + sl * d.outW) d.outW t.stageOut }
  { t with rsWork := copyW t.rsPub (t.decl.rsBase st + sl * d.rsW) d.rsW t.rsWork }

/-- Remove every range of a task from the queues. -/
def qDrop (t : Nat) (q : List (List QRange)) : List (List QRange) := q.map (fun l => l.filter (fun r => r.task != t))

/-- Discard the instance of a task: its ranges leave the queues, and cores running a slice of it lose it. -/
def Chan.dropInst (c : Chan) (n : Nat) : Chan :=
  let clr (k : CoreSt) : CoreSt := if k.slice ≠ 0#32 && hTask k.slice = n then
      { k with slice := 0#32, posts := [], waiting := if k.waiting = .sdone then .none else k.waiting } else k
  { c with
    cells := c.cells.map (fun x => { x with core0 := clr x.core0, core1 := clr x.core1 })
    sl := { c.sl.updTask n (fun t => { t with inst := none }) with q := qDrop n c.sl.q, cq := qDrop n c.sl.cq } }

/-- Abandon the instance of a task (R161): nothing is counted but the flag; it is decided at its due boundary, and in TRIAL remembered for
the judgement of R210. -/
def Chan.abandon (c : Chan) (n : Nat) : Chan :=
  let keep := (c.sl.task n).bind (·.inst)
  let c := c.dropInst n
  { c with sl := { c.sl.updTask n (fun t => { t with inst := keep.map (fun i => { i with abandoned := true }) }) with
      abandons := if c.chg.state = .trial then ((keep.map (fun i => (n, i.relC, c.tb.c))).toList ++ c.sl.abandons).take 64 else []
      flag := c.sl.flag.raise 3 } }

/-- A slice fault of handle `h` on cell `cell` with cause code (R156). -/
def Chan.sliceFault (c : Chan) (cell : Nat) (h : Word) (cause : Nat) : Chan :=
  match c.sl.task (hTask h) with
  | none => c
  | some t =>
    match t.inst with
    | none => c
    | some i =>
      let k := (i.attempts.find? (fun a => a.1 == hStage h && a.2.1 == hSlice h)).map (fun a => a.2.2) |>.getD 0
      let att := k + 1
      let i1 := { i with
        attempts := (hStage h, hSlice h, att) :: i.attempts.filter (fun a => !(a.1 == hStage h && a.2.1 == hSlice h))
        faultedOn := (hStage h, hSlice h, cell) :: i.faultedOn }
      let e := c.sl.updTask (hTask h) (fun x => { (x.restore (hStage h) (hSlice h)) with inst := some i1 })
      let e := { e with flag := e.flag.raise 2, fault := ⟨h, cell, att, cause⟩ }
      let c1 := { c with sl := e }
      let others := c.bondedCells.filter (· ≠ cell)
      if 3 ≤ att || others.isEmpty then c1.abandon (hTask h)
      else
        ({ c1 with sl := { c1.sl with q := modAt (fun l => ⟨hTask h, hStage h, hSlice h, 1, i.due, t.decl.prio⟩ :: l) cell c1.sl.q } }).availAll false

/-! Digests (R175 to R177) -/

/-- The term of one word (R175). -/
def digTerm (a t i : Nat) (v : Word) : W64 :=
  crc64 (leB 4 (a * 268435456 + t * 4194304) ++ leB 4 i ++ leB 4 v.toNat)

/-- The sum of the terms of words numbered from `i`. -/
def sumFrom (a t : Nat) : Nat → List Word → W64
  | _, [] => 0#64
  | i, w :: ws => digTerm a t i w + sumFrom a t (i + 1) ws

/-- Qualifier bytes taken four to a word (R175 code 4). -/
def qualWords (q : List Byte) : List Word := bytesWords ((q.length + 3) / 4) (pad4 q)

/-- The words of an area of a task (R175): 1 output bank, 2 retained bank, 3 frozen input, 4 qualifiers, 5 status words. -/
def TaskRt.area (t : TaskRt) : Nat → List Word
  | 1 => t.outPub
  | 2 => t.rsPub
  | 3 => t.inImg
  | 4 => qualWords t.qual
  | 5 => t.edges.map (·.rise) ++ t.edges.map (·.fall) ++ [BitVec.ofNat 32 t.ovrRun, t.ovrTotal]
  | _ => []

/-- The words of page `p` of an area (R175: 256 words). -/
def pageOf (l : List Word) (p : Nat) : List Word := (l.drop (256 * p)).take 256

/-- The number of pages of an area. -/
def pageCount (l : List Word) : Nat := (l.length + 255) / 256

/-- The page sum of page `p` of an area of a task. -/
def TaskRt.pageSum (t : TaskRt) (a p : Nat) : W64 := sumFrom a t.decl.num (256 * p) (pageOf (t.area a) p)

/-- The area sum (R175). -/
def TaskRt.areaSum (t : TaskRt) (a : Nat) : W64 := sumFrom a t.decl.num 0 (t.area a)

/-- The output digest of boundary `cc` over published banks (R176). -/
def outDigest (tasks : List TaskRt) (cc : Nat) : W64 :=
  crc64 (leB 4 cc ++ (List.range 64).flatMap (fun n =>
    leB 8 (match tasks.find? (fun (t : TaskRt) => t.decl.num == n && !t.decl.cap) with
      | some t => t.areaSum 1
      | none => 0#64).toNat))

/-- Elapsed µs of a timer at a stamp, saturating (R164). -/
def Timer.elapsed (t : Timer) (b : Nat) : Nat := min (((b : Int) - t.start) / 1000).toNat 0xFFFFFFFF

/-- Running 1 or expired 2 at a stamp (R164). -/
def Timer.stateAt (t : Timer) (b : Nat) : Nat := if t.dur.toNat ≤ t.elapsed b then 2 else 1

/-- The 20 octets of a timer entry (R177). -/
def Timer.octets (t : Timer) (b : Nat) : List Byte :=
  leB 4 t.id.toNat ++ leB 4 t.dur.toNat ++ leB 8 (BitVec.ofInt 64 t.start).toNat ++ leB 4 (t.stateAt b)

/-- The timer digest at a stamp (R177). -/
def timerDigest (ts : List Timer) (b : Nat) : W64 := ts.foldl (fun a t => a + crc64 (t.octets b)) 0#64

/-- The retained digest of a boundary (R177). -/
def retDigest (tasks : List TaskRt) (timers : List Timer) (cc b : Nat) : W64 :=
  crc64 (leB 4 cc ++ ((tasks.filter (fun t => !t.decl.cap)).flatMap (fun (t : TaskRt) =>
    [3, 4, 2, 1, 5].flatMap (fun a => leB 8 (t.areaSum a).toNat))) ++ leB 8 (timerDigest timers b).toNat)

/-- The pair digest of a boundary (R312). -/
def pairDigest (tasks : List TaskRt) (timers : List Timer) (k b : Nat) : W64 :=
  crc64 (leB 4 k ++ ((tasks.filter (fun t => !t.decl.cap)).flatMap (fun (t : TaskRt) =>
    [2, 1].flatMap (fun a => leB 8 (t.areaSum a).toNat))) ++ leB 8 (timerDigest timers b).toNat)

/-! Timers (R163 to R166) -/

/-- Insert or restart a timer in ascending identity. -/
def timerPut (t : Timer) : List Timer → List Timer
  | [] => [t]
  | x :: xs => if t.id.toNat < x.id.toNat then t :: x :: xs else if x.id = t.id then t :: xs else x :: timerPut t xs

/-- Apply one timer operation; a start that finds the table full is discarded (R166). -/
def TimeBlk.applyOp (b : TimeBlk) : TimerOp → TimeBlk
  | .start id dur st =>
    if b.timers.any (fun t => t.id == id) || b.timers.length < 4096 then { b with timers := timerPut ⟨id, dur, st⟩ b.timers }
    else { b with tmrFlag := b.tmrFlag.raise 0 }
  | .stop id => { b with timers := b.timers.filter (fun t => t.id != id) }

/-- Posted operations in the order of R163: stage, slice, program order. -/
def orderPosts (ps : List Post) : List TimerOp :=
  let ks := ps.map (fun p => (p.stage, p.slice))
  let stages := (List.range 16).filter (fun st => ks.any (fun k => k.1 == st))
  stages.flatMap (fun st =>
    ((List.range 1024).filter (fun sl => ks.any (fun k => k.1 == st && k.2 == sl))).flatMap (fun sl =>
      (ps.filter (fun p => p.stage == st && p.slice == sl)).map (·.op)))

/-! Commit (R159) -/

/-- Exchange the banks of a task and end its instance; a translated program's commits count alike. -/
def TaskRt.commit (t : TaskRt) : TaskRt :=
  { t with outPub := t.outWork, outWork := t.outPub, rsPub := t.rsWork, rsWork := t.rsPub, inst := none, ovrRun := 0, commits := t.commits + 1 }

/-- Commit task `n` of a channel, with its timer posts unless timers are frozen (R186 step 2). Answers the operations applied. -/
def Chan.commitTask (c : Chan) (n : Nat) (timers : Bool) : Chan × List TimerOp :=
  match c.sl.task n with
  | none => (c, [])
  | some t =>
    match t.inst with
    | none => (c, [])
    | some i =>
      let ops := if timers then orderPosts i.posts else []
      ({ c with
          tb := ops.foldl TimeBlk.applyOp c.tb
          sl := { c.sl.updTask n (fun x => x.commit) with q := qDrop n c.sl.q, cq := qDrop n c.sl.cq } }, ops)

end Sys2Proof.Machine
end

