-- ==== Sys2Proof/Machine/Objects.lean ====
section
/-! DEFINITION. The object descriptors of every chapter's object table, and configuration values as the journal holds them (R368 to R373, R386). -/

namespace Sys2Proof.Machine
open Sys2Proof

/-- A run of objects of one descriptor (R369): first and last address, type code, greatest length, exact length, read and write mask,
class (0 V, 1 J, 2 H, 3 M, 4 F), default. -/
structure ObjRow where
  idx0 : Nat
  sub0 : Nat
  idx1 : Nat
  sub1 : Nat
  typ : Nat
  maxLen : Nat
  fixed : Bool
  rmask : Nat
  wmask : Nat
  cls : Nat
  dflt : Nat
deriving DecidableEq, Repr

/-- Object descriptors, part 0 (the object tables of the chapters, in ascending address). -/
def objRows0 : List ObjRow := [
  ⟨0x1000, 1, 0x1000, 1, 13, 16, false, 0xFFF, 0x0, 4, 0x0⟩,
  ⟨0x1000, 2, 0x1000, 2, 2, 1, false, 0xFFF, 0x0, 4, 0x0⟩,
  ⟨0x1000, 3, 0x1000, 3, 13, 10, false, 0xFFF, 0x0, 4, 0x0⟩,
  ⟨0x1000, 4, 0x1000, 4, 3, 2, false, 0xFFF, 0x0, 4, 0x0⟩,
  ⟨0x1000, 5, 0x1000, 5, 4, 4, false, 0xFFF, 0x0, 4, 0x0⟩,
  ⟨0x1000, 6, 0x1000, 6, 4, 4, false, 0xFFF, 0x0, 0, 0x0⟩,
  ⟨0x1000, 7, 0x1000, 7, 14, 32, true, 0xFFF, 0x0, 0, 0x0⟩,
  ⟨0x1000, 8, 0x1000, 8, 2, 1, false, 0xFFF, 0x0, 0, 0x0⟩,
  ⟨0x1001, 1, 0x1001, 1, 2, 1, false, 0xFFF, 0x10, 2, 0x0⟩,
  ⟨0x1002, 1, 0x1002, 1, 13, 32, false, 0xFFF, 0x210, 1, 0x0⟩,
  ⟨0x1010, 1, 0x1010, 1, 2, 1, false, 0xFFF, 0x0, 0, 0x1⟩,
  ⟨0x1010, 2, 0x1010, 2, 2, 1, false, 0xFFF, 0x0, 0, 0x0⟩,
  ⟨0x1010, 3, 0x1010, 5, 2, 1, false, 0xFFF, 0x0, 0, 0x1⟩,
  ⟨0x1010, 6, 0x1010, 6, 4, 4, false, 0xFFF, 0x0, 0, 0x0⟩,
  ⟨0x1011, 1, 0x1011, 1, 2, 1, false, 0x0, 0xFFF, 0, 0x0⟩,
  ⟨0x1012, 1, 0x1012, 1, 1, 1, false, 0xFFF, 0x10, 2, 0x1⟩,
  ⟨0x1012, 2, 0x1012, 2, 3, 2, false, 0xFFF, 0x10, 2, 0xA⟩,
  ⟨0x1012, 3, 0x1012, 3, 2, 1, false, 0xFFF, 0x10, 2, 0x3⟩,
  ⟨0x1020, 1, 0x1020, 1, 12, 8, false, 0xFFF, 0x0, 0, 0x0⟩,
  ⟨0x1020, 2, 0x1020, 2, 5, 8, false, 0xFFF, 0x0, 0, 0x0⟩,
  ⟨0x1020, 3, 0x1020, 3, 2, 1, false, 0xFFF, 0x0, 0, 0x0⟩,
  ⟨0x1020, 4, 0x1020, 4, 1, 1, false, 0xFFF, 0x0, 0, 0x0⟩,
  ⟨0x1020, 5, 0x1020, 5, 9, 8, false, 0xFFF, 0x0, 0, 0x0⟩,
  ⟨0x1020, 6, 0x1020, 6, 8, 4, false, 0xFFF, 0x0, 0, 0x0⟩,
  ⟨0x1020, 7, 0x1020, 7, 8, 4, false, 0xFFF, 0x0, 0, 0x0⟩,
  ⟨0x1021, 1, 0x1021, 1, 3, 2, false, 0xFFF, 0x10, 2, 0xFA⟩,
  ⟨0x1021, 2, 0x1021, 2, 4, 4, false, 0xFFF, 0x10, 2, 0x0⟩,
  ⟨0x1022, 1, 0x1022, 1, 2, 1, false, 0xFFF, 0x10, 2, 0x0⟩,
  ⟨0x1022, 2, 0x1022, 2, 4, 4, false, 0xFFF, 0x10, 2, 0x3E8⟩,
  ⟨0x1023, 1, 0x1023, 3, 4, 4, false, 0xFFF, 0x0, 0, 0x0⟩,
  ⟨0x1023, 4, 0x1023, 6, 4, 4, false, 0xFFF, 0x0, 0, 0x0⟩,
  ⟨0x1024, 1, 0x1024, 3, 4, 4, false, 0xFFF, 0x0, 0, 0x0⟩,
  ⟨0x1024, 4, 0x1024, 6, 4, 4, false, 0xFFF, 0x0, 0, 0xFF00⟩,
  ⟨0x1024, 7, 0x1024, 9, 4, 4, false, 0xFFF, 0x0, 0, 0x0⟩,
  ⟨0x1025, 1, 0x1025, 1, 2, 1, false, 0xFFF, 0x210, 1, 0x2⟩,
  ⟨0x1025, 2, 0x1025, 2, 2, 1, false, 0xFFF, 0x210, 1, 0x0⟩,
  ⟨0x1025, 3, 0x1025, 3, 4, 4, false, 0xFFF, 0x210, 1, 0x1⟩,
  ⟨0x1025, 4, 0x1025, 4, 1, 1, false, 0xFFF, 0x210, 1, 0x0⟩,
  ⟨0x1030, 1, 0x1030, 3, 4, 4, false, 0xFFF, 0x0, 0, 0x0⟩,
  ⟨0x1031, 1, 0x1031, 3, 3, 2, false, 0xFFF, 0x0, 0, 0x0⟩]

/-- Object descriptors, part 1 (the object tables of the chapters, in ascending address). -/
def objRows1 : List ObjRow := [
  ⟨0x1031, 4, 0x1031, 6, 3, 2, false, 0xFFF, 0x0, 0, 0x0⟩,
  ⟨0x1032, 1, 0x1032, 3, 7, 2, false, 0xFFF, 0x0, 0, 0x0⟩,
  ⟨0x1032, 4, 0x1032, 6, 7, 2, false, 0xFFF, 0x0, 0, 0x0⟩,
  ⟨0x1032, 7, 0x1032, 7, 7, 2, false, 0xFFF, 0x0, 0, 0x0⟩,
  ⟨0x1033, 1, 0x1033, 3, 4, 4, false, 0xFFF, 0x0, 0, 0x0⟩,
  ⟨0x1033, 4, 0x1033, 6, 4, 4, false, 0xFFF, 0x0, 0, 0x0⟩,
  ⟨0x1034, 1, 0x1034, 1, 3, 2, false, 0xFFF, 0x0, 0, 0x0⟩,
  ⟨0x1040, 1, 0x1040, 1, 4, 4, false, 0xFFF, 0x0, 0, 0x0⟩,
  ⟨0x1040, 2, 0x1040, 2, 4, 4, false, 0xFFF, 0x0, 1, 0x0⟩,
  ⟨0x1040, 3, 0x1040, 3, 1, 1, false, 0xFFF, 0x0, 1, 0x0⟩,
  ⟨0x1040, 4, 0x1040, 4, 4, 4, false, 0x0, 0x10, 0, 0x0⟩,
  ⟨0x1040, 5, 0x1040, 5, 1, 1, false, 0xFFF, 0xFE0, 1, 0x0⟩,
  ⟨0x1040, 6, 0x1040, 6, 4, 4, false, 0xFFF, 0x0, 0, 0x0⟩,
  ⟨0x1041, 1, 0x1041, 3, 4, 4, false, 0xFFF, 0x0, 0, 0x0⟩,
  ⟨0x1041, 4, 0x1041, 6, 4, 4, false, 0xFFF, 0x0, 0, 0x0⟩,
  ⟨0x1041, 7, 0x1041, 9, 4, 4, false, 0xFFF, 0x0, 0, 0x0⟩,
  ⟨0x1041, 10, 0x1041, 12, 4, 4, false, 0xFFF, 0x0, 0, 0x0⟩,
  ⟨0x1042, 1, 0x1042, 3, 4, 4, false, 0xFFF, 0x0, 0, 0x0⟩,
  ⟨0x1042, 4, 0x1042, 6, 4, 4, false, 0xFFF, 0x0, 0, 0x0⟩,
  ⟨0x1042, 7, 0x1042, 7, 4, 4, false, 0xFFF, 0x0, 0, 0x0⟩,
  ⟨0x1060, 1, 0x1060, 3, 4, 4, false, 0xFFF, 0x0, 0, 0x0⟩,
  ⟨0x1060, 4, 0x1060, 4, 2, 1, false, 0xFFF, 0x0, 0, 0xFF⟩,
  ⟨0x1060, 5, 0x1060, 7, 4, 4, false, 0xFFF, 0x0, 0, 0x0⟩,
  ⟨0x1061, 1, 0x1061, 64, 4, 4, false, 0xFFF, 0x10, 1, 0x0⟩,
  ⟨0x1400, 1, 0x1400, 3, 4, 4, false, 0xFFF, 0x0, 0, 0x0⟩,
  ⟨0x1400, 4, 0x1400, 6, 4, 4, false, 0xFFF, 0x0, 0, 0x0⟩,
  ⟨0x1400, 7, 0x1400, 9, 4, 4, false, 0xFFF, 0x0, 0, 0x0⟩,
  ⟨0x1400, 10, 0x1400, 12, 4, 4, false, 0xFFF, 0x0, 0, 0x0⟩,
  ⟨0x1400, 13, 0x1400, 15, 4, 4, false, 0xFFF, 0x0, 0, 0x0⟩,
  ⟨0x1400, 16, 0x1400, 18, 4, 4, false, 0xFFF, 0x0, 0, 0x0⟩,
  ⟨0x1410, 1, 0x1410, 3, 4, 4, false, 0xFFF, 0xFF0, 0, 0x0⟩,
  ⟨0x1411, 1, 0x1411, 3, 14, 516, false, 0xFFF, 0x0, 0, 0x0⟩,
  ⟨0x1412, 1, 0x1412, 3, 14, 7680, false, 0xFFF, 0x0, 0, 0x0⟩,
  ⟨0x2001, 1, 0x2001, 1, 2, 1, false, 0xFFF, 0x10, 2, 0x0⟩,
  ⟨0x2001, 2, 0x2001, 2, 2, 1, false, 0xFFF, 0x10, 2, 0x5⟩,
  ⟨0x2001, 3, 0x2001, 3, 2, 1, false, 0xFFF, 0x10, 2, 0x40⟩,
  ⟨0x2001, 4, 0x2001, 4, 2, 1, false, 0xFFF, 0x10, 2, 0x40⟩,
  ⟨0x2002, 1, 0x2002, 3, 4, 4, false, 0xFFF, 0x0, 0, 0x0⟩,
  ⟨0x2003, 1, 0x2003, 3, 3, 2, false, 0xFFF, 0x0, 0, 0x0⟩,
  ⟨0x2004, 1, 0x2004, 3, 4, 4, false, 0xFFF, 0x0, 0, 0x0⟩]

/-- Object descriptors, part 2 (the object tables of the chapters, in ascending address). -/
def objRows2 : List ObjRow := [
  ⟨0x2010, 1, 0x2010, 3, 4, 4, false, 0xFFF, 0x0, 0, 0x0⟩,
  ⟨0x2011, 1, 0x2011, 3, 2, 1, false, 0xFFF, 0x200, 3, 0x0⟩,
  ⟨0x2012, 1, 0x2012, 3, 4, 4, false, 0xFFF, 0x0, 0, 0xFFFFFFFF⟩,
  ⟨0x2013, 1, 0x2013, 9, 4, 4, false, 0xFFF, 0x0, 0, 0x0⟩,
  ⟨0x2020, 1, 0x2020, 3, 4, 4, false, 0xFFF, 0x0, 0, 0x0⟩,
  ⟨0x2020, 4, 0x2020, 6, 4, 4, false, 0xFFF, 0x0, 0, 0x0⟩,
  ⟨0x2021, 1, 0x2021, 24, 4, 4, false, 0xFFF, 0x0, 0, 0x0⟩,
  ⟨0x2022, 1, 0x2022, 3, 4, 4, false, 0xFFF, 0x0, 0, 0x0⟩,
  ⟨0x2022, 4, 0x2022, 6, 4, 4, false, 0xFFF, 0x0, 0, 0x0⟩,
  ⟨0x2030, 1, 0x2030, 1, 2, 1, false, 0xFFF, 0x10, 2, 0xA⟩,
  ⟨0x2030, 2, 0x2030, 2, 2, 1, false, 0xFFF, 0x10, 2, 0x3⟩,
  ⟨0x2031, 1, 0x2031, 64, 4, 4, false, 0xFFF, 0x0, 0, 0xC0000000⟩,
  ⟨0x2032, 1, 0x2032, 64, 4, 4, false, 0xFFF, 0x0, 0, 0xC0000000⟩,
  ⟨0x2033, 1, 0x2033, 64, 4, 4, false, 0xFFF, 0x0, 0, 0xC0000000⟩,
  ⟨0x2034, 1, 0x2034, 64, 4, 4, false, 0xFFF, 0x0, 0, 0x0⟩,
  ⟨0x2035, 1, 0x2035, 3, 4, 4, false, 0xFFF, 0x0, 0, 0x0⟩,
  ⟨0x2035, 4, 0x2035, 6, 4, 4, false, 0xFFF, 0x0, 0, 0x0⟩,
  ⟨0x2035, 7, 0x2035, 9, 4, 4, false, 0xFFF, 0x0, 0, 0x0⟩,
  ⟨0x2036, 1, 0x2036, 3, 3, 2, false, 0xFFF, 0x0, 0, 0x0⟩,
  ⟨0x2036, 4, 0x2036, 6, 4, 4, false, 0xFFF, 0x0, 0, 0x0⟩,
  ⟨0x2037, 1, 0x2037, 3, 4, 4, false, 0xFFF, 0x0, 0, 0x0⟩,
  ⟨0x2037, 4, 0x2037, 6, 4, 4, false, 0xFFF, 0x0, 0, 0x0⟩,
  ⟨0x2040, 1, 0x2040, 1, 2, 1, false, 0x0, 0xFFF, 0, 0x0⟩,
  ⟨0x2040, 2, 0x2040, 2, 2, 1, false, 0xFFF, 0x0, 0, 0x0⟩,
  ⟨0x2040, 3, 0x2040, 3, 4, 4, false, 0x0, 0x180, 0, 0x0⟩,
  ⟨0x2040, 4, 0x2040, 4, 4, 4, false, 0xFFF, 0x0, 0, 0x0⟩,
  ⟨0x2040, 5, 0x2040, 5, 3, 2, false, 0xFFF, 0x190, 1, 0xFA0⟩,
  ⟨0x2040, 6, 0x2040, 6, 4, 4, false, 0xFFF, 0x190, 1, 0x258⟩,
  ⟨0x2040, 7, 0x2040, 7, 2, 1, false, 0xFFF, 0x0, 0, 0x0⟩,
  ⟨0x2041, 1, 0x2041, 10, 4, 4, false, 0xFFF, 0x0, 0, 0x0⟩,
  ⟨0x2042, 1, 0x2042, 3, 4, 4, false, 0xFFF, 0x0, 0, 0x0⟩,
  ⟨0x2050, 1, 0x2050, 1, 2, 1, false, 0xFFF, 0x0, 0, 0x0⟩,
  ⟨0x2050, 2, 0x2050, 2, 2, 1, false, 0xFFF, 0x0, 0, 0x0⟩,
  ⟨0x2050, 3, 0x2050, 3, 4, 4, false, 0xFFF, 0x0, 0, 0x0⟩,
  ⟨0x2050, 4, 0x2050, 4, 3, 2, false, 0xFFF, 0x0, 0, 0x0⟩,
  ⟨0x2050, 5, 0x2050, 5, 14, 32, true, 0xFFF, 0x0, 0, 0x0⟩,
  ⟨0x2051, 1, 0x2051, 1, 4, 4, false, 0xFFF, 0x0, 0, 0x0⟩,
  ⟨0x2400, 1, 0x2400, 1, 3, 2, false, 0xFFF, 0x10, 2, 0x2D0⟩,
  ⟨0x2401, 1, 0x2401, 3, 4, 4, false, 0xFFF, 0x0, 0, 0x3300⟩,
  ⟨0x2402, 1, 0x2402, 3, 4, 4, false, 0xFFF, 0x0, 0, 0x0⟩]

/-- Object descriptors, part 3 (the object tables of the chapters, in ascending address). -/
def objRows3 : List ObjRow := [
  ⟨0x2402, 4, 0x2402, 4, 4, 4, false, 0xFFF, 0x0, 0, 0x0⟩,
  ⟨0x2403, 1, 0x2403, 3, 4, 4, false, 0xFFF, 0x0, 0, 0x0⟩,
  ⟨0x2403, 4, 0x2403, 6, 4, 4, false, 0xFFF, 0x0, 0, 0x0⟩,
  ⟨0x2404, 1, 0x2404, 3, 2, 1, false, 0xFFF, 0x0, 0, 0x0⟩,
  ⟨0x2405, 1, 0x2405, 3, 4, 4, false, 0xFFF, 0x0, 0, 0x0⟩,
  ⟨0x2405, 4, 0x2405, 6, 4, 4, false, 0xFFF, 0x0, 0, 0x0⟩,
  ⟨0x2406, 1, 0x2406, 1, 4, 4, false, 0xFFF, 0x0, 3, 0x0⟩,
  ⟨0x2410, 1, 0x2410, 3, 4, 4, false, 0xFFF, 0x0, 0, 0x0⟩,
  ⟨0x2800, 1, 0x2800, 1, 2, 1, false, 0xFFF, 0x10, 2, 0x0⟩,
  ⟨0x2800, 2, 0x2800, 2, 2, 1, false, 0xFFF, 0x10, 2, 0xFF⟩,
  ⟨0x2800, 3, 0x2800, 3, 2, 1, false, 0xFFF, 0x10, 2, 0x0⟩,
  ⟨0x2800, 4, 0x2800, 4, 2, 1, false, 0xFFF, 0x10, 2, 0xFF⟩,
  ⟨0x2801, 1, 0x2801, 1, 4, 4, false, 0xFFF, 0x0, 0, 0x0⟩,
  ⟨0x2801, 2, 0x2801, 2, 3, 2, false, 0xFFF, 0x10, 2, 0x0⟩,
  ⟨0x2801, 3, 0x2801, 3, 2, 1, false, 0xFFF, 0x10, 2, 0x2⟩,
  ⟨0x2801, 4, 0x2801, 4, 3, 2, false, 0xFFF, 0x10, 2, 0x0⟩,
  ⟨0x2802, 1, 0x2802, 255, 5, 8, false, 0xFFF, 0x10, 2, 0x0⟩,
  ⟨0x2803, 1, 0x2803, 16, 5, 8, false, 0xFFF, 0x10, 2, 0x0⟩,
  ⟨0x2804, 1, 0x2804, 8, 4, 4, false, 0xFFF, 0x10, 2, 0x0⟩,
  ⟨0x2805, 1, 0x2805, 1, 4, 4, false, 0xFFF, 0x0, 0, 0x0⟩,
  ⟨0x2805, 2, 0x2805, 2, 3, 2, false, 0xFFF, 0x10, 2, 0x0⟩,
  ⟨0x2805, 3, 0x2805, 3, 2, 1, false, 0xFFF, 0x10, 2, 0x2⟩,
  ⟨0x2805, 4, 0x2805, 4, 3, 2, false, 0xFFF, 0x10, 2, 0x0⟩,
  ⟨0x2806, 1, 0x2806, 255, 5, 8, false, 0xFFF, 0x10, 2, 0x0⟩,
  ⟨0x2807, 1, 0x2807, 16, 5, 8, false, 0xFFF, 0x10, 2, 0x0⟩,
  ⟨0x2808, 1, 0x2808, 8, 4, 4, false, 0xFFF, 0x10, 2, 0x0⟩,
  ⟨0x2810, 1, 0x2810, 1, 2, 1, false, 0xFFF, 0x0, 0, 0x0⟩,
  ⟨0x2810, 2, 0x2810, 2, 2, 1, false, 0xFFF, 0x0, 0, 0x0⟩,
  ⟨0x2810, 3, 0x2810, 3, 1, 1, false, 0xFFF, 0x0, 0, 0x0⟩,
  ⟨0x2810, 4, 0x2810, 4, 1, 1, false, 0xFFF, 0x0, 0, 0x0⟩,
  ⟨0x2810, 5, 0x2810, 5, 4, 4, false, 0xFFF, 0x0, 0, 0x0⟩,
  ⟨0x2810, 6, 0x2810, 6, 4, 4, false, 0xFFF, 0x0, 0, 0x0⟩,
  ⟨0x2810, 7, 0x2810, 7, 4, 4, false, 0xFFF, 0x0, 0, 0x0⟩,
  ⟨0x2810, 8, 0x2810, 8, 4, 4, false, 0xFFF, 0x0, 0, 0x0⟩,
  ⟨0x2810, 9, 0x2810, 9, 4, 4, false, 0xFFF, 0x0, 0, 0x0⟩,
  ⟨0x2810, 10, 0x2810, 10, 4, 4, false, 0xFFF, 0x0, 0, 0x0⟩,
  ⟨0x2810, 11, 0x2810, 11, 4, 4, false, 0xFFF, 0x0, 0, 0x0⟩,
  ⟨0x2810, 12, 0x2810, 12, 4, 4, false, 0xFFF, 0x0, 0, 0x0⟩,
  ⟨0x2C00, 1, 0x2C00, 1, 4, 4, false, 0xFFF, 0x10, 2, 0x0⟩,
  ⟨0x2C00, 2, 0x2C00, 2, 2, 1, false, 0xFFF, 0x10, 2, 0x18⟩]

/-- Object descriptors, part 4 (the object tables of the chapters, in ascending address). -/
def objRows4 : List ObjRow := [
  ⟨0x2C00, 3, 0x2C00, 3, 4, 4, false, 0xFFF, 0x10, 2, 0x0⟩,
  ⟨0x2C00, 4, 0x2C00, 4, 2, 1, false, 0xFFF, 0x10, 2, 0x18⟩,
  ⟨0x2C00, 5, 0x2C00, 5, 3, 2, false, 0xFFF, 0x10, 2, 0x0⟩,
  ⟨0x2C00, 6, 0x2C00, 6, 3, 2, false, 0xFFF, 0x10, 2, 0x0⟩,
  ⟨0x2C00, 7, 0x2C00, 7, 4, 4, false, 0xFFF, 0x10, 2, 0x5E24⟩,
  ⟨0x2C00, 8, 0x2C00, 8, 4, 4, false, 0xFFF, 0x10, 2, 0x0⟩,
  ⟨0x2C00, 9, 0x2C00, 9, 2, 1, false, 0xFFF, 0x10, 2, 0x18⟩,
  ⟨0x2C00, 12, 0x2C00, 12, 2, 1, false, 0xFFF, 0x10, 2, 0x0⟩,
  ⟨0x2C01, 1, 0x2C01, 1, 14, 16, true, 0xFFF, 0x10, 2, 0x0⟩,
  ⟨0x2C10, 1, 0x2C10, 128, 5, 8, false, 0xFFF, 0x10, 2, 0x0⟩,
  ⟨0x2C11, 1, 0x2C11, 128, 5, 8, false, 0xFFF, 0x10, 2, 0x0⟩,
  ⟨0x2C12, 1, 0x2C12, 128, 4, 4, false, 0xFFF, 0x10, 2, 0x0⟩,
  ⟨0x2C13, 1, 0x2C13, 128, 4, 4, false, 0xFFF, 0x10, 2, 0x0⟩,
  ⟨0x2C20, 1, 0x2C20, 128, 5, 8, false, 0xFFF, 0x10, 2, 0x0⟩,
  ⟨0x2C21, 1, 0x2C21, 128, 4, 4, false, 0xFFF, 0x10, 2, 0x0⟩,
  ⟨0x2C22, 1, 0x2C22, 128, 4, 4, false, 0xFFF, 0x10, 2, 0x0⟩,
  ⟨0x2C23, 1, 0x2C23, 128, 4, 4, false, 0xFFF, 0x10, 2, 0x0⟩,
  ⟨0x2C40, 1, 0x2C40, 1, 4, 4, false, 0xFFF, 0x0, 0, 0x0⟩,
  ⟨0x2C40, 2, 0x2C40, 2, 4, 4, false, 0xFFF, 0x0, 0, 0x0⟩,
  ⟨0x2C40, 3, 0x2C40, 3, 5, 8, false, 0xFFF, 0x0, 0, 0x0⟩,
  ⟨0x2C40, 4, 0x2C40, 4, 7, 2, false, 0xFFF, 0x0, 0, 0x0⟩,
  ⟨0x2C80, 1, 0x2C80, 1, 3, 2, false, 0xFFF, 0x10, 2, 0x0⟩,
  ⟨0x2C81, 1, 0x2C81, 128, 5, 8, false, 0xFFF, 0x10, 2, 0x0⟩,
  ⟨0x2C82, 1, 0x2C82, 128, 5, 8, false, 0xFFF, 0x10, 2, 0x0⟩,
  ⟨0x2CF0, 1, 0x2CF0, 1, 4, 4, false, 0xFFF, 0x0, 0, 0x0⟩,
  ⟨0x2CF0, 2, 0x2CF0, 2, 4, 4, false, 0xFFF, 0x0, 0, 0x0⟩,
  ⟨0x2CF0, 3, 0x2CF0, 3, 4, 4, false, 0xFFF, 0x0, 0, 0x0⟩,
  ⟨0x2CF0, 4, 0x2CF0, 4, 4, 4, false, 0xFFF, 0x0, 0, 0x0⟩,
  ⟨0x2CF0, 5, 0x2CF0, 5, 4, 4, false, 0xFFF, 0x0, 0, 0x0⟩,
  ⟨0x2CF0, 6, 0x2CF0, 6, 4, 4, false, 0xFFF, 0x0, 0, 0x0⟩,
  ⟨0x4000, 1, 0x4000, 1, 4, 4, false, 0xFFF, 0x10, 1, 0x7D0⟩,
  ⟨0x4000, 2, 0x4000, 2, 3, 2, false, 0xFFF, 0x10, 1, 0x64⟩,
  ⟨0x4000, 3, 0x4000, 3, 1, 1, false, 0xFFF, 0x10, 1, 0x0⟩,
  ⟨0x4001, 1, 0x4001, 3, 4, 4, false, 0xFFF, 0x0, 0, 0x0⟩,
  ⟨0x4002, 1, 0x4002, 3, 4, 4, false, 0xFFF, 0x0, 0, 0x0⟩,
  ⟨0x4002, 4, 0x4002, 6, 4, 4, false, 0xFFF, 0x0, 0, 0x0⟩,
  ⟨0x4003, 1, 0x4003, 3, 4, 4, false, 0xFFF, 0x0, 0, 0x0⟩,
  ⟨0x4003, 4, 0x4003, 6, 4, 4, false, 0xFFF, 0x0, 0, 0x0⟩,
  ⟨0x4003, 7, 0x4003, 9, 4, 4, false, 0xFFF, 0x0, 0, 0x0⟩,
  ⟨0x4003, 10, 0x4003, 12, 4, 4, false, 0xFFF, 0x0, 0, 0x0⟩]

/-- Object descriptors, part 5 (the object tables of the chapters, in ascending address). -/
def objRows5 : List ObjRow := [
  ⟨0x4004, 1, 0x4004, 3, 5, 8, false, 0xFFF, 0x0, 0, 0x0⟩,
  ⟨0x4010, 1, 0x4014, 4, 4, 4, false, 0xFFF, 0x10, 1, 0x0⟩,
  ⟨0x4100, 1, 0x4110, 16, 14, 24, true, 0xFFF, 0x10, 1, 0x0⟩,
  ⟨0x4400, 1, 0x4400, 1, 1, 1, false, 0xFFF, 0x10, 2, 0x0⟩,
  ⟨0x4400, 2, 0x4400, 2, 3, 2, false, 0xFFF, 0x10, 2, 0x1⟩,
  ⟨0x4400, 3, 0x4400, 3, 2, 1, false, 0xFFF, 0x10, 2, 0x0⟩,
  ⟨0x4400, 4, 0x4400, 4, 2, 1, false, 0xFFF, 0x10, 2, 0x0⟩,
  ⟨0x4400, 5, 0x4400, 5, 2, 1, false, 0xFFF, 0x10, 2, 0xFF⟩,
  ⟨0x4400, 6, 0x4400, 6, 2, 1, false, 0xFFF, 0x10, 2, 0xFF⟩,
  ⟨0x4400, 7, 0x4400, 7, 2, 1, false, 0xFFF, 0x10, 2, 0x0⟩,
  ⟨0x4400, 8, 0x4400, 8, 2, 1, false, 0xFFF, 0x10, 2, 0x0⟩,
  ⟨0x4400, 9, 0x4400, 9, 3, 2, false, 0xFFF, 0x10, 2, 0x1E⟩,
  ⟨0x4401, 1, 0x4401, 16, 2, 1, false, 0xFFF, 0x10, 2, 0x2⟩,
  ⟨0x4410, 1, 0x4410, 16, 5, 8, false, 0xFFF, 0x10, 2, 0x0⟩,
  ⟨0x4411, 1, 0x4411, 16, 4, 4, false, 0xFFF, 0x10, 2, 0x0⟩,
  ⟨0x4420, 1, 0x4420, 1, 4, 4, false, 0xFFF, 0x0, 0, 0x0⟩,
  ⟨0x4420, 2, 0x4420, 2, 4, 4, false, 0xFFF, 0x0, 0, 0x0⟩,
  ⟨0x4420, 3, 0x4420, 6, 4, 4, false, 0xFFF, 0x0, 0, 0x0⟩,
  ⟨0x4420, 7, 0x4420, 7, 4, 4, false, 0xFFF, 0x0, 0, 0x0⟩,
  ⟨0x4421, 1, 0x4421, 8, 4, 4, false, 0xFFF, 0x0, 0, 0x0⟩,
  ⟨0x4800, 1, 0x4800, 4, 2, 1, false, 0xFFF, 0x10, 2, 0x1⟩,
  ⟨0x4801, 1, 0x4801, 32, 4, 4, false, 0xFFF, 0x10, 2, 0x64⟩,
  ⟨0x4810, 1, 0x4810, 16, 5, 8, false, 0xFFF, 0x10, 2, 0x0⟩,
  ⟨0x4811, 1, 0x4811, 16, 4, 4, false, 0xFFF, 0x10, 2, 0xC0000014⟩,
  ⟨0x4820, 1, 0x4820, 3, 4, 4, false, 0xFFF, 0x0, 0, 0x0⟩,
  ⟨0x4820, 4, 0x4820, 4, 4, 4, false, 0xFFF, 0x0, 0, 0x0⟩,
  ⟨0x4820, 5, 0x4820, 7, 4, 4, false, 0xFFF, 0x0, 0, 0x0⟩,
  ⟨0x4821, 1, 0x4821, 18, 4, 4, false, 0xFFF, 0x0, 0, 0x0⟩,
  ⟨0x4822, 1, 0x4822, 18, 4, 4, false, 0xFFF, 0x0, 0, 0x0⟩,
  ⟨0x4823, 1, 0x4823, 18, 4, 4, false, 0xFFF, 0x0, 0, 0x0⟩,
  ⟨0x4824, 1, 0x4824, 18, 4, 4, false, 0xFFF, 0x0, 0, 0x0⟩,
  ⟨0x4825, 1, 0x4825, 14, 4, 4, false, 0xFFF, 0x0, 0, 0x0⟩,
  ⟨0x4C00, 1, 0x4C00, 1, 5, 8, false, 0xFFF, 0x10, 2, 0x0⟩,
  ⟨0x4C00, 2, 0x4C00, 2, 5, 8, false, 0xFFF, 0x10, 2, 0x0⟩,
  ⟨0x4C01, 1, 0x4C01, 1, 4, 4, false, 0xFFF, 0x10, 2, 0x5000014⟩,
  ⟨0x4C01, 2, 0x4C01, 2, 4, 4, false, 0xFFF, 0x10, 2, 0x5000014⟩,
  ⟨0x4C02, 1, 0x4C02, 1, 2, 1, false, 0xFFF, 0x10, 2, 0x1F⟩,
  ⟨0x4C10, 1, 0x4C10, 1, 2, 1, false, 0x0, 0x800, 0, 0x0⟩,
  ⟨0x4C11, 1, 0x4C11, 1, 2, 1, false, 0xFFF, 0x0, 0, 0x0⟩,
  ⟨0x4C11, 2, 0x4C11, 2, 2, 1, false, 0xFFF, 0x0, 0, 0x0⟩]

/-- Object descriptors, part 6 (the object tables of the chapters, in ascending address). -/
def objRows6 : List ObjRow := [
  ⟨0x4C11, 3, 0x4C11, 3, 2, 1, false, 0xFFF, 0x0, 0, 0x0⟩,
  ⟨0x4C11, 4, 0x4C11, 4, 3, 2, false, 0xFFF, 0x0, 0, 0x0⟩,
  ⟨0x4C11, 5, 0x4C11, 7, 4, 4, false, 0xFFF, 0x0, 0, 0x0⟩,
  ⟨0x5000, 1, 0x5000, 1, 2, 1, false, 0xFFF, 0x10, 2, 0x0⟩,
  ⟨0x5000, 2, 0x5000, 2, 1, 1, false, 0xFFF, 0x10, 2, 0x1⟩,
  ⟨0x5000, 3, 0x5000, 3, 2, 1, false, 0xFFF, 0x10, 2, 0x0⟩,
  ⟨0x5001, 1, 0x5001, 12, 4, 4, false, 0xFFF, 0x10, 2, 0x1⟩,
  ⟨0x5002, 1, 0x5002, 1, 2, 1, false, 0x0, 0xFFF, 0, 0x0⟩,
  ⟨0x5010, 1, 0x5010, 12, 8, 4, false, 0xFFF, 0x0, 0, 0x0⟩,
  ⟨0x5011, 1, 0x5011, 12, 4, 4, false, 0xFFF, 0x0, 0, 0x0⟩,
  ⟨0x5012, 1, 0x5012, 3, 4, 4, false, 0xFFF, 0x0, 0, 0x0⟩,
  ⟨0x5012, 4, 0x5012, 6, 3, 2, false, 0xFFF, 0x0, 0, 0x0⟩,
  ⟨0x5013, 1, 0x5013, 1, 2, 1, false, 0xFFF, 0x0, 0, 0x3⟩,
  ⟨0x5013, 2, 0x5013, 2, 4, 4, false, 0xFFF, 0x0, 0, 0x0⟩,
  ⟨0x5040, 1, 0x5040, 3, 14, 4096, true, 0xFFF, 0x0, 0, 0x0⟩,
  ⟨0x5041, 1, 0x5041, 3, 4, 4, false, 0xFFF, 0x0, 0, 0x0⟩,
  ⟨0x5800, 1, 0x5800, 1, 2, 1, false, 0x0, 0xFFF, 0, 0x0⟩,
  ⟨0x5801, 1, 0x5801, 1, 2, 1, false, 0xFFF, 0x0, 1, 0xFF⟩,
  ⟨0x5802, 1, 0x5802, 4, 2, 1, false, 0xFFF, 0x0, 0, 0x0⟩,
  ⟨0x5803, 1, 0x5803, 1, 4, 4, false, 0x0, 0xFFF, 0, 0x0⟩,
  ⟨0x5804, 1, 0x5804, 4, 14, 512, true, 0xFFF, 0x0, 0, 0x0⟩,
  ⟨0x5810, 1, 0x5810, 1, 2, 1, false, 0xFFF, 0x0, 0, 0x0⟩,
  ⟨0x5810, 2, 0x5810, 4, 4, 4, false, 0xFFF, 0x0, 0, 0x0⟩,
  ⟨0x5810, 5, 0x5810, 5, 2, 1, false, 0xFFF, 0x0, 0, 0x0⟩,
  ⟨0x5820, 1, 0x5820, 1, 14, 1052, false, 0x0, 0xFFF, 0, 0x0⟩,
  ⟨0x5830, 1, 0x5830, 4, 5, 8, false, 0xFFF, 0x10, 1, 0x0⟩,
  ⟨0x5830, 5, 0x5830, 5, 1, 1, false, 0xFFF, 0x10, 1, 0x1⟩,
  ⟨0x5830, 6, 0x5830, 6, 3, 2, false, 0xFFF, 0x10, 1, 0x64⟩,
  ⟨0x5831, 1, 0x5831, 6, 4, 4, false, 0xFFF, 0x0, 0, 0x0⟩,
  ⟨0x5C00, 1, 0x5C00, 1, 3, 2, false, 0xFFF, 0x0, 0, 0x0⟩,
  ⟨0x5C00, 2, 0x5C00, 2, 3, 2, false, 0xFFF, 0x0, 1, 0x0⟩,
  ⟨0x5C00, 3, 0x5C00, 3, 1, 1, false, 0xFFF, 0x0, 0, 0x0⟩,
  ⟨0x5C00, 4, 0x5C00, 4, 1, 1, false, 0xFFF, 0x0, 0, 0x0⟩,
  ⟨0x5C00, 5, 0x5C00, 5, 14, 32, true, 0xFFF, 0x0, 0, 0x0⟩]

/-- Every native object descriptor of the spec (R368, R369) but for proxy objects, process and application objects, and legacy objects. -/
def objRows : List ObjRow := objRows0 ++ objRows1 ++ objRows2 ++ objRows3 ++ objRows4 ++ objRows5 ++ objRows6

/-- Legacy objects (R449, Table 17-6), present in M6 only; tunables are declared by the translated program. -/
def legacyRows : List ObjRow := [
  ⟨0x3000, 1, 0x3000, 1, 13, 16, false, 0x40, 0x0, 0, 0x0⟩,
  ⟨0x3000, 2, 0x3000, 2, 3, 2, false, 0x40, 0x0, 0, 0x0⟩,
  ⟨0x3000, 3, 0x3000, 3, 13, 10, false, 0x40, 0x0, 0, 0x0⟩,
  ⟨0x3000, 4, 0x3000, 4, 4, 4, false, 0x40, 0x0, 0, 0x0⟩,
  ⟨0x3001, 1, 0x3001, 3, 4, 4, false, 0x40, 0x0, 0, 0x0⟩,
  ⟨0x3010, 1, 0x3010, 16, 4, 4, false, 0x40, 0x0, 0, 0x0⟩,
  ⟨0x3100, 1, 0x3100, 1, 4, 4, false, 0x40, 0x0, 0, 0x0⟩,
  ⟨0x3200, 1, 0x3200, 1, 3, 2, false, 0x40, 0x0, 0, 0x0⟩,
  ⟨0x3400, 1, 0x3401, 1, 14, 32, false, 0x40, 0x0, 0, 0x0⟩]

/-- A run of objects holds an address; an index holds subindices 1 to 255. -/
def ObjRow.holds (r : ObjRow) (i s : Nat) : Bool :=
  r.idx0 ≤ i && i ≤ r.idx1 && (if i = r.idx0 then r.sub0 else 1) ≤ s && s ≤ (if i = r.idx1 then r.sub1 else 255)

/-- The descriptor of a native object. -/
def objRow (i s : Nat) : Option ObjRow := objRows.find? (fun r => r.holds i s)

/-- Octets of a type of fixed size (Table 14-3); none for strings. -/
def typeSize (t : Nat) : Option Nat :=
  match t with
  | 1 | 2 | 6 => some 1
  | 3 | 7 => some 2
  | 4 | 8 | 10 => some 4
  | 5 | 9 | 11 | 12 => some 8
  | _ => none

/-- Image words of one element (R199). -/
def elemWords (t : Nat) : Nat := if typeSize t = some 8 then 2 else 1

/-- Image words of `n` elements; a string holds four octets a word. -/
def objWords (t n : Nat) : Nat := if (typeSize t).isNone then (n + 3) / 4 else n * elemWords t

/-- The octets of `n` elements that lie in image words (R199): a narrow type in the low octets of its word. -/
def elemsOctets (t n : Nat) (ws : List Word) : List Byte :=
  let l := ws.take (objWords t n)
  match typeSize t with
  | some 1 => l.flatMap (fun w => leB 1 w.toNat)
  | some 2 => l.flatMap (fun w => leB 2 w.toNat)
  | some _ => wordBytes l
  | none => (wordBytes l).take n

/-- The image words of a value's octets (R199): narrow integers zero-extended or sign-extended. -/
def octetsElems (t : Nat) (bs : List Byte) : List Word :=
  match typeSize t with
  | some 1 => bs.map (fun b => if t = 6 then b.signExtend 32 else b.setWidth 32)
  | some 2 => (List.range (bs.length / 2)).map (fun i =>
      let v := BitVec.ofNat 16 (leAt bs (2 * i) 2)
      if t = 7 then v.signExtend 32 else v.setWidth 32)
  | _ => bytesWords ((bs.length + 3) / 4) (pad4 bs)

/-- Octets of a declared object. -/
def ObjDecl.size (o : ObjDecl) : Nat := o.count * (typeSize o.typ).getD 1

/-- The key of an object that is keyed by its address (Table 14-10). -/
def objKey (i s : Nat) : Nat := i * 256 + s

/-- The stored entry of a key. -/
def DictBlk.stored (d : DictBlk) (kk key : Nat) : Option JEntry := d.live.find? (fun e => e.kkind == kk && e.key == key)

/-- The stored or default value of a class J or H object, as a number. -/
def Chan.cfgN (c : Chan) (i s : Nat) : Nat :=
  match c.dict.stored 0 (objKey i s) with
  | some e => leN e.val
  | none => ((objRow i s).map (·.dflt)).getD 0

/-- The stored or default value of a class J or H object, as octets. -/
def Chan.cfgB (c : Chan) (i s : Nat) : List Byte :=
  match c.dict.stored 0 (objKey i s) with
  | some e => e.val
  | none => match objRow i s with
    | none => []
    | some r => match typeSize r.typ with
      | some n => leB n r.dflt
      | none => if r.fixed then List.replicate r.maxLen 0#8 else []

/-- Whether a configured flag is set. -/
def Chan.cfgF (c : Chan) (i s : Nat) : Bool := c.cfgN i s ≠ 0

/-- Bits `hi` to `lo` of a number. -/
def bitsN (v hi lo : Nat) : Nat := v / 2 ^ lo % 2 ^ (hi + 1 - lo)

end Sys2Proof.Machine
end

