-- ==== Sys2Proof/Machine/Chronicle.lean ====
section
/-! DEFINITION. The chronicle: placing records in the ring, posts, the start scan, operating seconds (R424 to R433). -/

namespace Sys2Proof.Machine
open Sys2Proof

/-- Octets of the ring (R426). -/
def ringSize : Nat := 0x400000

/-- Free octets from HEAD (R427). -/
def ringFree (head : Nat) : List CRec → Nat
  | [] => ringSize
  | r :: _ => (r.off + ringSize - head) % ringSize

/-- The octet that a record holds at an offset of the ring (R426). -/
def ChronBlk.octet (k : ChronBlk) (o : Nat) : Option Byte :=
  (k.ring.find? (fun (r : CRec) => decide (r.off ≤ o) && decide (o < r.off + r.bytes.length))).map (fun r => (r.bytes[o - r.off]?).getD 0#8)

/-- Advance TAIL until `size` octets are free: the records kept, how many were removed, and how many of those were no pad. -/
def ringDrop (head size : Nat) : List CRec → Nat → Nat → List CRec × Nat × Nat
  | [], n, m => ([], n, m)
  | r :: rs, n, m =>
    if ringFree head (r :: rs) < size then ringDrop head size rs (n + 1) (if r.pad then m else m + 1) else (r :: rs, n, m)

/-- A PAD record over `n` octets: SEQ 0xFFFF_FFFF (R427). -/
def padRecord (n : Nat) : List Byte :=
  let b := leB 1 0 ++ leB 1 0 ++ leB 2 (n - 28) ++ leB 4 0 ++ leB 4 0 ++ leB 4 0xFFFFFFFF ++ leB 8 0 ++ List.replicate (n - 28) 0#8
  b ++ leB 4 (crc32 b).toNat

/-- Count `n` overwritten records, `m` of them no pad (R427): the overwrite count takes pads too, as `place` writes it, the oldest SEQ
does not. -/
def ChronBlk.overwrote (k : ChronBlk) (n m : Nat) : ChronBlk :=
  if n = 0 then k
  else { k with
    oldSeq := k.oldSeq + BitVec.ofNat 32 m
    ovw := BitVec.ofNat 32 (min (k.ovw.toNat + n) 0xFFFFFFFF)
    flag := k.flag.raiseN n 3 }

/-- The control of the ring as it stands, as octets (R426). -/
def ChronBlk.ctl (k : ChronBlk) : List Byte := ctlOctets k.head k.tail k.seq k.oldSeq k.ovw

/-- "store control" of R427: both copies. -/
def ChronBlk.storeCtl (k : ChronBlk) : ChronBlk := { k with ctl0 := k.ctl, ctl1 := k.ctl }

/-- The first half of `place(rec)` (R427), up to the first "store control": the pad at the ring's end and the removal of the oldest
records. Live records that the pad would cover are removed with it (log entry 107). -/
def ChronBlk.makeRoom (k : ChronBlk) (size : Nat) : ChronBlk :=
  let left := ringSize - k.head
  let k1 :=
    if left < size then
      let gone := k.ring.filter (fun r => k.head ≤ r.off)
      let kept := k.ring.filter (fun r => r.off < k.head)
      let pads : List CRec := if 28 ≤ left then [⟨k.head, true, padRecord left⟩] else []
      ({ k with ring := kept ++ pads, head := 0 }).overwrote gone.length (gone.filter (fun (r : CRec) => !r.pad)).length
    else k
  let d := ringDrop k1.head size k1.ring 0 0
  let k2 := ({ k1 with ring := d.1 }).overwrote d.2.1 d.2.2
  { k2 with tail := ((d.1.head?).map (·.off)).getD k2.head }

/-- The second half of `place(rec)` (R427): the record at HEAD, and the control behind it. -/
def ChronBlk.append (k : ChronBlk) (bytes : List Byte) : ChronBlk :=
  { k with
    ring := k.ring ++ [⟨k.head, false, bytes⟩]
    head := (k.head + bytes.length) % ringSize
    seq := k.seq + 1#32 }

/-- `place(rec)` of R427. -/
def ChronBlk.place (k : ChronBlk) (bytes : List Byte) : ChronBlk := ((k.makeRoom bytes.length).append bytes).storeCtl

/-- Write the oldest queued record to the ring (R427, R429). -/
def ChronBlk.writeOne (k : ChronBlk) : ChronBlk :=
  match k.queue with
  | [] => k
  | r :: rs => ({ k with queue := rs }).place r

/-- Write every queued record (R430). -/
def ChronBlk.writeAll (k : ChronBlk) : ChronBlk := ({ k with queue := [] } : ChronBlk) |> fun z => k.queue.foldl ChronBlk.place z

/-- Enter the flush (R430): the power-fail record is queued last, beyond the queue's limit if need be, and posts are refused. -/
def Chan.flushRecord (c : Chan) (mode cause cst mv1 mv2 : Nat) : Chan :=
  let p := leB 1 mode ++ leB 1 cause ++ leB 1 cst ++ leB 1 0 ++ leB 2 mv1 ++ leB 2 mv2
  { c with chron := { c.chron with queue := c.chron.queue ++ [c.recordBytes 0x02 17 p], flush := true } }

/-- SEQ of a record. -/
def CRec.seq (r : CRec) : Word := BitVec.ofNat 32 (leAt r.bytes 12 4)

/-- The first record at or after a cursor, modulo 2^32 within a window of 2^31 (R433), and those behind it. -/
def ChronBlk.from (k : ChronBlk) (cursor : Word) : List CRec :=
  (k.ring.filter (fun r => !r.pad)).filter (fun r => (r.seq - cursor).toNat < 2147483648)

/-- As many whole records as fit in `n` octets. -/
def takeFit : Nat → List CRec → List Byte
  | _, [] => []
  | n, r :: rs => if r.bytes.length ≤ n then r.bytes ++ takeFit (n - r.bytes.length) rs else []

/-- CRC of a record holds (R424). -/
def CRec.crcOk (r : CRec) : Bool :=
  let n := r.bytes.length - 4
  (crc32 (r.bytes.take n)).toNat = leN (r.bytes.drop n)

/-- A record header as the writer makes it (R424, R431): a type that occurs, bits 2:1 of FLAGS 0, LEN at most 488 (log entry 107). -/
def CRec.headOk (r : CRec) : Bool :=
  let typ := leAt r.bytes 0 1
  (decide (typ ≤ 0x12) || decide (0x80 ≤ typ)) && leAt r.bytes 1 1 / 2 % 4 == 0 && decide (leAt r.bytes 2 2 ≤ 488)

/-- A copy of the ring control passes its CRC (R426). -/
def ctlOk (b : List Byte) : Bool := b.length == 24 && leAt b 20 4 == (crc32c (b.take 20)).toNat

/-- The control as a copy holds it. -/
def ChronBlk.fromCtl (k : ChronBlk) (b : List Byte) : ChronBlk :=
  { k with
    head := leAt b 0 4
    tail := leAt b 4 4
    seq := BitVec.ofNat 32 (leAt b 8 4)
    oldSeq := BitVec.ofNat 32 (leAt b 12 4)
    ovw := BitVec.ofNat 32 (leAt b 16 4) }

/-- The scan of the ring control (R426, R431): the copy written first counts where it passes its CRC, and a copy that fails is rewritten
from the other with CTRL_REPAIR. With both failed, of which the spec says nothing, the control stays as it was (log entry 107). -/
def ChronBlk.scanCtl (k : ChronBlk) : ChronBlk :=
  if ctlOk k.ctl0 then
    let k := k.fromCtl k.ctl0
    if ctlOk k.ctl1 then k else { k with ctl1 := k.ctl0, flag := k.flag.raise 5 }
  else if ctlOk k.ctl1 then
    let k := k.fromCtl k.ctl1
    { k with ctl0 := k.ctl1, flag := k.flag.raise 5 }
  else k

/-- A queued record under the SEQ it will have (R427), with its CRC. -/
def withSeq (seq : Word) (b : List Byte) : List Byte :=
  let h := b.take 12 ++ leB 4 seq.toNat ++ (b.take (b.length - 4)).drop 16
  h ++ leB 4 (crc32 h).toNat

/-- The scan of the record at HEAD (R431): adopted when its CRC passes and its SEQ is the next one; otherwise it stays to be overwritten,
and a valid header with a failing CRC sets TORN. Queued records follow an adopted one. -/
def ChronBlk.scanHead (k : ChronBlk) : ChronBlk :=
  match k.torn with
  | none => k
  | some r =>
    if r.crcOk && r.seq = k.seq then
      let k := ({ k with torn := none }.append r.bytes).storeCtl
      { k with queue := k.queue.mapIdx (fun i b => withSeq (k.seq + BitVec.ofNat 32 i) b) }
    else { k with torn := none, flag := k.flag.raiseIf (r.headOk && !r.crcOk) 2 }

/-- The start scan (R431). -/
def ChronBlk.scan (k : ChronBlk) : ChronBlk := { k.scanCtl.scanHead with ready := true }

/-- RECORD_WRITE: the writer takes the oldest queued record once the scan is done (R428, R429, R431). -/
def execRecordWrite (ch : Ch) (s : State) : Out :=
  onChan s ch (fun c => if c.chron.ready then { c with chron := c.chron.writeOne } else c)

/-- CHRON_START_SCAN (R431): in a released channel's start, or while the fabric is up and the scan is not done. -/
def execChronStartScan (ch : Ch) (s : State) : Out :=
  onChan s ch (fun c =>
    if c.sys.cstate = .off || c.sys.cstate = .held || c.chron.ready then c
    else { c with chron := c.chron.scan })

/-- Whether a cell is in the capacity partition, by hart. -/
def Chan.isCap (c : Chan) (h : Nat) : Bool := (c.cell (h / 2)).mode = .split

/-- Types an initiator may post (R428, R432): an integrity core the application types, the reeve the module types written with ORIGIN 16
(log entry 107). -/
def postType (n typ : Nat) : Bool :=
  if n < 16 then decide (0x80 ≤ typ) else decide (3 ≤ typ) && decide (typ ≤ 0x12) && typ != 8

/-- When posts are accepted (Table 16-2): the reeve's from M2 on; a core's while its channel runs slices (M5 to M8, VOTING) or is under
debug (M9; log entry 107). -/
def Chan.postMode (c : Chan) (n : Nat) : Bool :=
  if n < 16 then (c.sys.mode.runs && c.sys.cstate == .voting) || c.sys.mode == .m9 else decide (2 ≤ c.sys.mode.num)

/-- A post through CHRON_POST[n] (R428, Table 16-2): checks of mode, type and length, then the queue. -/
def Chan.chronPost (c : Chan) (n : Nat) (value : Word) : Chan :=
  let typ := value.toNat / 16777216
  let len := value.toNat % 65536
  if !c.postMode n || c.chron.flush then c
  else if !postType n typ then { c with chron := { c.chron with flag := c.chron.flag.raise 1 } }
  else if 488 < len then { c with chron := { c.chron with flag := c.chron.flag.raise 4 } }
  else c.post typ n (wBytes ((c.chron.stage[n]?).getD []) len)

/-- Nanoseconds of an operating second. -/
def nsPerSec : Nat := 1000000000

end Sys2Proof.Machine
end

