-- ==== Sys2Proof/Machine/Erase.lean ====
section
/-! DEFINITION. The erase blocks of the journal: room, the block a record goes to, appending (R383, R387). -/

namespace Sys2Proof.Machine
open Sys2Proof

/-- Octets of an erase block. -/
def jBlockSize : Nat := 131072

/-- Octets of a record. -/
def JRec.size (r : JRec) : Nat := 16 + r.entries.foldl (fun n e => n + 12 + (e.val.length + 3) / 4 * 4) 0

/-- Octets used of block `n`. -/
def DictBlk.usedOf (d : DictBlk) (n : Nat) : Nat := (atD (0, 0) n d.blocks).2

/-- Free blocks other than the active one. -/
def DictBlk.freeBlocks (d : DictBlk) : List Nat := (List.range 64).filter (fun n => n ≠ d.active && d.usedOf n == 0)

/-- Free octets in the active and free blocks (NVM_FREE). -/
def DictBlk.freeOctets (d : DictBlk) : Nat := (jBlockSize - d.usedOf d.active) + d.freeBlocks.length * jBlockSize

/-- The free block with the lowest erase count. -/
def DictBlk.nextBlock (d : DictBlk) : Option Nat :=
  d.freeBlocks.foldl (fun best n => match best with
    | none => some n
    | some b => if (atD (0, 0) n d.blocks).1 < (atD (0, 0) b d.blocks).1 then some n else some b) none

/-- Go to the next block. -/
def DictBlk.advance (d : DictBlk) : DictBlk :=
  match d.nextBlock with
  | some n => { d with active := n }
  | none => d

/-- Append a record: to the active block, or to the next one when it does not fit. -/
def DictBlk.append (d : DictBlk) (r : JRec) : DictBlk :=
  let d := if d.usedOf d.active + r.size ≤ jBlockSize then d else d.advance
  { d with
    recs := d.recs ++ [{ r with block := d.active }]
    blocks := modAt (fun b => (b.1, b.2 + r.size)) d.active d.blocks }

/-- A flush or a loss of power ends the programming under way: the record lies in the active block, whole when `ok` (R383, R386). -/
def DictBlk.endJob (d : DictBlk) (ok : Bool) : DictBlk :=
  match d.jobs with
  | [] => d
  | j :: _ => { d.append { j.entry with ok := j.entry.ok && ok } with jobs := [] }

end Sys2Proof.Machine
end

