-- ==== Sys2Proof/Machine/Field.lean ====
section
/-! DEFINITION. Operations on the output networks of one channel: drive, release, programmed safe states, findings (R325 to R342). -/

namespace Sys2Proof.Machine
open Sys2Proof

/-- The channel's view of one network's bound bit in the published output bank (R327); an unbound output is OFF. -/
def Chan.boundBit (c : Chan) (n : NetRt) : Bool :=
  n.cfg.bound && (match c.sl.task n.cfg.task with
    | some t => (atD 0#32 n.cfg.ofs t.outPub).getLsbD n.cfg.bit
    | none => false)

/-- Network `n` of the channel. -/
def Chan.net (c : Chan) (n : Nat) : NetRt := atD NetRt.init n c.field.nets

/-- A network after a change at time `now`: a new commanded state is stamped. -/
def NetRt.stamped (now : Nat) (old new : NetRt) : NetRt := if new.cmd = old.cmd then new else { new with chgAt := now }

/-- Change every network, by number. A new commanded state is stamped, and it ends a test under way in its network (R346). -/
def Chan.mapNets (c : Chan) (f : Nat → NetRt → NetRt) : Chan :=
  { c with field := { c.field with
      nets := (c.field.nets.zipIdx).map (fun x => x.1.stamped c.now (f x.2 x.1))
      test := c.field.test.filter (fun t => (f t.1 (c.net t.1)).cmd == (c.net t.1).cmd) } }

/-- Change network `n`. -/
def Chan.updNet (c : Chan) (n : Nat) (f : NetRt → NetRt) : Chan := c.mapNets (fun i x => if i = n then f x else x)

/-- Transistor `x` of network `i` is changed by a test at a time base value, which blanks its readings and those of the network (R335). -/
def Chan.stampTest (c : Chan) (i x at_ : Nat) : Chan := { c with field := { c.field with testChg := assocSet (12 * i + x) at_ c.field.testChg } }

/-- A test under way ends, judged elsewhere or not at all (R337, R346): its transistor returns to its commanded state. -/
def Chan.endTest (c : Chan) : Chan :=
  match c.field.test with
  | none => c
  | some (i, x) => { c.stampTest i x c.now with field := { (c.stampTest i x c.now).field with test := none } }

/-- Pair wiring of a network as FIELD_OUT_CFG shows it (Table 12-15, R304). -/
def Chan.wiring (c : Chan) (n : Nat) : Nat :=
  if !c.pair.cfg.on then 0 else if 16 ≤ n then 2 else (c.net n).cfg.wiring

/-- Released: toggling stopped and clamp closed (R326). A tripped network stays marked so (R338). -/
def NetRt.release (n : NetRt) : NetRt :=
  { n with cmd := false, drv := false, state := if n.state = .tripped then .tripped else .off }

/-- Every transistor of the channel released. All of it is one step: the order of R333 within its 20 µs is timing (log entry 128). -/
def Chan.releaseAll (c : Chan) : Chan := c.mapNets (fun _ n => n.release)

/-- Released by the safe-shutdown logic; a test under way ends (R333, R343, R346). -/
def Chan.safeShutdown (c : Chan) : Chan :=
  let c := c.releaseAll.endTest
  { c with field := { c.field with released := true } }

/-- Programmed safe state of one network (Table 12-4, R331): what a channel with hold permission `q` and permit level keeps; `off` for a
network that must not conduct in it (STO, and R305). -/
def NetRt.applySafe (n : NetRt) (off q : Bool) (lvl : Word) : NetRt :=
  let keep := !off && q && n.cmd &&
    (match n.cfg.safe with
      | 1 => lvl.getLsbD n.cfg.permit
      | 2 => true
      | _ => false)
  { n with state := if n.state = .tripped then .tripped else .safe, cmd := keep, drv := keep, permitLost := false }

/-- Quench timers are stopped (Table 12-9: M9, M10, M11). -/
def NetRt.stopTimer (n : NetRt) : NetRt := { n with quenchAt := none, quench := false }

/-- R332: at entry to M9 or M10 every output takes its programmed safe state; safety-wired networks are off (R305). -/
def Chan.safeStates (c : Chan) : Chan :=
  c.mapNets (fun i n => (n.applySafe (decide (16 ≤ i) || c.wiring i == 2) c.clk.qual c.field.lvl).stopTimer)

/-- R331: a channel whose watch oscillator is not qualified applies OFF to the networks that hold a state. -/
def Chan.dropHeld (c : Chan) : Chan :=
  c.mapNets (fun _ n => if n.state = .safe then { n with cmd := false, drv := false } else n)

/-- Whether this channel may drive network `i` at all: R305 for safety-wired networks, R342 for STO. -/
def Chan.mayDrive (c : Chan) (i : Nat) : Bool :=
  (c.wiring i ≠ 2 || c.pair.clear) && !(decide (16 ≤ i) && c.field.stoDead)

/-- Quench (R329): the programmed safe state applies until the next restart. -/
def NetRt.expire (n : NetRt) (off q : Bool) (lvl : Word) : NetRt := { n.applySafe off q lvl with quench := true, quenchAt := none }

/-- The quench time of a network is over at time `now`. -/
def NetRt.expired (n : NetRt) (now : Nat) : Bool := match n.quenchAt with | some t => decide (t ≤ now) | none => false

/-- A commit of the bound bit on a network at time `now`: quench restarts, a trip ends under R338, and the command follows the bit (R327, R329). -/
def NetRt.onCommit (n : NetRt) (bit may : Bool) (now : Nat) : NetRt :=
  let n := { n with quench := false, quenchAt := some (now + n.cfg.quench * 1000000) }
  if n.state = .tripped then
    if bit then
      match n.offSince with
      | some t => if t + 100000000 ≤ now then
          { n with state := .driven, cmd := may, drv := may, offSince := none } else { n with offSince := none }
      | none => n
    else if n.offSince.isNone then { n with offSince := some now } else n
  else { n with state := .driven, cmd := bit && may, drv := bit && may }

/-- A commit on network `i`. A quench that expires at this very time wins, and the next restart ends it (R346). -/
def Chan.commitNet (c : Chan) (i : Nat) (n : NetRt) (now : Nat) : NetRt :=
  if n.expired now then n.expire (decide (16 ≤ i)) c.clk.qual c.field.lvl else n.onCommit (c.boundBit n) (c.mayDrive i) now

/-- R327 at a commit edge: networks bound to a task that committed take the committed bit. -/
def Chan.driveCommitted (c : Chan) (committed : List Nat) (now : Nat) : Chan :=
  let takes (n : NetRt) : Bool := n.cfg.bound && committed.contains n.cfg.task
  let c := { c with field := { c.field with flag := c.field.flag.raiseN (c.field.nets.countP (fun n => takes n && n.expired now)) 8 } }
  c.mapNets (fun i n => if takes n then c.commitNet i n now else n)

/-- R327 at J_c after abstaining: every network not in quench takes its committed bit; those of tasks that just committed restart their timers. -/
def Chan.driveConfirmed (c : Chan) (committed : List Nat) (now : Nat) : Chan :=
  c.mapNets (fun i n =>
    if n.cfg.bound && committed.contains n.cfg.task then c.commitNet i n now
    else if n.quench || n.state = .tripped then n
    else
      let on := c.boundBit n && c.mayDrive i
      { n with state := if n.cfg.bound then .driven else n.state, cmd := on, drv := on })

/-- FIELD_OUT_FIND[n] (Table 12-17). -/
def NetRt.findWord (n : NetRt) : Word :=
  BitVec.ofNat 32 (n.stuckOff.toNat * 1048576 + n.stuckOn.toNat * 256 + n.nj.toNat * 16 + n.extHigh.toNat * 8 +
    n.openLoad.toNat * 4 + n.tripSeen.toNat * 2 + n.noSafe.toNat)

/-- FIELD_STO_STAT (Table 12-13); the window left in units of 20 ms. -/
def Chan.stoStat (c : Chan) : Word :=
  let left := match c.field.win with
    | some w => (w.ends - c.now + 19999999) / 20000000
    | none => 0
  BitVec.ofNat 32 (min left 255 * 65536 + c.field.rreason * 256 + c.field.sto1.fault * 16 + c.field.sto0.fault)

/-- A FIELD record (Table 16-1). -/
def Chan.logField (c : Chan) (n find : Nat) (w : Word) : Chan :=
  c.log 0x0C (leB 1 n ++ leB 1 find ++ leB 2 0 ++ leB 4 w.toNat)

/-- Close the reset window with a reason (R344). -/
def Chan.closeWindow (c : Chan) (reason : Nat) : Chan :=
  let c := { c with field := { c.field with win := none, rreason := reason, flag := c.field.flag.raise 13, refused := satInc c.field.refused } }
  c.log 0x0D (payW [c.stoStat])

/-- An STO fault of STO channel `m` (R342): both STO networks released, M11 proposed unless the module is in it. -/
def Chan.stoFault (c : Chan) (m code : Nat) : Chan :=
  let f := c.field
  let f := { f with
    sto0 := if m = 0 && f.sto0.fault = 0 then { f.sto0 with fault := code } else f.sto0
    sto1 := if m = 1 && f.sto1.fault = 0 then { f.sto1 with fault := code } else f.sto1
    stoDead := true
    flag := f.flag.raise 9 }
  let c := { c with field := f }
  let c := c.mapNets (fun i n => if 16 ≤ i then n.release else n)
  let c := if c.field.win.isSome then c.closeWindow 3 else c
  (if c.sys.mode = .m11 then c else c.trigger .m11 0x0A).log 0x0D (payW [c.stoStat])

/-- M11 for an output that cannot reach its safe state; in M11 already, the finding proposes nothing (Table 2-3). -/
def Chan.outFault (c : Chan) : Chan :=
  let c := if c.field.win.isSome then c.closeWindow 3 else c
  if c.sys.mode = .m11 then c else c.trigger .m11 0x0B

end Sys2Proof.Machine
end

