-- ==== Sys2Proof/Machine/Lifecycle.lean ====
section
/-! DEFINITION. What a channel keeps through HELD and through loss of KEEP, the module mode before the tick runs, and the full start (R48, R53, R57, R87, R500). -/

namespace Sys2Proof.Machine
open Sys2Proof

/-- The windows of a ring that a program subscribes to, in subscription order (R228). -/
def ringSubs (ch : Ch) (p : Option Program) : List Nat :=
  ((match p with | some q => q.subs | none => []).filter (fun (q : Nat × Nat) => q.1 == (match ch with | .A => 0 | .B => 1 | .C => 2))).map (fun (q : Nat × Nat) => q.2)

/-- A flag register through a reset that is no power-on reset: the counters stay (R10). -/
def FlagReg.held (f : FlagReg) : FlagReg := { f with bits := 0#32 }

/-- What flash, MRAM, fuses and the factory area keep in every case (R370, R382, R398, R425, R426). -/
def Chan.stored (c : Chan) : Chan :=
  { Chan.init with
    mram := c.mram
    mem := c.mem.filter (fun x => decide (0xC0000000 ≤ x.1))
    sent := c.sent
    sys := { Sysctl.init with issue := c.sys.issue }
    dict := { DictBlk.init with
      blocks := (c.dict.endJob false).blocks
      active := (c.dict.endJob false).active
      recs := (c.dict.endJob false).recs
      live := c.dict.live
      lastTxn := c.dict.lastTxn }
    upd := { UpdBlk.init with
      slots := c.upd.slots
      fuses := c.upd.fuses
      custFuse := c.upd.custFuse
      custKey := c.upd.custKey
      fuseBad := c.upd.fuseBad
      keep := c.upd.keep }
    chron := { ChronBlk.init with
      ring := c.chron.ring
      head := c.chron.head
      tail := c.chron.tail
      seq := c.chron.seq
      oldSeq := c.chron.oldSeq
      ovw := c.chron.ovw
      torn := c.chron.torn
      ctl0 := c.chron.ctl0
      ctl1 := c.chron.ctl1 } }

/-- The channel at entry to HELD with KEEP in regulation: cells, reeve and fabric in reset, clocks stopped, counters of events kept (R10, R87). -/
def Chan.held (c : Chan) : Chan :=
  let z := c.stored
  { z with
    sys := { z.sys with
      cstate := .held
      mode := c.sys.mode
      cause := c.sys.cause
      viol := c.sys.viol.held
      cmp := c.sys.cmp.held
      unmap := c.sys.unmap
      reeveRestarts := c.sys.reeveRestarts
      reeveHist := c.sys.reeveHist
      modeFlag := c.sys.modeFlag.held
      hrst := c.sys.hrst
      hrstSeen := c.sys.hrstSeen
      released := c.sys.released
      barred := c.sys.barred
      flushed := c.sys.flushed
      engErr := c.sys.engErr }
    pwr := { c.pwr with flag := { c.pwr.flag with bits := c.pwr.flag.bits &&& 64#32 } }
    clk := { ClockBlk.init with
      watchRun := c.clk.watchRun
      mon := c.clk.mon.held
      forced := c.clk.forced.held
      qatt := c.clk.qatt
      keepSrc := c.clk.keepSrc
      muxSel := if c.clk.keepSrc then 64#8 else 0#8
      tripCount := c.clk.tripCount
      tripSrc := c.clk.tripSrc
      tripKind := c.clk.tripKind
      tripNew := c.clk.tripNew }
    tb := { z.tb with flag := c.tb.flag.held, tmrFlag := c.tb.tmrFlag.held }
    assay := { z.assay with flag := c.assay.flag.held, retireShown := c.mram.retire }
    xl := { z.xl with
      l0 := { z.xl.l0 with lossCnt := c.xl.l0.lossCnt, codeCnt := c.xl.l0.codeCnt }
      l1 := { z.xl.l1 with lossCnt := c.xl.l1.lossCnt, codeCnt := c.xl.l1.codeCnt }
      discarded := c.xl.discarded }
    dbg := { z.dbg with flag := c.dbg.flag.held, logged := c.dbg.logged }
    sl := { z.sl with flag := c.sl.flag.held, glean := c.sl.glean, availCnt := c.sl.availCnt }
    vote := { z.vote with flag := c.vote.flag.held, rsCount := c.vote.rsCount }
    chg := { z.chg with flag := c.chg.flag.held, confirmed := c.chg.confirmed, rolled := c.chg.rolled, failed := c.chg.failed }
    mill := { z.mill with flag := c.mill.flag.held, subCrc := c.mill.subCrc, subEmpty := c.mill.subEmpty, subMiss := c.mill.subMiss }
    ecn := { z.ecn with flag := c.ecn.flag.held, subRx := c.ecn.subRx, pubTx := c.ecn.pubTx, samples := c.ecn.samples }
    mvb := { z.mvb with flag := c.mvb.flag.held }
    bridge := { z.bridge with flag := c.bridge.flag.held, wireCnt := c.bridge.wireCnt, delivered := c.bridge.delivered, dropped := c.bridge.dropped, completed := c.bridge.completed }
    pair := { z.pair with flag := c.pair.flag.held, reports := c.pair.reports, activations := c.pair.activations, roleEnds := c.pair.roleEnds, transfers := c.pair.transfers }
    field := { z.field with flag := c.field.flag.held, accepted := c.field.accepted, made := c.field.made, refused := c.field.refused }
    sd := { z.sd with flag := c.sd.flag.held, syncs := c.sd.syncs }
    dict := { z.dict with flag := c.dict.flag.held }
    upd := { z.upd with flag := c.upd.flag.held }
    chron := { z.chron with flag := c.chron.flag.held }
    host := { z.host with flag := c.host.flag.held, rx := c.host.rx, tx := c.host.tx, msgs := c.host.msgs } }

/-- The channel without power: OFF (R57, Table 2-1). -/
def Chan.off (c : Chan) : Chan :=
  let z := c.stored
  { z with
    sys := { z.sys with cstate := .off, mode := .m0, hrst := c.sys.hrst }
    pwr := { z.pwr with dom := 0#5 }
    clk := { z.clk with watchRun := false } }

/-- KEEP comes into regulation from below: the power-on reset of the channel, with the power-cycle count advanced (R10, R425). -/
def Chan.powerOn (c : Chan) : Chan :=
  let z := c.stored
  { z with
    sys := { z.sys with hrst := c.sys.hrst }
    mram := { c.mram with pcyc := min (c.mram.pcyc + 1) 0xFFFFFFFF }
    pwr := { z.pwr with mv1 := c.pwr.mv1, mv2 := c.pwr.mv2, ok1 := c.pwr.ok1, ok2 := c.pwr.ok2 }
    assay := { z.assay with retireShown := c.mram.retire } }

/-- How many channels are in one of the states. -/
def State.countSt (s : State) (p : CState → Bool) : Nat := (allCh.filter (fun c => p (s.view c))).length

/-- The mode that the channel states make up while no tick generator runs (Table 2-2, R48): ABSENT, HELD or ASSAY; none keeps the mode in force. -/
def State.startMode (s : State) : Option Mode :=
  if s.countSt (· == .off) = 3 then some .m0
  else if 2 ≤ s.countSt (fun x => x == .testing || x == .ready) then some .m2
  else if s.countSt (fun x => x != .off && x != .held) < 2 then some .m1
  else none

/-- A tick generator runs in a channel outside OFF and HELD (R105). -/
def State.ticking (s : State) : Bool :=
  allCh.any (fun c => (s.chan c).tb.tickRun && !(s.view c == .off) && !(s.view c == .held))

/-- The module mode as a channel holds it changes: SYSCTL_MODE, its flag, and a MODE record in a channel that runs (R53, R432). -/
def Chan.setMode (c : Chan) (m : Mode) (cause : Nat) (view : Word) : Chan :=
  let old := c.sys.mode
  if old = m then c
  else
    let c := { c with sys := { c.sys with mode := m, cause := cause, modeFlag := c.sys.modeFlag.raise 1 } }
    if c.sys.cstate = .off || c.sys.cstate = .held then c
    else c.log 0x04 (leB 1 old.num ++ leB 1 m.num ++ leB 1 cause ++ leB 1 0 ++ leB 4 view.toNat ++ leB 4 c.tb.c)

/-- R48: without a running tick generator the module mode follows the channel states at once. -/
def State.remode (s : State) : State :=
  if s.ticking then s
  else match s.startMode with
    | none => s
    | some m =>
      let lost := m = .m1 && 2 ≤ s.mode.num
      let v := s.chanView
      s.updAll (fun _ c => c.setMode m (if lost then 0x10 else 0) v)

/-- The first steps of a channel's clock start: CDR enabled once every domain is in regulation (R90 step 2). -/
def Chan.startClocks (c : Chan) : Chan :=
  if c.sys.cstate = .held && c.pwr.dom = 0x1F#5 && !c.sys.hrst then { c with clk := { c.clk with cdrEn := true, retryDue := false } } else c

/-- A full start (R500): every powered channel to HELD, and its clock start repeated. The mode is M1 with the given cause. -/
def State.fullStart (s : State) (cause : Nat) : State :=
  let s := s.updAll (fun _ c =>
    if c.sys.cstate = .off then c
    else
      let h := c.held
      let h := { h with sys := { h.sys with released := false, barred := false, flushed := false } }
      ({ h with sys := { h.sys with mode := .m1, cause := cause, modeFlag := if c.sys.mode = Mode.m1 then h.sys.modeFlag else h.sys.modeFlag.raise 1 } }).startClocks)
  { s with wire := [] }

/-- R57: the full start that follows the last flush when a feed is at or above 16.8 V and the module is in M1. -/
def State.flushStart (s : State) : State :=
  let powered := allCh.any (fun c => (s.chan c).pwr.ok1 || (s.chan c).pwr.ok2)
  let some1 := allCh.any (fun c => (s.chan c).sys.flushed)
  let none1 := allCh.all (fun c => !(s.chan c).sys.flushing)
  if powered && some1 && none1 && s.mode = .m1 then s.fullStart 0 else s

/-- Every instance of the channel is discarded. -/
def Chan.dropAll (c : Chan) : Chan := c.sl.tasks.foldl (fun (c : Chan) (t : TaskRt) => c.dropInst t.decl.num) c

/-- Gated telegrams that wait are dropped, each counted (R181). -/
def Chan.dropGate (c : Chan) : Chan :=
  { c with vote := { c.vote with
      gateQ := []
      flag := c.vote.gateQ.foldl (fun (f : FlagReg) _ => f.raise 5) c.vote.flag } }

/-- The ring node in bypass: both relays closed, no port up (R235, R250). DESIGN CHOICE (log entry 120): the loop and the ports end with it
without LOOP_CHANGE or LINK_DOWN, which R243 gives for a port that goes down. -/
def MillBlk.toBypass (m : MillBlk) : MillBlk :=
  { m with nstate := .bypass, coil := false, up0 := false, up1 := false, link0 := false, link1 := false, loop := 0, origCycle := none, originNext := false, carry := [], back := [], bufs := [], seen := [], cutNow := false }

/-- A flag of BRIDGE_FLAG. -/
def BridgeBlk.hit (b : BridgeBlk) (n : Nat) : BridgeBlk := { b with flag := b.flag.raise n }

/-- A destination dropped, with its flag (object 0x4002.04-06). -/
def BridgeBlk.drop (b : BridgeBlk) (n : Nat) : BridgeBlk := { b.hit n with dropped := satInc b.dropped }

/-- `k` destinations dropped. -/
def BridgeBlk.dropN (b : BridgeBlk) (n k : Nat) : BridgeBlk := (List.range k).foldl (fun (b : BridgeBlk) _ => b.drop n) b

/-- R293: a channel that goes OUT drops its queued destinations and those it holds at a gap; its reeve's ring work is over. -/
def BridgeBlk.destOut (b : BridgeBlk) : BridgeBlk :=
  let k := b.queue.foldl (fun n (p : Posted) => n + p.dests.length) 0 + b.gaps.foldl (fun n (g : GapHold) => n + g.dports.length) 0
  { b.dropN 9 k with queue := [], gaps := [], work := [] }

/-- The channel is OUT (R39, R49, R192): no instance, no gated frame and no vote of its own is left, its ring node goes to bypass, it drives MCLK and the frame line no more (R350), and
transfers by its ports end (Table 15-10). -/
def Chan.toOut (c : Chan) : Chan :=
  let c := { c.dropAll.dropGate with bridge := c.bridge.destOut }
  { c with
    sys := { c.sys with cstate := .out }
    vote := { c.vote with state := .notVoting, gate := false, conf := false, run := none, tail := none, serving := none, other := none }
    sd := { c.sd with drv := false }
    upd := { c.upd with recv := [], sends := [] }
    dict := { c.dict with txn := none }
    mill := c.mill.toBypass }

/-- A channel leaves VOTING for a reason of its own (R49): OUT at once. -/
def Chan.leaveVoting (c : Chan) : Chan := if c.sys.cstate = .voting then c.toOut else c

end Sys2Proof.Machine
end

