-- ==== Sys2Proof/Machine/Power.lean ====
section
/-! DEFINITION. Feeds, domains, the power-fail flush and thermal shutdown (R57, R475 to R481, R495). -/

namespace Sys2Proof.Machine
open Sys2Proof

/-- A feed measurement in mV, with FEEDn_OK at 16.8 V (Table 19-19). -/
def PwrBlk.feeds (p : PwrBlk) (mv1 mv2 : Nat) : PwrBlk :=
  { p with mv1 := BitVec.ofNat 16 mv1, mv2 := BitVec.ofNat 16 mv2, ok1 := decide (16800 ≤ mv1), ok2 := decide (16800 ≤ mv2) }

/-- A measurement of one feed. -/
def PwrBlk.feed (p : PwrBlk) (f : Feed) (mv : Nat) : PwrBlk :=
  match f with
  | .f1 => { p with mv1 := BitVec.ofNat 16 mv, ok1 := decide (16800 ≤ mv) }
  | .f2 => { p with mv2 := BitVec.ofNat 16 mv, ok2 := decide (16800 ≤ mv) }

/-- The channel is powered and outside HELD. -/
def Chan.up (c : Chan) : Bool := !(c.sys.cstate == .off) && !(c.sys.cstate == .held)

/-- FEED_START_THRESHOLD: ABSENT channels go to HELD; a module in M1 after a flush starts again (R57, R475). -/
def execFeedStartThreshold (mv1 mv2 : Nat) (s : State) : Out :=
  guardC (16800 ≤ mv1 || 16800 ≤ mv2) s
    (((s.updAll (fun _ c =>
        let c := { c with pwr := c.pwr.feeds mv1 mv2 }
        if c.sys.cstate = .off then { c with sys := { c.sys with cstate := .held } } else c)).remode).flushStart)

/-- KEEP_IN_REGULATION: the power-on reset of the channel; the watch oscillator starts (R10, R90 step 1, R425). -/
def execKeepInRegulation (ch : Ch) (s : State) : Out :=
  guardC (!(s.chan ch).pwr.dom.getLsbD 0) s ((s.upd ch Chan.powerOn).remode)

/-- DOMAINS_IN_REGULATION: CORE, FABRIC, PORT and FIELD reach regulation and the CDR is enabled (R90 step 2, R478). -/
def execDomainsInRegulation (ch : Ch) (s : State) : Out :=
  onChan s ch (fun c =>
    if c.pwr.dom.getLsbD 0 && c.sys.cstate = .held && c.pwr.dom ≠ 0x1F#5 then ({ c with pwr := { c.pwr with dom := 0x1F#5 } }).startClocks else c)

/-- Entry to the power-fail flush (R57, R430): no more votes, OUT if the module was in M5 to M8, record, transistors released; only the journal
record whose programming has begun goes on, and compaction ends (R386, R387). -/
def Chan.enterFlush (c : Chan) (mv1 mv2 : Nat) : Chan :=
  let c := { c with
    pwr := { c.pwr.feeds mv1 mv2 with flag := c.pwr.flag.raise 3 }
    sys := { c.sys with flushing := true, leaving := true }
    dict := { c.dict with jobs := c.dict.jobs.take 1, compact := false } }
  let c := (c.leaveVoting).safeShutdown
  c.flushRecord c.sys.mode.num c.sys.cause c.sys.cstate.code mv1 mv2

/-- POWER_FAIL_FLUSH. -/
def execPowerFailFlush (ch : Ch) (mv1 mv2 : Nat) (s : State) : Out :=
  onChan s ch (fun c => if c.up && !c.sys.flushing then c.enterFlush mv1 mv2 else c)

/-- The journal record whose programming has begun is completed and no new one is begun (R386). -/
def Chan.finishRecord (c : Chan) : Chan := { c with dict := c.dict.endJob true }

/-- The end of the flush: the queue is in the ring, the begun record durable, the channel HELD (R57, R430). -/
def Chan.endFlush (c : Chan) (mv1 mv2 : Nat) : Chan :=
  let c := { c with chron := (if c.chron.ready then c.chron else c.chron.scan).writeAll, pwr := c.pwr.feeds mv1 mv2 }
  let h := c.finishRecord.held
  { h with sys := { h.sys with flushed := true } }

/-- FLUSH_COMPLETE: HELD; after the last flush a feed at or above 16.8 V starts the module again (R57, R500). -/
def execFlushComplete (ch : Ch) (mv1 mv2 : Nat) (s : State) : Out :=
  guardC (s.chan ch).sys.flushing s (((s.upd ch (fun c => c.endFlush mv1 mv2)).remode).flushStart)

/-- Octets of a write that reached MRAM before a cut, over what lay there. -/
def cutMix (n : Nat) (new old : List Byte) : List Byte := new.take n ++ old.drop n

/-- A loss of power while the writer places its oldest queued record (R427, R431): of its writes (first copy of the control, second copy,
record, first copy, second copy) the first `n` octets are in MRAM, where `n` is free (log entry 107). Past the record and the first copy
the record is in the ring; before that what lies at HEAD is left for the scan. -/
def Chan.cutWrite (c : Chan) (n : Nat) : Chan :=
  let k := c.chron
  match k.queue with
  | [] => c
  | r :: _ =>
    if !k.ready || n = 0 then c
    else
      let m := k.makeRoom r.length
      let d := m.append r
      let old := (List.range r.length).map (fun i => (k.octet (m.head + i)).getD (memRead c.mem (0xD0000000 + m.head + i)))
      let c0 := cutMix (n - (48 + r.length)) d.ctl (cutMix n m.ctl k.ctl0)
      let c1 := cutMix (n - (72 + r.length)) d.ctl (cutMix (n - 24) m.ctl k.ctl1)
      let k := if n < 24 then k
        else if 72 + r.length ≤ n then d
        else { m with torn := if n ≤ 48 then none else some ⟨m.head, false, cutMix (n - 48) r old⟩ }
      { c with chron := { k with ctl0 := c0.take 24, ctl1 := c1.take 24 } }

/-- KEEP_LEAVES_REGULATION: the channel is reset at once and OFF; with every channel OFF the module is ABSENT (R57, R479). -/
def execKeepLeavesRegulation (ch : Ch) (s : State) : Out :=
  guardC ((s.chan ch).pwr.dom.getLsbD 0) s ((s.tick.upd ch (fun c => (c.cutWrite (Config.cutAt s.free)).off)).remode)

/-- FEED_LOW_WARNING (R475): no change of operation. -/
def execFeedLowWarning (ch : Ch) (feed : Feed) (mv : Nat) (s : State) : Out :=
  onChan s ch (fun c =>
    if mv < 16800 && c.pwr.dom.getLsbD 0 then
      { c with pwr := { c.pwr.feed feed mv with flag := c.pwr.flag.raise (match feed with | .f1 => 0 | .f2 => 1) } }
    else c)

/-- FEED_OVER (R475): no change of operation. -/
def execFeedOver (ch : Ch) (feed : Feed) (mv : Nat) (s : State) : Out :=
  onChan s ch (fun c =>
    if 30000 < mv && c.pwr.dom.getLsbD 0 then { c with pwr := { c.pwr.feed feed mv with flag := c.pwr.flag.raise 2 } } else c)

/-- FEED_CURRENT_LIMIT (R15, Table 19-20): only this channel's limit is reached; either feed sets the one flag. -/
def execFeedCurrentLimit (ch : Ch) (feed : Feed) (s : State) : Out :=
  onChan s ch (fun c =>
    if c.pwr.dom.getLsbD 0 then { c with pwr := { c.pwr with flag := c.pwr.flag.raise (match feed with | .f1 => 7 | .f2 => 7) } } else c)

/-- The reaction to a domain or thermal fault (R479): VOTING left, LEAVING set, safe-shutdown order. -/
def Chan.domainFault (c : Chan) : Chan :=
  let c := c.leaveVoting
  ({ c with sys := { c.sys with shutting := true, leaving := true, flushing := false } }).safeShutdown

/-- Bit of a domain in PWR_STAT.DOM. -/
def domBit : Domain → Nat
  | .keep => 0 | .core => 1 | .fabric => 2 | .port => 3 | .field => 4

/-- DOMAIN_OUT_OF_REGULATION (R479): a domain other than KEEP. The coil of the bypass relay is driven from the PORT domain (R235). -/
def execDomainOutOfRegulation (ch : Ch) (d : Domain) (s : State) : Out :=
  onChan s ch (fun c =>
    if c.up && domBit d ≠ 0 && c.pwr.dom.getLsbD (domBit d) then
      let c := ({ c with pwr := { c.pwr with dom := c.pwr.dom &&& ~~~ (1#5 <<< domBit d), flag := c.pwr.flag.raise 4 } }).domainFault
      if d = .port then { c with mill := c.mill.toBypass } else c
    else c)

/-- DOMAIN_SHUTDOWN_DONE (R479, R86): HELD until the next start. -/
def execDomainShutdownDone (ch : Ch) (s : State) : Out :=
  guardC (s.chan ch).sys.shutting s ((s.upd ch Chan.held).remode)

/-- A die temperature measurement (Table 19-21): highest since power-on kept, both signed. -/
def PwrBlk.temp (p : PwrBlk) (t : BitVec 16) : PwrBlk :=
  { p with die := t, dieMax := if p.dieMax.slt t then t else p.dieMax, hot := decide (1200 ≤ t.toInt) }

/-- DIE_HOT (R481). -/
def execDieHot (ch : Ch) (temp : BitVec 16) (s : State) : Out :=
  onChan s ch (fun c =>
    if decide (1200 ≤ temp.toInt) && c.pwr.dom.getLsbD 0 then { c with pwr := { c.pwr.temp temp with flag := c.pwr.flag.raise 5 } } else c)

/-- OVERTEMPERATURE (R481): above +135 °C, as a domain fault. -/
def execOvertemperature (ch : Ch) (temp : BitVec 16) (s : State) : Out :=
  onChan s ch (fun c =>
    if decide (1350 < temp.toInt) && c.up then
      ({ c with pwr := { c.pwr.temp temp with flag := c.pwr.flag.raise 6 } }).domainFault
    else c)

end Sys2Proof.Machine
end

