-- ==== Sys2Proof/Machine/FieldIo.lean ====
section
/-! DEFINITION. Field I/O commands: alignment instants, quench, findings, transistor tests, supply, permit inputs, and what a boundary does with the fields (R320 to R346). -/

namespace Sys2Proof.Machine
open Sys2Proof

/-! Sampling (R145, R168, R321, R322) -/

/-- Filter time F of input `i` in alignment instants. -/
def FieldBlk.filtOf (f : FieldBlk) (i : Nat) : Nat := (atD (0, 100) i f.inCfg).2

/-- Instants at which the raw sample of input `i` has differed, this one included; 0 when it equals the level. -/
def FieldBlk.differed (f : FieldBlk) (raw : Word) (i : Nat) : Nat :=
  if raw.getLsbD i = f.lvl.getLsbD i then 0 else atD 0 i f.filt + 1

/-- Input `i` changes its filtered level at this instant (R322). -/
def FieldBlk.flips (f : FieldBlk) (raw : Word) (i : Nat) : Bool := decide (0 < f.differed raw i) && decide (f.filtOf i ≤ f.differed raw i)

/-- The filtered level after an instant. -/
def FieldBlk.newLvl (f : FieldBlk) (raw : Word) : Word :=
  (List.range 32).foldl (fun (w : Word) i => if f.flips raw i then w ^^^ (1#32 <<< i) else w) f.lvl

/-- Counts with one added where the level flips to `to` (R168, modulo 2^32). -/
def FieldBlk.counted (f : FieldBlk) (raw : Word) (dst : Bool) (l : List Word) : List Word :=
  (l.zipIdx).map (fun (x : Word × Nat) => if f.flips raw x.2 && f.lvl.getLsbD x.2 != dst then x.1 + 1#32 else x.1)

/-- A network's readings at an instant (R334). -/
def NetRt.read (n : NetRt) (r : NetReading) : NetRt :=
  { n with tcond := r.tcond, qplus := r.qplus, qminus := r.qminusLow, current := r.current }

/-- Overcurrent limit of a network, mA; the short limit. -/
def overLimit (i : Nat) : Nat := if 16 ≤ i then 350 else 750
def shortLimit (i : Nat) : Nat := if 16 ≤ i then 700 else 2000

/-- A reading of nothing: non-conducting, terminals off. -/
def NetReading.zero : NetReading := ⟨0#12, false, false, 0⟩

/-- The fall of a permit input while ON-IF-PERMITTED holds the network (Table 12-4). -/
def NetRt.permitFall (n : NetRt) (lvl : Word) : NetRt :=
  if n.state = .safe && n.cfg.safe = 1 && n.cmd && !lvl.getLsbD n.cfg.permit then { n with cmd := false, drv := false, permitLost := true } else n

/-- The own sample set at this instant (R145, R334). -/
def Chan.sampleSet (c : Chan) : SampleSet where
  stamp := c.now
  levels := c.field.lvl
  rise := c.sl.rise
  fall := c.sl.fall
  nets := c.field.nets.map (fun n => ⟨n.tcond, n.qplus, n.qminus, n.current⟩)
  finds := (c.field.nets.zipIdx).flatMap (fun (x : NetRt × Nat) => x.1.finds.map (fun f => (x.2, f)))

/-- Sample sets kept for freezing. -/
def setsKept : Nat := 128

/-- One alignment instant: raw samples, filter, counts from the start decision on (Table 5-8), readings, permit inputs. -/
def Chan.align (c : Chan) (raw : Word) (nets : List NetReading) : Chan :=
  let f := c.field
  let c := { c with
    field := { f with
      raw := raw
      lvl := f.newLvl raw
      filt := (List.range 32).map (fun i => if f.flips raw i then 0 else f.differed raw i) }
    sl := if c.tb.tickRun then { c.sl with rise := f.counted raw true c.sl.rise, fall := f.counted raw false c.sl.fall } else c.sl }
  c.mapNets (fun i n => (n.read (atD NetReading.zero i nets)).permitFall c.field.lvl)

/-- The sample set of an instant joins those kept. -/
def Chan.keepSet (c : Chan) : Chan := { c with sl := { c.sl with sets := (c.sampleSet :: c.sl.sets).take setsKept } }

/-- The next boundary's stamp: the first one once the tick generator runs, or the next (R102). -/
def Chan.nextStamp (c : Chan) : Nat := if c.tb.started then c.tb.bk + c.period else c.tb.bk

/-- This instant is the last at or before the next boundary's cutoff (R145). -/
def Chan.lastInstant (c : Chan) : Bool :=
  c.tb.tickRun && decide (c.now + c.sl.cutoff * 1000 ≤ c.nextStamp) && decide (c.nextStamp < c.now + 1000 + c.sl.cutoff * 1000)

/-! The agreed set (R145) -/

/-- Instant limit of a boundary at `b`. -/
def Chan.cutAt (c : Chan) (b : Nat) : Nat := b - c.sl.cutoff * 1000

/-- The own set for a boundary at `b`. -/
def Chan.ownSet (c : Chan) (b : Nat) : Option SampleSet := c.sl.sets.find? (fun x => decide (x.stamp ≤ c.cutAt b))

/-- A peer's set for a boundary at `b`: stamped in the last period before the cutoff. -/
def Chan.peerSet (c : Chan) (l : Link) (b : Nat) : Option SampleSet :=
  (match l with | .next => c.sl.setsNext | .prev => c.sl.setsPrev).find?
    (fun x => decide (x.stamp ≤ c.cutAt b) && decide (c.cutAt b < x.stamp + c.period))

/-- The sets at hand, own first. -/
def Chan.setsAt (c : Chan) (b : Nat) : List SampleSet :=
  [c.ownSet b, c.peerSet .next b, c.peerSet .prev b].filterMap id

/-- The middle one of three values. -/
def median3 (a b c : Nat) : Nat := max (min a b) (min (max a b) c)

/-- Bitwise majority. -/
def maj3 (a b c : Word) : Word := (a &&& b) ||| (b &&& c) ||| (c &&& a)

/-- Medians of counts, word by word. -/
def medians (x y z : List Word) : List Word :=
  (List.range 32).map (fun i => BitVec.ofNat 32 (median3 (atD 0#32 i x).toNat (atD 0#32 i y).toNat (atD 0#32 i z).toNat))

/-- Levels and counts equal. -/
def SampleSet.same (a b : SampleSet) : Bool := a.levels == b.levels && a.rise == b.rise && a.fall == b.fall

/-- The agreed set of a boundary and whether the sets disagreed (R145). -/
def agreeSets : List SampleSet → Option SampleSet × Bool
  | [x, y, z] =>
    let a : SampleSet := { x with levels := maj3 x.levels y.levels z.levels, rise := medians x.rise y.rise z.rise, fall := medians x.fall y.fall z.fall }
    (some a, !(x.same a && y.same a && z.same a))
  | [x, y] => if x.same y then (some x, false) else (none, true)
  | _ => (none, false)

/-! Findings (R335, R336, R338, R342) -/

/-- Owner of a transistor (Table 12-2). -/
def ownerOf (x : Nat) : Ch :=
  match x % 6 with
  | 0 => .A | 1 => .B | 2 => .B | 3 => .C | 4 => .C | _ => .A

/-- Transistors that a channel owns, high side before low side (Table 12-2). -/
def ownedBy (ch : Ch) : List Nat := (List.range 12).filter (fun x => ownerOf x == ch)

/-- A network side conducts by its readings: some branch with both transistors conducting. -/
def sideConducts (t : BitVec 12) (low : Bool) : Bool :=
  let b := if low then 6 else 0
  (List.range 3).any (fun k => t.getLsbD (b + 2 * k) && t.getLsbD (b + 2 * k + 1))

/-- Channels that command network `i` on. -/
def State.onChs (s : State) (i : Nat) : Nat := (allCh.filter (fun c => ((s.chan c).net i).cmd)).length

/-- Readback is judged: M5 to M11 with the field supply present (R339, Table 12-9). -/
def Chan.judgesField (c : Chan) : Bool := c.up && 5 ≤ c.sys.mode.num && c.field.fsup

/-- Transistor `x` of network `i` is under test by its owner (R337). -/
def State.underTest (s : State) (i x : Nat) : Bool := (s.chan (ownerOf x)).field.test == some (i, x)

/-- Some transistor of network `i` is under test. -/
def State.netTested (s : State) (i : Nat) : Bool := allCh.any (fun k => ((s.chan k).field.test.map (·.1)) == some i)

/-- Whether the finding's condition holds by this channel's readings and the commanded states (Table 12-5). The reading of a transistor under
test, and of the terminals of its network, is not judged (R335). -/
def State.findCond (s : State) (ch : Ch) (i : Nat) (f : Finding) : Bool :=
  let c := s.chan ch
  let n := c.net i
  let w0 := c.wiring i = 0
  decide (i < 18) && match f with
  | .stuckOn x => decide (x < 12) && !s.underTest i x && n.tcond.getLsbD x && !((s.chan (ownerOf x)).net i).cmd
  | .stuckOff x => decide (x < 12) && !s.underTest i x && !n.tcond.getLsbD x && ((s.chan (ownerOf x)).net i).cmd
  | .energised => w0 && !s.netTested i && decide (s.onChs i ≤ 1) && n.qplus && n.qminus
  | .extHigh => w0 && !s.netTested i && !sideConducts n.tcond false && n.qplus
  | .openLoad => w0 && !s.netTested i && decide (2 ≤ s.onChs i) && decide (n.current < 5)
  | .over => decide (overLimit i < n.current)
  | .short => decide (shortLimit i < n.current)

/-- Time a finding's condition must have held (Table 12-5), ns. -/
def findLasts : Finding → Nat
  | .stuckOn _ => 1000000 | .stuckOff _ => 1000000 | .energised => 10000000 | .extHigh => 10000000
  | .openLoad => 100000000 | .over => 1000000 | .short => 20000

/-- Latest change of the commanded state that blanks a finding's readings: of its transistor, the start and the end of its tests included, or
of any transistor of the network (R335). -/
def State.changedAt (s : State) (i : Nat) (x : Option Nat) : Nat :=
  (allCh.filter (fun k => match x with | some y => ownerOf y == k | none => true)).foldl (fun (m : Nat) k =>
    let c := s.chan k
    let mine := c.field.testChg.filter (fun t => t.1 / 12 == i && (match x with | some y => t.1 % 12 == y | none => true))
    mine.foldl (fun (m : Nat) t => max m t.2) (max m (c.net i).chgAt)) 0

/-- The earliest time at which a finding can be made: its duration behind the blanking of 400 µs; an overcurrent is never blanked (R335). -/
def State.findAt (s : State) (i : Nat) (f : Finding) : Nat :=
  match f with
  | .stuckOn x => s.changedAt i (some x) + 400000 + findLasts f
  | .stuckOff x => s.changedAt i (some x) + 400000 + findLasts f
  | .over => 0
  | .short => 0
  | _ => s.changedAt i none + 400000 + findLasts f

/-- Bit of FIELD_FLAG of a finding (Table 12-12). -/
def findBit : Finding → Nat
  | .stuckOff _ => 2 | .stuckOn _ => 3 | .over => 4 | .short => 4 | .openLoad => 5 | .extHigh => 6 | .energised => 7

/-- STO fault code of a finding (Table 12-5, R338, R342); 0 for one that makes none. -/
def stoCode : Finding → Nat
  | .stuckOn _ => 1 | .stuckOff _ => 2 | .energised => 3 | .over => 5 | .short => 5 | _ => 0

/-- A finding of an output that leads to M11 with cause 0x0B (Table 12-5). -/
def findLocks : Finding → Bool
  | .stuckOn _ => true | .energised => true | _ => false

/-- A finding of network `i` whose reaction is a FIELD record (Table 12-5). -/
def findRecorded (i : Nat) : Finding → Bool
  | .stuckOff _ => decide (i < 16) | .extHigh => true | _ => false

/-- Record a finding in the network's registers. -/
def NetRt.mark (n : NetRt) (f : Finding) : NetRt :=
  let n := { n with finds := if n.finds.contains f then n.finds else n.finds ++ [f] }
  match f with
  | .stuckOn x => { n with stuckOn := n.stuckOn ||| (1#12 <<< x) }
  | .stuckOff x => { n with stuckOff := n.stuckOff ||| (1#12 <<< x) }
  | .energised => { n with noSafe := true }
  | .extHigh => { n with extHigh := true }
  | .openLoad => { n with openLoad := true }
  | .over => { n.release with tripSeen := true, state := .tripped, offSince := none }
  | .short => { n.release with tripSeen := true, state := .tripped, offSince := none }

/-- Finding states end when an instant does not meet their condition (R334). -/
def State.dropFinds (s : State) (ch : Ch) : State :=
  s.upd ch (fun c => c.mapNets (fun i n => { n with finds := n.finds.filter (fun f => s.findCond ch i f) }))

/-- ALIGNMENT_INSTANT (R77, R145, R168, R322, R334): the alignment counter comes to its next instant, and the set of the boundary's last
instant is forwarded (R37). -/
def execAlignmentInstant (ch : Ch) (raw : Word) (nets : List NetReading) (s : State) : Out :=
  guardC ((s.chan ch).up && (s.chan ch).clk.divRun) s
    (let t := ((s.upd ch (fun c => { c with tb := c.tb.toInstant }.align raw nets)).dropFinds ch).upd ch Chan.keepSet
     if (t.chan ch).lastInstant then t.sendBoth ch (.samples (t.chan ch).sampleSet) else t)

/-- The latest summaries of the other channels show the same finding, or no other channel's readings are at hand: none was formed in this tick or
in the one before (R336; DEDUCED, log entry 102). -/
def Chan.seconded (c : Chan) (i : Nat) (f : Finding) : Bool :=
  let heads := ([c.sl.setsNext.head?, c.sl.setsPrev.head?].filterMap id).filter (fun x => decide (c.tb.bk ≤ x.stamp + 2 * c.period))
  heads.isEmpty || heads.any (fun x => x.finds.contains (i, f))

/-- Act on the channel's own findings that are seconded: M11 for outputs, STO faults (R336, R342). -/
def Chan.actFinds (c : Chan) : Chan :=
  (List.range 18).foldl (fun (c : Chan) i =>
    (c.net i).finds.foldl (fun (c : Chan) f =>
      if !c.seconded i f then c
      else if 16 ≤ i then
        let m := i - 16
        let cur := if m = 0 then c.field.sto0.fault else c.field.sto1.fault
        if stoCode f = 0 || cur ≠ 0 then c else c.stoFault m (stoCode f)
      else if findLocks f && c.sys.mode ≠ .m11 && !c.sys.triggers.contains ⟨.m11, 0x0B⟩ then c.outFault
      else c) c) c

/-- One reset window for all LOCKED channels: when one closes it, it is closed in all that class 1 reaches, with that reason (R344). -/
def State.shareWindow (s : State) (ch : Ch) (was : Bool) : State :=
  if was && (s.chan ch).field.win.isNone then
    s.updAll (fun k c => if k ≠ ch && s.reach ch k 1 && c.field.win.isSome then c.closeWindow (s.chan ch).field.rreason else c)
  else s

/-- A finding is made in channel `ch` (R335, R338): registers, flag, record, reaction, and the reset window closed with reason 3 (R344). -/
def Chan.find (c : Chan) (i : Nat) (f : Finding) : Chan :=
  let c := c.updNet i (fun n => n.mark f)
  let c := { c with field := { c.field with flag := c.field.flag.raise (findBit f) } }
  let c := if findRecorded i f then c.logField i (findBit f) (c.net i).findWord else c
  let c := if c.field.win.isSome then c.closeWindow 3 else c
  c.actFinds

/-- OUTPUT_FINDING: the condition has held for its duration, readings within 400 µs of a change ignored (R335). -/
def execOutputFinding (ch : Ch) (net : Nat) (f : Finding) (s : State) : Out :=
  guardC ((s.chan ch).judgesField && s.findCond ch net f) s
    ((s.upd ch (fun c => { c with tb := c.tb.reach (s.findAt net f) }.find net f)).shareWindow ch (s.chan ch).field.win.isSome)

/-! Quench, permit inputs, supply -/

/-- QUENCH_EXPIRY (R329): in M5 to M8 the network's programmed safe state applies until the next restart. -/
def execQuenchExpiry (ch : Ch) (net : Nat) (s : State) : Out :=
  onChan s ch (fun c =>
    match (c.net net).quenchAt with
    | none => c
    | some t =>
      if c.sys.mode.runs then
        let c := { c with tb := c.tb.reach t, field := { c.field with flag := c.field.flag.raise 8 } }
        c.updNet net (fun n => n.expire (decide (16 ≤ net)) c.clk.qual c.field.lvl)
      else c)

/-- PERMIT_INPUT_FALL (R330, R346): the filtered level of the permit input of a network in ON-IF-PERMITTED falls. -/
def execPermitInputFall (ch : Ch) (net : Nat) (s : State) : Out :=
  onChan s ch (fun c =>
    let n := c.net net
    let p := n.cfg.permit
    if n.state = .safe && n.cfg.safe = 1 && n.cmd && decide (p < 32) && c.field.lvl.getLsbD p then
      let c := { c with
        field := { c.field with lvl := c.field.lvl &&& ~~~(1#32 <<< p) }
        sl := { c.sl with fall := modAt (· + 1#32) p c.sl.fall } }
      c.mapNets (fun _ x => x.permitFall c.field.lvl)
    else c)

/-- FIELD_SUPPLY_LOW (R339): no findings, no tests, a running feedback discrepancy ends. -/
def execFieldSupplyLow (ch : Ch) (s : State) : Out :=
  onChan s ch (fun c =>
    if c.up && c.field.fsup then
      { c with field := { c.field with
          fsup := false
          flag := c.field.flag.raise 11
          sto0 := { c.field.sto0 with since := none }
          sto1 := { c.field.sto1 with since := none } } }
    else c)

/-- FIELD_SUPPLY_RESTORED (R339, R341): FSUP is 1 from the next boundary's view on. -/
def execFieldSupplyRestored (ch : Ch) (s : State) : Out :=
  onChan s ch (fun c => if c.up && !c.field.fsup then { c with field := { c.field with fsup := true, fsupAt := c.nextStamp } } else c)

/-! Run-time transistor tests (R337) -/

/-- Test slots of a round: network and owned position in the order of R337, from a starting slot. -/
def testOrder (start : Nat × Nat) : List (Nat × Nat) :=
  let k := start.1 * 4 + start.2
  (List.range 72).map (fun j => (((k + j) % 72) / 4, ((k + j) % 72) % 4))

/-- The slot after one. -/
def slotAfter (p : Nat × Nat) : Nat × Nat := ((p.1 * 4 + p.2 + 1) % 72 / 4, (p.1 * 4 + p.2 + 1) % 72 % 4)

/-- The branch (0 AB, 1 BC, 2 CA) of the channel's network side that holds none of its transistors. -/
def freeBranch : Ch → Nat
  | .A => 1 | .B => 2 | .C => 0

/-- Whether a network is tested: an STO network always, but not in M6 (R445); an output by its configuration. -/
def Chan.netTested (c : Chan) (i : Nat) : Bool := if 16 ≤ i then c.sys.mode != .m6 else (c.net i).cfg.test

/-- Whether a slot may be tested (R337): its network is tested and the on-test or off-test condition holds. -/
def Chan.testable (c : Chan) (ch : Ch) (p : Nat × Nat) : Bool :=
  let n := c.net p.1
  let x := atD 0 p.2 (ownedBy ch)
  let base := x / 6 * 6
  c.netTested p.1 &&
    (if n.cmd then n.tcond.getLsbD (base + 2 * freeBranch ch) && n.tcond.getLsbD (base + 2 * freeBranch ch + 1)
     else !n.tcond.getLsbD (if x % 2 = 0 then x + 1 else x - 1))

/-- Ticks between the tests of two channels: m = ⌈500 µs / P⌉. -/
def Chan.testM (c : Chan) : Nat := (500000 + c.period - 1) / c.period

/-- TRANSISTOR_TEST_START (R337): 25 µs after the channel's boundary, the next transistor whose condition holds. -/
def execTransistorTestStart (ch : Ch) (s : State) : Out :=
  onChan s ch (fun c =>
    if c.sys.mode.runs && c.field.fsup && c.field.test.isNone && c.sys.cstate = .voting && !c.field.released
        && c.tb.c % (3 * c.testM) = chCode ch * c.testM then
      match (testOrder c.field.nextTest).find? (fun p => c.testable ch p) with
      | none => c
      | some p =>
        let x := atD 0 p.2 (ownedBy ch)
        let t := c.tb.reach (c.tb.bk + 25000)
        let c := { c with tb := t }
        let c := c.stampTest p.1 x c.now
        { c with field := { c.field with test := some (p.1, x), nextTest := slotAfter p } }
    else c)

/-- A finding that a test makes: register, flag, and its FIELD record. -/
def Chan.markFailed (c : Chan) (i : Nat) (f : Finding) : Chan :=
  let c := c.updNet i (fun n => match f with
    | .stuckOn x => { n with stuckOn := n.stuckOn ||| (1#12 <<< x) }
    | .stuckOff x => { n with stuckOff := n.stuckOff ||| (1#12 <<< x) }
    | _ => n)
  ({ c with field := { c.field with flag := c.field.flag.raise (findBit f) } }).logField i (findBit f) (c.net i).findWord

/-- A test that fails shows a transistor that does not follow its command: STUCK_ON for an off-test, STUCK_OFF for an on-test (log entry 44). -/
def Chan.testFailed (c : Chan) (i x : Nat) : Chan := c.markFailed i (if (c.net i).cmd then .stuckOn x else .stuckOff x)

/-- TRANSISTOR_TEST_END (R337): the transistor returns to its commanded state; a test without change or restoration fails. -/
def execTransistorTestEnd (ch : Ch) (changed restored : Bool) (s : State) : Out :=
  onChan s ch (fun c =>
    match c.field.test with
    | none => c
    | some (i, x) =>
      let c := { c.endTest with field := { c.endTest.field with tested := modAt (fun _ => c.now) (4 * i + (ownedBy ch).idxOf x) c.field.tested } }
      if changed && restored then c else c.testFailed i x)

/-- TRANSISTOR_UNTESTED (R337): 60 s have passed since the transistor's last test. -/
def execTransistorUntested (ch : Ch) (net idx : Nat) (s : State) : Out :=
  onChan s ch (fun c =>
    if c.sys.mode.runs && decide (net < 18) && (ownedBy ch).contains idx && c.netTested net then
      let t := atD 0 (4 * net + (ownedBy ch).idxOf idx) c.field.tested
      let d := { c with tb := c.tb.reach (t + 60000000000) }.updNet net (fun n => { n with nj := true })
      { d with field := { d.field with flag := d.field.flag.raise 12 } }
    else c)

/-! What a boundary does with the fields -/

/-- R324: the filtered levels of each input compared over the three sample sets. -/
def Chan.senseJudge (c : Chan) (b : Nat) : Chan :=
  match c.ownSet b, c.peerSet .next b, c.peerSet .prev b with
  | some o, some p, some q =>
    let odd (i : Nat) : Bool := p.levels.getLsbD i == q.levels.getLsbD i && o.levels.getLsbD i != p.levels.getLsbD i
    let anyDis := decide (o.levels ≠ p.levels) || decide (p.levels ≠ q.levels)
    let runs := (List.range 32).map (fun i => if odd i then atD 0 i c.field.senseRun + 1 else 0)
    let bad := (List.range 32).filter (fun i => decide (atD 0 i runs = 64))
    let sense := bad.foldl (fun (w : Word) i => w ||| (1#32 <<< i)) c.field.sense
    let f := { c.field with senseRun := runs, sense := sense, flag := (c.field.flag.raiseIf anyDis 0).raiseN bad.length 1 }
    bad.foldl (fun (c : Chan) i => c.logField i 1 0#32) { c with field := f }
  | _, _, _ => c

/-- The readings of a network's points: 12 transistors, Qn+, Qn− (R334). The load current, a measured quantity, is not compared
(DESIGN CHOICE, log entry 102). -/
def readPoints (r : NetReading) : List Bool :=
  (List.range 12).map (fun x => r.tcond.getLsbD x) ++ [r.qplus, r.qminusLow]

/-- R336: the reading of each point against two equal readings of the other channels; each that differs sets SENSE_DIS (R10). -/
def Chan.rbJudge (c : Chan) (b : Nat) : Chan :=
  match c.ownSet b, c.peerSet .next b, c.peerSet .prev b with
  | some o, some p, some q =>
    let rd (x : SampleSet) (i : Nat) : List Bool := readPoints (atD NetReading.zero i x.nets)
    let odd (i k : Nat) : Bool := atD false k (rd p i) == atD false k (rd q i) && atD false k (rd o i) != atD false k (rd p i)
    let dis := ((List.range 18).map (fun i => (List.range 14).countP (fun k => odd i k))).foldl (· + ·) 0
    let c := c.mapNets (fun i n => { n with rbRun := (List.range 14).map (fun k => if odd i k then atD 0 k n.rbRun + 1 else 0) })
    let bad := (List.range 18).filter (fun i => (c.net i).rbRun.contains 64)
    let c := { c with field := { c.field with
        rbSense := bad.foldl (fun (w : BitVec 18) i => w ||| (1#18 <<< i)) c.field.rbSense
        flag := (c.field.flag.raiseN dis 0).raiseN bad.length 1 } }
    bad.foldl (fun (c : Chan) i => c.logField i 1 (c.net i).findWord) c
  | _, _, _ => c

/-- R341: one STO channel's feedback comparison at a boundary at `b`: the state after it and whether fault 4 is made. -/
def StoRt.compare (x : StoRt) (b fsupAt : Nat) (cmd : Bool) (chgAt : Nat) (lvl : Bool) : StoRt × Bool :=
  let x := { x with cmd := cmd, cmdAt := chgAt }
  let x := if x.fb = lvl then x else { x with fb := lvl, fbAt := b }
  let off := lvl == x.fbPol
  if off != x.cmd then ({ x with since := none }, false)
  else
    let from_ := max (max x.cmdAt x.fbAt) fsupAt
    ({ x with since := some from_ }, decide (from_ + x.disc * 10000000 ≤ b))

/-- R341 at a boundary: skipped while FSUP is 0 or no agreed level exists. -/
def Chan.stoCompare (c : Chan) (b : Nat) (agreed : Option SampleSet) : Chan :=
  [0, 1].foldl (fun (c : Chan) m =>
    let x := if m = 0 then c.field.sto0 else c.field.sto1
    match agreed with
    | none => c
    | some a =>
      if !x.fbEn || !c.field.fsup then c
      else
        let r := x.compare b c.field.fsupAt (c.net (16 + m)).cmd (c.net (16 + m)).chgAt (a.levels.getLsbD x.fbIn)
        let f := if m = 0 then { c.field with sto0 := r.1 } else { c.field with sto1 := r.1 }
        let c := { c with field := f }
        if r.2 && x.fault = 0 then ({ c with field := { c.field with flag := c.field.flag.raise 10 } }).stoFault m 4 else c) c

/-- R345: the fault of the cause in force is cleared by this channel's readings and the agreed feedback. -/
def Chan.faultCleared (c : Chan) (agreed : SampleSet) : Bool :=
  let off (i : Nat) : Bool := (c.net i).tcond = 0#12
  match c.sys.cause with
  | 0x0A => [0, 1].all (fun m =>
      let x := if m = 0 then c.field.sto0 else c.field.sto1
      off (16 + m) && !((c.net (16 + m)).qplus && (c.net (16 + m)).qminus) && (!x.fbEn || agreed.levels.getLsbD x.fbIn == x.fbPol)) && c.field.fsup
  | 0x0B => (List.range 16).all (fun i => off i && !(decide (c.wiring i = 0) && (c.net i).qplus && (c.net i).qminus)) && c.field.fsup
  | _ => true

/-- R344 steps 2 to 5 at a boundary at `b`: a greater rise count leads to the check of R345; the window's end closes it, also where the
proposals were not agreed: another channel has not found the conditions met (DEDUCED, log entry 102). -/
def Chan.resetWindow (c : Chan) (b : Nat) (agreed : Option SampleSet) : Chan :=
  match c.field.win with
  | none => c
  | some w =>
    let set (w : ResetWin) : Chan := { c with field := { c.field with win := some w } }
    let check (w : ResetWin) (a : SampleSet) : Chan :=
      if !c.field.fsup then (if w.ends ≤ b then (set w).closeWindow 2 else set { w with waiting := true })
      else if c.faultCleared a then (set { w with granted := true, waiting := false }).trigger .m1 0x02
      else (set w).closeWindow 2
    if w.granted then (if w.ends ≤ b then c.closeWindow 2 else c.trigger .m1 0x02)
    else match agreed with
      | none => if w.ends ≤ b then c.closeWindow (if w.waiting then 2 else 1) else c
      | some a =>
        if w.waiting then check w a
        else match w.ref with
          | none => if w.ends ≤ b then c.closeWindow 1 else set { w with ref := some (atD 0#32 c.field.rstIn a.rise) }
          | some r =>
            if r.toNat < (atD 0#32 c.field.rstIn a.rise).toNat then check w a
            else if w.ends ≤ b then c.closeWindow 1 else c

/-- The field part of a boundary at `b` in M5 to M11: agreed levels, sense and readback judgement, feedback, reset window. -/
def Chan.fieldBoundary (c : Chan) (b : Nat) : Chan :=
  if c.sys.mode.num < 5 then c
  else
    let a := (agreeSets (c.setsAt b)).1
    let c := match a with
      | some x => { c with sl := { c.sl with agreed := some x }, field := { c.field with agree := x.levels } }
      | none => c
    (((c.senseJudge b).rbJudge b).stoCompare b a).resetWindow b a

end Sys2Proof.Machine
end

