-- ==== Sys2Proof/Machine/Clocks.lean ====
section
/-! DEFINITION. Lane, PLL, dividers, watch oscillator, monitors, trips, multiplexers (R78 to R90, R501), and the assay step's abandonment (R63, R89). -/

namespace Sys2Proof.Machine
open Sys2Proof

/-! Trips -/

/-- A monitor trip (R84, R85): before qualification the channel goes to HELD at once; after it the fallback begins. -/
def Chan.trip (c : Chan) (src : Nat) : Chan :=
  let c := { c with clk := { c.clk with
    tripCount := min (c.clk.tripCount + 1) 255
    tripSrc := src
    mon := c.clk.mon.raise src } }
  if c.clk.qual then
    let c := { c with clk := { c.clk with tripKind := 2, tripNew := true, falling := true, muxReq := c.clk.muxReq ||| 64#8 } }
    c.leaveVoting
  else
    let h := { c with clk := { c.clk with tripKind := 1 } }.held
    { h with clk := { h.clk with retryDue := !h.sys.released } }

/-! The watch oscillator -/

/-- Reference frequency in Hz times the 1,024 watch periods of a measurement. -/
def watchNum : Nat := 125000000 * 1024

/-- Frequency derived from a count of reference cycles, truncated to whole hertz (R81). -/
def watchHz (count : Nat) : Nat := watchNum / count

/-- 6.8 MHz to 9.2 MHz, judged on the exact quotient. -/
def watchInRange (count : Nat) : Bool := 6800000 * count ≤ watchNum && watchNum ≤ 9200000 * count

/-- A qualification attempt passes (R81): every group within 1 % of the mean, frequency in range. -/
def watchPasses (groups : List Nat) : Bool :=
  let total := groups.foldl (· + ·) 0
  groups.length = 64 && groups.all (fun g => 100 * (64 * g) ≤ 101 * total && 99 * total ≤ 100 * (64 * g)) && watchInRange total

/-- A new qualification attempt (R81). -/
def ClockBlk.newAttempt (k : ClockBlk) : ClockBlk := { k with qatt := min (k.qatt + 1) 255 }

/-- Disqualification (R82, R331): qualification starts again, held safe states fall to OFF. No window before it counts toward two
consecutive ones (log entry 84). -/
def Chan.disqualify (c : Chan) : Chan :=
  let c := c.dropHeld
  { c with clk := { c.clk with qual := false, cal := 0, prevOut := [], mon := c.clk.mon.raise 9 }.newAttempt }

/-! Monitors -/

/-- The eight counting monitors: bit in CLOCK_MON_FLAG, nominal frequency in kHz, calibrated tolerance in percent (Table 3-2). -/
def monitors : List (Nat × Nat × Nat) :=
  [(0, 125000, 3), (2, 1000000, 3), (3, 750000, 3), (4, 500000, 3), (5, 250000, 3), (6, 125000, 3), (7, 20000, 5), (8, 8000, 5)]

/-- A count lies within `tol` percent of E = f × 64 / f_w. -/
def monWithin (count khz fw tol : Nat) : Bool :=
  let e := khz * 1000 * 64
  (100 - tol) * e ≤ 100 * (count * fw) && 100 * (count * fw) ≤ (100 + tol) * e

/-- Two ratios count / E agree within 1 % of one another. -/
def ratiosAgree (a b : Nat × Nat) : Bool := 100 * (a.1 * b.2) ≤ 101 * (b.1 * a.2) && 100 * (b.1 * a.2) ≤ 101 * (a.1 * b.2)

/-- The common deviation of R501: all eight ratios agree, none is zero, one lies outside its calibrated tolerance. DESIGN CHOICE (log entry
110): eight counts of zero agree as well, and R83 trips at a count of zero; the model takes them for no common deviation and trips. -/
def commonDeviation (fw : Nat) (counts : List Nat) : Bool :=
  let rs := (counts.zip monitors).map (fun x => (x.1, x.2.2.1))
  rs.all (fun a => decide (0 < a.1) && rs.all (ratiosAgree a)) &&
    (counts.zip monitors).any (fun x => !monWithin x.1 x.2.2.1 fw x.2.2.2)

/-- A monitor window ends (R83, R501). -/
def Chan.monitorWindow (c : Chan) (counts : List Nat) : Chan :=
  let fw := if c.clk.qual then c.clk.cal else 8000000
  if commonDeviation fw counts then
    if c.clk.qual then c.disqualify else { c with clk := { c.clk with prevOut := [] } }
  else
    let ms := counts.zip monitors
    let out := (ms.filter (fun x => !monWithin x.1 x.2.2.1 fw (if c.clk.qual then x.2.2.2 else 20))).map (fun x => x.2.1)
    let trips := (ms.filter (fun x => decide (x.1 = 0) || (out.contains x.2.1 && c.clk.prevOut.contains x.2.1))).map (fun x => x.2.1)
    let c := { c with clk := { c.clk with prevOut := out } }
    match trips with
    | [] => c
    | t :: ts => ({ c with clk := { c.clk with mon := ts.foldl FlagReg.raise c.clk.mon } }).trip t

/-! Assay abandonment (R63) -/

/-- Multiplexers 0 to 5 are requested to go to the test clock (`on`) or back to the root division (Table 3-4). DESIGN CHOICE (log entry 83):
SEL shows the new input from the request on; the switch is complete when the step ends, unless it hangs first. -/
def ClockBlk.switchTest (k : ClockBlk) (on : Bool) : ClockBlk :=
  { k with muxReq := k.muxReq ||| 0x3F#8, muxSel := if on then k.muxSel ||| 0x3F#8 else k.muxSel &&& 0xC0#8 }

/-- The switches of multiplexers 0 to 5 requested at the beginning of the step are complete. -/
def ClockBlk.testDone (k : ClockBlk) : ClockBlk := { k with muxReq := k.muxReq &&& 0xC0#8 }

/-- S1 and S3 run on the test clock (Table 3-4). -/
def onTestClock (step : Nat) : Bool := step = 1 || step = 3

/-- The running step is abandoned as not judged; after the fourth attempt the channel is not judgeable. -/
def Chan.abandonStep (c : Chan) : Chan :=
  if c.assay.step = 0 || c.assay.result ≠ 3 || c.assay.waiting then c
  else
    let a := c.assay
    let a := { a with flag := a.flag.raise 1, njCnt := min (a.njCnt + 1) 255, attempts := a.attempts + 1 }
    { c with
      assay := if 4 ≤ a.attempts then { a with result := 2, waiting := false } else { a with waiting := true }
      clk := if onTestClock c.assay.step then c.clk.testDone.switchTest false else c.clk }

/-! Meanings -/

/-- LANE_LOCK (R78, R79, R90 step 3): the reference is back, holdover ends, or the root PLL is enabled. -/
def execLaneLock (ch : Ch) (s : State) : Out :=
  onChan s ch (fun c =>
    if c.clk.cdrEn && !c.clk.laneLock then { c with clk := { c.clk with laneLock := true, holdover := false, pllEn := true } } else c)

/-- Requests outstanding on a lost lane are discarded without responses (R469). -/
def Chan.laneDown (c : Chan) : Chan := { c with host := { c.host with outst := [], flag := c.host.flag.raiseIf (!c.host.outst.isEmpty) 4 } }

/-- LANE_LOSS (R79, R469). -/
def execLaneLoss (ch : Ch) (s : State) : Out :=
  guardC (s.chan ch).clk.laneLock s
    ((s.upd ch (fun c =>
      let c := { c with clk := { c.clk with laneLock := false } }.laneDown
      if c.clk.qual then { c with clk := { c.clk with holdover := true, mon := c.clk.mon.raise 10 } } else c.trip 0)).remode)

/-- HOLDOVER_EXPIRY (R79): the REF monitor trips. -/
def execHoldoverExpiry (ch : Ch) (s : State) : Out :=
  guardC ((s.chan ch).clk.holdover && !(s.chan ch).clk.laneLock && !(s.chan ch).clk.falling) s ((s.upd ch (fun c => c.trip 0)).remode)

/-- ROOT_PLL_LOCK (R80). -/
def execRootPllLock (ch : Ch) (s : State) : Out :=
  onChan s ch (fun c => if c.clk.pllEn && c.clk.laneLock then { c with clk := { c.clk with pllLock := true } } else c)

/-- ROOT_PLL_LOSS_OF_LOCK (R80): outside holdover the ROOT monitor trips. -/
def execRootPllLossOfLock (ch : Ch) (s : State) : Out :=
  guardC ((s.chan ch).clk.pllLock && !(s.chan ch).clk.holdover) s
    ((s.upd ch (fun c => ({ c with clk := { c.clk with pllLock := false } }).trip 1)).remode)

/-- DIVIDER_START (R77, R80, R81, R90 step 4): the dividers and the alignment counter are released, the keep clock is back on root /375 and qualification begins. -/
def execDividerStart (ch : Ch) (s : State) : Out :=
  onChan s ch (fun c =>
    if c.clk.pllLock && !c.clk.divRun then
      { c with
        clk := ({ c.clk with divRun := true, keepSrc := false, muxSel := c.clk.muxSel &&& 191#8, prevOut := [] }).newAttempt
        tb := { c.tb with align := 0, alignSeen := 0 } }
    else c)

/-- WATCH_QUALIFICATION (R81). DESIGN CHOICE (log entry 84): with the tolerance the windows change, so no window before it counts toward
two consecutive ones (R83). -/
def execWatchQualification (ch : Ch) (groups : List Nat) (s : State) : Out :=
  onChan s ch (fun c =>
    if c.clk.divRun && c.clk.watchRun && !c.clk.qual && groups.length = 64 then
      if watchPasses groups then { c with clk := { c.clk with qual := true, cal := watchHz (groups.foldl (· + ·) 0), prevOut := [] } }
      else { c with clk := c.clk.newAttempt }
    else c)

/-- WATCH_RECALIBRATION (R82). -/
def execWatchRecalibration (ch : Ch) (count : Nat) (s : State) : Out :=
  onChan s ch (fun c =>
    if c.clk.qual && c.clk.laneLock && !c.clk.holdover then
      let f := watchHz count
      let old := c.clk.cal
      if watchInRange count && 100 * f ≤ 101 * old && 99 * old ≤ 100 * f then { c with clk := { c.clk with cal := f } } else c.disqualify
    else c)

/-- MONITOR_WINDOW (R83, R84, R85, R501): the counts of REF, CELLS, REEVE, FABRIC, TBASE, PORT, SD, KEEPCLK. -/
def execMonitorWindow (ch : Ch) (counts : List Nat) (s : State) : Out :=
  guardC ((s.chan ch).clk.divRun && !(s.chan ch).clk.falling && counts.length = 8) s
    ((s.upd ch (fun c => c.monitorWindow counts)).remode)

/-- KEEP_CLOCK_SWITCHED (R85, R333): the keep clock runs from the watch oscillator and every drive stops toggling. -/
def execKeepClockSwitched (ch : Ch) (s : State) : Out :=
  onChan s ch (fun c =>
    if c.clk.muxReq.getLsbD 6 then
      ({ c with clk := { c.clk with muxReq := c.clk.muxReq &&& 191#8, muxSel := c.clk.muxSel ||| 64#8, keepSrc := true } }).safeShutdown
    else c)

/-- Nanoseconds of 64 watch periods at the calibrated frequency; while the oscillator is unqualified, at 8 MHz (DESIGN CHOICE, log entry 112). -/
def ClockBlk.hangNs (k : ClockBlk) : Nat := 64000000000 / (if k.cal = 0 then 8000000 else k.cal)

/-- The state of a domain is lost: its part of the channel goes through reset (R88, Table 3-1). The assay's own results and the mode
controller, which run on, stay (log entry 83). -/
def Chan.loseDomain (c : Chan) (n : Nat) : Chan :=
  let h := c.held
  match n with
  | 0 => { c with cells := h.cells }
  | 1 => { c with
      mem := c.mem.filter (fun x => !(decide (0x08000000 ≤ x.1) && decide (x.1 ≤ 0x081FFFFF)))
      sys := { c.sys with kickTime := c.now, unanswered := [] } }
  | 2 => { c with
      mem := c.mem.filter (fun x => decide (0xC0000000 ≤ x.1) || (decide (0x08000000 ≤ x.1) && decide (x.1 ≤ 0x081FFFFF)))
      sl := h.sl, vote := h.vote, chg := h.chg, dbg := h.dbg, bridge := h.bridge, pair := h.pair, field := h.field, dict := h.dict
      chron := h.chron, host := h.host }
  | 3 => { c with tb := h.tb }
  | 4 => { c with mill := h.mill, ecn := h.ecn, mvb := h.mvb, xl := h.xl }
  | 5 => { c with sd := h.sd }
  | _ => c

/-- A multiplexer is forced to its new input (R88): 0 to 5 and 7 with the loss of the domain's state; 6 keeps its registers and adds the hang time to every quench timer; 0 to 5 in assay abandon the step (R89). -/
def Chan.forceMux (c : Chan) (n : Nat) : Chan :=
  let bit : BitVec 8 := 1#8 <<< n
  let k := { c.clk with muxReq := c.clk.muxReq &&& ~~~bit, forced := c.clk.forced.raise n }
  if n = 6 then
    let c := { c with clk := { k with muxSel := k.muxSel ||| bit, keepSrc := true } }
    let d := c.clk.hangNs
    (c.mapNets (fun _ x => { x with quenchAt := x.quenchAt.map (· - d) })).safeShutdown
  else
    let c := { c with clk := { k with lostDom := k.lostDom ||| bit } }.loseDomain n
    if n < 6 then c.abandonStep else c

/-- MULTIPLEXER_HANG (R88, R89). -/
def execMultiplexerHang (ch : Ch) (n : Nat) (s : State) : Out :=
  onChan s ch (fun c => if n < 8 && c.clk.muxReq.getLsbD n then c.forceMux n else c)

/-- FALLBACK_SHUTDOWN_DONE (R85, R86): HELD; an unreleased channel will retry its clock start. -/
def execFallbackShutdownDone (ch : Ch) (s : State) : Out :=
  guardC ((s.chan ch).clk.falling && (s.chan ch).clk.keepSrc) s
    ((s.upd ch (fun c => let h := c.held; { h with clk := { h.clk with retryDue := !h.sys.released } })).remode)

/-- CLOCK_START_RETRY (R84, R86): the whole clock start from CDR enable. -/
def execClockStartRetry (ch : Ch) (s : State) : Out :=
  onChan s ch (fun c => if c.clk.retryDue then c.startClocks else c)

end Sys2Proof.Machine
end

