-- ==== Sys2Proof/Machine/Replies.lean ====
section
/-! DEFINITION. Dictionary replies: their octets, and how they leave by the transport of the request (R377, R381, R246, R464, R466). -/

namespace Sys2Proof.Machine
open Sys2Proof

/-! Abort codes (Table 14-9) -/

def abTimeout : Word := 0x05010001#32
def abPending : Word := 0x05010002#32
def abUnavail : Word := 0x05020001#32
def abLimit : Word := 0x05020002#32
def abMalformed : Word := 0x05030001#32
def abTooLong : Word := 0x05030002#32
def abLength : Word := 0x05030003#32
def abNoObject : Word := 0x06010001#32
def abNoSub : Word := 0x06010002#32
def abReadOnly : Word := 0x06020001#32
def abWriteOnly : Word := 0x06020002#32
def abState : Word := 0x06020003#32
def abPartition : Word := 0x06020004#32
def abWriteLimit : Word := 0x06020005#32
def abSideRead : Word := 0x06020006#32
def abRange : Word := 0x06030001#32
def abConfig : Word := 0x06030002#32
def abHallMis : Word := 0x06030003#32
def abHallDis : Word := 0x06030004#32
def abUnconf : Word := 0x06040001#32
def abStale : Word := 0x06040002#32
def abPersist : Word := 0x06050001#32
def abImage : Word := 0x06060001#32
def abFloor : Word := 0x06060002#32
def abOrder : Word := 0x06060003#32
def abNotExec : Word := 0x08000000#32

/-- The abort codes (Table 14-9). -/
def abortCodes : List Word :=
  [abTimeout, abPending, abUnavail, abLimit, abMalformed, abTooLong, abLength, abNoObject, abNoSub, abReadOnly, abWriteOnly, abState, abPartition,
   abWriteLimit, abSideRead, abRange, abConfig, abHallMis, abHallDis, abUnconf, abStale, abPersist, abImage, abFloor, abOrder, abNotExec]

/-- One of the abort codes, whichever (R382; free value `n`). -/
def freeAbort (n : Nat) : Word := atD abPending ((Config.freeWord n).toNat % abortCodes.length) abortCodes

/-- The octets of a response (Table 14-5). -/
def replyBytes (svc : Nat) (tag : Byte) (rstat : Nat) (es : List REntry) : List Byte :=
  [BitVec.ofNat 8 (svc + 0x80), tag, BitVec.ofNat 8 es.length, BitVec.ofNat 8 rstat] ++
    es.flatMap (fun (e : REntry) => leB 4 e.abort.toNat ++ leB 2 e.data.length ++ leB 2 e.token ++ pad4 e.data)

/-- Cut octets into pieces of at most `n`; `fuel` bounds their number. -/
def chunks (n : Nat) : Nat → List Byte → List (List Byte)
  | 0, _ => []
  | fuel + 1, bs => if bs.length ≤ n then [bs] else bs.take n :: chunks n fuel (bs.drop n)

/-- The segments of a message for a node (R246, R381): FIRST bit 0, LAST bit 1, DATA bit 2; sequence numbers are given as each is sent. -/
def segments (dest size : Nat) (bs : List Byte) (work : Option Work) : List MbSeg :=
  let cs := chunks (if size = 0 then 1 else size) (bs.length + 1) bs
  (cs.zipIdx).map (fun (x : List Byte × Nat) =>
    ⟨dest, 0, 4 + (if x.2 = 0 then 1 else 0) + (if x.2 + 1 = cs.length then 2 else 0), x.1, work⟩)

/-- Data octets of a segment that the module sends: its own mailbox window less the header of 8, at most the 1,024 octets of the outgoing
half of MILLRACE_MB_BUF (Table 8-13; DEDUCED, log entry 98); 0 without one. -/
def MillBlk.mbSize (m : MillBlk) : Nat :=
  match m.binds.find? (fun b => b.kind = 3) with
  | none => 0
  | some b => match m.wins.find? (fun w => w.num = b.win) with
    | none => 0
    | some w => min 1024 (w.len - 8)

/-! Ethernet frames of the module (R254, R255, R268) -/

/-- Frames an egress queue holds (R254). -/
def queueDepth : Nat := 64

/-- Number of a front port. -/
def portNum : RPort → Nat
  | .p0 => 0
  | .p1 => 1

/-- Front ports of a network port that have link; the service port has one. -/
def EcnBlk.fronts (e : EcnBlk) (p : NetPort) : List RPort :=
  (if e.up0 && p != .service then [.p0] else []) ++ (if e.up1 then [.p1] else [])

/-- The receiver of a frame: the address of a host, or none for a group or a broadcast. -/
def EthBody.dst : EthBody → Option Word
  | .pd _ d _ _ _ | .pp _ d _ _ | .me d _ | .mp d _ _ _ _ _ | .arp _ d | .icmp d => some d
  | .igmp _ | .delayReq _ => none

/-- The front ports with link by which a frame leaves (R254): the one at which its receiver's address was learned, else all. -/
def EcnBlk.leaves (e : EcnBlk) (p : NetPort) (b : EthBody) : List RPort :=
  match (b.dst.bind (fun d => e.neigh.find? (fun n => n.1 == d))).bind (fun n => e.macs.find? (fun m => m.1 == n.2)) with
  | some m => (e.fronts p).filter (fun x => x == m.2)
  | none => e.fronts p

/-- Room in the queue of class `q` (0 PTP, 1 SDTv2, 2 other process data, 3 all other frames) of a front port. -/
def EcnBlk.room (e : EcnBlk) (q : Nat) (x : RPort) : Bool := decide ((atD [] (portNum x * 4 + q) e.queues).length < queueDepth)

/-- A frame enters the queue of class `q` of some front ports; a full queue drops it (R254). -/
def EcnBlk.enter (e : EcnBlk) (q : Nat) (xs : List (RPort × Emission)) : EcnBlk :=
  xs.foldl (fun (e : EcnBlk) x =>
    if e.room q x.1 then { e with queues := modAt (fun l => l ++ [x.2]) (portNum x.1 * 4 + q) e.queues } else { e with flag := e.flag.raise 7 }) e

/-- The module sends a frame: on a plane through the queues of its front ports, tagged when the plane has a VLAN identifier; on the
service port, which has no switch, directly (R254, R268). A frame whose receiver the switch has not learned leaves by each front port that
has link (log entry 99). -/
def Chan.sendEth (c : Chan) (p : NetPort) (q : Nat) (pcp udp : Option Nat) (b : EthBody) : Chan :=
  let v := c.ecn.vlan
  if p = .service then
    (let xs := c.ecn.fronts p
     if xs.isEmpty then c else c.emit (.eth p xs 0 none udp b))
  else
    { c with ecn := c.ecn.enter q ((c.ecn.leaves p b).map (fun x => (x, .eth p [x] v (if v = 0 then none else pcp) udp b))) }

/-- A message-data request answered with Me (R261): MD_REFUSED. -/
def Chan.sendMe (c : Chan) (p : NetPort) (src ses : Word) : Chan :=
  ({ c with ecn := { c.ecn with flag := c.ecn.flag.raise 8 } }).sendEth p 3 (some 3) (some 17225) (.me src ses)

/-- A request of message data is over: it is outstanding no more. -/
def EcnBlk.mdOver (e : EcnBlk) (src ses : Word) (tag : Byte) : EcnBlk :=
  { e with
    outst := e.outst.filter (fun o => !(o.1 == src && o.2.1 == ses && o.2.2 == tag))
    mdDue := e.mdDue.filter (fun o => !(o.1 == src && o.2.1 == ses && o.2.2.1 == tag)) }

/-- The reply to an Mr (R261): an Mp of up to 8,192 octets within the reply timeout; a longer one cannot be served and is an Me; after the
timeout nothing is sent (DEDUCED, log entry 99). -/
def Chan.sendMp (c : Chan) (p : NetPort) (src ses : Word) (tag : Byte) (svc rstat : Nat) (es : List REntry) : Chan :=
  let late := c.ecn.mdDue.any (fun o => o.1 == src && o.2.1 == ses && o.2.2.1 == tag && decide (o.2.2.2 < c.now))
  let long := decide (8192 < (replyBytes svc tag rstat es).length)
  let c := { c with ecn := c.ecn.mdOver src ses tag }
  if late then c else if long then c.sendMe p src ses else c.sendEth p 3 (some 3) (some 17225) (.mp src ses tag svc rstat es)

/-- Queue a message for a ring node (R246, R247). -/
def MillBlk.mbSend (m : MillBlk) (dest : Nat) (bs : List Byte) : MillBlk :=
  if m.mbSize = 0 then m else { m with mbQueue := m.mbQueue ++ segments dest m.mbSize bs none }

/-- Queue a message of the bridge for a ring node (R281, R284, R286). -/
def MillBlk.mbWork (m : MillBlk) (w : Work) (dest : Nat) (bs : List Byte) : MillBlk :=
  if m.mbSize = 0 then m else { m with mbQueue := m.mbQueue ++ segments dest m.mbSize bs (some w) }

/-- Take the segments of some of the bridge's work out of the mailbox (R281, R291). -/
def MillBlk.mbDrop (m : MillBlk) (p : Work → Bool) : MillBlk :=
  let of (g : MbSeg) : Bool := (g.work.map p).getD false
  let m := { m with mbQueue := m.mbQueue.filter (fun g => !of g) }
  match m.mbOut with
  | some g => if of g then { m with mbOut := none, mbRetry := 0, mbSeq := (g.seq + 1) % 256 } else m
  | none => m

/-- ATTN_n follows READY or a pending host message (R466): record a change. -/
def Chan.attn (c : Chan) (before : Bool) : Chan :=
  let now := c.host.ready || c.host.hout.isSome
  if now = before then c else c.emit (.attn now)

/-- ATTN_n as driven. -/
def HostBlk.attnOn (h : HostBlk) : Bool := h.ready || h.hout.isSome

/-- The entries of a refused write: entry `k` carries its code, every other one not-executed (R379). -/
def refusedAt (n k : Nat) (ab : Word) : List REntry :=
  (List.range n).map (fun i => ⟨if i = k then ab else abNotExec, 0, []⟩)

/-- The entries of a write that was served. -/
def servedAll (n : Nat) : List REntry := List.replicate n ⟨0#32, 0, []⟩

/-- A settled entry of a WRITE was refused: the first by position. -/
def Call.failure (x : Call) : Option (Nat × Word) :=
  (x.got.filter (fun g => x.svc == 2 && g.2.abort != 0#32)).foldl (fun (a : Option (Nat × Word)) g =>
    match a with
    | some y => if y.1 < g.1 then some y else some (g.1, g.2.abort)
    | none => some (g.1, g.2.abort)) none

/-- What the whole request is answered with: each entry's own answer for a READ, served or refused as a whole for a WRITE (R378, R379). -/
def Call.answers (x : Call) : List REntry :=
  if x.svc = 2 then
    (match x.failure with
    | some f => refusedAt x.n f.1 f.2
    | none => servedAll x.n)
  else (List.range x.n).map (fun k => ((x.got.find? (fun g => g.1 == k)).map (·.2)).getD ⟨0#32, 0, []⟩)

/-- Entry `k` is settled. -/
def Call.settle (x : Call) (k : Nat) (e : REntry) : Call := { x with open_ := x.open_.filter (· != k), got := x.got ++ [(k, e)] }

/-- Nothing is owed any more: every entry that was begun is settled, and nothing is left to begin or something was refused. -/
def Call.over (x : Call) : Bool := x.open_.isEmpty && (x.failure.isSome || (x.writes.isEmpty && x.txn.isNone))

/-- A dictionary reply leaves by the transport of its request (R381). -/
def Chan.replyBy (c : Chan) (via : Transport) (tag : Byte) (svc rstat : Nat) (es : List REntry) : Chan :=
  let was := c.host.attnOn
  let c := { c with
    sys := { c.sys with unanswered := c.sys.unanswered.filter (fun u => !(u.1 == via && u.2.1 == tag && u.2.2.1 == svc)) }
    dict := { c.dict with
      served := if rstat = 0 then satInc c.dict.served else c.dict.served
      refused := if rstat = 0 then c.dict.refused else satInc c.dict.refused } }
  let bs := replyBytes svc tag rstat es
  let c := match via with
    | .notify _ _ | .part _ _ => c
    | .legacy k =>
      let e := (es.head?).getD ⟨0#32, 0, []⟩
      let m := leB 1 (svc + 0x80) ++ [tag] ++ leB 2 e.data.length ++ leB 2 (e.abort.toNat / 65536) ++ leB 2 0 ++ e.data
      let c := if k = 0 then { c with compat := { c.compat with rx := m } } else c
      c.emit (.legacyReply k m)
    | .md p src ses => c.sendMp p src ses tag svc rstat es
    | _ => c.emit (.dictReply via tag svc rstat es)
  match via with
  | .host => { c with host := { c.host with rsp := bs, ready := true, busy := false, serving := none } }.attn was
  | .md _ _ _ => c
  | .ring _ node => { c with
      mill := c.mill.mbSend node bs
      dict := { c.dict with ringOut := c.dict.ringOut.filter (fun o => o.2 != node) } }
  | .capacity => { c with dict := { c.dict with capOut := c.dict.capOut - 1 } }
  | .notify _ _ | .legacy _ | .part _ _ => c

/-- A reply: of a whole request by its transport, of an entry to the call it belongs to, which answers when nothing of it is owed any more. -/
def Chan.reply (c : Chan) (via : Transport) (tag : Byte) (svc rstat : Nat) (es : List REntry) : Chan :=
  match via with
  | .part id k =>
    match c.dict.calls.find? (fun x => x.id == id) with
    | none => c
    | some x =>
      let y := x.settle k ((es.head?).getD ⟨0#32, 0, []⟩)
      if y.over then
        ({ c with dict := { c.dict with calls := c.dict.calls.filter (fun z => z.id != id) } }).replyBy y.via y.tag y.svc
          (if y.failure.isSome then 1 else 0) y.answers
      else { c with dict := { c.dict with calls := c.dict.calls.map (fun z => if z.id = id then y else z) } }
  | _ => c.replyBy via tag svc rstat es

/-- A reply of `n` entries that all carry one abort code. -/
def Chan.replyAll (c : Chan) (via : Transport) (tag : Byte) (svc n : Nat) (ab : Word) : Chan :=
  c.reply via tag svc (if ab = 0#32 then 0 else 1) (List.replicate n ⟨ab, 0, []⟩)

/-- A rejection under R5: the state-conflict abort code, the counter and flag of SYSCTL_MODE_FLAG. -/
def Chan.conflict (c : Chan) : Chan := { c with sys := { c.sys with modeFlag := c.sys.modeFlag.raise 0 } }

end Sys2Proof.Machine
end

