-- ==== Sys2Proof/Machine/Image.lean ====
section
/-! DEFINITION. Images: blocks, manifests, verification, slots, and the program that a program image holds (R397 to R402, R406, R414 to R416). -/

namespace Sys2Proof.Machine
open Sys2Proof

/-- IMGID of a manifest: the first four octets of SHA (R400). -/
def manImgid (m : Manifest) : Word := BitVec.ofNat 32 (leAt m.sha 0 4)

/-- A manifest read from its 512 octets (Table 15-3). -/
def readManifest (b : List Byte) : Manifest where
  magic := BitVec.ofNat 32 (leAt b 0 4)
  mver := leAt b 4 2
  kind := leAt b 6 1
  keyslot := leAt b 7 1
  imglen := leAt b 8 4
  nblk := leAt b 12 4
  secver := leAt b 16 4
  fwver := leAt b 20 4
  cfmt := leAt b 24 2
  mincfmt := leAt b 26 2
  product := leAt b 28 2
  hwmin := leAt b 30 1
  sha := (b.drop 32).take 32
  raw := b.take 448
  sig := (b.drop 448).take 64

/-- Content octets of a block. -/
def blkContent : Nat := 65524

/-- Octets of the transit area (Table 15-1). -/
def transitSize : Nat := 0x4F00000

/-- Blocks that the slot of a kind holds: 0 firmware, 1 program (Table 15-1). -/
def slotBlocks (kind : Nat) : Nat := if kind = 1 then 256 else if kind = 4 then 1 else 1024

/-- R401, apart from signature and floor; a foreign product or hardware issue is for transit only. -/
def manFormOk (m : Manifest) : Bool :=
  m.magic = 0x4D465A56#32 && m.mver = 1 && 1 ≤ m.kind && m.kind ≤ 4 && m.keyslot ≤ 1 &&
  m.nblk = (m.imglen + blkContent - 1) / blkContent && m.nblk ≤ slotBlocks m.kind &&
  (m.keyslot = 0 || m.kind = 2 || m.kind = 3) && (m.kind ≠ 4 || (m.nblk = 1 && m.imglen = 32))

/-- The image is not for this module: transit area only (R401). -/
def Chan.foreign (c : Chan) (m : Manifest) : Bool := m.product ≠ 0x2410 || c.sys.issue.toNat < m.hwmin

/-- The key that KEYSLOT names (R414, R415, R417): the boot ROM copy of the root key if it matches the fuses, else the factory copy if that does. -/
def Chan.key (c : Chan) (slot : Nat) : Option (List Byte) :=
  if slot = 0 then
    if sha256 Config.rootKey = Config.rootFuse then some Config.rootKey
    else if sha256 Config.rootCopy = Config.rootFuse then some Config.rootCopy
    else none
  else match c.upd.custKey, c.upd.custFuse with
    | some k, some f => if sha256 k = f then some k else none
    | _, _ => none

/-- The signature verifies (R400, R415). -/
def Chan.sigOk (c : Chan) (m : Manifest) : Bool :=
  match c.key m.keyslot with
  | some k => Config.ed25519 k m.raw m.sig
  | none => false

/-- The module's security version floor as channel `ch` knows it (R416): its stored target floor and the highest floor of the channels that
class 4 brings to it. -/
def State.secFloor (s : State) (ch : Ch) : Nat :=
  max ((s.chan ch).cfgN 0x5C00 2) ((allCh.filter (fun o => s.reach o ch 4)).foldl (fun m o => max m (s.chan o).upd.fuses) 0)

/-- Block number, identity and BCRC are correct (R399, R404). -/
def blockOk (num : Nat) (imgid : Word) (b : List Byte) : Bool :=
  b.length = 65536 && leAt b 0 4 = num && leAt b 4 4 = imgid.toNat && (crc32 (b.take 65532)).toNat = leAt b 65532 4

/-- Block `n` of a slot. -/
def ImgSlot.block (x : ImgSlot) (n : Nat) : Option (List Byte) := (x.blocks.find? (fun b => b.1 == n)).map (·.2)

/-- Lowest block not stored (NEXT). -/
def ImgSlot.next (x : ImgSlot) (nblk : Nat) : Nat :=
  ((List.range nblk).find? (fun n => (x.block n).isNone)).getD nblk

/-- The three checks of R406, in order: 0 passes, 1 manifest, 2 block, 3 SHA. -/
def Chan.verifyCode (c : Chan) (x : ImgSlot) (floor : Nat) : Nat :=
  if x.factory then 0
  else match x.man with
    | none => 1
    | some m =>
      if !(manFormOk m && c.sigOk m && floor ≤ m.secver) then 1
      else
        let bs := (List.range m.nblk).map (fun n => (x.block n).getD [])
        if !((bs.zipIdx).all (fun b => blockOk b.2 (manImgid m) b.1)) then 2
        else if sha256 (bs.flatMap id) ≠ m.sha then 3 else 0

/-- Content octets of an image (R399). -/
def ImgSlot.content (x : ImgSlot) : List Byte :=
  match x.man with
  | none => []
  | some m => ((List.range m.nblk).flatMap (fun n => ((((x.block n).getD []).drop 8).take blkContent))).take m.imglen

/-! Slots: 0 F0, 1 F1, 2 P0, 3 P1, 4 to 11 the transit area -/

/-- Slot `n`. -/
def UpdBlk.slot (u : UpdBlk) (n : Nat) : ImgSlot := atD ImgSlot.empty n u.slots

/-- Change slot `n`. -/
def UpdBlk.updSlot (u : UpdBlk) (n : Nat) (f : ImgSlot → ImgSlot) : UpdBlk := { u with slots := modAt f n u.slots }

/-- Places of the transit area. DESIGN CHOICE (log entry 56): it holds up to eight images and key records at a time. -/
def transitPlaces : List Nat := [4, 5, 6, 7, 8, 9, 10, 11]

/-- Blocks that a slot's image takes. -/
def ImgSlot.room (x : ImgSlot) : Nat := (x.man.map (·.nblk)).getD 0

/-- The place of the transit area with a verified key record (R417). -/
def UpdBlk.keyPlace (u : UpdBlk) : Option Nat :=
  transitPlaces.find? (fun n => (u.slot n).st == .verified && ((u.slot n).man.map (·.kind)) == some 4)

/-- The first slot among some numbers in a state. -/
def UpdBlk.find (u : UpdBlk) (ns : List Nat) (st : SlotSt) : Option Nat := ns.find? (fun n => (u.slot n).st == st)

/-- The selected firmware slot (R407): TRIAL if there is one, otherwise GOOD. -/
def UpdBlk.selected (u : UpdBlk) : Option Nat :=
  match u.find [0, 1] .trial with
  | some n => some n
  | none => u.find [0, 1] .good

/-- The STORED program slot. -/
def UpdBlk.storedSlot (u : UpdBlk) : Option Nat := u.find [2, 3] .stored

/-- The program slot that is not STORED: P0 where none is. -/
def UpdBlk.otherSlot (u : UpdBlk) : Nat := if u.storedSlot = some 2 then 3 else 2

/-- FWVER of the running firmware. -/
def Chan.runFw (c : Chan) : Nat := ((c.upd.selected.bind (fun n => (c.upd.slot n).man)).map (·.fwver)).getD 0

/-- CFMT of the running firmware. -/
def Chan.runCfmt (c : Chan) : Nat := ((c.upd.selected.bind (fun n => (c.upd.slot n).man)).map (·.cfmt)).getD 0

/-! The program (R402) -/

/-- The octets of section `t` of a program's content. -/
def section_ (c : List Byte) (t : Nat) : List Byte :=
  match (List.range (leAt c 0 4)).find? (fun i => leAt c (4 + 12 * i) 4 == t) with
  | none => []
  | some i => (c.drop (leAt c (8 + 12 * i) 4)).take (leAt c (12 + 12 * i) 4)

/-- Records of a fixed size. -/
def records (size : Nat) (bs : List Byte) : List (List Byte) :=
  (List.range (bs.length / size)).map (fun i => (bs.drop (size * i)).take size)

/-- A source entry with its default values (Table 15-5). -/
def readSource (consts : List Byte) (r : List Byte) : SourceDecl where
  kind := leAt r 0 1
  subst := leAt r 1 1
  hold := leAt r 2 1
  ref := leAt r 4 4
  first := leAt r 8 4
  len := leAt r 12 4
  defs := bytesWords (leAt r 12 4) (consts.drop (leAt r 16 4))

/-- One task descriptor (Table 15-5). -/
def readTask (consts : List Byte) (srcs : List SourceDecl) (r : List Byte) : TaskDecl :=
  let n := leAt r 3 1
  let stages := (List.range n).map (fun s => (⟨leAt r (32 + 8 * s) 2, leAt r (34 + 8 * s) 2, leAt r (36 + 8 * s) 2⟩ : StageDecl))
  let num := leAt r 0 1
  let d : TaskDecl := {
    num := num
    cap := (leAt r 1 1).testBit 0
    prio := leAt r 2 1
    period := leAt r 4 2
    phase := leAt r 6 2
    inLen := leAt r 8 4
    ident := BitVec.ofNat 32 (leAt r 16 4)
    entry := BitVec.ofNat 32 (leAt r 20 4)
    stages := stages
    srcs := if leAt r 12 2 + leAt r 14 2 ≤ srcs.length then (srcs.drop (leAt r 12 2)).take (leAt r 14 2) else []
    defOut := []
    initRs := [] }
  let outW := stages.foldl (fun a x => a + x.slices * x.outW) 0
  let rsW := stages.foldl (fun a x => a + x.slices * x.rsW) 0
  { d with
    defOut := bytesWords outW (consts.drop (4 * Config.defOutOfs num))
    initRs := bytesWords rsW (consts.drop (4 * Config.initRsOfs num)) }

/-- Task descriptors, of 32 + 8 × NSTAGE octets each; `fuel` bounds their number (65: a 65th is read, and refuses the image, R139). -/
def readTasks (consts : List Byte) (srcs : List SourceDecl) : Nat → List Byte → List TaskDecl
  | 0, _ => []
  | fuel + 1, bs =>
    if bs.length < 32 then []
    else readTask consts srcs bs :: readTasks consts srcs fuel (bs.drop (32 + 8 * leAt bs 3 1))

/-- A carry-over declaration (Table 15-5). -/
def readCarry (r : List Byte) : CarryDecl :=
  ⟨BitVec.ofNat 32 (leAt r 0 4), leAt r 4 1, leAt r 5 1, leAt r 6 2, leAt r 8 1, leAt r 9 1, leAt r 12 4⟩

/-- An object declaration (Table 15-5). -/
def readObj (r : List Byte) : ObjDecl where
  index := leAt r 0 2
  sub := leAt r 2 1
  typ := leAt r 3 1
  count := leAt r 4 2
  cls := leAt r 6 1
  safety := (leAt r 7 1).testBit 0
  rmask := leAt r 8 2
  wmask := leAt r 10 2
  ident := BitVec.ofNat 32 (leAt r 12 4)
  task := leAt r 16 1
  area := leAt r 17 1
  word := leAt r 20 4

/-- Insert a task in ascending number. -/
def taskInsert (t : TaskDecl) : List TaskDecl → List TaskDecl
  | [] => [t]
  | x :: xs => if t.num < x.num then t :: x :: xs else x :: taskInsert t xs

/-- The program that content octets of KIND 2 hold (R402). -/
def readProgram (sha : List Byte) (c : List Byte) : Program :=
  let consts := section_ c 2
  let srcs := (records 24 (section_ c 4)).map (readSource consts)
  let q := section_ c 8
  { sha := sha
    imgid := BitVec.ofNat 32 (leAt sha 0 4)
    code := section_ c 1
    image := section_ c 1 ++ consts ++ section_ c 3 ++ section_ c 5
    legacy := false
    tasks := (readTasks consts srcs 65 (section_ c 3)).foldr taskInsert []
    carries := (records 16 (section_ c 5)).map readCarry
    objs := (records 24 (section_ c 6)).map readObj
    subs := (records 4 (section_ c 7)).map (fun r => (leAt r 0 1, leAt r 1 1))
    capq := if q.length < 8 then none else some (leAt q 0 4, leAt q 4 4) }

/-- First address of a program bank (R197). -/
def bankBase (n : Nat) : Nat := if n = 0 then 0x80000000 else 0x84000000

/-- A program is placed in a bank (R197). DESIGN CHOICE (log entry 96): what follows the code lies behind it without gaps. -/
def Chan.fillBank (c : Chan) (n : Nat) (p : Program) : Chan := { c with mem := memFill c.mem (bankBase n) p.image }

end Sys2Proof.Machine
end

