-- ==== Sys2Proof/Machine/Tables.lean ====
section
/-! DEFINITION. Configuration tables read from stored objects: schedules, bindings, marks, publications, subscriptions, MVB ports, routes, outputs, signal inputs, the pair, the view (the object tables of ch. 08 to 13 and 18). -/

namespace Sys2Proof.Machine
open Sys2Proof

/-- Numbers `a` to `b`. -/
def upto (a b : Nat) : List Nat := (List.range (b + 1 - a)).map (· + a)

/-- The tick period of the configuration, µs (object 0x1021.01). -/
def Chan.cfgP (c : Chan) : Nat := c.cfgN 0x1021 1

/-- First object index of a ring: 0x2801 or 0x2805. -/
def ringBase : Ring → Nat
  | .r1 => 0x2801
  | .r2 => 0x2805

/-- The channel that owns a ring (R216). -/
def ringOwner : Ring → Ch
  | .r1 => .A
  | .r2 => .B

/-- Ring number in item and reference codes: 0 ring 1, 1 ring 2. -/
def ringCode : Ring → Nat
  | .r1 => 0
  | .r2 => 1

/-- The window table of a ring's schedule (object 0x2802 or 0x2806). -/
def Chan.cfgWins (c : Chan) (r : Ring) : List SWin :=
  (upto 1 255).filterMap (fun n =>
    let v := c.cfgN (ringBase r + 1) n
    if v = 0 then none else some ⟨n, bitsN v 15 0, bitsN v 31 16, bitsN v 39 32, v.testBit 48⟩)

/-- Own window bindings of a ring (object 0x2803 or 0x2807). -/
def Chan.cfgBinds (c : Chan) (r : Ring) : List Binding :=
  (upto 1 16).filterMap (fun n =>
    let v := c.cfgN (ringBase r + 2) n
    if v = 0 then none else some ⟨bitsN v 63 56, bitsN v 55 48, bitsN v 39 32, bitsN v 17 0⟩)

/-- The module's node address on a ring (R217): 0xFF selects the geographic address on which the channels agreed (R468). -/
def Chan.cfgAddr (c : Chan) (r : Ring) : Nat :=
  let v := c.cfgN 0x2800 (match r with | .r1 => 2 | .r2 => 4)
  if v = 0xFF then c.host.ga else v

/-- A window entry as object 0x2802 codes it. -/
def SWin.code (w : SWin) : Nat := w.off + w.len * 2 ^ 16 + w.writer * 2 ^ 32 + w.mbox.toNat * 2 ^ 48

/-- The identity of a schedule (R226): P in µs, LEN, the window entries by number, 0 for an absent one. -/
def schedIdent (p len : Nat) (ws : List SWin) : Word :=
  let top := (ws.map (·.num)).foldl max 0
  crc32c (leB 2 p ++ leB 2 len ++ (upto 1 top).flatMap (fun n => leB 8 (((ws.find? (fun w => w.num == n)).map SWin.code).getD 0)))

/-- The schedule identity of the stored schedule (R226). -/
def Chan.cfgSched (c : Chan) (r : Ring) : Word := schedIdent c.cfgP (c.cfgN (ringBase r) 2) (c.cfgWins r)

/-- The stored cycle marks of a ring (object 0x2804 or 0x2808). -/
def Chan.cfgMarks (c : Chan) (r : Ring) : List Word := (upto 1 8).map (fun n => BitVec.ofNat 32 (c.cfgN (ringBase r + 3) n))

/-- The stored address selects the geographic address, and no two channels agreed on one (R468). -/
def Chan.cfgNoAddr (c : Chan) (r : Ring) : Bool := c.cfgN 0x2800 (match r with | .r1 => 2 | .r2 => 4) = 0xFF && !c.host.gaValid

/-- Publications (objects 0x2C10 to 0x2C13). -/
def Chan.cfgPubs (c : Chan) : List Pub :=
  (upto 1 128).filterMap (fun n =>
    let v := c.cfgN 0x2C10 n
    let w := c.cfgN 0x2C11 n
    if v = 0 then none else some {
      num := n
      kind := bitsN v 63 56
      task := bitsN v 55 48
      planeA := v.testBit 46
      planeB := v.testBit 47
      sdt := v.testBit 45
      ofs := bitsN v 41 24
      words := bitsN v 10 0
      comId := BitVec.ofNat 32 (bitsN w 63 32)
      cycle := bitsN w 31 22 + 1
      phase := bitsN w 21 12
      txOfs := bitsN w 11 0
      dst := BitVec.ofNat 32 (c.cfgN 0x2C12 n)
      smi := BitVec.ofNat 32 (c.cfgN 0x2C13 n) })

/-- Subscriptions (objects 0x2C20 to 0x2C23). -/
def Chan.cfgSubs (c : Chan) : List ESub :=
  (upto 1 128).filterMap (fun n =>
    let v := c.cfgN 0x2C20 n
    let w := c.cfgN 0x2C21 n
    if v = 0 && w = 0 then none else some {
      num := n
      comId := BitVec.ofNat 32 (bitsN v 63 32)
      filter := BitVec.ofNat 32 (bitsN v 31 0)
      planeA := w.testBit 30
      planeB := w.testBit 31
      sdt := w.testBit 29
      guard := bitsN w 18 11
      words := bitsN w 10 0
      smi := BitVec.ofNat 32 (c.cfgN 0x2C22 n)
      group := BitVec.ofNat 32 (c.cfgN 0x2C23 n) })

/-- Process data ports of the MVB device (objects 0x2C81, 0x2C82). -/
def Chan.cfgMvb (c : Chan) : List MvbPort :=
  ([0x2C81, 0x2C82]).flatMap (fun i => (upto 1 128).filterMap (fun n =>
    let v := c.cfgN i n
    if v = 0 then none
    else some ⟨bitsN v 63 52, bitsN v 51 49, v.testBit 48, bitsN v 47 40, bitsN v 39 32, bitsN v 17 0, none⟩))

/-- Octets of an F-code 0 to 4 (R265). -/
def fcodeLen (f : Nat) : Nat := 2 ^ (f + 1)

/-- Routing entry `n` from its 24 octets (Table 10-2); none when VALID is 0. -/
def readRoute (n : Nat) (b : List Byte) : Option Route :=
  let fl := leAt b 1 1
  if !fl.testBit 0 then none
  else some {
    num := n
    sport := leAt b 0 1
    read := fl.testBit 1
    side := fl.testBit 2
    event := fl.testBit 3
    dports := BitVec.ofNat 8 (leAt b 2 1)
    evnum := leAt b 3 1
    sid := BitVec.ofNat 32 (leAt b 4 4)
    did := BitVec.ofNat 32 (leAt b 8 4)
    nmove := leAt b 12 2 / 4096
    move0 := leAt b 12 2 % 1024
    dlen := leAt b 14 2
    daddr := BitVec.ofNat 32 (leAt b 16 4) }

/-- Number of a routing entry from its object address (R276). -/
def routeNum (key : Nat) : Nat := (key / 256 - 0x4100) * 255 + (key % 256 - 1)

/-- The valid routing entries: only stored objects can be valid, since the default is all zero (R276). -/
def Chan.cfgRoutes (c : Chan) : List Route :=
  (c.dict.live.filter (fun e => e.kkind == 0 && decide (0x4100 ≤ e.key / 256) && decide (e.key / 256 ≤ 0x4110))).filterMap
    (fun (e : JEntry) => readRoute (routeNum e.key) e.val)

/-- The pool of 1,024 transform moves (R278). -/
def Chan.cfgMoves (c : Chan) : List Word :=
  (List.range 1024).map (fun m => BitVec.ofNat 32 (c.cfgN (0x4010 + m / 255) (m % 255 + 1)))

/-- The configuration of network `i`: outputs 0 to 15, STO 16 and 17 (objects 0x4810, 0x4811, 0x4C00, 0x4C01, 0x4401). -/
def Chan.cfgOut (c : Chan) (i : Nat) : OutCfg :=
  let sto := 16 ≤ i
  let b := if sto then c.cfgN 0x4C00 (i - 15) else c.cfgN 0x4810 (i + 1)
  let v := if sto then c.cfgN 0x4C01 (i - 15) else c.cfgN 0x4811 (i + 1)
  { safety := sto || v.testBit 31
    test := sto || v.testBit 30
    safe := if sto then 0 else bitsN v 29 28
    wiring := if sto then 0 else c.cfgN 0x4401 (i + 1)
    permit := if sto then 0 else bitsN v 21 16
    quench := bitsN v 9 0
    bound := b.testBit 63
    task := bitsN b 55 48
    ofs := bitsN b 41 24
    bit := bitsN b 4 0 }

/-- SDCHAIN_CFG of input `i` (object 0x5001). -/
def Chan.cfgSd (c : Chan) (i : Nat) : SdCfg :=
  let v := c.cfgN 0x5001 (i + 1)
  ⟨v.testBit 31, v.testBit 30, 3 + bitsN v 29 28, bitsN v 27 25, bitsN v 24 23, bitsN v 6 0⟩

/-- The pair configuration (objects 0x4400, 0x4410, 0x4411). -/
def Chan.cfgPair (c : Chan) : PairCfg where
  on := c.cfgF 0x4400 1
  ident := c.cfgN 0x4400 2
  grant1 := c.cfgN 0x4400 3
  grant2 := c.cfgN 0x4400 4
  pwin1 := c.cfgN 0x4400 7
  pwin2 := c.cfgN 0x4400 8
  timeout := c.cfgN 0x4400 9
  srcSets := (upto 1 16).filterMap (fun n =>
    let v := c.cfgN 0x4410 n
    if v = 0 then none else some (BitVec.ofNat 32 (bitsN v 63 32), BitVec.ofNat 32 (bitsN v 31 0)))
  winSets := (upto 1 16).filterMap (fun n =>
    let v := c.cfgN 0x4411 n
    if v = 0 then none else some (bitsN v 31 24, bitsN v 23 16, bitsN v 15 8))

/-- The view list (object 0x1061): addresses up to the entry 0 that ends it. -/
def Chan.cfgView (c : Chan) : List (Nat × Nat) :=
  (((upto 1 64).map (fun n => c.cfgN 0x1061 n)).takeWhile (fun v => decide (v ≠ 0))).map (fun v => (v / 65536, v / 256 % 256))

/-- Bits set among the lowest eight. -/
def popcount8 (n : Nat) : Nat := ((List.range 8).filter (fun i => n.testBit i)).length

end Sys2Proof.Machine
end

