-- ==== Sys2Proof/Machine/Rules.lean ====
section
/-! DEFINITION. What a stored configuration must satisfy: each object's own range and the cross-object rules of the chapters (R371, R379 checks 8, 9 and 11; R391). -/

namespace Sys2Proof.Machine
open Sys2Proof

/-- The rules of Table 14-3 for a value of a type. -/
def typeOk (t : Nat) (b : List Byte) : Bool :=
  match t with
  | 1 => leN b ≤ 1
  | 10 => leN b / 8388608 % 256 ≠ 255
  | 11 => leN b / 4503599627370496 % 2048 ≠ 2047
  | 13 => b.all (fun x => decide (0x20 ≤ x.toNat) && decide (x.toNat ≤ 0x7E))
  | _ => true

/-- Within bounds. -/
def within (a b v : Nat) : Bool := a ≤ v && v ≤ b

/-- The own range of an object (R379 check 9; the object tables). `old` is the stored value, which object 0x2011 may only clear bits of. -/
def rangeOk (i s v old : Nat) : Bool :=
  if i = 0x1001 then v ≤ 1
  else if i = 0x1011 then within 1 5 v
  else if i = 0x1012 then (match s with | 2 => within 1 600 v | 3 => within 1 8 v | _ => true)
  else if i = 0x1021 then (if s = 1 then [125, 250, 500, 1000, 2000].contains v else v < 2000000)
  else if i = 0x1022 then (if s = 1 then v ≤ 6 else within 10 1000000 v)
  else if i = 0x1025 then (match s with | 1 => v ≤ 2 | 2 => v ≤ 10 | 3 => within 1 65536 v | _ => true)
  else if i = 0x1061 then v % 256 = 0
  else if i = 0x2001 then (match s with | 2 => within 2 8 v | 3 => v ≤ 64 | 4 => v ≤ 64 | _ => true)
  else if i = 0x2011 then (BitVec.ofNat 8 v &&& ~~~ BitVec.ofNat 8 old) = 0#8
  else if i = 0x2030 then (if s = 1 then within 6 100 v else within 1 15 v)
  else if i = 0x2040 then (match s with | 5 => within 1 65535 v | 6 => within 10 86400 v | _ => true)
  else if i = 0x2400 then within 24 8760 v
  else if i = 0x2800 then (if s % 2 = 1 then v ≤ 2 else v ≤ 63 || v = 0xFF)
  else if i = 0x2801 || i = 0x2805 then (match s with | 2 => v % 4 = 0 | 3 => within 2 64 v | _ => true)
  else if i = 0x2802 || i = 0x2806 then
    v = 0 || (bitsN v 63 49 = 0 && bitsN v 47 40 = 0 && bitsN v 39 32 ≤ 63 && within 4 2048 (bitsN v 31 16) && bitsN v 31 16 % 4 = 0)
  else if i = 0x2804 || i = 0x2808 then bitsN v 26 21 = 0
  else if i = 0x2803 || i = 0x2807 then v = 0 || (bitsN v 63 56 ≤ 4 && bitsN v 47 40 = 0 && bitsN v 31 18 = 0)
  else if i = 0x2C00 then
    (match s with | 2 | 4 | 9 => within 8 30 v | 5 | 6 => v ≤ 4094 | 12 => v ≤ 127 | _ => true)
  else if i = 0x2C10 then v = 0 || (bitsN v 44 42 = 0 && bitsN v 23 11 = 0 && bitsN v 63 56 ≤ 2 && within 1 358 (bitsN v 10 0))
  else if i = 0x2C21 then v = 0 || (bitsN v 28 19 = 0 && within 1 358 (bitsN v 10 0) && (!v.testBit 29 || within 1 255 (bitsN v 18 11)))
  else if i = 0x2C80 then v ≤ 4095
  else if i = 0x2C81 || i = 0x2C82 then v = 0 || (bitsN v 51 49 ≤ 4 && bitsN v 31 18 = 0)
  else if i = 0x4000 then (match s with | 1 => within 100 50000 v && v % 10 = 0 | 2 => within 1 1000 v | _ => true)
  else if i = 0x4400 then (match s with | 2 => within 1 65535 v | 9 => within 1 600 v | _ => true)
  else if i = 0x4401 then v ≤ 2
  else if i = 0x4411 then bitsN v 7 0 = 0
  else if i = 0x4800 then v = 1 || v = 3
  else if i = 0x4801 then within 1 16383 (bitsN v 13 0) && bitsN v 17 16 ≤ 2 && bitsN v 15 14 = 0 && bitsN v 31 18 = 0
  else if i = 0x4810 || i = 0x4C00 then bitsN v 62 56 = 0 && bitsN v 47 42 = 0 && bitsN v 23 5 = 0
  else if i = 0x4811 then
    bitsN v 29 28 ≤ 2 && bitsN v 27 26 = 0 && bitsN v 25 22 = 0 && bitsN v 21 16 ≤ 31 && bitsN v 15 10 = 0 && within 2 1000 (bitsN v 9 0)
  else if i = 0x4C01 then within 1 100 (bitsN v 31 24) && bitsN v 21 16 ≤ 31 && bitsN v 15 10 = 0 && within 2 100 (bitsN v 9 0)
  else if i = 0x4C02 then v ≤ 31
  else if i = 0x4C10 then v = 1
  else if i = 0x5000 then (if s = 2 then true else if s = 1 then v ≤ 2 else v ≤ 1)
  else if i = 0x5001 then bitsN v 29 28 ≤ 2 && bitsN v 27 25 ≤ 4 && bitsN v 24 23 ≤ 2 && bitsN v 22 7 = 0 && within 1 64 (bitsN v 6 0)
  else if i = 0x5002 then v = 1
  else if i = 0x5800 then within 1 6 v
  else if i = 0x5830 then (if s ≤ 4 then bitsN v 63 56 ≤ 4 && bitsN v 55 32 = 0 else if s = 6 then within 10 500 v else true)
  else true

/-- The fields of a routing entry's 24 octets are in the ranges of Table 10-2. An event number beyond 63 of a valid entry with EVENT is left to
the refusal of R277. -/
def routeFieldsOk (b : List Byte) : Bool :=
  leAt b 0 1 ≤ 7 && leAt b 1 1 < 16 && (leAt b 3 1 ≤ 63 || leAt b 1 1 % 2 = 1 && (leAt b 1 1).testBit 3) && leAt b 12 2 / 1024 % 4 = 0 && leAt b 12 2 / 4096 ≤ 8 && leAt b 14 2 % 4 = 0 &&
  ((leAt b 2 1).testBit 2 || (leAt b 2 1).testBit 3 || leAt b 16 4 = 0) && leAt b 20 4 = 0

/-! Cross-object rules -/

/-- R226 for one ring. -/
def Chan.schedOk (c : Chan) (r : Ring) : Bool :=
  let ws := c.cfgWins r
  let p := c.cfgP
  let len := c.cfgN (ringBase r) 2
  let n := c.cfgN (ringBase r) 3
  let m := c.cfgN (ringBase r) 4
  let ends (w : SWin) := w.off + 12 + w.len
  ws.all (fun w =>
    decide (64 ≤ w.off) && w.off % 4 == 0 && decide (ends w + 4 ≤ len - 8) &&
    ws.all (fun v => v.num == w.num || decide (ends w + 4 ≤ v.off) || decide (ends v + 4 ≤ w.off))) &&
  len ≤ (if p = 125 then 12288 else 24576) && len * 8 + 2 * (n * 320 + m * 5) + 2000 ≤ p * 1000

/-- Words of the published output bank of a task of the program. -/
def progTask (p : Program) (n : Nat) : Option TaskDecl := p.tasks.find? (fun t => t.num == n)

/-- A run of output words lies in a task's bank; without a stored program the rule waits for confirmation (R391). -/
def bankHolds (p : Option Program) (task off n : Nat) (cap : Option Bool) : Bool :=
  match p with
  | none => true
  | some p => match progTask p task with
    | none => false
    | some t => off + n ≤ t.outLen && (match cap with | none => true | some b => t.cap == b)

/-- The binding rules of ch. 08 and of R297 for one ring. -/
def Chan.bindsOk (c : Chan) (p : Option Program) (r : Ring) : Bool :=
  let bs := c.cfgBinds r
  let ws := c.cfgWins r
  bs.all (fun b =>
    match ws.find? (fun w => w.num == b.win) with
    | none => false
    | some w =>
      w.writer == c.cfgAddr r &&
      (match b.kind with
        | 0 => bankHolds p b.task b.ofs (w.len / 4) (some false)
        | 1 => bankHolds p b.task b.ofs (w.len / 4) (some true)
        | 2 => w.len == 16
        | 4 => b.task == 0 && b.ofs == 0
        | _ => true)) &&
  (bs.filter (fun b => b.kind == 3)).length ≤ 1

/-- The subnets of two addresses overlap. A plane whose address is 0, the default, has no subnet yet (DESIGN CHOICE, log entry 99). -/
def overlap (a pa b pb : Nat) : Bool :=
  let m := 2 ^ (32 - min pa pb)
  a ≠ 0 && b ≠ 0 && a / m == b / m

/-- R255: planes A and B lie in separate subnets. -/
def Chan.subnetsOk (c : Chan) : Bool :=
  !(overlap (c.cfgN 0x2C00 1) (c.cfgN 0x2C00 2) (c.cfgN 0x2C00 3) (c.cfgN 0x2C00 4))

/-- R269. -/
def Chan.ecnOk (c : Chan) (p : Option Program) : Bool :=
  let ports := c.cfgMvb
  c.cfgPubs.all (fun q =>
    decide (q.phase < q.cycle) && within 1 1024 q.cycle && decide (q.txOfs < c.cfgP) && (!q.sdt || (q.planeA && q.planeB)) &&
    (match q.kind with
      | 0 => bankHolds p q.task q.ofs q.words (some false)
      | 1 => bankHolds p q.task q.ofs q.words (some true)
      | _ => true)) &&
  c.cfgSubs.all (fun q => !q.sdt || (q.planeA && q.planeB)) &&
  (ports.map (·.addr)).Nodup &&
  ports.all (fun q => !(q.source && q.kind == 0) || bankHolds p q.task q.ofs ((fcodeLen q.fcode + 3) / 4) none)

/-- Greatest DLEN of a destination port (R277, R465): ring 1,024, ECN 1,432, lane 1,024. -/
def dportLimit (p : Nat) : Nat := if p = 2 || p = 3 then 1432 else 1024

/-- A move that Table 10-3 gives: OP 0 to 4, LEN a multiple of its group. -/
def moveOk (m : Nat) : Bool :=
  let len := bitsN m 9 4 + 1
  match m % 16 with | 0 | 4 => true | 1 => len % 2 == 0 | 2 => len % 4 == 0 | 3 => len % 8 == 0 | _ => false

/-- R277 and R278 for the routing table and the moves. -/
def Chan.routesOk (c : Chan) : Bool :=
  let rs := c.cfgRoutes
  (c.dict.live.filter (fun e => e.kkind == 0 && within 0x4010 0x4014 (e.key / 256))).all (fun (e : JEntry) => moveOk (leN e.val)) &&
  rs.all (fun r =>
    rs.all (fun q => q.num == r.num || !(q.sport == r.sport && q.sid == r.sid)) &&
    decide (r.sport ≤ 7) && !r.dports.getLsbD 4 && !r.dports.getLsbD r.sport &&
    (!r.read || (popcount8 r.dports.toNat == 1 && !r.dports.getLsbD 2 && !r.dports.getLsbD 3)) &&
    (!r.read || (within 0x4200 0x43FF (r.sid.toNat / 65536) && decide (1 ≤ r.sid.toNat % 256))) &&
    (!r.side || r.read) &&
    ((List.range 8).all (fun p => !r.dports.getLsbD p || decide (r.dlen ≤ dportLimit p))) &&
    (!r.event || decide (r.evnum < 64)) && r.dlen % 4 == 0 && decide (r.nmove ≤ 8) &&
    (List.range r.nmove).all (fun k =>
      let m := c.cfgN (0x4010 + (r.move0 + k) / 255) ((r.move0 + k) % 255 + 1)
      moveOk m && decide (bitsN m 20 10 + (bitsN m 9 4 + 1) ≤ r.dlen)))

/-- R297. -/
def Chan.pairOk (c : Chan) : Bool :=
  let q := c.cfgPair
  let winLen (r : Ring) (n len : Nat) : Bool :=
    match (c.cfgWins r).find? (fun w => w.num == n) with
    | none => true
    | some w => w.len == len
  let hasPair (r : Ring) : Bool := (c.cfgBinds r).any (fun b => b.kind == 4)
  let pairLen (r : Ring) : Bool := (c.cfgBinds r).all (fun b => b.kind != 4 || winLen r b.win 1088)
  !q.on ||
    (c.cfgN 0x1001 1 = 0 && c.cfgN 0x1022 1 ≠ 0 && (q.grant1 ≠ 0 || q.grant2 ≠ 0) &&
     (q.pwin1 = 0 || hasPair .r1) && (q.pwin2 = 0 || hasPair .r2) &&
     winLen .r1 q.grant1 16 && winLen .r2 q.grant2 16 &&
     winLen .r1 q.pwin1 1088 && winLen .r2 q.pwin2 1088 && pairLen .r1 && pairLen .r2 &&
     (List.range 16).all (fun i => !((c.cfgOut i).wiring == 1 && (c.cfgOut i).safety)))

/-- R328 and the feedback rule of ch. 12. -/
def Chan.outsOk (c : Chan) (p : Option Program) : Bool :=
  (List.range 18).all (fun i =>
    let o := c.cfgOut i
    !(o.safe == 2 && o.safety) &&
    (!o.bound ||
      (bankHolds p o.task o.ofs 1 (some false) &&
       (match p.bind (fun q => progTask q o.task) with
         | none => true
         | some t => decide ((t.period + 1) * c.cfgP < o.quench * 1000))))) &&
  [1, 2].all (fun s => bitsN (c.cfgN 0x4C01 s) 21 16 != c.cfgN 0x4C02 1)

/-- The N × R rule of R354. -/
def Chan.sdOk (c : Chan) : Bool :=
  (List.range 12).all (fun i =>
    let q := c.cfgSd i
    !q.en || decide (q.nsamp * (16 * 2 ^ q.rcode) ≤ 20 * c.cfgP))

/-- Octets of a view entry as its descriptor gives them; a program object by its declaration. -/
def Chan.viewSize (p : Option Program) (i s : Nat) : Option (Nat × Bool) :=
  let legacy := if (p.map (·.legacy)).getD false then legacyRows.find? (fun r => r.holds i s) else none
  match (objRow i s).or legacy with
  | some r => some (r.maxLen, r.rmask ≠ 0)
  | none => ((p.bind (fun q => q.objs.find? (fun o => o.index == i && o.sub == s))).map
      (fun (o : ObjDecl) => (o.size, o.rmask ≠ 0)))

/-- R463: the view fits 32 KiB and names no write-only object and no SIDE object (the proxies of SIDE entries, R379, R380). -/
def Chan.viewOk (c : Chan) (p : Option Program) : Bool :=
  let es := c.cfgView.map (fun a => Chan.viewSize p a.1 a.2)
  es.foldl (fun n e => n + (match e with | some x => (x.1 + 3) / 4 * 4 | none => 4)) 0 ≤ 32768 &&
  es.all (fun e => match e with | some x => x.2 | none => true) &&
  c.cfgView.all (fun a => !c.cfgRoutes.any (fun r => r.side && r.sid.toNat / 65536 == a.1 && r.sid.toNat % 256 == a.2))

/-- Every cross-object rule, with the stored program when there is one (R379 check 11; R391). -/
def Chan.crossOk (c : Chan) (p : Option Program) : Bool :=
  c.cfgN 0x1021 2 < c.cfgP * 1000 &&
  popcount8 (c.cfgN 0x2001 1) ≤ 8 - c.cfgN 0x2001 2 &&
  c.schedOk .r1 && c.schedOk .r2 && c.bindsOk p .r1 && c.bindsOk p .r2 &&
  c.subnetsOk && c.ecnOk p && c.routesOk && c.pairOk && c.outsOk p && c.sdOk && c.viewOk p

/-- Every window that a program subscribes to is in its ring's schedule (R228). -/
def Chan.subsOk (c : Chan) (p : Program) : Bool :=
  p.subs.all (fun q => (c.cfgWins (if q.1 = 0 then .r1 else .r2)).any (fun w => w.num == q.2))

/-- Rules that tie the stored program to the configuration at confirmation (R139, R228, R391). -/
def Chan.progOk (c : Chan) (p : Option Program) : Bool :=
  match p with
  | none => true
  | some p =>
    c.subsOk p &&
    (c.cfgN 0x2001 1 ≠ 0 || p.tasks.all (fun t => !t.cap))

/-! A program image's own rules -/

/-- Ranges of Table 5-1 for one task. -/
def TaskDecl.rangesOk (t : TaskDecl) : Bool :=
  t.num ≤ 63 && t.prio ≤ 63 && within 1 1024 t.period && t.phase < t.period && within 1 16 t.stages.length &&
  within 1 65536 t.inLen && within 1 256 t.srcs.length &&
  t.stages.all (fun x => within 1 1024 x.slices && within 1 256 x.outW && decide (x.rsW ≤ 256)) &&
  t.srcs.all (fun q => q.kind ≤ 5 && q.subst ≤ 2 && (q.subst ≠ 2 || within 1 255 q.hold) && decide (q.first + q.len ≤ t.inLen))

/-- R139, R140, R228 and R373: why a program image is refused at verification with invalid-configuration. `split` is the configured split mask. -/
def Program.rulesOk (p : Program) (split voted unvoted : Nat) : Bool :=
  p.tasks.length ≤ 64 && p.tasks.all TaskDecl.rangesOk &&
  p.tasks.all (fun t => p.tasks.all (fun u => t.num == u.num || t.cap != u.cap || t.prio != u.prio)) &&
  (p.tasks.map (·.num)).Nodup &&
  (split ≠ 0 || p.tasks.all (fun t => !t.cap)) &&
  ((p.tasks.filter (fun t => !t.cap)).map TaskDecl.octets).foldl (· + ·) 0 ≤ voted &&
  ((p.tasks.filter (·.cap)).map TaskDecl.octets).foldl (· + ·) 0 ≤ unvoted &&
  (p.subs.filter (fun q => q.1 == 0)).length ≤ 128 && (p.subs.filter (fun q => q.1 == 1)).length ≤ 128 &&
  (p.objs.map (fun (o : ObjDecl) => (o.index, o.sub))).Nodup &&
  p.objs.all (fun o =>
    let sz := objWords o.typ o.count
    within 0x6000 0xBFFF o.index &&
    (match progTask p o.task with
      | none => false
      | some t =>
        if o.index < 0x7000 then o.area == 3 && decide (o.word + sz ≤ t.inLen) && o.wmask == 0
        else if o.index < 0x8000 then o.area == 1 && decide (o.word + sz ≤ t.outLen) && o.wmask == 0
        else o.area == 2 && decide (o.word + sz ≤ t.rsLen) && o.cls ≠ 3 && o.cls ≠ 4 &&
          (match o.cls with
            | 0 => o.wmask / 512 == 0 && o.wmask % 32 == 0
            | 1 => o.wmask / 512 == 0 && o.wmask % 16 == 0
            | _ => o.wmask == 0x10)))

end Sys2Proof.Machine
end

