-- ==== Sys2Proof/Machine/Journal.lean ====
section
/-! DEFINITION. The journal and its transactions, the hallmark, and what a committed transaction does to the slot directory (R382 to R392, R398, R408 to R412). -/

namespace Sys2Proof.Machine
open Sys2Proof

/-! Values and the hallmark -/

/-- Initial retained value of an application object (R142, R373). -/
def progInitial (p : Program) (o : ObjDecl) : List Byte :=
  match progTask p o.task with
  | none => List.replicate o.size 0#8
  | some t => padTo o.size (elemsOctets o.typ o.count ((fixW t.rsLen t.initRs).drop o.word))

/-- The stored program image of a native module (R397, R402): none without one, or for a legacy program. -/
def Chan.storedProgram (c : Chan) : Option Program :=
  c.upd.storedSlot.bind (fun n =>
    let x := c.upd.slot n
    x.man.bind (fun m => if m.kind = 2 then some (readProgram m.sha x.content) else none))

/-- SHA-256 of the stored program image from its manifest, 32 zero octets when there is none (R389). -/
def Chan.storedSha (c : Chan) : List Byte :=
  match c.upd.storedSlot.bind (fun n => (c.upd.slot n).man) with
  | some m => m.sha
  | none => List.replicate 32 0#8

/-- One entry of the canonical serialisation (R389). -/
def canonEntry (i s t : Nat) (v : List Byte) : List Byte := leB 2 i ++ leB 1 s ++ leB 1 t ++ leB 4 v.length ++ v

/-- Insert a declaration in ascending address. -/
def objInsert (o : ObjDecl) : List ObjDecl → List ObjDecl
  | [] => [o]
  | x :: xs => if objKey o.index o.sub < objKey x.index x.sub then o :: x :: xs else x :: objInsert o xs

/-- Class H declarations of a program, ascending. -/
def progClassH (p : Option Program) : List ObjDecl :=
  ((p.map (·.objs)).getD []).filter (fun o => o.cls == 2) |>.foldr objInsert []

/-- The canonical serialisation (R389). -/
def Chan.serial (c : Chan) (sha : List Byte) (p : Option Program) : List Byte :=
  canonEntry 0 1 14 sha ++
  ((objRows.filter (fun r => r.cls == 2)).flatMap (fun (r : ObjRow) =>
    (upto r.idx0 r.idx1).flatMap (fun i => (upto r.sub0 r.sub1).flatMap (fun s => canonEntry i s r.typ (c.cfgB i s))))) ++
  ((progClassH p).flatMap (fun (o : ObjDecl) =>
    canonEntry o.index o.sub o.typ (match c.dict.stored 1 o.ident.toNat with | some e => e.val | none => (p.map (fun q => progInitial q o)).getD [])))

/-- The hallmark of the configuration with a program (R389). -/
def Chan.hallmarkWith (c : Chan) (sha : List Byte) (p : Option Program) : Word := crc32c (c.serial sha p)

/-- The hallmark of the configuration as stored (R390). -/
def Chan.hallmark (c : Chan) : Word := c.hallmarkWith c.storedSha c.storedProgram

/-! The live set -/

/-- Order of live entries: ascending KKIND, then KEY (R386). -/
def jLt (a b : JEntry) : Bool := a.kkind < b.kkind || (a.kkind == b.kkind && a.key < b.key)

/-- Put an entry in the live set. -/
def livePut (e : JEntry) : List JEntry → List JEntry
  | [] => [e]
  | x :: xs => if jLt e x then e :: x :: xs else if x.kkind = e.kkind && x.key = e.key then e :: xs else x :: livePut e xs

/-- Apply entries to the live set. -/
def liveApply (live es : List JEntry) : List JEntry := es.foldl (fun l e => livePut e l) live

/-- The live-set digest (R386). -/
def liveDigest (live : List JEntry) : W64 :=
  crc64 (live.flatMap (fun (e : JEntry) =>
    leB 1 e.kkind ++ leB 1 e.typ ++ leB 2 e.val.length ++ leB 4 e.key ++ leB 4 e.wcount ++ e.val))

/-- The configuration as it would stand after entries (R379). -/
def Chan.withEntries (c : Chan) (es : List JEntry) : Chan := { c with dict := { c.dict with live := liveApply c.dict.live es } }

/-- The write limit (R385). -/
def wcountLimit : Nat := 2000000

/-- The stored or default octets of the object that an entry names. -/
def Chan.entryValue (c : Chan) (e : JEntry) : List Byte :=
  if e.kkind = 0 then c.cfgB (e.key / 256) (e.key % 256)
  else match c.dict.stored 1 e.key with
    | some x => x.val
    | none => match (c.storedProgram.bind (fun p => (p.objs.find? (fun o => o.ident.toNat == e.key)).map (progInitial p))) with
      | some v => v
      | none => []

/-- Entries that change a value, each with its write counter advanced (R385). -/
def Chan.freshEntries (c : Chan) (es : List JEntry) : List JEntry :=
  (es.filter (fun e => c.entryValue e ≠ e.val)).map (fun (e : JEntry) =>
    { e with wcount := ((c.dict.stored e.kkind e.key).map (·.wcount)).getD 0 + 1 })

/-- An entry of a class J or H object keyed by address. -/
def addrEntry (i s : Nat) (v : List Byte) : JEntry := ⟨0, objKey i s, ((objRow i s).map (·.typ)).getD 14, v, 0⟩

/-- The entries that clear the confirmation (R390). -/
def clearConfirm : List JEntry := [addrEntry 0x1040 2 (leB 4 0), addrEntry 0x1040 3 (leB 1 0)]

/-- Whether an entry is of class H. -/
def Chan.entryH (c : Chan) (e : JEntry) : Bool :=
  if e.kkind = 0 then ((objRow (e.key / 256) (e.key % 256)).map (·.cls)) == some 2
  else (c.storedProgram.map (fun p => p.objs.any (fun o => o.ident.toNat == e.key && o.cls == 2))).getD false

/-! Records -/

/-- Begin programming a record; a channel in power-fail flush begins none (R386). -/
def Chan.beginRecord (c : Chan) (kind txn : Nat) (es : List JEntry) (acts : List (Nat × Nat) := []) : Chan :=
  if c.sys.flushing then c
  else { c with dict := { c.dict with jobs := c.dict.jobs ++ [⟨⟨kind, txn, es, 0, true, acts⟩, false⟩] } }

/-- The channel holds the PREPARE of transaction `n`, open. -/
def DictBlk.holds (d : DictBlk) (n : Nat) : Bool := (d.prep.map (·.num)) == some n

/-! Participation (R384) -/

/-- A channel participates: not OFF, HELD or OUT, its reeve neither restarting nor lost. -/
def State.participates (s : State) (ch : Ch) : Bool := (s.view ch).present && (s.chan ch).sys.reeveState = 0

/-- The participating channels. -/
def State.participants (s : State) : List Ch := allCh.filter s.participates

/-- The channel of the sequencing reeve. -/
def State.seqCh (s : State) : Option Ch := s.participants.head?

/-- Reply to the requester of a transaction; a transaction without a requester gets none. -/
def State.answer (s : State) (origin : Ch) (via : Option Transport) (tag : Byte) (rstat : Nat) (es : List REntry) : State :=
  match via with
  | none => s
  | some v => s.upd origin (fun c => c.reply v tag 2 rstat es)

/-- What the sequencing reeve `q` answers, as it comes over class 4 to the channel of the requester; where it does not come, the requester
receives timeout (DEDUCED, log entry 104). -/
def State.answerFrom (s : State) (q origin : Ch) (via : Option Transport) (tag : Byte) (n rstat : Nat) (es : List REntry) : State :=
  if s.reach q origin 4 then s.answer origin via tag rstat es else s.answer origin via tag 1 (refusedAt n 0 abTimeout)

/-- Pass a write to the sequencing reeve on class 4 (R384 step 1); fewer than two participants refuse it, and a sequencing reeve that
it does not reach is silent (DEDUCED, log entry 104). -/
def State.enqueue (s : State) (w : WaitTxn) : State :=
  if s.participants.length < 2 then s.answer w.origin w.via w.tag 1 (refusedAt w.n 0 abUnavail)
  else match s.seqCh with
    | none => s
    | some q =>
      if s.reach w.origin q 4 then s.upd q (fun c => { c with dict := { c.dict with waiting := c.dict.waiting ++ [w] } })
      else s.answer w.origin w.via w.tag 1 (refusedAt w.n 0 abTimeout)

/-! Directory changes -/

/-- The slot that a change or a transfer holds. -/
def Chan.slotBusy (c : Chan) (n : Nat) : Bool :=
  c.upd.recv.any (fun r => r.slot == n) || (c.chg.state != .idle && n == c.upd.otherSlot)

/-- STORE: the roles of the two program slots are swapped (R408). -/
def UpdBlk.swapProg (u : UpdBlk) : UpdBlk :=
  let f (x : ImgSlot) : ImgSlot := match x.st with
    | .verified => { x with st := .stored }
    | .stored => { x with st := .verified }
    | _ => x
  (u.updSlot 2 f).updSlot 3 f

/-- A fallback of the TRIAL slot (R410, R411): FAILED, flag, count and record. -/
def Chan.fallBack (c : Chan) : Chan :=
  match c.upd.find [0, 1] .trial with
  | none => c
  | some n =>
    let img := (((c.upd.slot n).man).map manImgid).getD 0#32
    let c := { c with upd := { c.upd.updSlot n (fun x => { x with st := .failed }) with
      flag := c.upd.flag.raise 6
      stats := modAt satInc 5 c.upd.stats } }
    c.log 0x10 (leB 1 1 ++ leB 1 0 ++ leB 2 0 ++ leB 4 img.toNat ++ leB 4 0)

/-- TRIAL firmware confirmed (R412): TRIAL to GOOD, the previous GOOD to VERIFIED, keep area released. -/
def UpdBlk.confirmFw (u : UpdBlk) : UpdBlk :=
  let f (x : ImgSlot) : ImgSlot := match x.st with
    | .trial => { x with st := .good }
    | .good => { x with st := .verified }
    | _ => x
  { (u.updSlot 0 f).updSlot 1 f with keep := none }

/-- Change back to IDLE (R202, R211): the new areas are released. -/
def ChangeBlk.toIdle (g : ChangeBlk) : ChangeBlk :=
  { g with
    state := .idle
    newProg := none
    newTasks := []
    map := []
    ldigSent := false
    ldig0 := none
    ldig1 := none
    swDig := none
    sw0 := none
    sw1 := none
    trialS := 0 }

/-- R211: the new program becomes the stored one, the change goes to IDLE. DESIGN CHOICE (log entry 117): a confirmation accepted in TRIAL
commits even when a mode change or a rollback has ended the change before its transaction is durable. -/
def Chan.confirmChange (c : Chan) : Chan :=
  let n := c.upd.otherSlot
  let old := c.upd.storedSlot
  let u := match old with
    | some o => c.upd.updSlot o (fun x => { x with st := .verified })
    | none => c.upd
  let u := u.updSlot n (fun x => { x with st := .stored })
  { c with upd := u, chg := { c.chg.toIdle with confirmed := satInc c.chg.confirmed } }

/-- The object that names the STORED program slot (class J, R423). -/
def storedEntry (n : Nat) : JEntry := addrEntry 0x5801 1 (leB 1 (n - 2))

/-- The directory follows the STORED slot of the live set (R211, R398, R408): a start, or a commit that outlived its transaction, finds program
and hallmark that belong together. -/
def Chan.followStored (c : Chan) : Chan :=
  match c.dict.stored 0 (objKey 0x5801 1) with
  | none => c
  | some e =>
    let n := 2 + leAt e.val 0 1
    if c.upd.storedSlot = some n || 3 < n then c
    else
      let u := match c.upd.storedSlot with
        | some o => c.upd.updSlot o (fun x => { x with st := .verified })
        | none => c.upd
      { c with upd := u.updSlot n (fun x => { x with st := .stored }) }

/-- A command to be distributed as a mode command of Table 2-5 by the reeve itself (R410). -/
def Chan.selfCommand (c : Chan) (ch : Ch) (value : Nat) : Chan :=
  { c with sys := { c.sys with cmds := c.sys.cmds ++ [⟨0, value, c.tb.c, c.now, ch, none, 0#8⟩] } }

/-- The directory, key and class M changes that a transaction carries, in one participant (R388, R398, R408 to R412, R417). -/
def Chan.applyAct (c : Chan) (ch : Ch) (k op : Nat) : Chan :=
  match k with
  | 1 => { c with upd := c.upd.updSlot op (fun x => { x with st := .trial, trials := 0 }) }
  | 2 => { c with upd := c.upd.swapProg }
  | 3 => c.fallBack
  | 4 =>
    let f (n : Nat) (x : ImgSlot) : ImgSlot :=
      if c.slotBusy n then x else if x.st = .verified || x.st = .failed || 4 ≤ n then ImgSlot.empty else x
    { c with upd := { c.upd with slots := (c.upd.slots.zipIdx).map (fun (x : ImgSlot × Nat) => f x.2 x.1) } }
  | 5 => { c with upd := { c.upd with recv := [], sends := [] } }
  | 6 =>
    let key := ((c.upd.keyPlace.map c.upd.slot).getD ImgSlot.empty).content
    let good := !(op / 2 = chCode ch && op % 2 = 0)
    { c with upd := { c.upd with
      custKey := some key
      custFuse := if good then some (sha256 key) else c.upd.custFuse
      custOk := good || c.upd.custOk
      fuseBad := c.upd.fuseBad || !good
      flag := c.upd.flag.raiseIf (!good) 4 } }
  | 7 => { c with upd := c.upd.confirmFw }
  | 8 => c.confirmChange
  | 9 =>
    let k := atD Ch.A (op / 256) allCh
    let v := BitVec.ofNat 8 op
    let c := { c with mram := { c.mram with masks := c.mram.masks.set k v } }
    if k = ch then { c with mram := { c.mram with retire := v }, assay := { c.assay with retireShown := v } } else c
  | _ => c

/-- An accepted command of R410 that restarts the module sets RESTART on its way (Table 15-9). -/
def State.actRestart (s : State) (q : Ch) (acts : List (Nat × Nat)) : State :=
  if acts.any (fun a => a.1 == 1 || a.1 == 3) then s.upd q (fun c => c.selfCommand q 2) else s

/-! Transactions -/

/-- Events of CLKOUT sources 9 (boundaries acted on) and 10 (alignment instants) so far. -/
def Chan.outEvents (c : Chan) (src : Nat) : Nat :=
  if src = 9 then (if c.tb.started then c.tb.c + 1 else 0) else c.tb.align / alignClocks

/-- CLOCK_CLKOUT is set: a change of SRC passes through multiplexer 7, and sources 9 and 10 begin low (R92, Table 3-4). -/
def Chan.setClkout (c : Chan) (en : Bool) (src div : Nat) : Chan :=
  { c with clk := { c.clk with
    outEn := en
    outSrc := src
    outDiv := div
    outBase := c.outEvents src
    muxReq := if src = c.clk.outSrc then c.clk.muxReq else c.clk.muxReq ||| 128#8 } }

/-- CLKOUT follows object 0x1025 at once (R91, R107): DIV holds the division minus 1. -/
def Chan.loadClkout (c : Chan) (ch : Ch) : Chan :=
  c.setClkout (c.cfgF 0x1025 4 && c.cfgN 0x1025 1 = chCode ch) (c.cfgN 0x1025 2) (c.cfgN 0x1025 3 - 1)

/-- The actions of a transaction in one participant. -/
def Chan.applyActs (c : Chan) (ch : Ch) (acts : List (Nat × Nat)) : Chan := acts.foldl (fun (c : Chan) a => c.applyAct ch a.1 a.2) c

/-- A committed transaction in one participant: entries live, counters, write limit, directory change (R384, R385). -/
def Chan.applyTxn (c : Chan) (ch : Ch) (num : Nat) (es : List JEntry) (acts : List (Nat × Nat)) : Chan :=
  let full := es.filter (fun e => e.wcount == wcountLimit)
  let c := { c with dict := { c.dict with
    live := liveApply c.dict.live es
    lastTxn := num
    prep := none
    committed := satInc c.dict.committed
    flag := c.dict.flag.raiseN full.length 3 } }
  let c := full.foldl (fun (c : Chan) (e : JEntry) => c.log 0x0F (leB 4 0 ++ leB 4 e.key)) c
  let c := (c.applyActs ch acts).followStored
  let c := if es.any (fun e => e.kkind == 0 && e.key / 256 == 0x1025) then c.loadClkout ch else c
  { c with dict := { c.dict with hallmark := c.hallmark } }

/-- The program image that the stored program would be after actions: STORE and a confirmed change put the other slot in its place (R389). -/
def Chan.imageAfter (c : Chan) (acts : List (Nat × Nat)) : List Byte × Option Program :=
  if acts.any (fun a => a.1 == 2 || a.1 == 8) then
    (let x := c.upd.slot c.upd.otherSlot
     match x.man with
     | some m => (m.sha, if m.kind = 2 then some (readProgram m.sha x.content) else none)
     | none => (List.replicate 32 0#8, none))
  else (c.storedSha, c.storedProgram)

/-- The hallmark that the configuration would have after a transaction (R384 step 2). -/
def Chan.hallmarkAfter (c : Chan) (es : List JEntry) (acts : List (Nat × Nat)) : Word :=
  (c.withEntries es).hallmarkWith (c.imageAfter acts).1 (c.imageAfter acts).2

/-- Check 6 on an entry: its object may be written in the channel's mode. An object that no write reaches is changed by the module itself, as
0x1040.05 is in M4. -/
def Chan.entryMode (c : Chan) (e : JEntry) : Bool :=
  let ok (mask : Nat) : Bool := mask == 0 || mask.testBit c.sys.mode.num
  if e.kkind = 0 then
    (e.key == objKey 0x1040 5 && c.sys.mode == .m4) || ((objRow (e.key / 256) (e.key % 256)).map (fun r => ok r.wmask)).getD true
  else ((((c.sl.prog.or c.storedProgram).map (·.objs)).getD []).find? (fun (o : ObjDecl) => o.ident.toNat == e.key)).map (fun o => ok o.wmask) |>.getD true

/-- Check 9 on an entry: the type rules and the object's own range. -/
def entryRange (e : JEntry) : Bool :=
  e.kkind != 0 || (typeOk e.typ e.val && ((typeSize e.typ).isNone || rangeOk (e.key / 256) (e.key % 256) (leN e.val) 0))

/-- Check 6 on an action: retire masks are written in M9, a hallmark is confirmed in M4, a change in TRIAL. -/
def Chan.actMode (c : Chan) (a : Nat × Nat) : Bool :=
  match a.1 with
  | 8 => c.chg.state == .trial
  | 9 => c.sys.mode == .m9
  | 10 => c.sys.mode == .m4
  | _ => true

/-- Check 12 on an action: the value confirmed is the hallmark of object 0x2040.04 or 0x1040.01 as it stands now (R211, R391, R393). -/
def Chan.actHallmark (c : Chan) (a : Nat × Nat) : Bool :=
  match a.1 with
  | 8 => decide (a.2 = c.chg.hallmark.toNat)
  | 10 => decide (a.2 = c.dict.hallmark.toNat)
  | _ => true

/-- What a participant finds when it makes the checks of Table 14-7 on its own stored configuration (R384 step 2): 0 for none. -/
def Chan.partCheck (c : Chan) (es : List JEntry) (acts : List (Nat × Nat)) : Word :=
  if !(es.all c.entryMode && acts.all c.actMode) then abState
  else if !es.all entryRange then abRange
  else if es.any (fun e => wcountLimit < e.wcount) then abWriteLimit
  else if !es.isEmpty && !((c.withEntries es).crossOk c.storedProgram) then abConfig
  else if acts.any (fun a => a.1 == 10) && !(c.progOk c.storedProgram) then abConfig
  else if !acts.all c.actHallmark then abHallMis
  else if !es.isEmpty && c.dict.freeOctets < (JRec.size ⟨1, 0, es, 0, true, []⟩) + 16 then abPersist
  else 0#32

/-- Clear the sequencing reeve's transaction. -/
def State.dropTxn (s : State) (q : Ch) : State := s.upd q (fun c => { c with dict := { c.dict with txn := none } })

/-- Acknowledge when COMMIT is durable in every participant, or in two once 100 ms have passed (R384 step 5). -/
def State.ackTxn (s : State) (q : Ch) : State :=
  match (s.chan q).dict.txn with
  | none => s
  | some t =>
    let all := t.participants.all (fun p => t.durable.contains p || !s.participates p)
    if t.committed && (all && 2 ≤ t.durable.length || t.late && 2 ≤ t.durable.length) then
      ((s.answerFrom q t.origin t.via t.tag t.n 0 (servedAll t.n)).actRestart q t.acts).dropTxn q
    else s

/-- End a transaction with ABORT records (R384 step 4). -/
def State.abortTxn (s : State) (q : Ch) (t : Txn) (ab : Word) (flag : Option Nat) : State :=
  let s := s.updAll (fun ch c =>
    let c := if t.participants.contains ch && s.reach q ch 4 && c.dict.holds t.num then
        ({ c with dict := { c.dict with prep := none } }).beginRecord 3 t.num []
      else c
    if ch = q then { c with dict := { c.dict with flag := match flag with | some n => c.dict.flag.raise n | none => c.dict.flag } }
    else c)
  (s.answerFrom q t.origin t.via t.tag t.n 1 (refusedAt t.n 0 ab)).dropTxn q

/-- Steps 3 and 4 of R384: with every channel that still participates reported and hallmarks equal, the sequencing reeve programs COMMIT; unequal
hallmarks end the transaction, and so does a participation that fell below two (Table 14-13). -/
def State.commitReady (s : State) (q : Ch) : State :=
  match (s.chan q).dict.txn with
  | none => s
  | some t =>
    let req := t.participants.filter (fun p => s.participates p)
    let rep := t.prepared.filter (fun r => req.contains r.1)
    if t.committed || (s.chan q).dict.jobs.any (fun j => j.entry.kind == 2 && j.entry.txn == t.num) then s
    else if req.length < 2 then s.abortTxn q t abUnavail none
    else if !(req.all (fun p => rep.any (fun r => r.1 == p))) then s
    else if rep.all (fun r => rep.all (fun u => u.2 == r.2)) then s.upd q (fun c => c.beginRecord 2 t.num [])
    else s.abortTxn q t abHallDis (some 6)

/-- The transaction that this channel's reeve sequences goes on without a participant that went OUT (Table 14-13). -/
def State.txnStep (s : State) (ch : Ch) : State := if s.seqCh = some ch then (s.commitReady ch).ackTxn ch else s

/-- JOURNAL_TRANSACTION_DISTRIBUTE (R384 steps 1 and 2): the sequencing reeve takes the oldest waiting write, numbers it and distributes it;
every participant that it reaches checks it and begins PREPARE. A change of the STORED slot goes into the journal with its object, and a change
of a class H value clears the confirmation whatever the request confirms (R390). A write without entries changes MRAM in every participant, if
none refuses it, and is acknowledged (R388). -/
def State.distributeTxn (s : State) (q : Ch) (w : WaitTxn) : State :=
  let c := s.chan q
  let num := 1 + (c.dict.recs.map (·.txn)).foldl max c.dict.lastTxn
  let moves := w.acts.any (fun a => a.1 == 2 || a.1 == 8)
  let es := c.freshEntries (w.entries ++ (if moves then [storedEntry c.upd.otherSlot] else []))
  let es := if es.any c.entryH || w.acts.any (fun a => a.1 == 2) then
      es.filter (fun e => !(clearConfirm.any (fun x => x.kkind == e.kkind && x.key == e.key))) ++ c.freshEntries clearConfirm
    else es
  let parts := s.participants
  let got := parts.filter (fun p => s.reach q p 4)
  let s := s.upd q (fun c => { c with dict := { c.dict with waiting := c.dict.waiting.drop 1 } })
  if es.isEmpty then
    match (got.map (fun p => (s.chan p).partCheck [] w.acts)).find? (· != 0#32) with
    | some ab => s.answerFrom q w.origin w.via w.tag w.n 1 (refusedAt w.n 0 ab)
    | none =>
      let s := s.updAll (fun ch c => if got.contains ch then c.applyActs ch w.acts else c)
      if got.length = parts.length then (s.answerFrom q w.origin w.via w.tag w.n 0 (servedAll w.n)).actRestart q w.acts
      else s.answerFrom q w.origin w.via w.tag w.n 1 (refusedAt w.n 0 abTimeout)
  else
    let s := s.upd q (fun c => { c with dict := { c.dict with
      txn := some ⟨num, es, w.acts, w.origin, w.via, w.tag, w.n, [], none, false, [], parts, false, got, c.now⟩ } })
    s.updAll (fun ch c =>
      let ab := c.partCheck es w.acts
      if got.contains ch && ab = 0#32 then
        ({ c with dict := { c.dict with prep := some ⟨num, q, { w with entries := es }⟩ } }).beginRecord 1 num es w.acts
      else if got.contains ch && ab = abPersist then { c with dict := { c.dict with flag := c.dict.flag.raise 4 } }
      else c)

def execJournalTransactionDistribute (s : State) : Out :=
  match s.seqCh with
  | none => .next s
  | some q =>
    match (s.chan q).dict.txn, (s.chan q).dict.waiting with
    | none, w :: _ => .next (s.distributeTxn q w)
    | _, _ => .next s

/-- A record's programming ended badly (R387): once more in the next block, then the transaction is refused; a SNAPSHOT that cannot be written
ends the compaction, and its block is not erased. -/
def Chan.programFailed (c : Chan) (j : JJob) (rest : List JJob) : Chan :=
  let d := c.dict.append { j.entry with ok := false }
  let d := { d with flag := d.flag.raise 5 }
  if !j.repeated then { c with dict := { d.advance with jobs := { j with repeated := true } :: rest } }
  else if j.entry.kind = 4 then { c with dict := { d with jobs := rest.filter (fun x => x.entry.kind != 4), compact := false } }
  else { c with dict := { d with jobs := rest, prep := if j.entry.kind = 1 then none else d.prep } }

/-- A record became durable in channel `ch` (R383, R384). -/
def State.recordDurable (s : State) (ch : Ch) (j : JJob) (rest : List JJob) : State :=
  let s := s.upd ch (fun c => { c with dict := { c.dict.append j.entry with jobs := rest } })
  if j.entry.kind ≠ 2 then s
  else
    let s := s.upd ch (fun c => match c.dict.prep with
      | some p => if p.num = j.entry.txn then c.applyTxn ch p.num p.txn.entries p.txn.acts else c
      | none => c)
    match s.seqCh.bind (fun q => ((s.chan q).dict.txn).map (fun t => (q, t))) with
    | some (q, t) =>
      if t.num = j.entry.txn then
        if !s.reach ch q 4 then s
        else
          let s := s.upd q (fun c => { c with dict := { c.dict with
            txn := some { t with
              durable := if t.durable.contains ch then t.durable else t.durable ++ [ch]
              committed := t.committed || ch = q
              since := if ch = q then c.now else t.since } } })
          s.ackTxn q
      else s
    | none => s

/-- JOURNAL_RECORD_DURABLE: the oldest record being programmed ends, well or with a program or verify error (R383, R387). -/
def execJournalRecordDurable (ch : Ch) (ok : Bool) (s : State) : Out :=
  match (s.chan ch).dict.jobs with
  | [] => .next s
  | j :: rest =>
    if ok then .next (s.recordDurable ch j rest)
    else
      let t := s.upd ch (fun c => c.programFailed j rest)
      match s.seqCh.bind (fun q => ((s.chan q).dict.txn).map (fun x => (q, x))) with
      | some (q, x) =>
        if j.repeated && j.entry.kind = 2 && ch = q && x.num = j.entry.txn && !x.committed then .next (t.abortTxn q x abPersist none) else .next t
      | none => .next t

/-- PREPARE_REPORT_RECEIVE: the sequencing reeve takes a participant's report over class 4; with every report in and hallmarks equal it
programs COMMIT, a refusal or unequal hallmarks end the transaction (R384 steps 3 and 4). -/
def execPrepareReportReceive (tx : Ch) (s : State) : Out :=
  match s.seqCh with
  | none => .next s
  | some q =>
    match (s.chan q).dict.txn with
    | none => .next s
    | some t =>
      let c := s.chan tx
      if t.committed || !t.got.contains tx || !s.reach tx q 4 || t.prepared.any (fun p => p.1 == tx) then .next s
      else if c.dict.holds t.num then
        if c.dict.jobs.any (fun j => j.entry.kind == 1 && j.entry.txn == t.num) then .next s
        else
          let t := { t with prepared := t.prepared ++ [(tx, c.hallmarkAfter t.entries t.acts)] }
          .next ((s.upd q (fun c => { c with dict := { c.dict with txn := some t } })).commitReady q)
      else
        let ab := c.partCheck t.entries t.acts
        .next (s.abortTxn q t (if ab = 0#32 then abPersist else ab) none)

/-- JOURNAL_COMMIT_RECEIVE: a participant receives the commit and programs COMMIT (R384 step 3). -/
def execJournalCommitReceive (ch : Ch) (s : State) : Out :=
  match s.seqCh.bind (fun q => ((s.chan q).dict.txn).map (fun t => (q, t))) with
  | none => .next s
  | some (q, t) =>
    guardC (t.committed && ch != q && s.reach q ch 4 && (s.chan ch).dict.holds t.num &&
        !((s.chan ch).dict.jobs.any (fun j => j.entry.kind == 2 && j.entry.txn == t.num))) s
      (s.upd ch (fun c => c.beginRecord 2 t.num []))

/-- PARTICIPANT_TIMEOUT: a participant has been silent for 100 ms before step 3 (R384 step 4); one that went OUT participates no more. -/
def execParticipantTimeout (ch : Ch) (s : State) : Out :=
  match s.seqCh.bind (fun q => ((s.chan q).dict.txn).map (fun t => (q, t))) with
  | none => .next s
  | some (q, t) =>
    guardC (!t.committed && t.participants.contains ch && !(t.prepared.any (fun p => p.1 == ch))) s
      (let s := s.upd q (fun c => { c with tb := c.tb.reach (t.since + 100000000) })
       if s.participates ch then s.abortTxn q t abTimeout (some 7) else s.commitReady q)

/-- PARTIAL_ACK_TIMEOUT: 100 ms have passed since the sequencing reeve's COMMIT (R384 step 5). -/
def execPartialAckTimeout (s : State) : Out :=
  match s.seqCh.bind (fun q => ((s.chan q).dict.txn).map (fun t => (q, t))) with
  | none => .next s
  | some (q, t) =>
    if t.committed then
      .next ((s.upd q (fun c => { c with tb := c.tb.reach (t.since + 100000000), dict := { c.dict with txn := some { t with late := true } } })).ackTxn q)
    else .next s

/-- Class 4 works both ways between two channels. -/
def State.talks (s : State) (p q : Ch) : Bool := s.reach p q 4 && s.reach q p 4

/-- The transaction that a participant tells the next sequencing reeve it holds: an open PREPARE of another sequencing reeve (R384). -/
def State.heldTxn (s : State) (ch : Ch) : Option Prep :=
  (allCh.filter (fun p => s.participates p && s.talks p ch)).findSome? (fun p => (s.chan p).dict.prep.filter (fun x => x.seq != ch))

/-- A channel still owes the answer of a transaction. -/
def Chan.owes (c : Chan) (w : WaitTxn) : Bool :=
  match w.via with
  | some (.part id _) => c.dict.calls.any (fun x => x.id == id)
  | some v => c.sys.unanswered.any (fun u => u.1 == v && u.2.1 == w.tag && u.2.2.1 == 2)
  | none => false

/-- SEQUENCING_REEVE_TAKEOVER: the next sequencing reeve asks the participants over class 4 what they hold, completes a transaction whose COMMIT
is in any journal and ends any other (R384). -/
def execSequencingReeveTakeover (ch : Ch) (s : State) : Out :=
  if s.seqCh ≠ some ch || (s.chan ch).dict.txn.isSome then .next s
  else
    match s.heldTxn ch with
    | none => .next s
    | some x =>
      let w := x.txn
      let reached := s.participants.filter (fun p => s.talks p ch)
      let via := if (s.chan w.origin).owes w then w.via else none
      let has (p : Ch) : Bool := s.talks p ch && (s.chan p).dict.recs.any (fun r => r.kind == 2 && r.txn == x.num && r.ok)
      let t : Txn := ⟨x.num, w.entries, w.acts, w.origin, via, w.tag, w.n, [], none, false, [], s.participants, false, reached, (s.chan ch).now⟩
      if allCh.any has then
        let s2 := s.upd ch (fun c => { c with dict := { c.dict with txn := some { t with committed := true, durable := allCh.filter has } } })
        let s3 := s2.updAll (fun p c =>
          if reached.contains p && c.dict.holds x.num && !has p && !(c.dict.jobs.any (fun j => j.entry.kind == 2 && j.entry.txn == x.num))
          then c.beginRecord 2 x.num [] else c)
        .next (s3.ackTxn ch)
      else .next (s.abortTxn ch t abTimeout none)

/-! Compaction (R387) -/

/-- The oldest block that holds records. -/
def DictBlk.oldest (d : DictBlk) : Option Nat := (d.recs.head?).map (·.block)

/-- The block of the last record that holds a live entry. -/
def DictBlk.homeOf (d : DictBlk) (e : JEntry) : Option Nat :=
  ((d.recs.filter (fun r => r.ok && r.entries.contains e)).getLast?).map (·.block)

/-- JOURNAL_COMPACTION: with fewer than 8 free blocks and no transaction, the live entries of the oldest block are copied into SNAPSHOT records. -/
def execJournalCompaction (ch : Ch) (s : State) : Out :=
  onChan s ch (fun c =>
    match c.dict.oldest with
    | none => c
    | some b =>
      if c.dict.freeBlocks.length < 8 && !c.dict.compact && c.dict.ready && c.dict.prep.isNone && c.dict.txn.isNone && c.dict.jobs.isEmpty &&
          b ≠ c.dict.active && !c.sys.flushing then
        let es := c.dict.live.filter (fun e => c.dict.homeOf e == some b)
        let c := { c with dict := { c.dict with compact := true } }
        (List.range ((es.length + 127) / 128)).foldl (fun (c : Chan) i => c.beginRecord 4 0 ((es.drop (128 * i)).take 128)) c
      else c)

/-- JOURNAL_BLOCK_ERASED: the erase of the compacted block ends; the block is free with its erase count raised (R387). -/
def execJournalBlockErased (ch : Ch) (block : Nat) (s : State) : Out :=
  onChan s ch (fun c =>
    if c.dict.compact && c.dict.oldest = some block && !(c.dict.jobs.any (fun j => j.entry.kind == 4)) then
      { c with dict := { c.dict with
        compact := false
        recs := c.dict.recs.filter (fun r => r.block != block)
        blocks := modAt (fun b => (b.1 + 1, 0)) block c.dict.blocks } }
    else c)

/-! The start scan (R386) -/

/-- What the replay of a journal has found: PREPAREs by number, the live set, the transaction each key was last written by, and the highest
transaction number so far. -/
structure Replay where
  preps : List (Nat × List JEntry)
  live : List JEntry
  marks : List ((Nat × Nat) × Nat)
  top : Nat

/-- An entry of transaction `n` becomes live unless a later transaction has written its key. -/
def Replay.put (n : Nat) (a : Replay) (e : JEntry) : Replay :=
  if n < assocD 0 (e.kkind, e.key) a.marks then a
  else { a with live := livePut e a.live, marks := assocSet (e.kkind, e.key) n a.marks }

/-- Replay: committed PREPARE entries in the order of their transactions, SNAPSHOT entries as of where they lie. -/
def replay (recs : List JRec) : List JEntry :=
  ((recs.filter (·.ok)).foldl (fun (a : Replay) (r : JRec) =>
    let a := { a with top := max a.top r.txn }
    match r.kind with
    | 1 => { a with preps := (r.txn, r.entries) :: a.preps }
    | 2 => (((a.preps.find? (fun p => p.1 == r.txn)).map (·.2)).getD []).foldl (Replay.put r.txn) a
    | 4 => r.entries.foldl (Replay.put a.top) a
    | _ => a) ⟨[], [], [], 0⟩).live

/-- Whether good records hold a kind for a transaction. -/
def holdsRec (recs : List JRec) (kind n : Nat) : Bool := recs.any (fun r => r.ok && r.kind == kind && r.txn == n)

/-- Resolve one transaction of the participating channels in a channel: committed anywhere is committed here, with the directory changes that it
carries (R398), otherwise discarded. -/
def Chan.resolve (c : Chan) (ch : Ch) (others : List (List JRec)) (n : Nat) : Chan :=
  let mine := c.dict.recs
  let any := others.any (fun r => holdsRec r 2 n) || holdsRec mine 2 n
  if holdsRec mine 2 n || holdsRec mine 3 n then c
  else
    let d := c.dict
    if any then
      let p := ((mine :: others).findSome? (fun r => r.find? (fun (x : JRec) => x.ok && x.kind == 1 && x.txn == n))).getD ⟨1, n, [], 0, true, []⟩
      let d := if holdsRec mine 1 n then d else d.append { p with block := 0 }
      ({ c with dict := { d.append ⟨2, n, [], 0, true, []⟩ with flag := d.flag.raise 1, resolved := satInc d.resolved } } : Chan).applyActs ch p.acts
    else if holdsRec mine 1 n then
      { c with dict := { d.append ⟨3, n, [], 0, true, []⟩ with flag := d.flag.raise 1, resolved := satInc d.resolved } }
    else c

/-- Numbers in ascending order, each once. -/
def ascending (l : List Nat) : List Nat :=
  l.foldl (fun (a : List Nat) n => if a.contains n then a else a.filter (· < n) ++ n :: a.filter (n < ·)) []

/-- The journal scan of one channel: bad records counted, transactions resolved in the order of their numbers, the live set and its digest formed. -/
def Chan.scanJournal (c : Chan) (ch : Ch) (others : List (List JRec)) : Chan :=
  let bad := (c.dict.recs.filter (fun r => !r.ok)).length
  let c := { c with dict := { c.dict with flag := (List.replicate bad ()).foldl (fun f _ => f.raise 0) c.dict.flag } }
  let nums := ascending (((c.dict.recs ++ others.flatMap id).map (·.txn)).filter (· ≠ 0))
  let c := nums.foldl (fun (c : Chan) n => c.resolve ch others n) c
  let live := replay c.dict.recs
  let c := { c with dict := { c.dict with
    live := live
    ready := true
    prep := none
    lastTxn := (c.dict.recs.map (fun (r : JRec) => if r.kind = 2 then r.txn else 0)).foldl max c.dict.lastTxn
    ldig := liveDigest live } }
  let c := c.followStored
  { c with dict := { c.dict with hallmark := c.hallmark } }

/-- A channel whose digest differs from two equal ones takes the majority's live set (R386). -/
def State.repairLive (s : State) (ch : Ch) : State :=
  let a := s.chan (chNext ch)
  let b := s.chan (chPrev ch)
  let c := s.chan ch
  if c.dict.ready && a.dict.ready && b.dict.ready && s.reach (chNext ch) ch 4 && s.reach (chPrev ch) ch 4 && a.dict.ldig = b.dict.ldig && c.dict.ldig ≠ a.dict.ldig then
    s.upd ch (fun c =>
      let d := (List.range ((a.dict.live.length + 127) / 128)).foldl
        (fun (d : DictBlk) i => d.append ⟨4, 0, (a.dict.live.drop (128 * i)).take 128, 0, true, []⟩) c.dict
      let c := ({ c with dict := { d with live := a.dict.live, ldig := a.dict.ldig, flag := d.flag.raise 2 } } : Chan).followStored
      { c with dict := { c.dict with hallmark := c.hallmark } })
  else s

/-- JOURNAL_SCAN (R386), in a channel that runs its start. -/
def execJournalScan (ch : Ch) (s : State) : Out :=
  let c := s.chan ch
  if c.sys.cstate = .off || c.sys.cstate = .held || c.sys.cstate = .out || c.dict.ready then .next s
  else
    let others := (allCh.filter (fun o => o ≠ ch && (s.view o).present && s.reach o ch 4)).map (fun o => (s.chan o).dict.recs)
    .next ((s.upd ch (fun c => c.scanJournal ch others)).each (fun x t => t.repairLive x))

end Sys2Proof.Machine
end

