-- ==== Sys2Proof/Machine/Rights.lean ====
section
/-! DEFINITION. The fabric: tags, memory and register rights, refused and unmapped accesses (R26 to R30, R40). -/

namespace Sys2Proof.Machine
open Sys2Proof

/-- The partition tag of an initiator (R26): 0 INTEGRITY, 1 CAPACITY, 2 REEVE, 3 ENGINE. The debug module uses INTEGRITY slots (Table 1-2). -/
def Chan.tag (c : Chan) : Initiator → Nat
  | .core h => if c.isCap h then 1 else 0
  | .reeve => 2
  | .engine _ => 3
  | .debug => 0

/-- Initiator code of SYSCTL_PART_VSRC. -/
def initCode : Initiator → Nat
  | .core h => h % 16
  | .reeve => 0x10
  | .engine n => 0x20 + n
  | .debug => 0x30

/-- How the fabric answers an access. -/
inductive Verdict where
  | served
  /-- Refused under R29, with the flag of SYSCTL_PART_VIOL it sets, if any. -/
  | refused (flag : Option Nat)
  /-- Outside every region (R40). -/
  | unmapped
deriving DecidableEq, Repr

/-- Address between two bounds. -/
def inRange (lo hi a : Nat) : Bool := lo ≤ a && a ≤ hi

/-- Read and write of each peripheral block (Table 1-4) by tag: 0 SYSCTL to 18 PWR in the order of Table 1-9. -/
def blockRight (tag blk : Nat) (write : Bool) (mode : Mode) : Bool :=
  match tag with
  | 0 => if write then [2, 3, 6, 7, 8, 11, 12].contains blk else !([13, 14, 17].contains blk)
  | 1 => if write then [3, 7].contains blk else !([4, 5, 9, 10, 13, 14, 16, 17].contains blk)
  | 2 => if blk = 17 then mode = .m9 else !(write && blk == 3)
  | _ => false

/-- Chronicle buffer number of an initiator (R428): mhartid of a core, 16 the reeve, none otherwise. -/
def stageNo : Initiator → Nat
  | .core h => h
  | .reeve => 16
  | _ => 17

/-- The publication or subscription register at an ECN offset belongs to no safety telegram. -/
def EcnBlk.plainReg (e : EcnBlk) (o : Nat) : Bool :=
  if 0x200 ≤ o && o < 0x400 then !(e.subs.any (fun q => q.num == (o - 0x200) / 4 + 1 && q.sdt))
  else 0x400 ≤ o && o < 0x600 && !(e.pubs.any (fun q => q.num == (o - 0x400) / 4 + 1 && q.sdt))

/-- What a block's right covers within it: capacity writes reach the capacity queues of SLICE with the hold of capacity releases, and the
registers of non-safety telegrams in ECN (Table 1-4; log entry 55); a chronicle buffer or post register is open to its own initiator
only (R428). -/
def Chan.finerRight (c : Chan) (tag : Nat) (ini : Initiator) (blk o : Nat) (write : Bool) : Bool :=
  if blk = 3 then !(tag == 1 && write) || o / 8 == 14 || (0x100 ≤ o && o < 0x140)
  else if blk = 7 then !(tag == 1 && write) || c.ecn.plainReg o
  else if blk = 12 then
    (if 0x100 ≤ o && o < 0x144 then (o - 0x100) / 4 == stageNo ini
     else if 0x1000 ≤ o && o < 0x3200 then (o - 0x1000) / 0x200 == stageNo ini
     else true)
  else true

/-- The verdict on an ordinary access (Tables 1-3, 1-4, 1-8). DESIGN CHOICE (log entry 86): an access of an engine or of the debug module
to the reeve's SRAM is counted as unmapped, as R40 says of a cell core's. -/
def Chan.verdict (c : Chan) (ini : Initiator) (write : Bool) (a : Nat) : Verdict :=
  let tag := c.tag ini
  let sSplit := 0x10000000 + c.sys.sramSplit * 262144
  let dSplit := 0x80000000 + c.sys.dramSplit * 16777216
  let fail (f : Option Nat) : Verdict := .refused (if tag = 3 && write then some 4 else f)
  /- the integrity part of a memory: integrity, reeve and engines write, capacity reads -/
  let integ : Verdict := if tag = 1 && write then fail (some 1) else .served
  /- a capacity part: integrity initiators are refused -/
  let capac : Verdict := if tag = 0 then fail (some 6) else .served
  if inRange 0 0xFFFF a then (if tag = 3 || write then fail none else .served)
  else if inRange 0x08000000 0x081FFFFF a then (if tag = 2 then .served else .unmapped)
  else if inRange 0x10000000 0x10FFFFFF a then (if a < sSplit then integ else capac)
  else if inRange 0x20000000 0x202FFFFF a then
    (match tag with
      | 0 => fail none
      | 1 => if write then fail (some 0) else .served
      | 2 => if write then fail (some 3) else .served
      | _ => if write then fail none else .served)
  else if inRange 0x20300000 0x203FFFFF a then capac
  else if inRange 0x40000000 0x4012FFFF a then
    (if blockRight tag ((a - 0x40000000) / 65536) write c.sys.mode && c.finerRight tag ini ((a - 0x40000000) / 65536) (a % 65536) write
     then .served else fail (if tag = 1 && write then some 2 else none))
  else if inRange 0x80000000 0xBFFFFFFF a then (if a < dSplit then integ else capac)
  else if inRange 0xC0000000 0xCFFFFFFF a then (if tag = 3 || (write && tag != 2) then fail none else .served)
  else if inRange 0xD0000000 0xD07FFFFF a then
    (match tag with
      | 0 => .served
      | 1 => if write then fail (some 1) else fail none
      | 2 => .served
      | _ => fail none)
  else .unmapped

/-- What a refused access does besides the trap of a core (R29, R30): flag, capture, bus error, engine count. -/
def Chan.refuse (c : Chan) (ini : Initiator) (write : Bool) (a : Nat) (flag : Option Nat) : Chan :=
  let y := c.sys
  let y := match flag with
    | none => y
    | some f =>
      let y := if y.viol.bits = 0#32 then { y with
          vaddr := BitVec.ofNat 32 a
          vsrc := BitVec.ofNat 32 (initCode ini * 256 + (if write then 8 else 0) + c.tag ini) } else y
      { y with viol := y.viol.raise f }
  let y := match ini with
    | .reeve => { y with reeveBusErr := true }
    | .engine n => { y with engErr := modAt satInc n y.engErr }
    | _ => y
  { c with sys := y }

/-- An access outside every region (R40). -/
def Chan.missed (c : Chan) (ini : Initiator) (write : Bool) (a : Nat) : Chan :=
  let c := c.refuse ini write a none
  { c with sys := { c.sys with unmap := satInc c.sys.unmap } }

/-- The effect of the fabric's verdict on everything but a core: `f` when the access is served. -/
def Chan.access (c : Chan) (ini : Initiator) (write : Bool) (a : Nat) (f : Chan → Chan) : Chan :=
  match c.verdict ini write a with
  | .served => f c
  | .refused fl => c.refuse ini write a fl
  | .unmapped => c.missed ini write a

end Sys2Proof.Machine
end

