-- ==== Sys2Proof/Machine/Memory.lean ====
section
/-! DEFINITION. The octets of the channel memory map as each region holds them (Tables 1-8, 15-1, R426). -/

namespace Sys2Proof.Machine
open Sys2Proof

/-- A bank of a task by the code of `Config.capPlace`. -/
def TaskRt.bank (t : TaskRt) : Nat → List Word
  | 0 => t.inImg
  | 1 => t.outWork
  | 2 => t.rsWork
  | 3 => t.outPub
  | 4 => t.rsPub
  | 6 => t.stageOut
  | _ => []

/-- Change a bank. -/
def TaskRt.setBank (t : TaskRt) (b : Nat) (f : List Word → List Word) : TaskRt :=
  match b with
  | 0 => { t with inImg := f t.inImg }
  | 1 => { t with outWork := f t.outWork }
  | 2 => { t with rsWork := f t.rsWork }
  | 3 => { t with outPub := f t.outPub }
  | 4 => { t with rsPub := f t.rsPub }
  | 6 => { t with stageOut := f t.stageOut }
  | _ => t

/-- Octet `i` of a word (R7). -/
def octetOf (w : Word) (i : Nat) : Byte := w.extractLsb' (8 * i) 8

/-- Replace octet `i` of a word. -/
def setOctet (w : Word) (i : Nat) (b : Byte) : Word :=
  (w &&& ~~~ (0xFF#32 <<< (8 * i))) ||| (b.setWidth 32 <<< (8 * i))

/-- An octet of image SRAM as the task that owns the address holds it. -/
def Chan.imageByte (c : Chan) (a : Nat) : Option Byte :=
  match Config.capPlace a with
  | none => none
  | some (n, b, o) =>
    match c.sl.task n with
    | none => none
    | some t => if b = 5 then some ((t.qual[o]?).getD 0#8) else some (octetOf (((t.bank b)[o / 4]?).getD 0#32) (o % 4))

/-- Slot, first address and number of blocks of each slot, and of each place of the transit area, whose images lie one after another (Table
15-1, log entry 56). -/
def UpdBlk.areas (u : UpdBlk) : List (Nat × Nat × Nat) :=
  [(0, 0xC0100000, 256), (1, 0xC1100000, 256), (2, 0xC2100000, 1024), (3, 0xC6100000, 1024)] ++
  transitPlaces.map (fun n => (n, 0xCA100000 + 65536 * (transitPlaces.filter (· < n)).foldl (fun k i => k + (u.slot i).room) 0, (u.slot n).room))

/-- An octet of a stored image block (R397, R399; blocks lie one after the other from the area's first address: log entry 56). Those of the
image installed in the factory are not given. -/
def Chan.slotByte (c : Chan) (a : Nat) : Option Byte :=
  match c.upd.areas.find? (fun (x : Nat × Nat × Nat) => x.2.1 ≤ a && a < x.2.1 + x.2.2 * 65536) with
  | none => none
  | some x =>
    if (c.upd.slot x.1).factory then some (Config.flashByte a)
    else ((c.upd.slot x.1).block ((a - x.2.1) / 65536)).map (fun b => (b[(a - x.2.1) % 65536]?).getD 0#8)

/-- The factory area and the configuration keep area (Table 15-1): what they hold is in State, the octets that hold it are not given. -/
def layoutOpen (a : Nat) : Bool := inRange 0xC0000000 0xC00FFFFF a || inRange 0xCF000000 0xCF7FFFFF a

/-- An entry of a journal record (Table 14-10). -/
def entryOctets (e : JEntry) : List Byte :=
  leB 1 e.kkind ++ leB 1 e.typ ++ leB 2 e.val.length ++ leB 4 e.key ++ leB 4 e.wcount ++ padTo ((e.val.length + 3) / 4 * 4) e.val

/-- The octets of a journal record (Table 14-10). -/
def JRec.octets (r : JRec) : List Byte :=
  let es := r.entries.flatMap entryOctets
  let b := leB 2 0x4A52 ++ leB 1 r.kind ++ leB 1 r.entries.length ++ leB 4 r.txn ++ leB 4 es.length ++ es
  b ++ leB 4 (crc32c b).toNat

/-- An octet of the journal (R383): the records of the erase block in append order; what a failed programming left is not given (log
entry 105). -/
def Chan.journalByte (c : Chan) (a : Nat) : Option Byte :=
  if inRange 0xCF800000 0xCFFFFFFF a then
    let o := (a - 0xCF800000) % 131072
    ((((c.dict.recs.filter (fun (r : JRec) => r.block == (a - 0xCF800000) / 131072)).flatMap (fun (r : JRec) =>
      r.octets.map (fun b => if r.ok then some b else none)))[o]?)).map (fun b => b.getD (Config.flashByte a))
  else none

/-- An octet of the chronicle ring (R426). -/
def Chan.ringByte (c : Chan) (a : Nat) : Option Byte :=
  if inRange 0xD0000000 0xD03FFFFF a then
    c.chron.octet (a - 0xD0000000)
  else none

/-- Where a copy of the ring control lies (R426): the copy and the octet within it. -/
def ctlPlace (a : Nat) : Option (Bool × Nat) :=
  if inRange 0xD0400000 0xD0400017 a then some (false, a - 0xD0400000)
  else if inRange 0xD0400040 0xD0400057 a then some (true, a - 0xD0400040) else none

/-- An octet of the ring control (R426). -/
def Chan.ctlByte (c : Chan) (a : Nat) : Option Byte :=
  (ctlPlace a).map (fun p => ((if p.1 then c.chron.ctl1 else c.chron.ctl0)[p.2]?).getD 0#8)

/-- Write an octet of the ring control (R426). -/
def Chan.putCtl (c : Chan) (p : Bool × Nat) (b : Byte) : Chan :=
  if p.1 then { c with chron := { c.chron with ctl1 := modAt (fun _ => b) p.2 c.chron.ctl1 } }
  else { c with chron := { c.chron with ctl0 := modAt (fun _ => b) p.2 c.chron.ctl0 } }

/-- The octet at an address. -/
def Chan.byteAt (c : Chan) (a : Nat) : Byte :=
  if inRange 0x20000000 0x203FFFFF a then (c.imageByte a).getD (memRead c.mem a)
  else if inRange 0xC0000000 0xCFFFFFFF a then
    if layoutOpen a then Config.flashByte a else ((c.slotByte a).or (c.journalByte a)).getD (memRead c.mem a)
  else if inRange 0xD0000000 0xD07FFFFF a then ((c.ringByte a).or (c.ctlByte a)).getD (memRead c.mem a)
  else memRead c.mem a

/-- Write the octet at an address: banks of capacity tasks, octets of chronicle records, else plain memory. -/
def Chan.putByte (c : Chan) (a : Nat) (b : Byte) : Chan :=
  let plain : Chan := { c with mem := memWrite c.mem a b }
  if inRange 0x20000000 0x203FFFFF a then
    match Config.capPlace a with
    | none => plain
    | some (n, k, o) =>
      if (c.sl.task n).isSome then
        { c with sl := c.sl.updTask n (fun t =>
          if k = 5 then { t with qual := modAt (fun _ => b) o t.qual }
          else t.setBank k (modAt (fun w => setOctet w (o % 4) b) (o / 4))) }
      else plain
  else if (c.ringByte a).isSome then
    { c with chron := { c.chron with ring := c.chron.ring.map (fun (r : CRec) =>
        if r.off ≤ a - 0xD0000000 && a - 0xD0000000 < r.off + r.bytes.length then
          { r with bytes := modAt (fun _ => b) (a - 0xD0000000 - r.off) r.bytes } else r) } }
  else match ctlPlace a with
    | some p => c.putCtl p b
    | none => plain

/-- `n` octets from an address, little-endian. -/
def Chan.loadN (c : Chan) (a : Nat) : Nat → Nat
  | 0 => 0
  | n + 1 => (c.byteAt a).toNat + 256 * c.loadN (a + 1) n

/-- Store `n` octets. -/
def Chan.storeN (c : Chan) (a : Nat) : Nat → Nat → Chan
  | 0, _ => c
  | n + 1, v => (c.putByte a (BitVec.ofNat 8 v)).storeN (a + 1) n (v / 256)

/-- `n` octets from an address as a list. -/
def Chan.bytesFrom (c : Chan) (a : Nat) : Nat → List Byte
  | 0 => []
  | n + 1 => c.byteAt a :: c.bytesFrom (a + 1) n

end Sys2Proof.Machine
end

