-- ==== Sys2Proof/Machine/Update.lean ====
section
/-! DEFINITION. Update and recovery: the bucket brigade, image verification, update commands, keys, floors, the SEC block (R397 to R423). -/

namespace Sys2Proof.Machine
open Sys2Proof

/-! Peers: transport 1 ECN A, 2 ECN B, 3 ring 1, 4 ring 2, 5 service port, 6 host lane (R403, object 0x5830) -/

/-- The dictionary transport that a brigade message arrives by, for the transports that carry it as a WRITE. -/
def peerVia (p : Peer) : Option Transport :=
  match p.transport with
  | 3 => some (.ring .r1 p.addr.toNat)
  | 4 => some (.ring .r2 p.addr.toNat)
  | 6 => some .host
  | _ => none

/-- The channel that owns an egress port (Table 1-7). -/
def egressCh (transport : Nat) : Option Ch :=
  match transport with
  | 1 => some .A
  | 2 => some .B
  | 3 => some .A
  | 4 => some .B
  | _ => none

/-- Modes in which images are received (Table 15-11), by transport: M3 takes the service port and the host lane only (R419). -/
def rxMode (m : Mode) (transport : Nat) : Bool :=
  match m with
  | .m3 => transport = 5 || transport = 6
  | .m4 | .m5 | .m7 | .m8 | .m9 | .m10 | .m11 => true
  | _ => false

/-- Modes in which images are forwarded (Table 15-11). -/
def fwdMode (m : Mode) : Bool :=
  match m with
  | .m4 | .m5 | .m7 | .m8 | .m9 | .m10 | .m11 => true
  | _ => false

/-- The octets of a brigade message (Table 15-6). -/
def brigadeOctets (t : Nat) (img : Word) (block piece reason : Nat) (map : W64) (data : List Byte) : List Byte :=
  let h := leB 1 t ++ leB 1 1 ++ leB 2 data.length ++ leB 4 img.toNat ++ leB 4 block ++ leB 2 piece ++ leB 1 reason ++ leB 1 0 ++ leB 8 map.toNat
  h ++ leB 4 (crc32c (h ++ data)).toNat ++ data

/-- The WRITE of object 0x5820.01 that carries a brigade message to a ring neighbour (R403; tag 0: DESIGN CHOICE, log entry 106). -/
def brigadeWriteOctets (b : List Byte) : List Byte :=
  leB 1 2 ++ leB 1 0 ++ leB 1 1 ++ leB 1 0 ++ leB 2 0x5820 ++ leB 1 1 ++ leB 1 0 ++ leB 2 b.length ++ leB 2 0 ++ padTo ((b.length + 3) / 4 * 4) b

/-- A port of this channel may carry brigade messages to the neighbour: a plane or the service port with link, a ring whose node is not in
bypass, the host lane (R39, R403). -/
def Chan.brigadePort (c : Chan) (p : Peer) : Bool :=
  c.sys.cstate.present && (match p.transport with
    | 1 | 2 | 5 => c.ecn.up0 || c.ecn.up1
    | _ => true)

/-- Send a brigade message: on ECN and the service port one datagram, at the brigade rate, priority code point 1 (R405); on a ring the mailbox
carries it. -/
def Chan.brigade (c : Chan) (p : Peer) (t : Nat) (img : Word) (block piece reason : Nat) (map : W64) (data : List Byte) : Chan :=
  if !c.brigadePort p then c
  else
    let c := if p.transport = 3 || p.transport = 4 then
        { c with mill := c.mill.mbSend p.addr.toNat (brigadeWriteOctets (brigadeOctets t img block piece reason map data)) }
      else c
    c.emit (.brigade p t img block piece reason map data)

/-- The channel whose port a neighbour's messages come in by (Table 1-7); every host lane is its channel's own. -/
def peerHere (ch : Ch) (p : Peer) : Bool :=
  match p.transport with
  | 1 | 3 => ch == .A
  | 2 | 4 => ch == .B
  | 5 => ch == .C
  | 6 => true
  | _ => false

/-- The receiver and the sender of brigade messages work: the reeve, in M3 the boot ROM on it, neither restarts nor is lost (R23, R419), and the
module is beyond M2 (Table 15-11). -/
def Chan.brigadeOn (c : Chan) (ch : Ch) (p : Peer) : Bool :=
  c.up && c.sys.reeveState = 0 && 3 ≤ c.sys.mode.num && peerHere ch p

/-- Answer a brigade message that arrived as a WRITE. -/
def Chan.answerDict (c : Chan) (p : Peer) (h : BrigadeHdr) (ab : Word) : Chan :=
  match h.dict, peerVia p with
  | some tag, some v => c.reply v tag 2 (if ab = 0#32 then 0 else 1) [⟨ab, 0, []⟩]
  | _, _ => c

/-- A message whose HCRC fails is discarded and counted; a WRITE is refused with image-check (R403). -/
def Chan.badMessage (c : Chan) (p : Peer) (h : BrigadeHdr) : Chan :=
  ({ c with upd := { c.upd with stats := modAt satInc 2 c.upd.stats } }).answerDict p h abImage

/-- MAP of pieces held of block NEXT of a transfer. -/
def Recv.mapOf (r : Recv) (next : Nat) : W64 :=
  (r.pieces.filter (fun p => p.1 == next)).foldl (fun (m : W64) p => m ||| (1#64 <<< p.2.1)) 0#64

/-- NEXT of a transfer. -/
def Chan.recvNext (c : Chan) (r : Recv) : Nat := (c.upd.slot r.slot).next r.man.nblk

/-- STATUS to the sender of a transfer (R404). -/
def Chan.sendStatus (c : Chan) (r : Recv) : Chan :=
  c.brigade r.peer 3 (manImgid r.man) (c.recvNext r) 0 0 (r.mapOf (c.recvNext r)) []

/-- REFUSE with a reason (R404). -/
def Chan.sendRefuse (c : Chan) (p : Peer) (h : BrigadeHdr) (reason : Nat) (ab : Word) : Chan :=
  let u := c.upd
  let c := { c with upd := { u with
    stats := modAt satInc 3 u.stats
    xReason := reason
    flag := (u.flag.raiseIf (reason = 2) 0).raiseIf (reason = 3) 3 } }
  (c.brigade p 5 h.imgid 0 0 reason 0#64 []).answerDict p h ab

/-! Senders -/

/-- Octets of piece `p` of a block. -/
def pieceOf (b : List Byte) (p : Nat) : List Byte := (b.drop (1024 * p)).take 1024

/-- Send the pieces of blocks NEXT to NEXT + 3 that are stored here and not held there (R404 step 2, R405). -/
def Chan.sendPieces (c : Chan) (x : Send) : Chan :=
  if !x.started then c
  else
    let slot := c.upd.slot x.slot
    let wanted := ((List.range 4).map (· + x.next)).filter (fun b => decide (b < x.nblk))
    let todo : List (Nat × Nat × List Byte) := wanted.flatMap (fun b =>
      match slot.block b with
      | none => []
      | some d => ((List.range 64).filter (fun p => !(b == x.next && x.map.getLsbD p) && !(x.sent.contains (b, p)))).map (fun p => (b, p, pieceOf d p)))
    let c := todo.foldl (fun (c : Chan) (t : Nat × Nat × List Byte) => c.brigade x.peer 2 x.imgid t.1 t.2.1 0 0#64 t.2.2) c
    { c with upd := { c.upd with sends := c.upd.sends.map (fun (y : Send) =>
        if y.peer = x.peer && y.imgid = x.imgid then { y with sent := y.sent ++ todo.map (fun (t : Nat × Nat × List Byte) => (t.1, t.2.1)) } else y) } }

/-- Continue every transfer this channel sends from a slot. -/
def Chan.pump (c : Chan) (slot : Nat) : Chan :=
  (c.upd.sends.filter (fun x => x.slot == slot)).foldl (fun (c : Chan) (x : Send) => c.sendPieces x) c

/-- Offer an image to every downstream neighbour whose egress port this channel owns (R405). -/
def Chan.offerDown (c : Chan) (ch : Ch) (slot : Nat) (m : Manifest) : Chan :=
  if !(fwdMode c.sys.mode && c.cfgF 0x5830 5) then c
  else (upto 1 4).foldl (fun (c : Chan) n =>
    let v := c.cfgN 0x5830 n
    let p : Peer := ⟨bitsN v 63 56, BitVec.ofNat 32 v⟩
    if egressCh p.transport = some ch && !(c.upd.sends.any (fun (y : Send) => y.peer == p && y.imgid == manImgid m)) then
      let x : Send := ⟨p, slot, manImgid m, m.nblk, 0, 0#64, false, c.now, []⟩
      ({ c with upd := { c.upd with sends := c.upd.sends ++ [x] } }).brigade
        p 1 (manImgid m) 0 0 0 0#64 (m.raw ++ m.sig)
    else c) c

/-! Receiving -/

/-- The slot a manifest takes: PARTIAL with the same IMGID first, then one that is free and not in use (R404); the transit area for images
not used here. `busy` tells the slots into which another image is being transferred (Table 15-10). A LOAD that waits for its transfer does
not hold the program slot (R409; DEDUCED, log entry 106). -/
def Chan.takeSlot (c : Chan) (busy : Nat → Bool) (m : Manifest) : Option Nat :=
  if c.foreign m || m.kind = 4 then
    let used (n : Nat) : Nat := (transitPlaces.filter (· ≠ n)).foldl (fun k i => k + (c.upd.slot i).room) 0
    let free := transitPlaces.filter (fun n => !busy n && decide ((used n + m.nblk) * 65536 ≤ transitSize))
    match free.find? (fun n => (c.upd.slot n).st == .partial_ && ((c.upd.slot n).man.map manImgid) == some (manImgid m)) with
    | some n => some n
    | none => (free.find? (fun n => (c.upd.slot n).st == .empty)).or free.head?
  else
    let cand := if m.kind = 1 then
        (if (c.upd.find [0, 1] .trial).isSome then [] else [0, 1].filter (fun n => c.upd.selected ≠ some n))
      else if c.chg.state != .idle && c.chg.state != .loading then [] else [c.upd.otherSlot]
    let free := cand.filter (fun n =>
      let x := c.upd.slot n
      !busy n && (x.st == .empty || x.st == .partial_ || x.st == .verified || x.st == .failed))
    match free.find? (fun n => (c.upd.slot n).st == .partial_ && ((c.upd.slot n).man.map manImgid) == some (manImgid m)) with
    | some n => some n
    | none => free.head?

/-- Another image is being transferred into slot `n`, as channel `ch` knows it by class 4. -/
def State.slotTaken (s : State) (ch : Ch) (m : Manifest) (n : Nat) : Bool :=
  allCh.any (fun o => s.reach o ch 4 && (s.chan o).upd.recv.any (fun r => r.slot == n && r.man.sha != m.sha))

/-- The first reason of Table 15-7 that applies to an OFFER, in the order of the table, 0 for none. -/
def State.offerReason (s : State) (ch : Ch) (p : Peer) (m : Manifest) : Nat :=
  let c := s.chan ch
  if !manFormOk m then 1
  else if (m.keyslot = 0 || (c.key m.keyslot).isSome) && !c.sigOk m then 2
  else if m.secver < s.secFloor ch then 3
  else if (!c.foreign m || m.nblk * 65536 ≤ transitSize) && (c.takeSlot (s.slotTaken ch m) m).isNone then 4
  else if !rxMode c.sys.mode p.transport then 5
  else if (c.foreign m) && transitSize < m.nblk * 65536 then 6
  else if (c.key m.keyslot).isNone then 7
  else if c.upd.slots.any (fun x => (x.man.map (·.sha)) == some m.sha && (x.st == .verified || x.st == .stored || x.st == .trial || x.st == .good)) then 9
  else if allCh.any (fun o => s.reach o ch 4 && (s.chan o).upd.recv.any (fun r => r.man.sha == m.sha && !(o == ch && r.peer == p))) then 9
  else 0

/-- The slot takes the manifest (R398): its previous content goes unless it is the same image. -/
def UpdBlk.openSlot (u : UpdBlk) (n : Nat) (m : Manifest) : UpdBlk :=
  u.updSlot n (fun x => if x.st = .partial_ && (x.man.map manImgid) = some (manImgid m) then x else ⟨.partial_, some m, [], 0, false⟩)

/-- An accepted OFFER: slot directory in every participating channel that class 4 reaches, transfer open here, offers downstream from every
owner (R404, R405). -/
def State.acceptOffer (s : State) (ch : Ch) (p : Peer) (m : Manifest) (n : Nat) : State :=
  s.updAll (fun o c =>
    if !(s.participates o && s.reach ch o 4) && o ≠ ch then c
    else
      let c := { c with upd := c.upd.openSlot n m }
      let c := if o = ch then
          let r : Recv := ⟨p, n, m, []⟩
          let c := { c with upd := { c.upd with
            recv := c.upd.recv.filter (fun (x : Recv) => !(x.peer == p || x.slot == n)) ++ [r]
            xState := 1
            xImg := manImgid m
            xNext := (c.upd.slot n).next m.nblk
            xNblk := m.nblk } }
          c.sendStatus r
        else c
      (c.offerDown o n m).pump n)

/-- BRIGADE_OFFER (R404 step 1): checked under R401 and Table 15-7, answered with STATUS or REFUSE. -/
def execBrigadeOffer (ch : Ch) (peer : Peer) (h : BrigadeHdr) (m : Manifest) (s : State) : Out :=
  if !((s.chan ch).brigadeOn ch peer) then .next s
  else if !h.ok then onChan s ch (fun c => c.badMessage peer h)
  else
    let r := s.offerReason ch peer m
    if r ≠ 0 then
      onChan s ch (fun c =>
        let ab := if r = 3 then abFloor else if r = 2 then abImage else if r = 5 then abState else abConfig
        let c := c.sendRefuse peer h r ab
        { c with upd := { c.upd with
          xState := 3
          flag := c.upd.flag.raiseIf (r = 7 || (r = 2 && m.keyslot = 1) || m.kind = 4) 5 } })
    else match (s.chan ch).takeSlot (s.slotTaken ch m) m with
      | none => .next s
      | some n => .next ((s.acceptOffer ch peer m n).upd ch (fun c => c.answerDict peer h 0#32))

/-- Store a block in a slot and take it to the bank of a waiting LOAD (R404 step 3, R409). -/
def Chan.storeBlock (c : Chan) (slot num : Nat) (b : List Byte) : Chan :=
  let u := c.upd.updSlot slot (fun x => { x with blocks := (x.blocks.filter (fun y => y.1 != num)) ++ [(num, b)] })
  let u := { u with stats := modAt satInc 0 u.stats, xNext := (u.slot slot).next (((u.slot slot).man.map (·.nblk)).getD 0) }
  let c := { c with upd := u }
  let x := c.upd.slot slot
  let full := (x.man.map (fun m => x.next m.nblk == m.nblk)).getD false
  let c := if full && c.chg.state = .loading && slot = c.upd.otherSlot then { c with chg := { c.chg with state := .verifying } } else c
  c.pump slot

/-- A bad block is discarded whole and counted (R404). -/
def Chan.discardBlock (c : Chan) : Chan :=
  { c with upd := { c.upd with stats := modAt satInc 2 c.upd.stats, flag := c.upd.flag.raise 2 } }

/-- The pieces of a block in order. -/
def Recv.assemble (r : Recv) (block : Nat) : List Byte :=
  (List.range 64).flatMap (fun p => ((r.pieces.find? (fun x => x.1 == block && x.2.1 == p)).map (fun x => x.2.2)).getD [])

/-- A PIECE in the window of an open transfer (R404 steps 2 to 4). -/
def State.takePiece (s : State) (ch : Ch) (r : Recv) (block piece : Nat) (data : List Byte) : State :=
  let r1 := { r with pieces := r.pieces.filter (fun x => !(x.1 == block && x.2.1 == piece)) ++ [(block, piece, data)] }
  let full := (r1.pieces.filter (fun x => x.1 == block)).length = 64
  let put (r : Recv) (c : Chan) : Chan := { c with upd := { c.upd with recv := c.upd.recv.map (fun (x : Recv) => if x.peer = r.peer && x.slot = r.slot then r else x) } }
  if !full then s.upd ch (put r1)
  else
    let b := r1.assemble block
    let r2 := { r1 with pieces := r1.pieces.filter (fun x => x.1 != block) }
    if blockOk block (manImgid r.man) b then
      let s := s.upd ch (fun c => ((put r2 c).storeBlock r.slot block b).sendStatus r2)
      s.sendBoth ch (.block (manImgid r.man) block b)
    else s.upd ch (fun c => (put r2 c).discardBlock)

/-- BRIGADE_PIECE (R404): in the window it is taken, otherwise refused with reason 10. -/
def execBrigadePiece (ch : Ch) (peer : Peer) (h : BrigadeHdr) (data : List Byte) (s : State) : Out :=
  if !((s.chan ch).brigadeOn ch peer) then .next s
  else if !h.ok then onChan s ch (fun c => c.badMessage peer h)
  else
    let c := s.chan ch
    match c.upd.recv.find? (fun r => r.peer == peer && manImgid r.man == h.imgid) with
    | none => onChan s ch (fun c => c.sendRefuse peer h 10 abOrder)
    | some r =>
      let next := c.recvNext r
      if next ≤ h.block && h.block ≤ next + 3 && h.block < r.man.nblk && h.piece < 64 && data.length = 1024 then
        .next ((if ((c.upd.slot r.slot).block h.block).isSome then s else s.takePiece ch r h.block h.piece data).upd ch (fun c => c.answerDict peer h 0#32))
      else onChan s ch (fun c => c.sendRefuse peer h 10 abOrder)

/-- Object 0x5831.02: the blocks that a STATUS shows stored since the one before. -/
def UpdBlk.forwardedTo (u : UpdBlk) (old new : Nat) : List Word :=
  (List.range (new - old)).foldl (fun l _ => modAt satInc 1 l) u.stats

/-- BRIGADE_STATUS (R404 steps 2 and 6): the next pieces, or END when every block is stored. -/
def execBrigadeStatus (ch : Ch) (peer : Peer) (h : BrigadeHdr) (s : State) : Out :=
  if !((s.chan ch).brigadeOn ch peer) then .next s
  else if !h.ok then onChan s ch (fun c => c.badMessage peer h)
  else onChan s ch (fun c =>
    match c.upd.sends.find? (fun x => x.peer == peer && x.imgid == h.imgid) with
    | none => c.answerDict peer h 0#32
    | some x =>
      let c := c.answerDict peer h 0#32
      if h.block = x.nblk then
        let c := { c with upd := { c.upd with
          sends := c.upd.sends.filter (fun (y : Send) => !(y.peer == peer && y.imgid == h.imgid))
          stats := c.upd.forwardedTo x.next h.block } }
        c.brigade peer 4 h.imgid 0 0 0 0#64 []
      else
        let x1 := { x with next := h.block, map := h.map, started := true, since := c.now, sent := [] }
        let c := { c with upd := { c.upd with
          sends := c.upd.sends.map (fun (y : Send) => if y.peer = peer && y.imgid = h.imgid then x1 else y)
          stats := c.upd.forwardedTo x.next h.block } }
        c.sendPieces x1)

/-- BRIGADE_END (R404 step 6, R405): the transfer is closed, missing blocks are taken from a peer, the image is to be verified in every channel. -/
def execBrigadeEnd (ch : Ch) (peer : Peer) (h : BrigadeHdr) (s : State) : Out :=
  if !((s.chan ch).brigadeOn ch peer) then .next s
  else if !h.ok then onChan s ch (fun c => c.badMessage peer h)
  else
    match (s.chan ch).upd.recv.find? (fun r => r.peer == peer && manImgid r.man == h.imgid) with
    | none => onChan s ch (fun c => c.sendRefuse peer h 10 abOrder)
    | some r =>
      let s1 := s.upd ch (fun c => ({ c with upd := { c.upd with recv := c.upd.recv.filter (fun (x : Recv) => !(x.peer == peer && x.slot == r.slot)), quietAt := c.now } }).answerDict peer h 0#32)
      let mine := ((s.chan ch).upd.slot r.slot).blocks
      let lack (o : Ch) : List (Nat × List Byte) := mine.filter (fun b => (((s.chan o).upd.slot r.slot).block b.1).isNone)
      let feed (o : Ch) (t : State) : State := (lack o).foldl (fun (t : State) (b : Nat × List Byte) => t.send ch o (.block h.imgid b.1 b.2)) t
      let s2 := feed (chPrev ch) (feed (chNext ch) s1)
      .next (s2.updAll (fun o c => if o = ch || (s.participates o && s.reach ch o 4) then
          { c with upd := { c.upd with verify := if c.upd.verify.contains r.slot then c.upd.verify else c.upd.verify ++ [r.slot] } } else c))

/-- BRIGADE_REFUSE (R404): reason 10 offers again, any other ends the transfer; reason 9 counts as complete. -/
def execBrigadeRefuse (ch : Ch) (peer : Peer) (h : BrigadeHdr) (s : State) : Out :=
  if !((s.chan ch).brigadeOn ch peer) then .next s
  else if !h.ok then onChan s ch (fun c => c.badMessage peer h)
  else onChan s ch (fun c =>
    match c.upd.sends.find? (fun x => x.peer == peer && x.imgid == h.imgid) with
    | none => c.answerDict peer h 0#32
    | some x =>
      let c := c.answerDict peer h 0#32
      if h.reason = 10 then
        let m := ((c.upd.slot x.slot).man).getD factoryManifest
        let c := { c with upd := { c.upd with sends := c.upd.sends.map (fun (y : Send) =>
          if y.peer = peer && y.imgid = h.imgid then { y with started := false, sent := [], since := c.now } else y) } }
        c.brigade peer 1 h.imgid 0 0 0 0#64 (m.raw ++ m.sig)
      else { c with upd := { c.upd with sends := c.upd.sends.filter (fun (y : Send) => !(y.peer == peer && y.imgid == h.imgid)) } })

/-- BRIGADE_STATUS_TIMER: STATUS of every open transfer, every 20 ms (R404 step 4). -/
def execBrigadeStatusTimer (ch : Ch) (s : State) : Out :=
  onChan s ch (fun c => if c.up && c.sys.reeveState = 0 then c.upd.recv.foldl (fun (c : Chan) (r : Recv) => c.sendStatus r) c else c)

/-- BRIGADE_RESEND: 200 ms without STATUS, so every piece not held is sent again (R404 step 5). -/
def execBrigadeResend (ch : Ch) (peer : Peer) (s : State) : Out :=
  onChan s ch (fun c =>
    (c.upd.sends.filter (fun x => x.peer == peer)).foldl (fun (c : Chan) (x : Send) =>
      let x1 : Send := { x with sent := [] }
      ({ c with tb := c.tb.reach (x.since + 200000000), upd := { c.upd with sends := c.upd.sends.map (fun (y : Send) => if y.peer = peer && y.imgid = x.imgid then x1 else y) } }).sendPieces x1) c)

/-- BRIGADE_GIVE_UP: 30 s without STATUS end the transfer with a record (R404 step 5). -/
def execBrigadeGiveUp (ch : Ch) (peer : Peer) (s : State) : Out :=
  onChan s ch (fun c =>
    (c.upd.sends.filter (fun x => x.peer == peer)).foldl (fun (c : Chan) (x : Send) =>
      ({ c with
        tb := c.tb.reach (x.since + 30000000000)
        upd := { c.upd with sends := c.upd.sends.filter (fun (y : Send) => !(y.peer == peer && y.imgid == x.imgid)) } }).log 0x10
        (leB 1 0 ++ leB 1 0 ++ leB 2 0 ++ leB 4 x.imgid.toNat ++ leB 4 x.next)) c)

/-- BLOCK_FORWARD_RECEIVE: a block shared on class 4 is checked and programmed (R405). -/
def execBlockForwardReceive (rx tx : Ch) (ok : Bool) (s : State) : Out :=
  .next (s.recv rx tx ok XBody.isBlock (fun b s =>
    match b with
    | .block img num d => s.upd rx (fun c =>
        match (List.range 12).find? (fun n => ((c.upd.slot n).man.map manImgid) == some img && (c.upd.slot n).st == .partial_) with
        | none => c
        | some n => if blockOk num img d then c.storeBlock n num d else c.discardBlock)
    | _ => s))

/-- A program image keeps the rules of R139 under the configured split mask and those of R228 under the stored schedules; a translated program has no sections of its own. -/
def Chan.programOk (c : Chan) (slot : Nat) : Bool :=
  let man := ((c.upd.slot slot).man).getD factoryManifest
  let p := readProgram man.sha (c.upd.slot slot).content
  man.kind ≠ 2 || (p.rulesOk (c.cfgN 0x2001 1) 0x300000 0x100000 && c.subsOk p)

/-- A failed or passed verification of a slot (R406, R419): SEC_FLAG shows the check that failed; in M3 firmware becomes TRIAL and a
program STORED, its confirmation cleared in a SNAPSHOT record (log entry 106). -/
def Chan.verifySlot (c : Chan) (slot floor : Nat) : Chan :=
  let x := c.upd.slot slot
  let code := c.verifyCode x floor
  let u := { c.upd with verify := c.upd.verify.filter (· ≠ slot) }
  let sig := code = 1 && (x.man.map (fun m => c.sigOk m)) == some false
  let low := code = 1 && !sig && (x.man.map (fun m => decide (m.secver < floor))) == some true
  if code ≠ 0 then
    { c with upd := { u.updSlot slot (fun x => { x with st := .failed }) with
      xState := 4
      stats := modAt satInc 4 u.stats
      flag := (((u.flag.raiseIf sig 0).raiseIf low 3).raiseIf (code = 2) 2).raiseIf (code = 3) 1 } }
  else
    let u := { u.updSlot slot (fun x => { x with st := .verified }) with xState := 2 }
    if c.sys.mode = .m3 then
      if slot ≤ 1 then { c with upd := { u.updSlot slot (fun x => { x with st := .trial, trials := 0 }) with recovered := true } }
      else if slot ≤ 3 && c.programOk slot then
        let c := { c with upd := u }
        let es := c.freshEntries (storedEntry c.upd.otherSlot :: clearConfirm)
        let c := { c with upd := u.swapProg }
        { c with dict := { c.dict.append ⟨4, 0, es, 0, true, []⟩ with live := liveApply c.dict.live es } }
      else { c with upd := u }
    else { c with upd := u }

/-- Blocks of an image that a slot lacks. -/
def ImgSlot.lacks (x : ImgSlot) : List Nat :=
  match x.man with
  | none => []
  | some m => (List.range m.nblk).filter (fun n => (x.block n).isNone)

/-- IMAGE_VERIFICATION (R406, R419): a channel that lacks a block asks a peer for it on class 4 (R405); else the slot becomes VERIFIED or FAILED. -/
def execImageVerification (ch : Ch) (slot : Nat) (s : State) : Out :=
  let c := s.chan ch
  let x := c.upd.slot slot
  if !(c.up && c.sys.reeveState = 0 && c.upd.verify.contains slot && x.st = .partial_) then .next s
  else
    let img := (x.man.map manImgid).getD 0#32
    let has (o : Ch) (n : Nat) : Option (List Byte) :=
      if ((s.chan o).upd.slot slot).man = x.man && s.reach o ch 4 && s.reach ch o 4 then ((s.chan o).upd.slot slot).block n else none
    match (allCh.filter (· ≠ ch)).find? (fun o => x.lacks.any (fun n => (has o n).isSome)) with
    | some o =>
      .next (x.lacks.foldl (fun (t : State) n => match has o n with | some b => t.send o ch (.block img n b) | none => t) s)
    | none => .next (s.upd ch (fun c => c.verifySlot slot (s.secFloor ch)))

/-! Commands of Table 15-9 -/

/-- The slot that ACTIVATE takes. -/
def UpdBlk.fwVerified (u : UpdBlk) : Option Nat := u.find [0, 1] .verified

/-- Refuse or accept a write of one entry with an abort code. -/
def State.refuseOne (s : State) (ch : Ch) (via : Option Transport) (tag : Byte) (ab : Word) : State :=
  let s := if ab = abState then s.upd ch Chan.conflict else s
  s.answer ch via tag 1 [⟨ab, 0, []⟩]

/-- Pass a directory or key command to the sequencing reeve (R410). -/
def State.orderAct (s : State) (ch : Ch) (via : Option Transport) (tag : Byte) (es : List JEntry) (k op : Nat) : State :=
  s.enqueue ⟨es, [(k, op)], ch, via, tag, 1⟩

/-- The target floor entry of a confirmation (R412). -/
def Chan.floorEntries (c : Chan) : List JEntry :=
  let sv := ((c.upd.find [0, 1] .trial).bind (fun n => ((c.upd.slot n).man).map (·.secver))).getD 0
  if c.cfgN 0x5C00 2 < min sv 256 then [addrEntry 0x5C00 2 (leB 2 (min sv 256))] else []

/-- A command of Table 15-9 as channel `ch` receives it. -/
def State.updCommand (s : State) (ch : Ch) (via : Option Transport) (tag : Byte) (value : Nat) (fuseOk : Bool) : State :=
  let c := s.chan ch
  let m := c.sys.mode
  let no := s.refuseOne ch via tag
  if !c.up then s
  else if c.sys.reeveState ≠ 0 then no abUnavail
  else match value with
  | 1 =>
    match c.upd.fwVerified with
    | none => no abState
    | some n =>
      if !((m = .m4 || m = .m9 || m = .m10) && (c.upd.find [0, 1] .trial).isNone) then no abState
      else if c.runCfmt < (((c.upd.slot n).man.map (·.mincfmt)).getD 0) then no abConfig
      else s.orderAct ch via tag [] 1 n
  | 2 =>
    match c.upd.find [2, 3] .verified with
    | none => no abState
    | some n =>
      if m ≠ .m4 then no abState
      else
        let man := ((c.upd.slot n).man).getD factoryManifest
        if c.runFw < man.fwver then no abConfig
        else if !(c.programOk n) then no abConfig
        else s.orderAct ch via tag clearConfirm 2 0
  | 3 => if (m = .m4 || m = .m9 || m = .m10) && (c.upd.find [0, 1] .trial).isSome then s.orderAct ch via tag [] 3 0 else no abState
  | 4 => if m = .m4 || m = .m5 || m = .m7 || m = .m8 || m = .m9 || m = .m10 then s.orderAct ch via tag [] 4 0 else no abState
  | 5 => if m = .m4 || m = .m5 || m = .m7 || m = .m8 || m = .m9 || m = .m10 || m = .m11 then s.orderAct ch via tag [] 5 0 else no abState
  | 6 =>
    if m ≠ .m4 || c.upd.keyPlace.isNone then no abState
    else if c.upd.custFuse.isSome then no abConfig
    else s.orderAct ch via tag [] 6 (chCode ch * 2 + (if fuseOk then 1 else 0))
  | _ => no abRange

def execUpdActivate (ch : Ch) (s : State) : Out := .next (s.updCommand ch none 0#8 1 true)
def execUpdStore (ch : Ch) (s : State) : Out := .next (s.updCommand ch none 0#8 2 true)
def execUpdFallback (ch : Ch) (s : State) : Out := .next (s.updCommand ch none 0#8 3 true)
def execUpdErase (ch : Ch) (s : State) : Out := .next (s.updCommand ch none 0#8 4 true)
def execUpdAbort (ch : Ch) (s : State) : Out := .next (s.updCommand ch none 0#8 5 true)
def execUpdInstallKey (ch : Ch) (fuseOk : Bool) (s : State) : Out := .next (s.updCommand ch none 0#8 6 fuseOk)

/-- A write of object 0x5803.01 (R412). -/
def State.fwConfirm (s : State) (ch : Ch) (via : Option Transport) (tag : Byte) (value : Word) : State :=
  let c := s.chan ch
  let m := c.sys.mode
  if !c.up then s
  else if c.sys.reeveState ≠ 0 then s.refuseOne ch via tag abUnavail
  else match c.upd.find [0, 1] .trial with
  | none => s.refuseOne ch via tag abState
  | some n =>
    if !(m = .m4 || m = .m5 || m = .m7 || m = .m8 || m = .m9 || m = .m10) then s.refuseOne ch via tag abState
    else if ((c.upd.slot n).man.map manImgid) ≠ some value then s.refuseOne ch via tag abRange
    else s.orderAct ch via tag c.floorEntries 7 0

def execFirmwareConfirmation (ch : Ch) (value : Word) (s : State) : Out := .next (s.fwConfirm ch none 0#8 value)

/-! The SEC block -/

/-- Bases of the peripheral blocks (Table 1-9). -/
def blkBase (n : Nat) : Nat := 0x40000000 + n * 65536

/-- A write of SEC_ADVANCE in M4 to M10 blows fuses one by one up to the target, each verified (R418). -/
def Chan.advanceFuses (c : Chan) (target : Nat) (fuseOk : Bool) : Chan :=
  if !(4 ≤ c.sys.mode.num && c.sys.mode.num ≤ 10) then c
  else
    let t := min (target % 512) 256
    let u := c.upd
    if t ≤ u.fuses then c
    else if fuseOk then { c with upd := { u with fuses := t } }
    else { c with upd := { u with flag := u.flag.raise 4 } }

/-- FUSE_ADVANCE: a write of SEC_ADVANCE by an initiator. -/
def execFuseAdvance (ch : Ch) (ini : Initiator) (target : Nat) (fuseOk : Bool) (s : State) : Out :=
  onChan s ch (fun c => c.access ini true (blkBase 14 + 0x40) (fun c => c.advanceFuses target fuseOk))

/-- SEC_HASH_START: a write of SEC_HASH_LEN starts a hash (R422). -/
def execSecHashStart (ch : Ch) (ini : Initiator) (len : Word) (s : State) : Out :=
  onChan s ch (fun c => c.access ini true (blkBase 14 + 0x54) (fun c =>
    { c with upd := { c.upd with hashLen := len, busy := true } }))

/-- SEC_HASH_DONE: the hash completes and its result is readable. -/
def execSecHashDone (ch : Ch) (s : State) : Out :=
  onChan s ch (fun c =>
    if c.upd.busy then
      { c with upd := { c.upd with
        busy := false
        hashOut := bytesWords 8 (sha256 (c.bytesFrom c.upd.hashAddr.toNat c.upd.hashLen.toNat)) } }
    else c)

/-- RECOVERY_COMPLETE (R419): in M3 a firmware image received there is verified in two channels and no transfer has been open for 10 s. -/
def execRecoveryComplete (s : State) : Out :=
  let done := 2 ≤ (allCh.filter (fun c => (s.chan c).upd.recovered)).length
  let quiet := allCh.all (fun c => (s.chan c).upd.recv.isEmpty && (s.chan c).upd.quietAt + 10000000000 ≤ (s.chan c).now || !(s.view c).present)
  guardC (s.mode = .m3 && done && quiet) s
    (s.updAll (fun _ c => if c.up && c.sys.mode = .m3 && !c.sys.triggers.contains ⟨.m1, 0x02⟩ then c.trigger .m1 0x02 else c))

end Sys2Proof.Machine
end

