-- ==== Sys2Proof/Machine/SdChain.lean ====
section
/-! DEFINITION. The signal chain: captured bits, decimator, resampler, frames, sync, check messages (R350 to R365). -/

namespace Sys2Proof.Machine
open Sys2Proof

/-- Modes in which MCLK runs and the chain filters (Table 13-9). -/
def sdMode : Mode → Bool
  | .m5 | .m7 | .m8 | .m9 | .m10 | .m11 => true
  | _ => false

/-- The chain runs: by mode, and in M2 from a start decision for M5, M7 or M8 (Table 13-9). -/
def Chan.sdRuns (c : Chan) : Bool :=
  c.up && (sdMode c.sys.mode || (c.sys.mode == .m2 && (match c.sys.decided with
    | some p => p.mode == .m5 || p.mode == .m7 || p.mode == .m8
    | none => false)))

/-- States in which a channel may hold the clock role (R350). -/
def clkState : CState → Bool
  | .testing | .ready | .voting | .maint | .safe | .locked => true
  | _ => false

/-- The clock channel by R350, as channel `ch` sees it: the first eligible one from the preferred channel, in the order A, B, C, A, neither
passed over nor recorded OUT at this boundary or before (R353). -/
def State.clockCh (s : State) (ch pref : Ch) (passed : List Ch) : Option Ch :=
  [pref, chNext pref, chPrev pref].find? (fun c => clkState (s.view c) && (s.chan ch).vote.out.get c = 0 && !passed.contains c)

/-! Decimator (R355, R356) -/

/-- R = 16 × 2^RCODE. -/
def SdCfg.ratio (g : SdCfg) : Nat := 16 * 2 ^ g.rcode

/-- Growth B in bits (Table 13-2): order × log2 R. -/
def SdCfg.growth (g : SdCfg) : Nat := g.order * (4 + g.rcode)

/-- v / 2^n rounded to the nearest integer, ties to the even one (R356). -/
def roundEven (v : Int) (n : Nat) : Int :=
  let q := v / (2 ^ n : Int)
  let r := v % (2 ^ n : Int)
  if 2 * r < 2 ^ n then q else if 2 ^ n < 2 * r then q + 1 else if q % 2 = 0 then q else q + 1

/-- Saturation to 24 bits, with the mark that it happened. -/
def sat24 (v : Int) : Int × Bool :=
  if v > 8388607 then (8388607, true) else if v < -8388608 then (-8388608, true) else (v, false)

/-- The decimated value scaled to 24 bits (R356). -/
def SdCfg.scale (g : SdCfg) (v : Int) : Int × Bool :=
  sat24 (if g.growth ≤ 23 then v * 2 ^ (23 - g.growth) else roundEven v (g.growth - 23))

/-- Integrators after one bit: each adds the one before it as already updated (R355). -/
def integrate (x : BitVec 42) : Nat → List (BitVec 42) → List (BitVec 42)
  | 0, l => l
  | _, [] => []
  | n + 1, a :: r => (a + x) :: integrate (a + x) n r

/-- Combs: the value after `n` of them, and their new contents. -/
def combRun (v : BitVec 42) : Nat → List (BitVec 42) → BitVec 42 × List (BitVec 42)
  | 0, l => (v, l)
  | _, [] => (v, [])
  | n + 1, a :: r =>
    let t := combRun (v - a) n r
    (t.1, v :: t.2)

/-- One captured bit of an enabled input (R355, R356, R359 STUCK). -/
def SdIn.take (x : SdIn) (d : Bool) : SdIn :=
  let g := x.cfg
  let run := if x.runLen ≠ 0 && x.runBit == d then x.runLen + 1 else 1
  let ended := x.runLen ≠ 0 && x.runBit != d && decide (4096 ≤ x.runLen)
  let u : BitVec 42 := if d != g.inv then 1#42 else BitVec.allOnes 42
  let i := integrate u g.order x.integ
  let b := x.b + 1
  let y := { x with integ := i, b := b, runLen := run, runBit := d, stuckSeen := x.stuckSeen || ended }
  if b % g.ratio ≠ 0 then y
  else
    let v := combRun (atD 0#42 (g.order - 1) i) g.order x.comb
    let s := g.scale v.1.toInt
    { y with comb := v.2, ys := s.1 :: x.ys, n := b / g.ratio, ov := x.ov + (if s.2 then 1 else 0) }

/-- A sync clears integrators, combs, resampler history and the bit count (R361). -/
def SdIn.sync (x : SdIn) : SdIn :=
  { x with integ := List.replicate 5 0#42, comb := List.replicate 5 0#42, b := 0, ys := [], n := 0 }

/-! Resampler (R357 to R360) -/

/-- The decimated sample number `n`, 0 where there is none. -/
def SdIn.y (x : SdIn) (n : Int) : Int := if n < 1 || (x.n : Int) < n then 0 else atD 0 ((x.n : Int) - n).toNat x.ys

/-- Output sample `j` of the tick with opening index `f` and length `len`: value, saturation, and whether it used an unsettled sample. -/
def SdIn.outSample (x : SdIn) (f len j : Nat) : Int × Bool × Bool :=
  let g := x.cfg
  let q := g.nsamp * g.ratio
  let num := f * g.nsamp + j * len
  let n := num / q
  let phi := 64 * (num % q) / q
  let acc := (List.range 16).foldl (fun (a : Int) m => a + Config.resample g.prof (64 * m + phi) * x.y ((n : Int) - m)) 0
  let s := sat24 (roundEven acc 17)
  (s.1, s.2, decide (n < g.order + 15))

/-- Status word (Table 13-5). -/
def sdStatus (len ov : Nat) (synced frameErr noclk stuck settling : Bool) : Word :=
  BitVec.ofNat 32 (min len 65535 * 65536 + min ov 255 * 256 + synced.toNat * 16 + frameErr.toNat * 8 + noclk.toNat * 4 +
    stuck.toNat * 2 + settling.toNat)

/-- The tick ends for an input: its N samples and its status word (R357, R359); its history is trimmed to the 16 samples the next tick may use. -/
def SdIn.close (x : SdIn) (f len : Nat) (synced frameErr noclk : Bool) : SdIn :=
  let os := (List.range x.cfg.nsamp).map (fun j => x.outSample f len j)
  let ov := x.ov + (os.filter (fun o => o.2.1)).length
  let stuck := x.stuckSeen || decide (4096 ≤ x.runLen)
  let st := sdStatus len ov synced frameErr noclk stuck (os.any (fun o => o.2.2))
  { x with cur := os.map (fun o => BitVec.ofInt 32 o.1), curStat := st, ys := x.ys.take 16, ov := 0, stuckSeen := false }

/-- Nominal L_k: 20 bits per µs (R352). -/
def Chan.sdNominal (c : Chan) : Nat := c.period / 50

/-- L_k outside nominal ± nominal / 256 (R352). -/
def lenBad (nominal len : Nat) : Bool := decide (nominal < 256 * (max len nominal - min len nominal))

/-- Change every enabled input. -/
def SdBlk.mapOn (d : SdBlk) (f : SdIn → SdIn) : SdBlk := { d with ins := d.ins.map (fun x => if x.cfg.en then f x else x) }

/-- Output samples of the tick that saturate (R357). -/
def SdIn.outSat (x : SdIn) (f len : Nat) : Nat := (List.range x.cfg.nsamp).countP (fun j => (x.outSample f len j).2.1)

/-- A tick closes with length `len` (R352, R357, R359). Each stuck input and each saturated output sample is an event (R10, R366). -/
def Chan.sdClose (c : Chan) (len : Nat) : Chan :=
  let d := c.sd
  let bad := lenBad c.sdNominal len
  let d1 := d.mapOn (fun x => x.close d.f len d.synced (bad || decide (0 < d.moveErr)) d.noclk)
  let stuck := (d1.ins.filter (fun x => x.cfg.en && x.curStat.getLsbD 1)).length
  let sat := (d.ins.filter (·.cfg.en)).foldl (fun (n : Nat) x => n + x.outSat d.f len) 0
  { c with sd := { d1 with
      lastL := min len 65535
      closed := some len
      moveErr := d.moveErr - 1
      noclk := false
      flag := ((d1.flag.raiseIf bad 2).raiseN stuck 4).raiseN sat 5 } }

/-- Inputs whose decimated value saturated between two states of the chain: each sets OVER as it occurs (R356). -/
def oversBetween (a b : List SdIn) : Nat := (a.zip b).countP (fun x => decide (x.1.ov < x.2.ov))

/-- CAPTURED_BIT (R351, R355, R361): the chain filters from the first sync on; a frame bit closes the tick before it, and a sync takes effect at it. -/
def Chan.sdBit (c : Chan) (bits : BitVec 12) (frame sync : Bool) : Chan :=
  let take (c : Chan) : Chan :=
    let ins := (c.sd.ins.zipIdx).map (fun (x : SdIn × Nat) => if x.1.cfg.en then x.1.take (bits.getLsbD x.2) else x.1)
    { c with sd := { c.sd with
        since := c.sd.since + 1
        ins := ins
        flag := c.sd.flag.raiseN (oversBetween c.sd.ins ins) 5 } }
  if !frame then (if c.sd.framed then take c else c)
  else
    let c := if c.sd.framed then c.sdClose c.sd.since else c
    let d := c.sd
    if sync then
      let d := d.mapOn SdIn.sync
      take { c with sd := { d with
        f := 0
        since := 0
        framed := true
        synced := true
        run := true
        syncs := satInc d.syncs
        flag := d.flag.raise 6 } }
    else if d.framed then take { c with sd := { d with f := d.f + d.since, since := 0, synced := false } }
    else c

/-- CAPTURED_BIT. -/
def execCapturedBit (ch : Ch) (bits : BitVec 12) (frame sync : Bool) (s : State) : Out :=
  onChan s ch (fun c => if c.sdRuns then c.sdBit bits frame sync else c)

/-- Samples and status word of every input for tick `k`, where that is the chain's latest. -/
def SdBlk.wordsOf (d : SdBlk) (k : Word) : Option (List (List Word)) := if d.k = k then some (d.ins.map (fun x => x.out ++ [x.status])) else none

/-- The words of tick `k` in the other two channels. -/
def State.peerWords (s : State) (ch : Ch) (k : Word) : Option (List (List Word)) × Option (List (List Word)) :=
  ((s.chan (chNext ch)).sd.wordsOf k, (s.chan (chPrev ch)).sd.wordsOf k)

/-- Enabled inputs whose own words differ from two equal ones (R362). -/
def SdBlk.odd (d : SdBlk) : Option (List (List Word)) × Option (List (List Word)) → BitVec 12
  | (some p, some q) =>
    (List.range 12).foldl (fun (w : BitVec 12) i =>
      let x := atD SdIn.init i d.ins
      if x.cfg.en && atD [] i p == atD [] i q && atD [] i p != x.out ++ [x.status] then w ||| (1#12 <<< i) else w) 0#12
  | _ => 0#12

/-- The check of tick `k` received on a link compared with the own CRC (R362); once both are compared, the own one against two equal ones. At
64 consecutive ticks the chain is judged faulty, and the inputs are marked whose own words of this tick differ from two equal ones: the
check messages carry no words, so they are compared as the other channels hold them (DEDUCED, log entry 45). -/
def Chan.sdCompare (c : Chan) (k : Word) (peer : Word) (ps : Option (List (List Word)) × Option (List (List Word))) : Chan :=
  let d := { c.sd with flag := c.sd.flag.raiseIf (decide (peer ≠ c.sd.chk)) 0 }
  if d.got0 = some k && d.got1 = some k then
    if d.peer0 = d.peer1 && d.chk ≠ d.peer0 then
      let run := d.disRun + 1
      let d := { d with disRun := run }
      if run = 64 then
        let m := d.sense ||| d.odd ps
        let c := { c with sd := { d with sense := m, flag := d.flag.raise 1 } }
        c.log 0x12 (leB 4 m.toNat)
      else { c with sd := d }
    else { c with sd := { d with disRun := 0 } }
  else { c with sd := d }

/-- Deliver the closed tick: samples, status words, CRC over the enabled inputs (R359, R362). A check that came before it is compared
now; a tick without both checks ends the run of differing ones. -/
def Chan.sdDeliver (c : Chan) (k : Word) (ps : Option (List (List Word)) × Option (List (List Word))) : Chan :=
  let d := c.sd.mapOn (fun x => { x with
    out := x.cur
    status := x.curStat
    last := atD x.last (x.cur.length - 1) x.cur })
  let words := (d.ins.filter (·.cfg.en)).flatMap (fun (x : SdIn) => x.out ++ [x.status])
  let both := d.got0 == some d.k && d.got1 == some d.k
  let early (g : Option Word) : Option Word := if g = some k && k ≠ d.k then g else none
  let g0 := early d.got0
  let g1 := early d.got1
  let c := { c with sd := { d with
    k := k, chk := crc32c (wordBytes words), closed := none, delivered := true, got0 := g0, got1 := none
    disRun := if both then d.disRun else 0 } }
  let c := if g0.isSome then c.sdCompare k c.sd.peer0 ps else c
  if g1.isSome then { c with sd := { c.sd with got1 := g1 } }.sdCompare k c.sd.peer1 ps else c

/-- Every enabled input shows NOCLK (R362). -/
def SdBlk.allNoclk (d : SdBlk) : Bool := let on := d.ins.filter (·.cfg.en); !on.isEmpty && on.all (fun x => x.status.getLsbD 2)

/-- SD_FRAME_BIT (R352, R359, R362): the tick's samples and status are complete and the check message goes to both others, in the modes with
delivery (Table 13-9). A tick without clock closes with the bits it has. -/
def execSdFrameBit (ch : Ch) (k : Word) (s : State) : Out :=
  let c := s.chan ch
  guardC (c.up && sdMode c.sys.mode && (c.sd.closed.isSome || c.sd.noclk)) s
    (let t := s.upd ch (fun c => (if c.sd.closed.isSome then c else c.sdClose c.sd.since).sdDeliver k (s.peerWords ch k))
     let d := (t.chan ch).sd
     let t := t.upd ch (fun c => { c with sd := { c.sd with rep := (d.allNoclk, c.sd.rep.2) } })
     t.sendBoth ch (.sdCheck k d.chk d.allNoclk))

/-- SD_FRAME_PULSE (R351, R361): 20 µs before its next boundary the clock channel drives the frame pulse, once a tick, with sync when one is due. -/
def execSdFramePulse (ch : Ch) (s : State) : Out :=
  onChan s ch (fun c =>
    let n := if c.tb.started then c.tb.c + 1 else c.tb.c
    if c.sdRuns && c.sd.drv && c.sd.clkCh = some ch && c.sd.pulsed ≠ some n then
      ({ c with
        tb := c.tb.reach (c.nextStamp - 20000)
        sd := { c.sd with pulseSync := c.sd.syncNext, syncNext := c.sd.syncLater, syncLater := false, pulsed := some n } }).emit (.framePulse c.sd.syncNext)
    else c)

/-- NOCLK_DETECT (R359): no MCLK edge for 1 µs within the tick. -/
def execNoclkDetect (ch : Ch) (s : State) : Out :=
  onChan s ch (fun c => if c.sdRuns then { c with sd := { c.sd with noclk := true, flag := c.sd.flag.raise 3 } } else c)

/-- SYNC_PIN_EDGE (R361): an edge of the configured polarity with a pulse of at least 1 µs; a late one applies to the following frame, which is
the next one where this tick's frame is driven already. -/
def execSyncPinEdge (ch : Ch) (rising wide early : Bool) (s : State) : Out :=
  onChan s ch (fun c =>
    if c.sdRuns && c.sd.pinEn && wide && rising != c.sd.pinFall then
      (if early then { c with sd := { c.sd with syncNext := true } }
       else
        let gone := c.sd.pulsed == some (if c.tb.started then c.tb.c + 1 else c.tb.c)
        { c with sd := { c.sd with syncNext := c.sd.syncNext || gone, syncLater := c.sd.syncLater || !gone, flag := c.sd.flag.raise 8 } })
    else c)

/-- Queue a command for the boundary at which it takes effect (R55). -/
def Chan.queueCmd (c : Chan) (ch : Ch) (kind value : Nat) (via : Option Transport) (tag : Byte) : Chan :=
  { c with sys := { c.sys with cmds := c.sys.cmds ++ [⟨kind, value, c.tb.c, c.now, ch, via, tag⟩] } }

/-- A write of the sync command (R361): accepted in M5 and M7 to M11. -/
def State.syncCmd (s : State) (ch : Ch) (via : Option Transport) (tag : Byte) (value : Nat) : State :=
  let c := s.chan ch
  if !c.up then s
  else if c.sys.reeveState ≠ 0 then s.refuseOne ch via tag abUnavail
  else if !sdMode c.sys.mode then s.refuseOne ch via tag abState
  else if value ≠ 1 then s.refuseOne ch via tag abRange
  else s.upd ch (fun c => c.queueCmd ch 3 value via tag)

/-- SYNC_COMMAND. -/
def execSyncCommand (ch : Ch) (value : Byte) (s : State) : Out := .next (s.syncCmd ch none 0#8 value.toNat)

/-- A check message received (R362): held, and compared with the own CRC of its tick. -/
def Chan.sdCheck (c : Chan) (l : Link) (k crc : Word) (noclk : Bool) (ps : Option (List (List Word)) × Option (List (List Word))) : Chan :=
  let d := c.sd
  let d := match l with
    | .next => { d with peer0 := crc, got0 := some k, rep := (d.rep.1, noclk, d.rep.2.2) }
    | .prev => { d with peer1 := crc, got1 := some k, rep := (d.rep.1, d.rep.2.1, noclk) }
  if k ≠ d.k then { c with sd := d } else { c with sd := d }.sdCompare k crc ps

/-- SD_CHECK_RECEIVE. -/
def execSdCheckReceive (rx tx : Ch) (ok : Bool) (s : State) : Out :=
  .next (s.recv rx tx ok XBody.isSdCheck (fun b t =>
    match b, linkTo rx tx with
    | .sdCheck k crc nc, some l => t.upd rx (fun c => c.sdCheck l k crc nc (t.peerWords rx k))
    | _, _ => t))

/-- R350 and R353 at a boundary: the clock role as every channel sees it; a move sets CLK_MOVE, FRAMEERR of
the tick in progress and a sync for the new clock channel; no other channel keeps one to send. -/
def State.sdBoundary (s : State) (ch : Ch) : State :=
  s.upd ch (fun c =>
    if !c.sdRuns then { c with sd := { c.sd with clkCh := none, drv := false, run := false, delivered := false } }
    else
      let d := c.sd
      let reports := (if d.rep.1 then 1 else 0) + (if d.rep.2.1 then 1 else 0) + (if d.rep.2.2 then 1 else 0)
      let run := if 2 ≤ reports then d.noclkRun + 1 else 0
      let passed := if 2 ≤ run then (match d.clkCh with | some k => k :: d.passed | none => d.passed) else d.passed
      let new := s.clockCh ch d.pref passed
      let moved := d.clkCh.isSome && d.clkCh ≠ new
      let first := d.clkCh.isNone && new.isSome
      { c with sd := { d with
          noclkRun := if 2 ≤ run then 0 else run
          rep := (false, false, false)
          delivered := false
          passed := passed
          clkCh := new
          drv := decide (new = some ch)
          syncNext := decide (new = some ch) && (d.syncNext || moved || first)
          syncLater := decide (new = some ch) && d.syncLater && !moved && !first
          moveErr := if moved then 1 else d.moveErr
          flag := d.flag.raiseIf (moved && new.isSome) 7 } })

/-- At the start decision the clock role is taken, so that the first frame is driven before the first boundary (R350, R361, Table 13-9). -/
def State.sdStart (s : State) : State := allCh.foldl State.sdBoundary s

end Sys2Proof.Machine
end

