-- ==== Sys2Proof/Machine/Ecn.lean ====
section
/-! DEFINITION. Train networks: publications, subscriptions, the switch, PTP, ARP and ICMP, the MVB device (R253 to R273). -/

namespace Sys2Proof.Machine
open Sys2Proof

/-- The channel that owns a plane (R36). -/
def planeOwner : Plane → Ch
  | .a => .A
  | .b => .B

/-- The channel that owns a network port. -/
def portOwner : NetPort → Ch
  | .planeA => .A
  | .planeB => .B
  | .service => .C

/-- A plane's ports are linked in these modes (Table 9-3). -/
def planeMode : Mode → Bool
  | .m4 | .m5 | .m7 | .m8 | .m9 | .m10 | .m11 => true
  | _ => false

/-- Modes in which process data is received (Table 9-3). -/
def pdMode : Mode → Bool
  | .m5 | .m7 | .m8 | .m9 | .m10 | .m11 => true
  | _ => false

/-- The service port is linked (Table 9-3). -/
def serviceMode : Mode → Bool
  | .m3 => true
  | .m6 => true
  | m => planeMode m

/-- A channel's network ports may transmit: it is neither OFF, HELD nor OUT (R39). -/
def Chan.speaks (c : Chan) : Bool := c.sys.cstate.present

/-- A network port works in the mode in force. -/
def Chan.portOn (c : Chan) : NetPort → Bool
  | .service => c.speaks && serviceMode c.sys.mode
  | _ => c.speaks && planeMode c.sys.mode

/-- What the module may send of its own values (Table 11-4, Table 9-3): kind 0 VOTED, 1 CAPACITY, 2 STATUS, 3 MAILBOX, 4 PAIR. -/
def Chan.maySend (c : Chan) (kind : Nat) : Bool :=
  match kind with
  | 0 => (match c.sys.mode with
    | .m7 | .m8 => true
    | .m5 => c.pair.track == .tracking && !c.pair.progdiff
    | _ => false)
  | 1 => c.sys.mode == .m7 || c.sys.mode == .m8
  | _ => c.speaks

/-- A task's published word, 0 where none lies. -/
def Chan.outWord (c : Chan) (task ofs : Nat) : Word :=
  match c.sl.task task with
  | some t => atD 0#32 ofs t.outPub
  | none => 0#32

/-- `n` words of a task's published output bank. -/
def Chan.outWords (c : Chan) (task ofs n : Nat) : List Word := (List.range n).map (fun j => c.outWord task (ofs + j))

/-- The 16 octets of a STATUS content as words (Table 8-6). -/
def Chan.statusWords (c : Chan) (a b cc : CState) : List Word :=
  [BitVec.ofNat 32 (c.sys.mode.num + 256 * c.sys.cause + 65536 * a.code + 16777216 * b.code),
   BitVec.ofNat 32 (cc.code + 256 * c.mill.nstate.code), BitVec.ofNat 32 c.tb.k, 0#32]

/-- The content of a publication or window of `n` words by kind. -/
def State.content (s : State) (ch : Ch) (kind task ofs n : Nat) : List Word :=
  if kind = 2 then fixW n ((s.chan ch).statusWords (s.view .A) (s.view .B) (s.view .C))
  else (s.chan ch).outWords task ofs n

/-- Publication number `n`. -/
def EcnBlk.pub (e : EcnBlk) (n : Nat) : Option Pub := e.pubs.find? (fun p => p.num == n)

/-- Cycles of a publication since the start decision (R258, R302). -/
def Pub.cycles (p : Pub) (cc : Nat) : Nat := (cc - p.phase) / p.cycle

/-- The sequence counter of the next telegram (R256), or Q of R302 in a pair. -/
def Chan.pubCount (c : Chan) (p : Pub) : Word :=
  if c.pair.cfg.on then BitVec.ofNat 32 (p.cycles c.tb.c) else assocD 0#32 p.num c.ecn.pubSeq

/-- A telegram left: its counter advances and it is counted. -/
def Chan.pubSent (c : Chan) (p : Pub) : Chan :=
  { c with ecn := { c.ecn with
      pubSeq := assocSet p.num (assocD 0#32 p.num c.ecn.pubSeq + 1#32) c.ecn.pubSeq
      pubTx := modAt satInc (p.num - 1) c.ecn.pubTx } }

/-- Send the telegram of a publication: as a push or as a pull answer (R253, R256, R258). -/
def State.sendPub (s : State) (ch : Ch) (p : Pub) (pull : Option (Word × Word)) : State :=
  let c := s.chan ch
  let port : NetPort := if ch = Ch.B then .planeB else .planeA
  let d := s.content ch p.kind p.task p.ofs p.words
  let ssc := BitVec.ofNat 32 (p.cycles c.tb.c + 1)
  let d1 := if p.sdt then d ++ [ssc, Config.sdtCode c.ecn.consist p.smi ssc d] else d
  let e : EthBody := match pull with
    | some (id, dst) => .pp id dst (c.pubCount p) d1
    | none => .pd p.comId p.dst (c.pubCount p) d1 (if p.sdt then some ssc else none)
  s.upd ch (fun c => (c.pubSent p).sendEth port (if p.sdt then 1 else 2) (some (if p.sdt then 6 else 5)) (some 17224) e)

/-- Send what waited on the gate (R181, R256). -/
def State.flushGate (s : State) (ch : Ch) : State :=
  let q := (s.chan ch).vote.gateQ
  let s := s.upd ch (fun c => { c with vote := { c.vote with gateQ := [] } })
  q.foldl (fun (s : State) (g : GateItem) =>
    match g with
    | .pub n => (match (s.chan ch).ecn.pub n with | some p => s.sendPub ch p none | none => s)
    | .pp n id dst => (match (s.chan ch).ecn.pub n with | some p => s.sendPub ch p (some (id, dst)) | none => s)) s

/-- A gated telegram: sent at once through an open gate, dropped once J_c has shut it for this commit, otherwise it waits (R181). -/
def State.gated (s : State) (ch : Ch) (p : Pub) (pull : Option (Word × Word)) : State :=
  let c := s.chan ch
  if p.kind ≠ 0 || c.vote.gate then s.sendPub ch p pull
  else
    let g : GateItem := match pull with | some (id, dst) => .pp p.num id dst | none => .pub p.num
    s.upd ch (fun c =>
      let c := { c with vote := { c.vote with gateQ := c.vote.gateQ ++ [g] } }
      if c.vote.shut then c.dropGate else c)

/-- A publication is sent in the mode and role in force: no SDTv2 in M9 (Table 9-3), nor in M5 from a standby that does not track (Table 11-4). -/
def Chan.pubOn (c : Chan) (p : Pub) : Bool :=
  c.speaks && pdMode c.sys.mode && c.maySend p.kind && !(p.sdt && (c.sys.mode == .m9 || (c.sys.mode == .m5 && !c.maySend 0)))

/-- PD_TELEGRAM_DUE (R256): publication `n` in the channel that owns the plane, at its cycle, phase and transmit offset. -/
def execPdTelegramDue (p : Plane) (n : Nat) (s : State) : Out :=
  let ch := planeOwner p
  let c := s.chan ch
  match c.ecn.pub n with
  | none => .next s
  | some q =>
    guardC (c.pubOn q && c.tb.started && decide (q.phase ≤ c.tb.c) && decide ((c.tb.c - q.phase) % q.cycle = 0)) s
      ((s.upd ch (fun c => { c with tb := c.tb.reach (c.tb.bk + q.txOfs * 1000) })).gated ch q none)

/-- ECN flag of a check. -/
def Chan.ecnFlag (c : Chan) (b : Bool) (n : Nat) : Chan := { c with ecn := { c.ecn with flag := c.ecn.flag.raiseIf b n } }

/-- PD_PULL_REQUEST (R253): a Pr for a publication's ComId is answered with a Pp; VOTED content is gated. -/
def execPdPullRequest (p : Plane) (hd : PullHead) (replyComId replyIp : Word) (s : State) : Out :=
  let ch := planeOwner p
  if !hd.plain then onChan s ch (fun c => c.ecnFlag (c.speaks && pdMode c.sys.mode) 1)
  else match (s.chan ch).ecn.pubs.find? (fun q => q.comId == hd.comId) with
  | none => .next s
  | some q => guardC ((s.chan ch).pubOn q) s (s.gated ch q (some (replyComId, replyIp)))

/-! Subscriptions (R257 to R260, R303) -/

/-- Put an item into the pool, newest first (R143). -/
def Chan.pushItem (c : Chan) (i : Item) : Chan := { c with sl := { c.sl with items := i :: c.sl.items } }

/-- The source set of object 0x4410 that holds an address, by position. -/
def Chan.srcSet (c : Chan) (a : Word) : Option Nat :=
  if c.pair.cfg.on || !c.pair.cfg.srcSets.isEmpty then
    ((c.pair.cfg.srcSets.zipIdx).find? (fun x => x.1.1 == a || x.1.2 == a)).map (·.2)
  else none

/-- The source address passes a subscription's filter; with a source set, both of its addresses do (R257, R303). -/
def Chan.filterOk (c : Chan) (filter src : Word) : Bool :=
  filter == 0#32 || filter == src || (match c.srcSet filter, c.srcSet src with | some a, some b => a == b | _, _ => false)

/-- Later modulo 2^32 within a window of 2^31. -/
def laterW (a b : Word) : Bool := a ≠ b && decide ((a - b).toNat < 2147483648)

/-- The sources of tasks that take subscription `n`. -/
def Chan.sdtSrcs (c : Chan) (n : Nat) : List SrcRt :=
  c.sl.tasks.flatMap (fun t => ((t.decl.srcs.zip t.srcs).filter (fun (x : SourceDecl × SrcRt) => x.1.kind == 1 && x.1.ref == n)).map (·.2))

/-- The last SSC an SDTv2 source is judged from: none after 16 releases without a copy (R259). -/
def SrcRt.sscBase (r : SrcRt) : Option Word := if 16 ≤ r.noCopy then none else r.lastSsc

/-- An SDTv2 copy is valid for a source: later than the SSC taken, within the guard. -/
def sscValid (base : Option Word) (guard : Nat) (ssc : Word) : Bool :=
  match base with
  | none => true
  | some w => laterW ssc w && decide ((ssc - w).toNat ≤ guard)

/-- A copy, by plane, SSC and stamp. -/
def Item.copyKey (i : Item) : Nat × Word × Nat := (i.unit, i.ssc, i.stamp)

/-- The source may still take a copy (R259). -/
def SrcRt.mayTake (r : SrcRt) (guard : Nat) (i : Item) : Bool := !(r.spent.contains i.copyKey) && sscValid r.sscBase guard i.ssc

/-- Change the sources of tasks that take subscription `n`. -/
def Chan.updSdtSrcs (c : Chan) (n : Nat) (f : SrcRt → SrcRt) : Chan :=
  { c with sl := { c.sl with tasks := c.sl.tasks.map (fun (t : TaskRt) =>
      { t with srcs := (t.srcs.zipIdx).map (fun (x : SrcRt × Nat) =>
          match t.decl.srcs[x.2]? with
          | some d => if d.kind == 1 && d.ref == n then f x.1 else x.1
          | none => x.1) }) } }

/-- The subscription names a plane. -/
def ESub.onPlane (q : ESub) : Plane → Bool
  | .a => q.planeA
  | .b => q.planeB

/-- The telegram is accepted: counted, its sequence counter kept (R257, R303), its item held. -/
def Chan.acceptPd (c : Chan) (t : Telegram) (q : ESub) (key : Option Nat) (i : Item) : Chan :=
  ({ c with
    ecn := { c.ecn with
      subRx := modAt satInc (q.num - 1) c.ecn.subRx
      lastSeq := (q.num, t.src, t.seq) :: c.ecn.lastSeq.filter (fun x => !(x.1 == q.num && x.2.1 == t.src)) }
    pair := match key with | some k => { c.pair with setSeq := assocSet k t.seq c.pair.setSeq } | none => c.pair }).pushItem i

/-- An SDTv2 telegram with a correct safety code (R259, R260): judged by every source that takes the subscription; one that none may take is
discarded, and a source that refuses it does not take it later. -/
def Chan.takeSdt (c : Chan) (t : Telegram) (q : ESub) (key : Option Nat) (i : Item) : Chan :=
  let rs := c.sdtSrcs q.num
  let taken := rs.filterMap SrcRt.sscBase
  let guard := taken.any (fun l => laterW t.ssc l && decide (q.guard < (t.ssc - l).toNat))
  let late := taken.any (fun l => !laterW t.ssc l)
  let c := (c.ecnFlag guard 6).ecnFlag late 5
  if !(rs.isEmpty || rs.any (fun r => r.mayTake q.guard i)) then c
  else
    let other (x : Item) : Bool := x.kind == 1 && x.ref == q.num && x.ssc == t.ssc && x.words != t.data
    let dis := c.sl.items.any (fun x => other x && (rs.isEmpty || rs.any (fun r => r.mayTake q.guard i && r.mayTake q.guard x)))
    ((c.ecnFlag dis 4).acceptPd t q key i).updSdtSrcs q.num (fun r => if r.mayTake q.guard i then r else { r with spent := i.copyKey :: r.spent })

/-- A telegram at one subscription of a channel (R257, R259, R260, R303): discarded with its flag, or an item. -/
def Chan.takeTelegram (c : Chan) (p : Plane) (t : Telegram) (q : ESub) : Chan :=
  if t.data.length ≠ q.words then c.ecnFlag true 2
  else
    let set := c.srcSet t.src
    let old : Option Word := (c.ecn.lastSeq.find? (fun x => x.1 == q.num && x.2.1 == t.src)).map (·.2.2)
    let key := set.map (fun k => k + 16 * q.num)
    let oldSet : Option Word := key.bind (fun k => (c.pair.setSeq.find? (fun x => x.1 == k)).map (·.2))
    let dup := !q.sdt && set.isSome && (match oldSet with | some w => !laterW t.seq w | none => false)
    let again := (q.sdt || set.isNone) && old = some t.seq
    let i : Item := ⟨1, (match p with | .a => 0 | .b => 1), q.num, t.stamp, t.data, if q.sdt then t.ssc else 0#32, q.sdt, true⟩
    if dup then { c with pair := { c.pair with flag := c.pair.flag.raise 4 } }
    else if again then c
    else if !q.sdt then c.acceptPd t q key i
    else if !t.scOk then c.ecnFlag true 3
    else c.takeSdt t q key i

/-- A telegram in one channel, the owner or another (R257): header checks once, then every subscription it matches. -/
def Chan.telegram (c : Chan) (p : Plane) (t : Telegram) : Chan :=
  if !t.fcsOk then c.ecnFlag true 0
  else if !t.hdrOk || !t.typeOk then c.ecnFlag true 1
  else
    (c.ecn.subs.filter (fun q => q.comId == t.comId && q.onPlane p && c.filterOk q.filter t.src)).foldl
      (fun (c : Chan) q => c.takeTelegram p t q) c

/-! The switch, ARP, ICMP, links (R254, R255, R264, R268, R270) -/

/-- The switch learns the source address of a frame at the front port it came in by (R254): a group address is no source, and of more than
1,024 addresses the one heard longest ago is forgotten (DESIGN CHOICE, log entry 99). -/
def EcnBlk.learn (e : EcnBlk) (src : Nat) (x : RPort) : EcnBlk :=
  if src.testBit 40 then e else { e with macs := ((src, x) :: e.macs.filter (fun m => m.1 != src)).take 1024 }

/-- The other front port. -/
def otherPort : RPort → RPort
  | .p0 => .p1
  | .p1 => .p0

/-- Whether a frame leaves by the other front port: a known address lies there, or it is a group or unknown one; and it has link. -/
def EcnBlk.goesOn (e : EcnBlk) (dst : Nat) (x : RPort) : Bool :=
  (match (if dst.testBit 40 then none else e.macs.find? (fun m => m.1 == dst)) with | some m => m.2 != x | none => true) &&
  (match x with | .p0 => e.up1 | .p1 => e.up0)

/-- SWITCH_FORWARD (R254, R264): a frame that came in by a front port enters the queue of the other one; a PTP event message
has the residence time added to its correctionField and its UDP checksum 0. A full queue drops it. Frames for the channel's own port come
as the commands of their protocols (log entry 99). -/
def execSwitchForward (p : Plane) (ingress : RPort) (hd : EthHead) (ptpEvent : Bool) (residence : Nat) (s : State) : Out :=
  onChan s (planeOwner p) (fun c =>
    if !(c.speaks && planeMode c.sys.mode && hd.prio < 4) then c
    else
      let g := otherPort ingress
      let c := { c with ecn := { c.ecn.learn hd.src ingress with sw := true, tc := true } }
      if !c.ecn.goesOn hd.dst ingress then c
      else { c with ecn := c.ecn.enter hd.prio [(g, if ptpEvent then .ptpEvent p g residence 0 else .planeFrame p g hd.prio)] })

/-- One egress port sends the oldest frame of its first queue that is not empty (R254 strict priority). -/
def Chan.sendNext (c : Chan) (g : Nat) : Chan :=
  match (List.range 4).find? (fun q => !(atD [] (g * 4 + q) c.ecn.queues).isEmpty) with
  | none => c
  | some q =>
    match atD [] (g * 4 + q) c.ecn.queues with
    | [] => c
    | e :: r => ({ c with ecn := { c.ecn with queues := modAt (fun _ => r) (g * 4 + q) c.ecn.queues } }).emit e

/-- Each egress port of a switching plane sends a frame. -/
def Chan.drain (c : Chan) : Chan := if c.speaks then (c.sendNext 0).sendNext 1 else c

/-- ARP_REQUEST (R253, R254, R255, R268): the sender's addresses are learned, and a request for the port's own address is answered. -/
def execArpRequest (p : NetPort) (hd : ArpHead) (s : State) : Out :=
  onChan s (portOwner p) (fun c =>
    if !(c.portOn p) then c
    else if !hd.plain then c.ecnFlag true 1
    else
      let e := { c.ecn with neigh := (hd.src, hd.mac) :: c.ecn.neigh.filter (fun n => n.1 != hd.src) }
      let c := { c with ecn := if p = .service then e else e.learn hd.mac hd.ingress }
      if hd.ip == c.ecn.ip then c.sendEth p 3 none none (.arp hd.ip hd.src) else c)

/-- ICMP_ECHO (R253, R268): a fragment or a frame with IP options is a header error. -/
def execIcmpEcho (p : NetPort) (ip : Word) (hd : IpHead) (s : State) : Out :=
  onChan s (portOwner p) (fun c =>
    if !(c.portOn p) then c
    else if !hd.plain then c.ecnFlag true 1
    else if ip == c.ecn.ip then c.sendEth p 3 none none (.icmp hd.src) else c)

/-- Membership reports for the groups that the subscriptions of a plane have joined (R253), once the plane gets a link; when a report is
sent the spec does not say (DESIGN CHOICE, log entry 99). -/
def Chan.joinGroups (c : Chan) (p : Plane) : Chan :=
  (((c.ecn.subs.filter (fun q => q.onPlane p && q.group != 0#32)).map (fun (q : ESub) => q.group)).eraseDups).foldl
    (fun (c : Chan) g => c.sendEth (match p with | .a => .planeA | .b => .planeB) 3 none none (.igmp g)) c

/-- ECN_PORT_LINK_CHANGE (R253, R270, Table 9-4): UP0 and UP1 of a plane; UP1 of the service port. -/
def execEcnPortLinkChange (ch : Ch) (port : RPort) (up : Bool) (s : State) : Out :=
  onChan s ch (fun c =>
    let on := match ch with | .C => c.speaks && serviceMode c.sys.mode | _ => c.speaks && planeMode c.sys.mode
    if up && !on then c
    else
      let c := match port with
        | .p0 => if ch = Ch.C then c else { c with ecn := { c.ecn with up0 := up } }
        | .p1 => { c with ecn := { c.ecn with up1 := up } }
      match ch with
      | .C => c
      | .A => if up && pdMode c.sys.mode then c.joinGroups .a else c
      | .B => if up && pdMode c.sys.mode then c.joinGroups .b else c)

/-! PTP (R262, R263) -/

/-- PTP is followed in the mode in force (Table 9-3). -/
def Chan.ptpOn (c : Chan) : Bool := c.speaks && planeMode c.sys.mode

/-- The best master: the smallest rank, the earliest announced among equals (R262). -/
def bestMaster : List Master → Option Master
  | [] => none
  | m :: r => match bestMaster r with
    | none => some m
    | some b => if b.rank < m.rank then some b else some m

/-- Select the master anew; another one sets GM_CHANGE and starts without a pending Sync. -/
def EcnBlk.select (e : EcnBlk) : EcnBlk :=
  let n := bestMaster e.masters
  let same := n.map (·.gm) == e.sel.map (·.gm)
  { e with
    sel := n
    gm := (n.map (·.gm)).getD 0#64
    sync := if same then e.sync else none
    sampled := e.sampled && same
    delays := if same then e.delays else []
    lastGm := match n with | some m => some m.gm | none => e.lastGm
    flag := e.flag.raiseIf (match n, e.lastGm with | some m, some g => m.gm != g | _, _ => false) 9 }

/-- A PTP message with an option that is not supported is a header error (R253). -/
def ptpBad (s : State) (p : Plane) : Out := onChan s (planeOwner p) (fun c => c.ecnFlag c.ptpOn 1)

/-- PTP_ANNOUNCE (R262): taken in the module's domain with logSyncInterval −3 to 0. -/
def execPtpAnnounce (p : Plane) (m : Announce) (s : State) : Out :=
  if !m.plain then ptpBad s p
  else onChan s (planeOwner p) (fun c =>
    if c.ptpOn && m.domain = c.ecn.domain && -3 ≤ m.logSync && m.logSync ≤ 0 then
      let e := c.ecn
      let n : Master := ⟨m.gm, m.rank, m.logSync, m.utc⟩
      let e1 : EcnBlk := { e with masters := e.masters.filter (fun (x : Master) => x.gm != m.gm) ++ [n] }
      { c with ecn := e1.select }
    else c)

/-- ANNOUNCE_TIMEOUT (R262). -/
def execAnnounceTimeout (p : Plane) (gm : W64) (s : State) : Out :=
  onChan s (planeOwner p) (fun c =>
    let e : EcnBlk := { c.ecn with masters := c.ecn.masters.filter (fun (x : Master) => x.gm != gm) }
    { c with ecn := e.select })

/-- Insert into an ascending list. -/
def insInt (v : Int) : List Int → List Int
  | [] => [v]
  | x :: xs => if v ≤ x then v :: x :: xs else x :: insInt v xs

/-- The median; of an even number, the floor of the mean of the middle two (log entry 46). -/
def medianInt (l : List Int) : Int :=
  let z := l.foldr insInt []
  let n := z.length
  if n = 0 then 0
  else if n % 2 = 1 then atD 0 (n / 2) z
  else (atD 0 (n / 2 - 1) z + atD 0 (n / 2) z) / 2

/-- PTP_DELAY_RESP (R263): one of the last 8 measurements. -/
def execPtpDelayResp (p : Plane) (hd : PtpHead) (delay : Int) (now : Nat) (s : State) : Out :=
  if !hd.plain then ptpBad s p
  else onChan s (planeOwner p) (fun c =>
    if c.ptpOn && c.ecn.sel.isSome && c.ecn.gm = hd.gm then
      let d := ((delay, now) :: c.ecn.delays).take 8
      { c with ecn := { c.ecn with delays := d, mpd := (medianInt (d.map (·.1))).toNat } }
    else c)

/-- The mean path delay allows a sample at time `t2`: a measurement within 16 s, median 0 to 50 µs (R263). -/
def EcnBlk.delayOk (e : EcnBlk) (t2 : Nat) : Bool :=
  let m := medianInt (e.delays.map (·.1))
  e.delays.any (fun d => decide (t2 ≤ d.2 + 16000000000)) && decide (0 ≤ m) && decide (m ≤ 50000)

/-- Form a sample and forward it (R98, R263); its capture time is the boundary after t2. -/
def State.ptpSample (s : State) (p : Plane) (t1 corr : Int) (t2 cap : Nat) : State :=
  let ch := planeOwner p
  let c := s.chan ch
  if !c.ecn.delayOk t2 then s.upd ch (fun c => { c with ecn := { c.ecn with sampled := false } })
  else
    let d : DSample := ⟨(match p with | .a => 1 | .b => 2), t1 + corr + medianInt (c.ecn.delays.map (·.1)) - t2, cap, t2⟩
    let s := s.upd ch (fun c => { c with
      ecn := { c.ecn with sampled := true, samples := satInc c.ecn.samples }
      tb := if c.tb.started then { c.tb with held := c.tb.held ++ [d] } else c.tb })
    if c.tb.started then s.sendBoth ch (.dsample d) else s

/-- A Delay_Req of the slave (R253, R263), with PCP 7 in the first queue: one for each Sync of the selected master (when one is sent the spec
does not say; DESIGN CHOICE, log entry 125). -/
def Chan.askDelay (c : Chan) (p : Plane) : Chan :=
  c.sendEth (match p with | .a => .planeA | .b => .planeB) 0 (some 7) (some 319) (.delayReq c.ecn.gm)

/-- PTP_SYNC (R263): one-step gives a sample; two-step waits for its Follow_Up until the next Sync; the path delay is asked for anew. -/
def execPtpSync (p : Plane) (hd : PtpHead) (seq : Nat) (twoStep : Bool) (t1 corr : Int) (t2 : Nat) (s : State) : Out :=
  let ch := planeOwner p
  let c := s.chan ch
  if !hd.plain then ptpBad s p
  else guardC (c.ptpOn && c.ecn.sel.isSome && c.ecn.gm == hd.gm) s
    ((if twoStep then s.upd ch (fun c => { c with ecn := { c.ecn with sync := some (hd.gm, seq, corr, t2, c.tb.c + 1), sampled := c.ecn.sampled && c.ecn.sync.isNone } })
     else (s.upd ch (fun c => { c with ecn := { c.ecn with sync := none } })).ptpSample p t1 corr t2 (c.tb.c + 1)).upd ch (fun c => c.askDelay p))

/-- PTP_FOLLOW_UP (R263). -/
def execPtpFollowUp (p : Plane) (hd : PtpHead) (seq : Nat) (t1 corr : Int) (s : State) : Out :=
  let ch := planeOwner p
  let gm := hd.gm
  if !hd.plain then ptpBad s p
  else match (s.chan ch).ecn.sync with
  | none => .next s
  | some (g, q, sc, t2, cap) =>
    guardC ((s.chan ch).ptpOn && g == gm && q == seq && (s.chan ch).ecn.gm == gm) s
      ((s.upd ch (fun c => { c with ecn := { c.ecn with sync := none } })).ptpSample p t1 (sc + corr) t2 cap)

/-! MVB (R265 to R267, R448) -/

/-- Octets of a port's data from the content by its kind (R265, R266). -/
def State.mvbData (s : State) (p : MvbPort) : List Byte :=
  let n := fcodeLen p.fcode
  padTo n (wordBytes (s.content .C p.kind p.task p.ofs ((n + 3) / 4)))

/-- Write the buffers of source ports of the given kinds (R266). -/
def State.mvbWrite (s : State) (kinds : List Nat) : State :=
  s.upd .C (fun c => { c with mvb := { c.mvb with
    ports := c.mvb.ports.map (fun (p : MvbPort) => if p.source && kinds.contains p.kind then { p with buf := some (s.mvbData p) } else p)
    stale := if kinds.contains 0 then false else c.mvb.stale } })

/-- The device drives the bus (Table 9-3). -/
def Chan.mvbOn (c : Chan) : Bool :=
  c.speaks && (match c.sys.mode with
    | .m5 | .m6 | .m7 | .m8 | .m9 | .m10 | .m11 => true
    | _ => false)

/-- A source port may be answered at all in the mode in force (Tables 9-2, 9-3, 11-4). -/
def Chan.mvbMay (c : Chan) (kind : Nat) : Bool :=
  match c.sys.mode with
  | .m6 | .m7 | .m8 => true
  | .m9 | .m10 | .m11 => kind = 2
  | _ => false

/-- The device status word (R265, R448): bit 0 M5 to M8; in M6 bits 15:8 the high octet of LDIAG. -/
def Chan.mvbStatus (c : Chan) (ldiag : Nat) : List Byte :=
  leB 2 ((if c.sys.mode.runs then 1 else 0) + (if c.sys.mode = .m6 then ldiag / 256 * 256 else 0))

/-- LDIAG: the lowest code present (R450). -/
def CompatBlk.ldiag (k : CompatBlk) : Nat :=
  match k.present with
  | [] => 0
  | x :: r => r.foldl min x

/-- MVB_MASTER_FRAME (R265, R266): status, a source port's buffer, silence, or a sink's slave frame awaited. -/
def execMvbMasterFrame (fcode addr : Nat) (s : State) : Out :=
  onChan s .C (fun c =>
    if !c.mvbOn then c
    else if fcode = 15 then (if addr = c.mvb.dev then c.emit (.mvbSlave addr (c.mvbStatus c.compat.ldiag)) else c)
    else match c.mvb.ports.find? (fun (p : MvbPort) => p.addr == addr && p.fcode == fcode) with
      | none => c
      | some p =>
        if !p.source then { c with mvb := { c.mvb with await := some addr } }
        else if !c.mvbMay p.kind then c
        else
          let quiet := p.kind = 0 && (c.vote.state == .abstaining || c.vote.state == .resync || c.mvb.stale)
          match p.buf with
          | some b => if quiet then { c with mvb := { c.mvb with flag := c.mvb.flag.raise 4 } } else c.emit (.mvbSlave addr b)
          | none => if p.kind = 0 then { c with mvb := { c.mvb with flag := c.mvb.flag.raise 4 } } else c)

/-- MVB_SINK_TIMEOUT (R272). -/
def execMvbSinkTimeout (s : State) : Out :=
  onChan s .C (fun c =>
    if c.mvb.await.isSome then { c with mvb := { c.mvb with await := none, flag := c.mvb.flag.raise 2 } } else c)

/-- The lines after a frame at time `now` (R267, R451): validity history, error flags, the trusted line changed after two frames valid only
on the other. -/
def MvbBlk.lines (m : MvbBlk) (now : Nat) (okA okB : Bool) : MvbBlk :=
  let good := if m.trustB then okB else okA
  let other := if m.trustB then okA else okB
  let run := if !good && other then m.badRun + 1 else 0
  let sw := decide (2 ≤ run)
  { m with
    histA := (okA :: m.histA).take 16
    histB := (okB :: m.histB).take 16
    validA := if okA then some now else m.validA
    validB := if okB then some now else m.validB
    badRun := if sw then 0 else run
    trustB := if sw then !m.trustB else m.trustB
    await := none
    flag := ((m.flag.raiseIf (!okA) 0).raiseIf (!okB) 1).raiseIf sw 3 }

/-- The item of a sink port's slave frame. -/
def mvbItem (addr stamp : Nat) (data : List Byte) : Item := ⟨2, 0, addr, stamp, bytesWords ((data.length + 3) / 4) (pad4 data), 0#32, false, true⟩

end Sys2Proof.Machine
end

