-- ==== Sys2Proof/Machine/Mill.lean ====
section
/-! DEFINITION. The Millrace ring node: ports, probes, frames, own windows, bellringer, marks, mailbox (R216 to R250). -/

namespace Sys2Proof.Machine
open Sys2Proof

/-- Change a ring's block. -/
def State.updMill (s : State) (r : Ring) (f : MillBlk → MillBlk) : State := s.upd (ringOwner r) (fun c => { c with mill := f c.mill })

/-- The outcome of a command on a ring's block alone. -/
def onMill (s : State) (r : Ring) (f : MillBlk → MillBlk) : Out := .next (s.updMill r f)

/-- A flag of MILLRACE_FLAG. -/
def MillBlk.hit (m : MillBlk) (n : Nat) : MillBlk := { m with flag := m.flag.raise n }

/-! Ports (R219, R220, R235, R242, R243) -/

/-- The node is out of bypass and its relay has opened (R235). -/
def MillBlk.open_ (m : MillBlk) : Bool := !(m.nstate == .bypass) && m.relayOpen

/-- PORT_UP (R219): link status OK on an open node. -/
def execPortUp (r : Ring) (p : RPort) (s : State) : Out :=
  onMill s r (fun m =>
    if !m.open_ then m
    else match p with
      | .p0 => { m with link0 := true, pres0 := [] }
      | .p1 => { m with link1 := true, pres1 := [] })

/-- PORT_USABLE (R219, R234): up for 100 ms; a node in LINKING enters LISTEN. -/
def execPortUsable (r : Ring) (p : RPort) (s : State) : Out :=
  onMill s r (fun m =>
    let ok := match p with | .p0 => m.link0 | .p1 => m.link1
    if !m.open_ || !ok then m
    else
      let m := match p with | .p0 => { m with up0 := true } | .p1 => { m with up1 := true }
      if m.nstate = .linking then { m with nstate := .listen, silent := 0 } else m)

/-- A port is up or was usable. -/
def MillBlk.wasUp (m : MillBlk) : RPort → Bool
  | .p0 => m.link0 || m.up0
  | .p1 => m.link1 || m.up1

/-- A port goes down (R219, R243). -/
def MillBlk.portLost (m : MillBlk) : RPort → MillBlk
  | .p0 => { m.hit 17 with link0 := false, up0 := false }
  | .p1 => { m.hit 17 with link1 := false, up1 := false }

/-- The loop that the usable ports call for (R242): 1 at port 0, 2 at port 1. -/
def MillBlk.wantLoop (m : MillBlk) : Nat := if m.up0 && !m.up1 then 1 else if m.up1 && !m.up0 then 2 else 0

/-- LOOP_CHANGE (R243). -/
def execLoopChange (r : Ring) (s : State) : Out :=
  onMill s r (fun m => if m.loop = m.wantLoop then m else { m.hit 13 with loop := m.wantLoop })

/-- BYPASS_RELAY_SWITCHED (R235): the relay follows its coil. -/
def execBypassRelaySwitched (r : Ring) (s : State) : Out := onMill s r (fun m => { m with relayOpen := m.coil })

/-- Link status OK at a port. -/
def MillBlk.linkAt (m : MillBlk) : RPort → Bool
  | .p0 => m.link0
  | .p1 => m.link1

/-- A port is usable. -/
def MillBlk.upAt (m : MillBlk) : RPort → Bool
  | .p0 => m.up0
  | .p1 => m.up1

/-- PROBE_SEND (R220): from port up on. -/
def execProbeSend (r : Ring) (p : RPort) (t1 : Nat) (s : State) : Out :=
  onChan s (ringOwner r) (fun c =>
    let m := c.mill
    if !m.linkAt p then c
    else ({ c with mill := { m with probes := m.probes ++ [(p, m.probeSeq, t1)], probeSeq := (m.probeSeq + 1) % 65536 } }).emit (.probe r p false m.probeSeq 0))

/-- PROBE_REQUEST_RECEIVE (R220): answered out of the port it came in by. -/
def execProbeRequestReceive (r : Ring) (p : RPort) (seq turn : Nat) (ok : Bool) (s : State) : Out :=
  onChan s (ringOwner r) (fun c =>
    if ok && c.mill.open_ && c.mill.linkAt p then c.emit (.probe r p true seq turn) else c)

/-- Set the link delay of a port. -/
def MillBlk.setDelay (m : MillBlk) (p : RPort) (d : Nat) : MillBlk :=
  match p with
  | .p0 => { m with delay0 := d }
  | .p1 => { m with delay1 := d }

/-- A probe result of `d2` / 2 (R220): outside 0 to 600 ns it is refused; the first 8 after port up give their median, later ones stand
alone. A half nanosecond is dropped (DESIGN CHOICE, log entry 98), and a bad or lost result among the 8 leaves the median waiting for 8 good
ones (DESIGN CHOICE, log entry 118). -/
def MillBlk.probeResult (m : MillBlk) (p : RPort) (d2 : Int) : MillBlk :=
  if d2 < 0 || 1200 < d2 then m.hit 18
  else
    let v := d2.toNat / 2
    let old := match p with | .p0 => m.pres0 | .p1 => m.pres1
    if 8 ≤ old.length then m.setDelay p v
    else
      let l := old ++ [v]
      let m := match p with | .p0 => { m with pres0 := l } | .p1 => { m with pres1 := l }
      if l.length = 8 then m.setDelay p (medianInt (l.map Int.ofNat)).toNat else m

/-- PROBE_RESPONSE_RECEIVE (R220): ((t4 − t1) − TURN) / 2. -/
def execProbeResponseReceive (r : Ring) (p : RPort) (seq turn t4 : Nat) (ok : Bool) (s : State) : Out :=
  onMill s r (fun m =>
    match m.probes.find? (fun x => x.1 == p && x.2.1 == seq) with
    | none => m
    | some (_, _, t1) =>
      if !ok then m
      else ({ m with probes := m.probes.filter (fun x => !(x.1 == p && x.2.1 == seq)) }).probeResult p ((t4 : Int) - t1 - turn))

/-! Own windows (R232, R233, R246, R301) -/

/-- ROLE of the pair status (Table 11-10): 0 none, 1 standby, 2 active. -/
def Chan.pairRole (c : Chan) : Nat :=
  if !c.pair.cfg.on then 0 else match c.sys.mode with
    | .m5 => 1
    | .m7 | .m8 => 2
    | _ => 0

/-- A channel commands a safety-wired transistor conducting, or has not completed its release (R306). -/
def Chan.wiredDrive (c : Chan) : Bool :=
  (List.range 18).any (fun i => c.wiring i == 2 && ((c.net i).cmd || (c.pair.drive && decide ((c.net i).tcond ≠ 0#12))))

/-- DRIVE of R306, over the module's channels. -/
def State.pairDrive (s : State) : Bool := allCh.any (fun k => (s.chan k).wiredDrive)

/-- The module's own pair status (Table 11-3), with DRIVE as the channel holds it. -/
def Chan.pairStatus (c : Chan) : PairStatus :=
  let p := c.pair
  let active := c.pairRole ≠ 0
  let rec_ := if active then p.record else none
  let prog := match c.sl.prog with | some q => BitVec.ofNat 64 (leAt q.sha 0 8) | none => 0#64
  { role := c.pairRole
    drive := active && p.drive
    timeValid := c.tb.valid
    req := c.sys.mode == .m5 && p.req
    recP := rec_.isSome
    progdiff := p.progdiff
    mode := c.sys.mode.num
    track := if c.sys.mode = .m5 then p.track.code else 0
    cb := c.tb.c
    klo := BitVec.ofNat 32 c.tb.k
    pdig := p.pdig
    pdk := p.pdk
    health := p.summary
    prog := prog
    xseq := (rec_.map (·.status.xseq)).getD 0
    xkind := (rec_.map (·.status.xkind)).getD 0
    xarea := (rec_.map (·.status.xarea)).getD 0
    xtask := (rec_.map (·.status.xtask)).getD 0
    xpage := (rec_.map (·.status.xpage)).getD 0 }

/-- The 48 octets of a pair status (Table 11-3). -/
def pairStatusOctets (ident : Nat) (p : PairStatus) : List Byte :=
  leB 1 0x50 ++ leB 1 1 ++ leB 2 ident ++ leB 1 p.role ++
  leB 1 (p.drive.toNat + 2 * p.timeValid.toNat + 4 * p.req.toNat + 8 * p.recP.toNat + 16 * p.progdiff.toNat) ++
  leB 1 p.mode ++ leB 1 p.track ++ leB 4 p.cb ++ leB 4 p.klo.toNat ++ leB 8 p.pdig.toNat ++ leB 4 p.pdk.toNat ++
  leB 4 p.health.toNat ++ leB 8 p.prog.toNat ++ leB 2 p.xseq ++ leB 1 p.xkind ++ leB 1 p.xarea ++ leB 1 p.xtask ++ leB 1 0 ++ leB 2 p.xpage

/-- The octets of a record (R311, R315): a page's words; timer entries of 20 octets; item entries; END. -/
def recordOctets (r : PairRecord) : List Byte :=
  match r.status.xkind with
  | 1 => wordBytes r.words
  | 2 => r.entries.flatMap (fun (e : XEntry) => leB 4 e.ident.toNat ++ leB 4 e.dur.toNat ++ leB 8 (BitVec.ofInt 64 e.start).toNat ++ leB 4 e.typ)
  | 3 => r.entries.flatMap (fun (e : XEntry) => leB 4 e.ident.toNat ++ leB 1 e.typ ++ leB 1 0 ++ leB 2 e.words.length ++ wordBytes e.words)
  | 4 => leB 4 r.ce ++ leB 8 r.ke ++ leB 8 r.edig.toNat
  | _ => []

/-- The node reads the windows that the running program subscribes to. -/
def Chan.resubscribe (c : Chan) (ch : Ch) : Chan :=
  let l := ringSubs ch c.sl.prog
  { c with mill := { c.mill with subs := l, nsub := l.length } }

/-- The window of a number in the node's schedule. -/
def MillBlk.win (m : MillBlk) (n : Nat) : Option SWin := m.wins.find? (fun w => w.num == n)

/-- Segment data laid into a half of MILLRACE_MB_BUF (Table 8-13): from word 0 the outgoing one, from word 256 the incoming one. -/
def mbFill (base : Nat) (d : List Byte) (buf : List (Nat × Word)) : List (Nat × Word) :=
  (List.range (min 256 ((d.length + 3) / 4))).foldl (fun (l : List (Nat × Word)) j =>
    wPut l (base + j) (BitVec.ofNat 32 (leN ((pad4 d).drop (4 * j) |>.take 4)))) buf

/-- The mailbox content (R246, R247): the current segment, repeated, and one acknowledgement per cycle. A segment whose turn comes is in
the outgoing half of the buffer. -/
def MillBlk.mailbox (m : MillBlk) (len : Nat) : MillBlk × List Byte :=
  let m := match m.mbOut, m.mbQueue with
    | none, g :: gs => { m with mbOut := some { g with seq := m.mbSeq }, mbTo := g.dest, mbQueue := gs, mbRetry := 0, mbBuf := mbFill 0 g.data m.mbBuf }
    | _, _ => m
  let m := if m.mbOut.isSome then { m with mbRetry := min (m.mbRetry + 1) 64 } else m
  let ack := m.mbAck.head?
  let flags := (match m.mbOut with | some g => g.flags | none => 0) + (if ack.isSome then 8 else 0)
  let data := match m.mbOut with | some g => g.data | none => []
  let dest := match m.mbOut with | some g => g.dest | none => 0xFF
  let seq := match m.mbOut with | some g => g.seq | none => m.mbSeq
  ({ m with mbAck := m.mbAck.drop 1 },
   padTo len (leB 1 dest ++ leB 1 seq ++ leB 1 ((ack.map (·.1)).getD 0) ++ leB 1 ((ack.map (·.2)).getD 0) ++ leB 1 flags ++ leB 1 0 ++
     leB 2 data.length ++ data))

/-- The gate lets a VOTED value out (R181). -/
def Chan.gateOpen (c : Chan) : Bool := c.vote.gate

/-- Modes in which STATUS, MAILBOX and PAIR windows are answered. -/
def ringMode : Mode → Bool
  | .m5 | .m7 | .m8 | .m9 | .m10 | .m11 => true
  | _ => false

/-- The fetch of an own window: the payload, or none for an empty window; the gate is checked at the first beat (R233). -/
def State.fetchOwn (s : State) (ch : Ch) (b : Binding) (len : Nat) : State × Option (List Byte) :=
  let c := s.chan ch
  if !ringMode c.sys.mode then (s, none)
  else match b.kind with
    | 3 =>
      let x := c.mill.mailbox len
      (s.upd ch (fun c => { c with mill := x.1 }), some x.2)
    | 4 =>
      let st := { c.pairStatus with drive := c.pairRole ≠ 0 && s.pairDrive }
      if c.pairRole = 0 && !(c.sys.mode.stopped && c.pair.cfg.on) then (s, none)
      else match c.pair.record with
        | none => (s, some (padTo len (pairStatusOctets c.pair.cfg.ident st)))
        | some r =>
          if !st.recP then (s, some (padTo len (pairStatusOctets c.pair.cfg.ident st)))
          else if c.gateOpen then
            (s, some (padTo len (pairStatusOctets c.pair.cfg.ident st ++ recordOctets r)))
          else
            (s.upd ch (fun c => { c with pair := { c.pair with flag := c.pair.flag.raise 9 } }),
             some (padTo len (pairStatusOctets c.pair.cfg.ident { st with recP := false, xseq := 0, xkind := 0, xarea := 0, xtask := 0, xpage := 0 })))
    | k =>
      if !c.maySend k then (s, none)
      else if k = 0 && !c.gateOpen then (s.upd ch (fun c => { c with vote := { c.vote with flag := c.vote.flag.raise 5 } }), none)
      else (s, some (padTo len (wordBytes (s.content ch k b.task b.ofs (len / 4)))))

/-- A window as this node writes it: empty when there is nothing to send (R223, R232). -/
def MillBlk.ownWin (m : MillBlk) (n len : Nat) (cyc : Word) (bad : Bool) (p : Option (List Byte)) : MWin where
  num := n
  empty := p.isNone
  bellfill := false
  writer := m.addr
  wcyc := cyc
  payload := p.getD (List.replicate len 0#8)
  crcOk := !bad

/-- The payload of a fetch that fell behind after `n` octets (R233): the rest is zeros. -/
def lateFill (n len : Nat) (b : List Byte) : List Byte := padTo len (b.take n)

/-- WINDOW_FETCH (R232, R233): a joined node fills its window buffer; an originating bellringer writes the window into its frame.
A fetch that falls behind the passing octets, `late` of which were written, leaves the rest zeros and the WCRC inverted. -/
def execWindowFetch (r : Ring) (binding : Nat) (late : Option Nat) (s : State) : Out :=
  let ch := ringOwner r
  let m := (s.chan ch).mill
  match m.binds[binding]? with
  | none => .next s
  | some b => match m.win b.win with
    | none => .next s
    | some w =>
      guardC (m.nstate == .joined || m.nstate == .originating) s
        (let x := s.fetchOwn ch b w.len
         let p := match late with | some n => x.2.map (lateFill n w.len) | none => x.2
         x.1.upd ch (fun c =>
          let m := if late.isSome then c.mill.hit 15 else c.mill
          if m.nstate = .originating then
            ({ c with mill := m }).emit (.window r (m.ownWin w.num w.len (m.origCycle.getD 0#32) late.isSome p))
          else
            let v : WinBuf := ⟨w.num, p.isNone, p.getD [], late.isSome⟩
            { c with mill := { m with bufs := m.bufs.filter (fun (z : WinBuf) => z.win != w.num) ++ [v] } }))

/-! Frames (R224, R229 to R231, R234, R236 to R241) -/

/-- Valid under R224. -/
def frameOk (f : MFrame) : Bool := f.hcrcOk && f.rcrcOk && f.bodyOk && !f.txErr

/-- Link delay at the port a frame arrived by. -/
def MillBlk.inDelay (m : MillBlk) (f : MFrame) : Nat := match f.inPort with | .p0 => m.delay0 | .p1 => m.delay1

/-- The port a frame leaves by (R216, R242): the other one, or, looping, the one it came in by. -/
def MillBlk.outPort (m : MillBlk) (p : RPort) : RPort :=
  if m.loop ≠ 0 then p else match p with | .p0 => .p1 | .p1 => .p0

/-- Header octets 0 to 23 (Table 8-3). -/
def frameHead (len : Nat) (cycle sched : Word) (bell rank tstamp : Nat) : List Byte :=
  leB 1 0x4D ++ leB 1 1 ++ leB 2 len ++ leB 4 cycle.toNat ++ leB 4 sched.toNat ++ leB 1 bell ++ leB 1 rank ++ leB 2 0 ++ leB 8 tstamp

/-- Header octets 28 to 33 (Table 8-3). -/
def frameRun (delay hops : Nat) (line : Bool) : List Byte := leB 4 delay ++ leB 1 hops ++ leB 1 line.toNat

/-- The trailer (R221). -/
def frameTail (cycle : Word) (len : Nat) : List Byte := leB 4 cycle.toNat ++ leB 2 len ++ leB 2 0x5AA5

/-- A frame as it is sent on with the run octets and RCRC given. -/
def sentOn (f : MFrame) (run : List Byte) (rcrc : Option (BitVec 16)) (wins : List MWin) : FrameOut :=
  let head := frameHead f.len f.cycle f.sched f.bell f.rank f.tstamp
  ⟨head, if f.hcrcOk then some (crc32 head) else none, run, rcrc, wins, if f.bodyOk then some (frameTail f.cycle f.len) else none, f.txErr⟩

/-- Forward a frame with its windows (R229, R241, R242): DELAY, HOPS and RCRC updated when the shepherd enables octets 28 to 35. A port that
is not usable sends nothing (R219). -/
def Chan.forward (c : Chan) (r : Ring) (f : MFrame) (wins : List MWin) : Chan :=
  let m := c.mill
  let out := m.outPort f.inPort
  if 130 ≤ f.hops then { c with mill := m.hit 14 }
  else if !m.upAt out then c
  else if m.shepValid then
    let run := frameRun (f.delay + m.inDelay f + f.res) (f.hops + 1) (f.line || decide (m.loop ≠ 0))
    c.emit (.frame r out (sentOn f run (some (crc16 run)) wins))
  else
    let run := frameRun f.delay f.hops f.line
    c.emit (.frame r out (sentOn f run (if f.rcrcOk then some (crc16 run) else none) wins))

/-- What has passed of a frame when a port goes down after `n` of its octets (R224, R243): the windows that lie whole before it. -/
def frameCut (f : MFrame) (m : MillBlk) (n : Nat) : MFrame :=
  { f with
    hcrcOk := f.hcrcOk && decide (28 ≤ n)
    rcrcOk := f.rcrcOk && decide (36 ≤ n)
    bodyOk := false
    txErr := true
    octets := min f.octets n
    wins := f.wins.filter (fun (x : MWin) => (m.win x.num).any (fun (w : SWin) => w.off + 12 + w.len ≤ n)) }

/-- Time base when the last WCRC octet of a window passed the window stage (R231). -/
def MillBlk.stampOf (m : MillBlk) (f : MFrame) (x : MWin) : Nat :=
  f.stamp + match m.win x.num with | some w => 8 * (w.off + w.len + 11) | none => 0

/-- Set MARK_P[b] in the running cells (R245). -/
def Chan.mark (c : Chan) (b : Nat) : Chan :=
  let bit : BitVec 11 := 1#11 <<< (3 + b)
  { c with cells := c.cells.map (fun (x : CellSt) =>
      if x.mode = .bonded || x.mode = .split then
        { x with core0 := { x.core0 with irqP := x.core0.irqP ||| bit }, core1 := { x.core1 with irqP := x.core1.irqP ||| bit } }
      else x) }

/-- EN, KIND, tkirq bit and offset of a mark word. -/
def markOn (w : Word) (time : Bool) : Bool := w.getLsbD 31 && w.getLsbD 30 == time
def markBit (w : Word) : Nat := w.toNat / 134217728 % 8
def markOfs (w : Word) : Nat := w.toNat % 2097152

/-- BYTE marks whose octet is among the `n` that pass fire on the first passage (R245). -/
def Chan.byteMarks (c : Chan) (n : Nat) : Chan :=
  c.mill.marks.foldl (fun (c : Chan) w => if markOn w false && decide (markOfs w < n) then c.mark (markBit w) else c) c

/-- The loaded cycle marks of a ring, for TIME marks. -/
def MillBlk.tmarks (m : MillBlk) : Ring → List Word
  | .r1 => m.tmarks1
  | .r2 => m.tmarks2

/-- TIME_MARK (R245): in every channel, at the boundary plus the mark's offset. -/
def execTimeMark (ch : Ch) (r : Ring) (mark : Nat) (s : State) : Out :=
  onChan s ch (fun c =>
    let w := ((c.mill.tmarks r)[mark]?).getD 0#32
    if c.tb.started && markOn w true then
      ({ c with tb := c.tb.reach (c.tb.bk + markOfs w) }).mark (markBit w)
    else c)

/-- Program subscription numbers of a window of a ring (R228). -/
def Chan.subNums (c : Chan) (r : Ring) (w : Nat) : List Nat :=
  match c.sl.prog with
  | some p => ((p.subs.zipIdx).filter (fun (x : (Nat × Nat) × Nat) => x.1.1 == ringCode r && x.1.2 == w)).map (·.2)
  | none => []

/-- The window set of object 0x4411 that holds a window, by position (R303). -/
def Chan.winSet (c : Chan) (r : Ring) (w : Nat) : Option Nat :=
  ((c.pair.cfg.winSets.zipIdx).find? (fun x => x.1.1 == ringCode r + 1 && (x.1.2.1 == w || x.1.2.2 == w))).map (·.2)

/-- Windows of a frame that give items to window `w`: itself and, in a window set, its partner (R303). -/
def Chan.setMates (c : Chan) (r : Ring) (w : Nat) : List Nat :=
  match c.winSet r w with
  | none => [w]
  | some k => match c.pair.cfg.winSets[k]? with
    | some x => [w] ++ (if x.2.1 = w then [x.2.2] else [x.2.1])
    | none => [w]

/-- A window of a frame as an item of every subscription that takes it: forwarded with its own check sequence (R37), entered where that is
correct. -/
def State.giveWin (s : State) (r : Ring) (f : MFrame) (x : MWin) : State :=
  let ch := ringOwner r
  let c := s.chan ch
  ((c.setMates r x.num).flatMap (c.subNums r)).foldl (fun (s : State) n =>
    let i : Item := ⟨0, ringCode r, n, c.mill.stampOf f x, bytesWords (x.payload.length / 4) x.payload, 0#32, false, x.crcOk⟩
    (s.upd ch (fun c => if i.good then c.pushItem i else c)).sendBoth ch (.item i)) s

/-- A new item of a window that passed valid and not empty is taken (R231, R303). -/
def State.takeWin (s : State) (r : Ring) (f : MFrame) (x : MWin) : State :=
      let ch := ringOwner r
      let w := x.num
      let c := s.chan ch
      let set := c.winSet r w
      let fresh := match set with
        | some k => (match c.pair.setCyc.find? (fun z => z.1 == k) with | some z => laterW x.wcyc z.2 | none => true)
        | none => (match c.mill.taken.find? (fun t => t.1 == w) with | some t => !(t.2.1 == x.writer && t.2.2 == x.wcyc) | none => true)
      if !fresh then s
      else
        let s := s.upd ch (fun c => { c with
          mill := { c.mill with taken := (w, x.writer, x.wcyc) :: c.mill.taken.filter (fun t => t.1 != w) }
          pair := match set with | some k => { c.pair with setCyc := assocSet k x.wcyc c.pair.setCyc } | none => c.pair })
        s.giveWin r f x

/-- One subscribed window read on first passage (R231): the node's counts, and a new item in its subscriptions. -/
def State.readWin (s : State) (r : Ring) (f : MFrame) (pos w : Nat) : State :=
  match f.wins.find? (fun (x : MWin) => x.num == w) with
  | none => s.updMill r (fun m => { m.hit 3 with subMiss := modAt satInc pos m.subMiss })
  | some x =>
    if !x.crcOk then (s.updMill r (fun m => { m.hit 1 with subCrc := modAt satInc pos m.subCrc })).giveWin r f x
    else if x.empty then s.updMill r (fun m => { m.hit 2 with subEmpty := modAt satInc pos m.subEmpty })
    else s.takeWin r f x

/-- The partner of a subscribed window in its window set, itself not subscribed, gives its items too (R303); it has no counts. -/
def State.readMate (s : State) (r : Ring) (f : MFrame) (w : Nat) : State :=
  match f.wins.find? (fun (x : MWin) => x.num == w) with
  | none => s
  | some x => if !x.crcOk then s.giveWin r f x else if x.empty then s else s.takeWin r f x

/-- The windows that only a window set brings in (R303). -/
def Chan.mates (c : Chan) (r : Ring) : List Nat :=
  ((c.mill.subs.flatMap (c.setMates r)).filter (fun w => !c.mill.subs.contains w)).eraseDups

/-- A valid grant window of the module's pair (Table 11-1). -/
def grantOf (ident : Nat) (r : Ring) (x : MWin) : Option Grant :=
  let b := x.payload
  if x.crcOk && !x.empty && leAt b 0 1 = 0x47 && leAt b 1 1 = 1 && leAt b 2 2 = ident && leAt b 12 4 = (crc32c (b.take 12)).toNat then
    some ⟨r, x.wcyc, leAt b 4 1⟩
  else none

/-- Grant items of a frame are taken and forwarded (R299). -/
def State.readGrant (s : State) (r : Ring) (f : MFrame) : State :=
  let ch := ringOwner r
  let p := (s.chan ch).pair
  let n := match r with | .r1 => p.cfg.grant1 | .r2 => p.cfg.grant2
  if !p.cfg.on || n = 0 then s
  else match f.wins.find? (fun (x : MWin) => x.num == n) with
    | none => s
    | some x => match grantOf p.cfg.ident r x with
      | none => s
      | some g => (s.upd ch (fun c => { c with pair := { c.pair with grants := g :: c.pair.grants } })).sendBoth ch (.grant g)

/-- One mailbox window of another node (R246, R247): an acknowledgement of the own segment, a new segment for this node. A FIRST from a
node with a request outstanding starts nothing (Table 14-8); LAST completes the message. -/
def MillBlk.takeSeg (busy : List Nat) (m : MillBlk) (x : MWin) : MillBlk :=
  let b := x.payload
  let fl := leAt b 4 1
  let seq := leAt b 1 1
  let m := match m.mbOut with
    | some g => if fl.testBit 3 && leAt b 2 1 = m.addr && leAt b 3 1 = g.seq && x.writer = g.dest then
        { m with
          mbOut := none
          mbRetry := 0
          mbSeq := (g.seq + 1) % 256
          mbSent := if g.flags.testBit 1 then m.mbSent ++ g.work.toList else m.mbSent } else m
    | none => m
  if leAt b 0 1 = m.addr && fl.testBit 2 then
    let due := { m with mbAck := m.mbAck.filter (fun a => a.1 != x.writer) ++ [(x.writer, seq)] }
    if assocD 256 x.writer m.mbIn = seq then due
    else
      let d := (b.drop 8).take (leAt b 6 2)
      let rest := m.mbPart.filter (fun (p : Nat × List Byte) => p.1 != x.writer)
      let part : Option (List Byte) :=
        if fl.testBit 0 then (if busy.contains x.writer then none else some d)
        else (m.mbPart.find? (fun (p : Nat × List Byte) => p.1 == x.writer)).map (fun p => p.2 ++ d)
      { due with
        mbIn := assocSet x.writer seq m.mbIn
        mbPart := (match part with | some w => if fl.testBit 1 then rest else rest ++ [(x.writer, w)] | none => rest)
        mbDone := (match part with | some w => if fl.testBit 1 then m.mbDone ++ [(x.writer, w)] else m.mbDone | none => m.mbDone)
        mbBuf := mbFill 256 d m.mbBuf }
  else m

/-- Mailbox windows of a frame. -/
def MillBlk.mailboxes (m : MillBlk) (busy : List Nat) (f : MFrame) : MillBlk :=
  (f.wins.filter (fun (x : MWin) => x.crcOk && !x.empty && x.writer != m.addr && (match m.win x.num with | some w => w.mbox | none => false))).foldl
    (MillBlk.takeSeg busy) m

/-- A value of the ring sample block (R244); at 1,024 values the sample is their mean, rounded down to whole nanoseconds (DESIGN CHOICE, log
entry 121). -/
def State.ringSample (s : State) (r : Ring) (f : MFrame) : State :=
  let ch := ringOwner r
  let m := (s.chan ch).mill
  let o : Int := (f.tstamp : Int) + f.delay + m.inDelay f - f.tArr
  let sum := m.blkSum + o
  if m.blkN + 1 < 1024 then s.updMill r (fun m => { m with blkSum := sum, blkN := m.blkN + 1 })
  else
    let d : DSample := ⟨3 + ringCode r, sum / 1024, (s.chan ch).tb.c + 1, f.tArr⟩
    ((s.updMill r (fun m => { m with blkSum := 0, blkN := 0, blkCycles := 0 })).upd ch (fun c =>
      { c with tb := { c.tb with held := c.tb.held ++ [d] } })).sendBoth ch (.dsample d)

/-- RING_SAMPLE_BLOCK_DISCARD (R244): 1,100 cycles without 1,024 values. -/
def execRingSampleBlockDiscard (r : Ring) (s : State) : Out :=
  onMill s r (fun m => if 1100 ≤ m.blkCycles then { m with blkSum := 0, blkN := 0, blkCycles := 0 } else m)

/-- What is left of runs of octets when those of `p` are taken away. -/
def minusRun (xs : List (Nat × Nat)) (p : Nat × Nat) : List (Nat × Nat) :=
  xs.flatMap (fun x =>
    (if x.1 < p.1 then [(x.1, min x.2 (p.1 - 1))] else []) ++ (if p.2 < x.2 then [(max x.1 (p.2 + 1), x.2)] else []))

/-- Where the shepherd lets the node substitute octets of a frame that passes (R241): octets 28 to 35, and each window of its copy that
names the node as WRITER, with 2 octets around it. -/
def MillBlk.places (m : MillBlk) : List (Nat × Nat) :=
  (28, 35) :: (m.shepWins.filter (fun (w : SWin) => w.writer == m.addr)).map (fun (w : SWin) => (w.off - 2, w.off + w.len + 13))

/-- The node's own windows by its schedule and bindings. -/
def MillBlk.ownRuns (m : MillBlk) : List (Nat × Nat) :=
  (m.wins.filter (fun (w : SWin) => m.binds.any (fun b => b.win == w.num))).map (fun (w : SWin) => (w.off, w.off + w.len + 11))

/-- Octets the node asked to substitute outside the places of R241; `own`: it writes its windows. Not empty: a cut cycle. -/
def MillBlk.outside (m : MillBlk) (f : MFrame) (own : Bool) : List (Nat × Nat) :=
  m.places.foldl minusRun (f.reqs ++ if own then m.ownRuns else [])

/-- The windows of a frame as a joined node passes them on: its own replaced (R232); one with an octet that the shepherd did not enable
fails its WCRC (R241). -/
def MillBlk.substitute (m : MillBlk) (f : MFrame) (out : List (Nat × Nat)) : List MWin :=
  f.wins.map (fun (x : MWin) =>
    if m.binds.any (fun b => b.win == x.num) then
      match m.win x.num with
      | none => x
      | some w =>
        let cut := out.any (fun p => decide (p.1 ≤ w.off + w.len + 11) && decide (w.off ≤ p.2))
        match m.bufs.find? (fun (b : WinBuf) => b.win == x.num) with
        | some b => m.ownWin x.num w.len f.cycle (b.late || cut) (if b.empty then none else some b.payload)
        | none => m.ownWin x.num w.len f.cycle cut none
    else x)

/-- The shepherd sees a request outside its places on a passage (R241): the present cycle is a cut cycle. -/
def MillBlk.shepherd (m : MillBlk) (cut : Bool) : MillBlk := if cut then { m.hit 4 with cutNow := true } else m

/-- The shepherd's record of the cycle that ends (R241): at the third cut cycle within 16 the node withdraws for 64 periods. -/
def MillBlk.endCycle (m : MillBlk) : MillBlk :=
  let cuts := (m.cutNow :: m.cuts).take 16
  let m' := { m with cuts := cuts, cutNow := false }
  if m.cutNow && decide (3 ≤ (cuts.filter id).length) then
    { m'.hit 5 with nstate := .withdrawn, hold := 64, origCycle := none, originNext := false }
  else m'

/-- The discipline takes samples from this ring (Table 3-6). -/
def Chan.ringSource (c : Chan) (r : Ring) : Bool :=
  c.tb.src = 6 || c.tb.src = (match r with | .r1 => 4 | .r2 => 5)

/-- First passage of a frame (R229, R231, R244, R245): its registers, BYTE marks and ring sample; `reads`: its windows too. -/
def State.firstPassage (s : State) (r : Ring) (f : MFrame) (reads : Bool) : State :=
  let s := s.updMill r (fun m =>
    let jump := match m.lastFrame with | some x => decide (f.cycle ≠ x.2 + 1#32) | none => false
    let m := if jump then m.hit 8 else m
    { m with
      lastFrame := some (f.bell, f.cycle)
      seen := ((f.bell, f.cycle) :: m.seen).take 16
      periodBell := if frameOk f then some f.bell else m.periodBell
      passed := true
      cycle := f.cycle
      line := if frameOk f then f.line else m.line
      res := f.res })
  let s := s.upd (ringOwner r) (fun c => c.byteMarks f.octets)
  let s := if !reads then s else
    let s := (((s.chan (ringOwner r)).mill.subs).zipIdx).foldl (fun (s : State) (x : Nat × Nat) => s.readWin r f x.2 x.1) s
    let s := ((s.chan (ringOwner r)).mates r).foldl (fun (s : State) w => s.readMate r f w) s
    let busy := ((s.chan (ringOwner r)).dict.ringOut.filter (fun (o : Ring × Nat) => o.1 == r)).map (fun (o : Ring × Nat) => o.2)
    (s.readGrant r f).updMill r (fun m => m.mailboxes busy f)
  if frameOk f && (s.chan (ringOwner r)).ringSource r && (s.chan (ringOwner r)).tb.started then s.ringSample r f else s

/-- The bellringer's own frame returns (R236): read on its first return, absorbed at port 0, or at port 1 while one of its ports is down (the
words name port 1; log entry 98). Only windows back 1 µs before the next boundary are carried. -/
def State.ownReturn (s : State) (r : Ring) (f : MFrame) : State :=
  let m := (s.chan (ringOwner r)).mill
  let s := if m.lastFrame = some (f.bell, f.cycle) then s else s.firstPassage r f true
  if f.inPort = .p0 || !m.up1 || !m.up0 then
    let due := (s.chan (ringOwner r)).nextStamp - 1000
    s.updMill r (fun m =>
      let inTime := f.wins.filter (fun (x : MWin) => decide (m.stampOf f x ≤ due))
      { m with
        ownBack := m.ownBack || frameOk f
        back := inTime.map (fun (x : MWin) => x.num)
        carry := inTime.filter (fun (x : MWin) => x.crcOk && x.wcyc == f.cycle) })
  else s.upd (ringOwner r) (fun c => c.forward r f f.wins)

/-- A frame is recorded as one that the node does not process: its later passages are forwarded (R229). -/
def MillBlk.unread (m : MillBlk) (f : MFrame) : MillBlk := { m with seen := ((f.bell, f.cycle) :: m.seen).take 16 }

/-- A frame can be forwarded (R219, R229). -/
def MillBlk.forwards (m : MillBlk) (f : MFrame) : Bool := decide (f.hops < 130) && m.upAt (m.outPort f.inPort)

/-- A frame at an originating bellringer (R227, R236, R238): it forwards later passages only (Table 8-8) and valid frames of another
schedule. -/
def State.atBellringer (s : State) (r : Ring) (f : MFrame) : State :=
  let m := (s.chan (ringOwner r)).mill
  let pass (s : State) : State := s.upd (ringOwner r) (fun c => c.forward r f f.wins)
  if f.hcrcOk && f.bell = m.addr then (if some f.cycle = m.origCycle then s.ownReturn r f else s)
  else if f.hcrcOk && m.seen.contains (f.bell, f.cycle) then pass s
  else if !(frameOk f) then s
  else
    let s := s.updMill r (fun m => { m.unread f with otherValid := true })
    if f.sched ≠ m.sched then pass (s.updMill r (fun m => m.hit 6))
    else if f.rank < m.role || (f.rank = m.role && f.bell < m.addr) then
      s.updMill r (fun m => { (if f.rank = m.role then m.hit 10 else m) with nstate := .joined, origCycle := none, carry := [], back := [], passed := true })
    else s.updMill r (fun m => if f.rank = m.role then (m.hit 10).hit 11 else m.hit 11)

/-- A frame at any other open node (R224, R227, R229, R234, R239, R241, R248). -/
def State.atNode (s : State) (r : Ring) (f : MFrame) : State :=
  let ch := ringOwner r
  let m := (s.chan ch).mill
  let pass (wins : List MWin) (s : State) : State := s.upd ch (fun c => c.forward r f wins)
  if !f.hcrcOk || m.lastFrame = some (f.bell, f.cycle) || m.seen.contains (f.bell, f.cycle) then pass f.wins s
  else if f.sched ≠ m.sched then pass f.wins (if frameOk f then s.updMill r (fun m => (m.unread f).hit 6) else s)
  else if frameOk f && (match m.periodBell with | some b => b != f.bell | none => false) then pass f.wins (s.updMill r (fun m => (m.unread f).hit 11))
  else
    let out := m.outside f (m.nstate == .joined)
    let s := (s.firstPassage r f (m.nstate == .joined || m.nstate == .withdrawn)).upd ch (fun c =>
      c.forward r f (if m.nstate = .joined && m.shepValid then c.mill.substitute f out else f.wins))
    s.updMill r (fun m =>
      let m := match m.nstate with
        | .listen => if frameOk f && m.forwards f then { m with nstate := .joined } else m
        | .backoff => { m with backValid := m.backValid || (frameOk f && m.forwards f) }
        | _ => m
      ({ m with bufs := [] }).shepherd (!out.isEmpty && (m.outside f false).isEmpty))

/-- FRAME_PASSAGE: the ring's part. A frame with valid HCRC ends the silence (R234); one that fails it counts for R239. The shepherd watches
every passage (R241). -/
def State.framePassage (s : State) (r : Ring) (f : MFrame) : State :=
  let m := (s.chan (ringOwner r)).mill
  if m.nstate = .bypass || m.nstate = .linking || !m.upAt f.inPort then s
  else
    let s := s.updMill r (fun m =>
      let m := if frameOk f then { m with validAt := some f.stamp } else m.hit 0
      ({ m with heard := m.heard || f.hcrcOk, badHcrc := m.badHcrc || !f.hcrcOk }).shepherd (!(m.outside f false).isEmpty))
    if m.nstate = .originating then s.atBellringer r f else s.atNode r f

/-- WINDOW_RETURN_DEADLINE (R236): 1 µs before the next boundary, windows that have not returned are to be bell-filled. -/
def execWindowReturnDeadline (r : Ring) (s : State) : Out :=
  let ch := ringOwner r
  guardC ((s.chan ch).mill.nstate == .originating && (s.chan ch).mill.origCycle.isSome) s
    (s.upd ch (fun c =>
      let m := c.mill
      let missing := m.wins.any (fun (w : SWin) => !m.back.contains w.num)
      { c with
        tb := c.tb.reach (c.nextStamp - 1000)
        mill := if missing then m.hit 12 else m }))

/-- WITHDRAW_HOLD_EXPIRY (R234). -/
def execWithdrawHoldExpiry (r : Ring) (s : State) : Out :=
  onMill s r (fun m => if m.nstate = .withdrawn && m.hold = 0 then { m with nstate := .listen, cuts := [] } else m)

/-- BACKOFF_EXPIRY (R239): when rank × 2 periods have passed. -/
def execBackoffExpiry (r : Ring) (s : State) : Out :=
  onMill s r (fun m =>
    if m.nstate = .backoff && m.backLeft = 0 then
      (if m.backValid then { m with nstate := .joined, backValid := false } else { m with originNext := true })
    else m)

/-! What a boundary does with the ring (R234, R236, R237, R239) -/

/-- The port that a bellringer originates by (R216, R242): port 1, or port 0 while it loops there. -/
def MillBlk.homePort (m : MillBlk) : RPort := if m.loop = 1 then .p0 else .p1

/-- Time from the boundary to the departure of offset 0, at most 1 µs (R229): a free value, log entry 98. -/
def departure (r : Ring) (k : W64) : Nat := Config.departNs (ringCode r) k.toNat % 1001

/-- Originate frame k (R221, R236): windows that returned are carried, the others bell-filled; own windows are written as their fetches
start. The whole frame lies within the 1 µs around the boundary in which the shepherd enables it (R241). -/
def Chan.originate (c : Chan) (r : Ring) : Chan :=
  let m := c.mill
  let cyc := BitVec.ofNat 32 c.tb.k
  let wins := (m.wins.filter (fun (w : SWin) => !m.binds.any (fun b => b.win == w.num))).map (fun (w : SWin) =>
    match m.carry.find? (fun (x : MWin) => x.num == w.num) with
    | some x => x
    | none => (⟨w.num, true, true, w.writer, cyc, List.replicate w.len 0#8, true⟩ : MWin))
  let c := { c with mill := { m with nstate := .originating, origCycle := some cyc, carry := [], back := [], ownBack := false, originNext := false } }
  if !m.upAt m.homePort then c
  else
    let head := frameHead m.len cyc m.sched m.addr m.role c.tb.bk
    let run := frameRun (departure r (BitVec.ofNat 64 c.tb.k)) 0 (decide (m.loop ≠ 0))
    c.emit (.frame r m.homePort ⟨head, some (crc32 head), run, some (crc16 run), wins, some (frameTail cyc m.len), false⟩)

/-- A reading node in whose period no frame was read (R231): every subscription misses its window. -/
def MillBlk.missAll (m : MillBlk) : MillBlk :=
  if m.passed || !(m.nstate == .joined || m.nstate == .withdrawn || m.nstate == .originating) then m
  else (List.range m.subs.length).foldl (fun (m : MillBlk) n => { m.hit 3 with subMiss := modAt satInc n m.subMiss }) m

/-- The ring part of a boundary, before the new frame: silence, contention, the states that follow from them. -/
def MillBlk.period (m : MillBlk) : MillBlk :=
  let silent := if m.heard then 0 else min (m.silent + 1) 255
  let cont := m.nstate == .originating && !m.ownBack && !m.otherValid && m.badHcrc
  let run := if cont then m.contCycles + 1 else 0
  let back := decide (2 ≤ run)
  let m := m.missAll
  let m := if back then m.hit 9 else m
  { m with
    silent := silent
    heard := false
    badHcrc := false
    otherValid := false
    passed := false
    periodBell := none
    contCycles := if back then 0 else run
    backValid := if back then false else m.backValid
    backLeft := if back then m.role * 2 else m.backLeft - 1
    blkCycles := m.blkCycles + 1
    hold := if m.nstate = NState.withdrawn then m.hold - 1 else m.hold
    nstate := if back then NState.backoff
      else if m.nstate = NState.joined && m.role = 0 && 8 ≤ silent then NState.listen
      else if m.originNext && m.backValid then NState.joined
      else m.nstate
    originNext := m.originNext && !m.backValid
    origCycle := if back then none else m.origCycle }.endCycle

/-- The ring part of a boundary (R234 to R239): in the modes in which a node originates if it is a bellringer (Table 8-10). DESIGN CHOICE (log
entry 119): silent periods are not counted in BYPASS and LINKING, and the count is 0 when LINKING becomes LISTEN. -/
def Chan.ringBoundary (c : Chan) (r : Ring) : Chan :=
  let m := c.mill
  if m.nstate = .bypass || m.nstate = .linking then c
  else
    let m := m.period
    let c := { c with mill := m }
    let start := (m.nstate == .listen || m.nstate == .joined) && m.role ≠ 0 && m.role + 2 ≤ m.silent
    if (start || m.originNext || m.nstate == .originating) && ringMode c.sys.mode && m.shepValid then c.originate r else c

/-- The node's state by mode and channel state (R250, R468, Table 8-10): bypass closed outside the modes that need the ring. -/
def Chan.ringModeChange (c : Chan) (ch : Ch) : Chan :=
  if ch = Ch.C then c
  else if !c.speaks || !(ringMode c.sys.mode || (c.sys.mode == .m2 && c.mill.coil)) then
    { c with mill := c.mill.toBypass }
  else if c.mill.nstate = .bypass && !c.mill.noAddr && (match c.sys.mode with | .m5 | .m7 | .m8 => true | _ => false) then
    { c with mill := { c.mill with nstate := .linking, coil := true } }
  else c

end Sys2Proof.Machine
end

