-- ==== Sys2Proof/Machine/Bridge.lean ====
section
/-! DEFINITION. The bridge: routing, transforms, posted writes, delayed reads, host messages, side-band events (R274 to R294, R465). -/

namespace Sys2Proof.Machine
open Sys2Proof

/-- The bridge is active (Table 10-8). -/
def Chan.bridgeOn (c : Chan) : Bool := c.speaks && ringMode c.sys.mode

/-- Owner of a bridge port (Table 10-1). -/
def bportOwner : Nat → Ch
  | 0 => .A | 1 => .B | 2 => .A | 3 => .B | 4 => .C | 5 => .A | 6 => .B | _ => .C

/-- The lane's bridge port of a channel. -/
def laneBport (ch : Ch) : Nat := 5 + chCode ch

/-- Change the bridge of a channel. -/
def Chan.br (c : Chan) (f : BridgeBlk → BridgeBlk) : Chan := { c with bridge := f c.bridge }

/-! Transform (R278) -/

/-- Reverse the order within groups of `g` octets; `fuel` bounds their number. -/
def revGroups (g : Nat) : Nat → List Byte → List Byte
  | 0, l => l
  | _, [] => []
  | n + 1, l => (l.take g).reverse ++ revGroups g n (l.drop g)

/-- Write octets into a buffer at an offset, within it. -/
def putAt (buf : List Byte) (ofs : Nat) (d : List Byte) : List Byte :=
  (buf.take ofs ++ d ++ buf.drop (ofs + d.length)).take buf.length

/-- One move (Table 10-3); none when the item is too short. -/
def applyMove (item buf : List Byte) (m : Word) : Option (List Byte) :=
  let v := m.toNat
  let op := v % 16
  let n := v / 16 % 64 + 1
  let dst := v / 1024 % 2048
  let src := v / 2097152
  if op = 4 then some (putAt buf dst (List.replicate n (BitVec.ofNat 8 (v / 2097152))))
  else if item.length < src + n then none
  else
    let d := (item.drop src).take n
    some (putAt buf dst (match op with
      | 1 => revGroups 2 n d
      | 2 => revGroups 4 n d
      | 3 => revGroups 8 n d
      | _ => d))

/-- The transform of an entry on an item. -/
def Route.transform (r : Route) (moves : List Word) (item : List Byte) : Option (List Byte) :=
  if r.nmove = 0 then some (padTo r.dlen (item.take r.dlen))
  else ((moves.drop r.move0).take r.nmove).foldl (fun (b : Option (List Byte)) m => b.bind (fun b => applyMove item b m)) (some (List.replicate r.dlen 0#8))

/-! Events (R292) -/

/-- Event `e` fires: accumulated, and in wired mode events 0 to 7 also drive their side-band pin, but not in M6
(Table 18-5). -/
def Chan.fire (c : Chan) (e : Nat) : Chan :=
  let c := c.br (fun b => { b with evt := b.evt ||| (1#64 <<< e) })
  if c.bridge.wired && e < 8 && c.sys.mode != .m6 then
    (c.br (fun b => { b with pins := b.pins ||| (1#8 <<< e), wireCnt := modAt satInc e b.wireCnt })).emit (.sideband e true)
  else c

/-- EVENT_PUBLISH at a boundary. -/
def BridgeBlk.publish (b : BridgeBlk) : BridgeBlk := { b with evtPub := b.evt, evt := 0#64 }

/-- SIDEBAND_PULSE_END. -/
def execSidebandPulseEnd (ch : Ch) (e : Nat) (s : State) : Out :=
  onChan s ch (fun c =>
    if e < 8 && c.bridge.pins.getLsbD e then (c.br (fun b => { b with pins := b.pins &&& ~~~(1#8 <<< e) })).emit (.sideband e false) else c)

/-! Posted writes (R279 to R281) -/

/-- Entries of the posted-write queue. -/
def postedMax : Nat := 256

/-- Put a posted write, accepted at `t`, into a channel's queue (R279). -/
def Chan.enqueuePosted (c : Chan) (entry : Nat) (data : List Byte) (dests : List Nat) (t : Nat) : Chan :=
  if dests.isEmpty then c
  else if postedMax ≤ c.bridge.queue.length then c.br (fun b => b.drop 0)
  else
    let p : Posted := ⟨c.bridge.nextQid, entry, data, dests, t⟩
    c.br (fun b => { b with queue := b.queue ++ [p], nextQid := b.nextQid + 1 })

/-- The next sequence number of an entry towards a channel (R280). -/
def BridgeBlk.takeSeq (b : BridgeBlk) (entry dest : Nat) : BridgeBlk × Nat :=
  let old := (b.sentSeq.find? (fun x => x.1 == entry && x.2.1 == dest)).map (·.2.2) |>.getD 0
  ({ b with sentSeq := (entry, dest, (old + 1) % 65536) :: b.sentSeq.filter (fun x => !(x.1 == entry && x.2.1 == dest)) }, old)

/-- Destination ports of an entry that the module's role lets it serve: a standby drops ECN and ring ones at acceptance (Table 11-4). -/
def Chan.dportsOf (c : Chan) (r : Route) : List Nat :=
  (List.range 8).filter (fun p => r.dports.getLsbD p && !(c.sys.mode == .m5 && c.pair.cfg.on && p < 4))

/-- Send transformed data once to channel `o`, which owns the destination ports `ps` (R280); an OUT owner's destinations are dropped (R293). -/
def State.forwardPosted (s : State) (ch : Ch) (entry : Nat) (data : List Byte) (o : Ch) (ps : List Nat) : State :=
  if ps.isEmpty then s
  else if (s.chan ch).vote.out.get o ≠ 0 then s.upd ch (fun c => c.br (fun b => b.dropN 9 ps.length))
  else
    let x := (s.chan ch).bridge.takeSeq entry (chCode o)
    (s.upd ch (fun c => { c with bridge := x.1 })).send ch o (.bridge entry x.2 ps data (s.chan ch).now)

/-- A bridge item at one entry (R279, R292). -/
def State.acceptItem (s : State) (ch : Ch) (r : Route) (item : List Byte) : State :=
  let c := s.chan ch
  match r.transform c.bridge.moves item with
  | none => s.upd ch (fun c => c.br (fun b => b.drop 2))
  | some d =>
    let ds := c.dportsOf r
    let own := ds.filter (fun p => bportOwner p == ch)
    if !ds.isEmpty && postedMax ≤ c.bridge.queue.length then s.upd ch (fun c => c.br (fun b => b.drop 0))
    else
      let s := s.upd ch (fun c => (if r.event then c.fire r.evnum else c).enqueuePosted r.num d own c.now)
      let post (o : Ch) (s : State) : State := s.forwardPosted ch r.num d o (ds.filter (fun p => bportOwner p == o))
      post (chPrev ch) (post (chNext ch) s)

/-- BRIDGE_ITEM_ACCEPT (R275, R279): an item of source port `sport` in its owner's channel. -/
def State.bridgeItem (s : State) (sport sid : Nat) (item : List Byte) : State :=
  let ch := bportOwner sport
  if !(s.chan ch).bridgeOn then s
  else match (s.chan ch).bridge.routes.find? (fun (r : Route) => !r.read && r.sport == sport && r.sid.toNat == sid) with
    | none => s
    | some r => s.acceptItem ch r item

/-- Deliver what is held of an entry in sequence, from `expSeq` on; `fuel` bounds it. -/
def Chan.closeGap (c : Chan) (entry : Nat) : Nat → Chan
  | 0 => c
  | n + 1 =>
    let e := assocD 0 entry c.bridge.expSeq
    match c.bridge.gaps.find? (fun (g : GapHold) => g.entry == entry && g.seq == e) with
    | none => c
    | some g =>
      let c := c.br (fun b => { b with gaps := b.gaps.filter (fun (x : GapHold) => x != g), expSeq := assocSet entry ((e + 1) % 65536) b.expSeq })
      (c.enqueuePosted entry g.data g.dports g.at_).closeGap entry n

/-- Forwarded data at its owner (R280): queued in sequence; behind a gap it is held. An owner that is OUT drops it (R293). -/
def Chan.takeForwarded (c : Chan) (entry seq : Nat) (dports : List Nat) (data : List Byte) (t : Nat) : Chan :=
  if c.sys.cstate = .out then c.br (fun b => b.dropN 9 dports.length)
  else if !c.bridgeOn then c
  else
    let g : GapHold := ⟨entry, seq, dports, data, c.now, t⟩
    let c := c.br (fun b => { b with gaps := b.gaps ++ [g] })
    c.closeGap entry c.bridge.gaps.length

/-- BRIDGE_FORWARD_RECEIVE. -/
def execBridgeForwardReceive (rx tx : Ch) (ok : Bool) (s : State) : Out :=
  .next (s.recv rx tx ok XBody.isBridge (fun b t =>
    match b with
    | .bridge e q ds x a => t.upd rx (fun c => c.takeForwarded e q ds x a)
    | _ => t))

/-- SEQUENCE_GAP_TIMEOUT (R280): after 100 µs the held data is delivered from its lowest sequence number on. -/
def execSequenceGapTimeout (ch : Ch) (entry : Nat) (s : State) : Out :=
  onChan s ch (fun c =>
    match (c.bridge.gaps.filter (fun (g : GapHold) => g.entry == entry)) with
    | [] => c
    | g :: gs =>
      let base := assocD 0 entry c.bridge.expSeq
      let dist (x : GapHold) : Nat := (x.seq + 65536 - base) % 65536
      let first := gs.foldl (fun (m : GapHold) (x : GapHold) => if dist x < dist m then x else m) g
      let c := { c with tb := c.tb.reach (first.since + 100000) }
      (c.br (fun b => { b.hit 10 with expSeq := assocSet entry first.seq b.expSeq })).closeGap entry c.bridge.gaps.length)

/-- Put a message into HMSG_OUT, or behind it. -/
def Chan.hostSend (c : Chan) (m : HostMsg) : Chan :=
  let was := c.host.attnOn
  if c.host.hout.isNone then (({ c with host := { c.host with hout := some m, msgs := satInc c.host.msgs } } : Chan).emit (.hostMsg m)).attn was
  else { c with host := { c.host with houtQ := c.host.houtQ ++ [m] } }

/-- The reeve of a channel works (R23). -/
def Chan.reeveOn (c : Chan) : Bool := c.sys.reeveState = 0

/-- Entries of the reeve's bridge work list (R290). -/
def workMax : Nat := 64

/-- Node, index and subindex of a ring identifier (Table 10-1). -/
def ringNode (d : Word) : Nat := d.toNat / 16777216 % 64
def ringIndex (d : Word) : Nat := d.toNat / 256 % 65536
def ringSub (d : Word) : Nat := d.toNat % 256

/-- The ring of bridge port 0 or 1. -/
def bportRing (p : Nat) : Ring := if p = 0 then .r1 else .r2

/-- Octets of a one-entry request (Table 14-4). -/
def requestOctets (svc tag : Nat) (d : Word) (rest : List Byte) : List Byte :=
  leB 1 svc ++ leB 1 tag ++ leB 1 1 ++ leB 1 0 ++ leB 2 (ringIndex d) ++ leB 1 (ringSub d) ++ leB 1 0 ++ rest

/-- Deliver data of an entry to an ECN plane or a host lane (R281). -/
def Chan.deliver (c : Chan) (r : Route) (dport : Nat) (data : List Byte) : Chan :=
  let c := c.br (fun b => { b with delivered := satInc b.delivered })
  if dport = 2 || dport = 3 then
    let q := assocD 0#32 r.num c.bridge.pdSeq
    (c.br (fun b => { b with pdSeq := assocSet r.num (q + 1#32) b.pdSeq })).sendEth (if dport = 2 then .planeA else .planeB) 2 (some 5) (some 17224)
      (.pd r.did r.daddr q (bytesWords (data.length / 4) data) none)
  else c.hostSend ⟨r.did, 0, 0#8, 0, data⟩

/-- Work enters the reeve's list (R290). -/
def BridgeBlk.addWork (b : BridgeBlk) (w : Work) : BridgeBlk := if b.work.contains w then b else { b with work := b.work ++ [w] }

/-- Work leaves the reeve's list. -/
def BridgeBlk.endWork (b : BridgeBlk) (w : Work) : BridgeBlk := { b with work := b.work.filter (fun x => x != w) }

/-- Room for work in the reeve's list. -/
def BridgeBlk.takes (b : BridgeBlk) (w : Work) : Bool := b.work.contains w || decide (b.work.length < workMax)

/-- The reeve writes data of a queue entry to a ring node through the mailbox: the write stays queued until its last segment is acknowledged
(R281; DEDUCED, log entry 126). -/
def Chan.startRing (c : Chan) (r : Route) (dport qid : Nat) (data : List Byte) : Chan :=
  let n := ringNode r.did
  ({ c.br (fun b => b.addWork (.write qid)) with
      mill := c.mill.mbWork (.write qid) n (requestOctets 2 0 r.did (leB 2 data.length ++ leB 2 0 ++ pad4 data)) }).emit
    (.ringWrite (bportRing dport) n (ringIndex r.did) (ringSub r.did) data)

/-- A destination port can take a delivery now: ring work needs the reeve, room in its list and a mailbox window, a lane an empty HMSG_OUT. -/
def Chan.dportReady (c : Chan) (dport : Nat) : Bool :=
  if dport ≤ 1 then c.reeveOn && decide (c.bridge.work.length < workMax) && decide (0 < c.mill.mbSize)
  else if dport ≤ 3 then c.speaks && planeMode c.sys.mode
  else c.host.hout.isNone

/-- Take a destination off a queue entry; the entry is freed with its last one (R281). -/
def BridgeBlk.served (b : BridgeBlk) (qid dport : Nat) : BridgeBlk :=
  let q := b.queue.map (fun (p : Posted) => if p.qid = qid then { p with dests := p.dests.filter (· ≠ dport) } else p)
  { b with queue := q.filter (fun (p : Posted) => !p.dests.isEmpty) }

/-- POSTED_WRITE_DELIVERY (R281): writes of one entry to one port go in the order of acceptance. -/
def execPostedWriteDelivery (ch : Ch) (qid dport : Nat) (s : State) : Out :=
  onChan s ch (fun c =>
    match c.bridge.queue.find? (fun (p : Posted) => p.qid == qid && p.dests.contains dport) with
    | none => c
    | some p => match c.bridge.routes.find? (fun (r : Route) => r.num == p.entry) with
      | none => c
      | some r =>
        let first := (c.bridge.queue.find? (fun (x : Posted) => x.entry == p.entry && x.dests.contains dport)).map (·.qid) == some qid
        if !c.bridgeOn || !first || (decide (dport ≤ 1) && c.bridge.work.contains (.write qid)) then c
        else if !c.dportReady dport then (if dport ≤ 1 && workMax ≤ c.bridge.work.length then c.br (fun b => b.hit 8) else c)
        else if dport ≤ 1 then c.startRing r dport qid p.data
        else (c.br (fun b => b.served qid dport)).deliver r dport p.data)

/-- The mailbox has had the last segment of a ring write acknowledged: the write is delivered (R281). -/
def Chan.ringWritten (c : Chan) (dport : Nat) (w : Work) : Chan :=
  match w with
  | .write q => if c.bridge.work.contains w then c.br (fun b => { (b.endWork w).served q dport with delivered := satInc b.delivered }) else c
  | _ => c

/-- The bridge takes note of what the mailbox of its ring has sent. -/
def Chan.mailSent (c : Chan) (dport : Nat) : Chan :=
  c.mill.mbSent.foldl (fun (c : Chan) w => c.ringWritten dport w) { c with mill := { c.mill with mbSent := [] } }

/-- WRITE_LIFETIME_EXPIRY (R281). -/
def execWriteLifetimeExpiry (ch : Ch) (qid dport : Nat) (s : State) : Out :=
  onChan s ch (fun c =>
    match c.bridge.queue.find? (fun (p : Posted) => p.qid == qid && p.dests.contains dport) with
    | none => c
    | some p =>
      let c := { c with tb := c.tb.reach (p.at_ + c.bridge.life * 1000000) }
      let c := if dport ≤ 1 then { c with mill := c.mill.mbDrop (fun w => w == .write qid) } else c
      c.br (fun b => ((if dport ≤ 1 then b.endWork (.write qid) else b).served qid dport).drop 1))

/-! Delayed reads (R282 to R291) -/

/-- Slot `n`. -/
def BridgeBlk.slot (b : BridgeBlk) (n : Nat) : Slot := atD Slot.init n b.slots

/-- Change slot `n`. -/
def Chan.updSlotN (c : Chan) (n : Nat) (f : Slot → Slot) : Chan := c.br (fun b => { b with slots := modAt f n b.slots })

/-- Free a slot and take it off the work list. -/
def Chan.freeSlot (c : Chan) (n : Nat) : Chan :=
  c.br (fun b => { b.endWork (.slot n) with slots := modAt (fun _ => Slot.init) n b.slots })

/-- Answer every held request of a slot. -/
def Chan.answerHeld (c : Chan) (n : Nat) (e : REntry) : Chan :=
  (c.bridge.slot n).held.foldl (fun (c : Chan) (h : Transport × Byte) => c.reply h.1 h.2 1 (if e.abort = 0#32 then 0 else 1) [e])
    (c.updSlotN n (fun x => { x with held := [] }))

/-- An entry that carries only an abort code. -/
def abortEntry (ab : Word) : REntry := ⟨ab, 0, []⟩

/-- Bridge port of a request's transport (Table 10-1); the service port and others name none (log entry 47). -/
def viaPort (ch : Ch) : Transport → Option Nat
  | .host => some (laneBport ch)
  | .md .planeA _ _ => some 2
  | .md .planeB _ _ => some 3
  | .md .service _ _ => none
  | .ring .r1 _ => some 0
  | .ring .r2 _ => some 1
  | .notify .planeA _ => some 2
  | .notify .planeB _ => some 3
  | .notify .service _ => none
  | .capacity => none
  | .legacy _ => none
  | .part _ _ => none

/-- The READ entry of a proxy object for a port (R277, R282). -/
def Chan.readRoute (c : Chan) (ch : Ch) (via : Transport) (index sub : Nat) : Option Route :=
  match viaPort ch via with
  | none => none
  | some p => c.bridge.routes.find? (fun (r : Route) => r.read && r.sport == p && r.sid.toNat / 65536 == index && r.sid.toNat % 256 == sub)

/-- The one read target of a READ entry. -/
def Route.target (r : Route) : Nat := ((List.range 8).find? (fun p => r.dports.getLsbD p)).getD 0

/-- The routing entry of a slot. -/
def Chan.slotRoute (c : Chan) (n : Nat) : Option Route := c.bridge.routes.find? (fun (r : Route) => r.num == (c.bridge.slot n).entry)

/-- Nanoseconds of the collect time. -/
def BridgeBlk.collectNs (b : BridgeBlk) : Nat := b.collect * 10000

/-- The exchange for a slot of `ch` with a target that `o` owns can be made: over class 4 by the reeve of another owner (R288), and by a working
reeve for a ring target (R290, R291). -/
def State.slotReach (s : State) (ch o : Ch) (target : Nat) : Bool :=
  s.reach ch o 4 && s.reach o ch 4 && (s.chan o).bridgeOn && (decide (2 ≤ target && o = ch) || (s.chan o).reeveOn)

/-- The work that slot `n` of `ch` gives the reeve of `o`. -/
def slotWork (ch o : Ch) (n : Nat) : Work := if o = ch then .slot n else .away ch n

/-- Another owner's reeve has no more work for slot `n` of `ch`. -/
def State.workDone (s : State) (ch : Ch) (n : Nat) : State :=
  match (s.chan ch).slotRoute n with
  | none => s
  | some r => if bportOwner r.target = ch then s else s.upd (bportOwner r.target) (fun c => c.br (fun b => b.endWork (.away ch n)))

/-- Send a slot's commit to its target (R286): a ring node or a host, in the channel that owns the target; ring work needs room in its reeve's
list (R290). -/
def State.sendCommit (s : State) (ch : Ch) (n : Nat) : State :=
  match (s.chan ch).slotRoute n with
  | none => s
  | some r =>
    let t := (s.chan ch).bridge.slot n
    let w := slotWork ch (bportOwner r.target) n
    if !s.slotReach ch (bportOwner r.target) r.target then s else
    s.upd (bportOwner r.target) (fun c =>
      if r.target ≤ 1 then
        if !c.bridge.takes w then c.br (fun b => b.hit 8) else
        ({ c.br (fun b => b.addWork w) with mill := c.mill.mbWork w (ringNode r.did) (requestOctets 6 n r.did (leB 2 t.token ++ leB 2 0)) }).emit
          (.ringCommit (bportRing r.target) (ringNode r.did) (ringIndex r.did) (ringSub r.did) t.token n)
      else c.hostSend ⟨r.did, 3, BitVec.ofNat 8 (chCode ch * 32 + n), t.token, []⟩)

/-- A request meets a slot that holds its answer (Table 10-5): READY is collected or committed, HANDOVER is answered. -/
def State.collect (s : State) (ch : Ch) (n : Nat) : State :=
  let x := (s.chan ch).bridge.slot n
  let side := (((s.chan ch).slotRoute n).map (·.side)).getD false
  if x.held.isEmpty then s
  else if x.state = .handover || (x.state = .ready && !side) then
    s.upd ch (fun c => ((c.br (fun b => { b with completed := satInc b.completed })).answerHeld n ⟨0#32, 0, x.data⟩).freeSlot n)
  else if x.state = .ready then
    (s.upd ch (fun c => c.updSlotN n (fun y => { y with state := .committing, until_ := some (c.now + c.bridge.collectNs) }))).sendCommit ch n
  else s

/-- The source port of an entry. -/
def Chan.fromPort (c : Chan) (entry sport : Nat) : Bool := c.bridge.routes.any (fun (q : Route) => q.num == entry && q.sport == sport)

/-- A posted write accepted earlier from the slot's source port to its target is not delivered yet (R284): in the target owner's queue, behind a
sequence gap there, or on its way. -/
def State.slotWaits (s : State) (ch : Ch) (x : Slot) (r : Route) : Bool :=
  let c := s.chan ch
  let o := bportOwner r.target
  let b := (s.chan o).bridge
  b.queue.any (fun (p : Posted) => p.dests.contains r.target && (x.waitFor.contains p.qid || (o != ch && c.fromPort p.entry r.sport && decide (p.at_ ≤ x.asked)))) ||
  b.gaps.any (fun (g : GapHold) => g.dports.contains r.target && c.fromPort g.entry r.sport && decide (g.at_ ≤ x.asked)) ||
  s.wire.any (fun m => m.tx == ch && m.rx == o && (match m.body with
    | .bridge e _ ds _ a => ds.contains r.target && c.fromPort e r.sport && decide (a ≤ x.asked)
    | _ => false))

/-- A read request for a proxy object from the requester `via`, to be answered by `back` (R282, R284, R285, R290). -/
def State.proxyRead (s : State) (ch : Ch) (via back : Transport) (tag : Byte) (index sub : Nat) : State :=
  let c := s.chan ch
  let ans (ab : Word) (s : State) : State := s.upd ch (fun c => c.reply back tag 1 1 [abortEntry ab])
  if !c.bridgeOn then ans abState (s.upd ch Chan.conflict)
  else if !c.reeveOn then ans abUnavail s
  else match c.readRoute ch via index sub with
    | none => ans abNoObject s
    | some r =>
      let mine (x : Slot) : Bool := x.state != .free && x.via == some via && x.index == index && x.sub == sub
      match c.bridge.failed.find? (fun f => f.1 == via && f.2.1 == index && f.2.2.1 == sub) with
      | some f => ans f.2.2.2 (s.upd ch (fun c => c.br (fun b => { b with failed := b.failed.filter (fun g => !(g.1 == via && g.2.1 == index && g.2.2.1 == sub)) })))
      | none =>
        match (List.range 32).find? (fun n => mine (c.bridge.slot n)) with
        | some n => (s.upd ch (fun c => c.updSlotN n (fun x => { x with held := x.held ++ [(back, tag)] }))).collect ch n
        | none =>
          if workMax ≤ c.bridge.work.length then ans abUnavail (s.upd ch (fun c => c.br (fun b => b.hit 8)))
          else match (List.range 32).find? (fun n => (c.bridge.slot n).state == .free) with
            | none => ans abPending (s.upd ch (fun c => c.br (fun b => b.hit 3)))
            | some n =>
              let waits := ((s.chan (bportOwner r.target)).bridge.queue.filter (fun (p : Posted) => p.dests.contains r.target && c.fromPort p.entry r.sport)).map (·.qid)
              s.upd ch (fun c => (c.br (fun b => { b with work := b.work ++ [.slot n] })).updSlotN n (fun _ =>
                ⟨.pending, r.num, some via, index, sub, [(back, tag)], none, [], 0, false, waits, c.now⟩))

/-- PROXY_READ_REQUEST. -/
def execProxyReadRequest (ch : Ch) (via : Transport) (tag : Byte) (index sub : Nat) (s : State) : Out :=
  guardC (s.chan ch).up s (s.proxyRead ch via via tag index sub)

/-- DOWNSTREAM_ACCESS_START (R284, R288, R290): after the posted writes accepted earlier are delivered; a host target needs an empty HMSG_OUT, a
ring target room in the work list of its owner's reeve, which makes the access. -/
def execDownstreamAccessStart (ch : Ch) (slot : Nat) (s : State) : Out :=
  let c := s.chan ch
  let x := c.bridge.slot slot
  match c.slotRoute slot with
  | none => .next s
  | some r =>
    let o := s.chan (bportOwner r.target)
    let w := slotWork ch (bportOwner r.target) slot
    guardC (c.bridgeOn && x.state == .pending && !x.started && !(s.slotWaits ch x r) && s.slotReach ch (bportOwner r.target) r.target) s
      (if r.target ≤ 1 && !o.bridge.takes w then s.upd (bportOwner r.target) (fun c => c.br (fun b => b.hit 8))
      else if 2 ≤ r.target && o.host.hout.isSome then s
      else (s.upd ch (fun c => (c.br (fun b => b.endWork (.slot slot))).updSlotN slot (fun y => { y with started := true }))).upd (bportOwner r.target) (fun c =>
        if r.target ≤ 1 then
          ({ c.br (fun b => b.addWork w) with mill := c.mill.mbWork w (ringNode r.did) (requestOctets (if r.side then 5 else 1) slot r.did []) }).emit
            (.ringRead (bportRing r.target) (ringNode r.did) (ringIndex r.did) (ringSub r.did) r.side slot)
        else c.hostSend ⟨r.did, if r.side then 2 else 1, BitVec.ofNat 8 (chCode ch * 32 + slot), 0, []⟩))

/-- The downstream read of a slot completes (R284, R292): READY, its event fires, and a held request is answered or committed. -/
def State.readDone (s : State) (ch : Ch) (n : Nat) (data : List Byte) (token : Nat) : State :=
  let ev := ((s.chan ch).slotRoute n).bind (fun (r : Route) => if r.event then some r.evnum else none)
  ((s.workDone ch n).upd ch (fun c =>
    let c := c.updSlotN n (fun x => { x with state := .ready, data := data, token := token, until_ := some (c.now + c.bridge.collectNs) })
    let c := c.br (fun b => b.endWork (.slot n))
    match ev with | some e => c.fire e | none => c)).collect ch n

/-- A slot waits for its downstream access. -/
def Slot.running (x : Slot) : Bool := x.state == .pending && x.started

/-- What the target of a slot answers reaches the slot's channel (R288). -/
def State.answerReach (s : State) (ch : Ch) (n : Nat) : Bool :=
  match (s.chan ch).slotRoute n with
  | some r => s.reach (bportOwner r.target) ch 4
  | none => false

/-- DOWNSTREAM_READ_COMPLETE. -/
def execDownstreamReadComplete (ch : Ch) (slot : Nat) (data : List Byte) (token : Nat) (s : State) : Out :=
  guardC (((s.chan ch).bridge.slot slot).running && s.answerReach ch slot) s (s.readDone ch slot data token)

/-- The downstream access fails (R285): a held request is answered read-pending, and the next repeat with the failure's code. -/
def Chan.readFailed (c : Chan) (n : Nat) (ab : Word) : Chan :=
  let x := c.bridge.slot n
  let c := c.answerHeld n (abortEntry abPending)
  let c := match x.via with
    | some v => c.br (fun b => { b.hit 11 with failed := b.failed ++ [(v, x.index, x.sub, ab)] })
    | none => c.br (fun b => b.hit 11)
  c.freeSlot n

/-- DOWNSTREAM_ACCESS_FAIL. -/
def execDownstreamAccessFail (ch : Ch) (slot : Nat) (abort : Word) (s : State) : Out :=
  guardC (((s.chan ch).bridge.slot slot).running && s.answerReach ch slot) s ((s.workDone ch slot).upd ch (fun c => c.readFailed slot abort))

/-- REQUEST_HOLD_EXPIRY (R284). -/
def execRequestHoldExpiry (ch : Ch) (slot : Nat) (s : State) : Out :=
  onChan s ch (fun c => c.answerHeld slot (abortEntry abPending))

/-- COLLECT_TIMER_EXPIRY (R285, R286). -/
def execCollectTimerExpiry (ch : Ch) (slot : Nat) (s : State) : Out :=
  onChan (if ((s.chan ch).bridge.slot slot).until_.isSome then s.workDone ch slot else s) ch (fun c =>
    let x := c.bridge.slot slot
    match x.until_ with
    | none => c
    | some t =>
      let c := ({ c with tb := c.tb.reach t }).answerHeld slot (abortEntry abPending)
      let c := match x.state with
        | .ready => c.br (fun b => b.hit 4)
        | .handover => c.br (fun b => b.hit 5)
        | _ => c
      c.freeSlot slot)

/-- The target acknowledges a commit (R285, R286). -/
def State.committedAck (s : State) (ch : Ch) (n : Nat) : State :=
  ((s.workDone ch n).upd ch (fun c => (c.br (fun b => b.endWork (.slot n))).updSlotN n (fun x =>
    { x with state := .handover, until_ := some (c.now + c.bridge.collectNs) }))).collect ch n

/-- COMMIT_ACKNOWLEDGE. -/
def execCommitAcknowledge (ch : Ch) (slot : Nat) (s : State) : Out :=
  guardC (((s.chan ch).bridge.slot slot).state == .committing && s.answerReach ch slot) s (s.committedAck ch slot)

/-- The target refuses a commit (R286). -/
def Chan.commitRefused (c : Chan) (n : Nat) : Chan := ((c.answerHeld n (abortEntry abPending)).br (fun b => b.hit 6)).freeSlot n

/-- COMMIT_REFUSED. -/
def execCommitRefused (ch : Ch) (slot : Nat) (s : State) : Out :=
  guardC (((s.chan ch).bridge.slot slot).state == .committing && s.answerReach ch slot) s ((s.workDone ch slot).upd ch (fun c => c.commitRefused slot))

/-- COMMIT_RESEND (R286, R291): an unacknowledged commit goes out again with its token. -/
def execCommitResend (ch : Ch) (slot : Nat) (s : State) : Out :=
  guardC (((s.chan ch).bridge.slot slot).state == .committing) s (s.sendCommit ch slot)

/-- A host-bound read waits for the outgoing buffer of a channel's lane (R289). -/
def State.laneWaited (s : State) (lane : Ch) : Bool :=
  (s.chan lane).host.hout.isSome && allCh.any (fun k => (List.range 32).any (fun n =>
    let x := (s.chan k).bridge.slot n
    x.state == .pending && !x.started && (((s.chan k).slotRoute n).map (fun (r : Route) => r.target == laneBport lane)).getD false))

/-- READ_YIELD (R289): the Millrace-bound read held for lane n's host ends its hold. -/
def execReadYield (ch : Ch) (slot : Nat) (s : State) : Out :=
  let x := (s.chan ch).bridge.slot slot
  let ringBound := (((s.chan ch).slotRoute slot).map (fun (r : Route) => decide (r.target ≤ 1))).getD false
  guardC (x.via == some Transport.host && !x.held.isEmpty && ringBound && s.laneWaited ch) s
    (s.upd ch (fun c => (c.br (fun b => b.hit 7)).answerHeld slot (abortEntry abPending)))

/-- HOST_MESSAGE_ANSWER (R465): DATA, ACK or REFUSE for the slot that ID and TAG name; one that matches none is a packet error.
A refused read fails with a code that the message does not give: one of Table 14-9, whichever (R382; log entry 48). -/
def State.hostAnswer (s : State) (lane : Ch) (m : HostMsg) : State :=
  let k : Ch := match m.tag.toNat / 32 with | 0 => .A | 1 => .B | _ => .C
  let n := m.tag.toNat % 32
  let x := (s.chan k).bridge.slot n
  let named := (((s.chan k).slotRoute n).map (fun (r : Route) => r.did == m.id && r.target == laneBport lane)).getD false && m.tag.toNat < 96
  let err := s.upd lane (fun c => { c with host := { c.host with flag := c.host.flag.raise 0 } })
  if !named || !(s.reach lane k 4) then err
  else match m.kind with
    | 4 => if x.running then s.readDone k n m.data m.token else err
    | 5 => if x.state = .committing then s.committedAck k n else err
    | 6 =>
      if x.state = .committing then (s.workDone k n).upd k (fun c => c.commitRefused n)
      else if x.running then ((s.workDone k n).upd k (fun c => c.readFailed n (freeAbort s.free))).tick
      else err
    | _ => err

/-- HOST_MESSAGE_ANSWER. -/
def execHostMessageAnswer (ch : Ch) (m : HostMsg) (s : State) : Out :=
  guardC ((s.chan ch).bridgeOn) s (s.hostAnswer ch m)

/-- R291 at a reeve restart: PENDING slots become FREE, and the reeve's ring work leaves its list and the mailbox; writes stay queued, and
commits are resent. -/
def Chan.bridgeRestart (c : Chan) : Chan :=
  let c := (List.range 32).foldl (fun (c : Chan) n => if (c.bridge.slot n).state = .pending then c.freeSlot n else c) c
  { c.br (fun b => { b with work := [] }) with mill := c.mill.mbDrop (fun _ => true) }

/-- Reads that the reeve of `ch` was making for other channels' slots are to be made again (R288, R291). -/
def State.awayRestart (s : State) (ch : Ch) : State :=
  (s.chan ch).bridge.work.foldl (fun (s : State) w => match w with
    | .away k n => s.upd k (fun c => (c.updSlotN n (fun x => { x with started := x.started && x.state != .pending })).br (fun b =>
        if (b.slot n).state = .pending then b.addWork (.slot n) else b))
    | _ => s) s

/-- R293: slots whose target a channel that went OUT owned are freed; repeats are answered service-unavailable. -/
def Chan.bridgeLost (c : Chan) (out : Ch) : Chan :=
  (List.range 32).foldl (fun (c : Chan) n =>
    let x := c.bridge.slot n
    let hit := x.state != .free && ((c.slotRoute n).map (fun (r : Route) => bportOwner r.target == out)).getD false
    if !hit then c
    else
      let c := c.answerHeld n (abortEntry abUnavail)
      let c := match x.via with
        | some v => c.br (fun b => { b with failed := b.failed ++ [(v, x.index, x.sub, abUnavail)] })
        | none => c
      c.freeSlot n) c

/-- MAILBOX_TIMEOUT (R247): a segment unacknowledged for 64 cycles ends its transfer, and the module's own dictionary request to that node
with the timeout abort code. -/
def execMailboxTimeout (r : Ring) (s : State) : Out :=
  let m := (s.chan (ringOwner r)).mill
  match m.mbOut with
  | none => .next s
  | some g =>
    guardC (decide (64 ≤ m.mbRetry)) s
      ((s.upd (ringOwner r) (fun c => { c with
          mill := { c.mill.hit 16 with mbOut := none, mbRetry := 0, mbSeq := (g.seq + 1) % 256, mbQueue := c.mill.mbQueue.filter (fun (x : MbSeg) => x.dest != g.dest) }
          bridge := { c.bridge with work := c.bridge.work.filter (fun w => !((g :: c.mill.mbQueue).any (fun (x : MbSeg) => x.dest == g.dest && x.work == some w))) }
          dict := { c.dict with ringOut := c.dict.ringOut.filter (fun o => o.2 != g.dest) } })).updAll (fun _ c =>
        (List.range 32).foldl (fun (c : Chan) n =>
          let hit := (c.bridge.slot n).running && ((c.slotRoute n).map (fun (q : Route) => q.target ≤ 1 && bportRing q.target == r && ringNode q.did == g.dest)).getD false
          if hit then c.readFailed n abTimeout else c) c))

/-! Received frames and telegrams, with the bridge's part -/

/-- Windows of a ring that the bridge reads (R275): routed ones, at most 64 beside the subscriptions, the first of the table (DEDUCED, log
entry 100). -/
def Chan.bridgeReads (c : Chan) (r : Ring) : List Nat :=
  let ws := (((c.bridge.routes.filter (fun (q : Route) => !q.read && q.sport == ringCode r)).map (fun (q : Route) => q.sid.toNat))).eraseDups
  ws.filter (fun w => c.mill.subs.contains w) ++ (ws.filter (fun w => !c.mill.subs.contains w)).take 64

/-- Bridge windows of a frame (R275): new by (WRITER, WCYC), with valid WCRC and not empty. -/
def State.bridgeWins (s : State) (r : Ring) (f : MFrame) : State :=
  let reads := (s.chan (ringOwner r)).bridgeReads r
  f.wins.foldl (fun (s : State) (x : MWin) =>
    let b := (s.chan (ringOwner r)).bridge
    let routed := reads.contains x.num
    let old := b.takenWins.any (fun t => t.1 == x.num && t.2.1 == x.writer && t.2.2 == x.wcyc)
    if !routed || !x.crcOk || x.empty || old then s
    else (s.upd (ringOwner r) (fun c => c.br (fun b => { b with takenWins := (x.num, x.writer, x.wcyc) :: b.takenWins.filter (fun t => t.1 != x.num) }))).bridgeItem
      (ringCode r) x.num x.payload) s

/-- A frame's passage with the bridge windows it carries, and the ring writes that it acknowledges (R229, R231, R275, R281). -/
def State.framePass (s : State) (r : Ring) (f : MFrame) : State :=
  let m := (s.chan (ringOwner r)).mill
  let first := m.lastFrame ≠ some (f.bell, f.cycle)
  let t := s.framePassage r f
  let t := t.upd (ringOwner r) (fun c => c.mailSent (ringCode r))
  let read := first && (t.chan (ringOwner r)).mill.lastFrame = some (f.bell, f.cycle) && (m.nstate == .joined || m.nstate == .withdrawn || m.nstate == .originating)
  if read then t.bridgeWins r f else t

/-- PD_TELEGRAM_RECEIVE (R257, R275): the owner takes it, forwards one that a subscription's ComId matches, and offers a push to the bridge, once
per sequence counter of its source address. -/
def execPdTelegramReceive (p : Plane) (t : Telegram) (s : State) : Out :=
  let ch := planeOwner p
  let c := s.chan ch
  guardC (c.speaks && pdMode c.sys.mode) s
    (let s1 := s.upd ch (fun c => c.telegram p t)
     let s1 := if c.ecn.subs.any (fun (q : ESub) => q.comId == t.comId && q.onPlane p) then s1.sendBoth ch (.telegram p t) else s1
     let old := (c.ecn.bridged.find? (fun x => x.1 == t.src)).map (·.2)
     if t.fcsOk && t.hdrOk && t.typeOk && !t.pp && old ≠ some t.seq && c.bridgeOn then
       (s1.upd ch (fun c => { c with ecn := { c.ecn with
          bridged := (t.src, t.seq) :: c.ecn.bridged.filter (fun x => x.1 != t.src) } })).bridgeItem
         (match p with | .a => 2 | .b => 3) t.comId.toNat (wordBytes t.data)
     else s1)

/-- MVB_SLAVE_FRAME (R267, R275): an item of the awaited sink port when its checks pass on the trusted line. -/
def execMvbSlaveFrame (addr : Nat) (okA okB : Bool) (data : List Byte) (stamp : Nat) (s : State) : Out :=
  let c := s.chan .C
  match c.mvb.ports.find? (fun (p : MvbPort) => p.addr == addr && !p.source) with
  | none => .next s
  | some p =>
    guardC (c.mvbOn && c.mvb.await == some addr) s
      (let good := (if c.mvb.trustB then okB else okA) && decide (data.length = fcodeLen p.fcode)
       let s := s.upd .C (fun c => { c with mvb := c.mvb.lines c.now okA okB })
       let i : Item := { mvbItem addr stamp data with good := good }
       if !good then s.sendBoth .C (.item i)
       else
         let s := s.upd .C (fun c => { c.pushItem i with mvb := { c.mvb with ports := c.mvb.ports.map (fun (q : MvbPort) => if q.addr = addr then { q with buf := some data } else q) } })
         (s.sendBoth .C (.item i)).bridgeItem 4 addr data)

end Sys2Proof.Machine
end

