-- ==== Sys2Proof/Machine/Start.lean ====
section
/-! DEFINITION. Start-up: HELD release, assay, image verification at start, the start decision and what it loads (R59 to R71, R95, R105, R407, R411, R413, R468, R500). -/

namespace Sys2Proof.Machine
open Sys2Proof

/-! The boot ROM at a release -/

/-- Configuration writes lost at a fallback: what the write counters have advanced since the copy (R385, R413). -/
def lostWrites (now kept : List JEntry) : Nat :=
  now.foldl (fun n e => n + (e.wcount - (((kept.find? (fun x => x.kkind == e.kkind && x.key == e.key)).map (·.wcount)).getD 0))) 0

/-- Write a live set as SNAPSHOT records. -/
def DictBlk.rewrite (d : DictBlk) (live : List JEntry) : DictBlk :=
  let d := (List.range ((live.length + 127) / 128)).foldl
    (fun (d : DictBlk) i => d.append ⟨4, 0, (live.drop (128 * i)).take 128, 0, true, []⟩) d
  { d with live := live }

/-- An erased journal with the erase counts advanced. -/
def DictBlk.erased (d : DictBlk) : DictBlk :=
  { d with recs := [], live := [], active := 0, blocks := d.blocks.map (fun (b : Nat × Nat) => if b.2 = 0 then b else (b.1 + 1, 0)) }

/-- At a fallback to firmware of the keep area's format the journal is rewritten from it, and the lost writes are recorded (R413). -/
def Chan.restoreKeep (c : Chan) : Chan :=
  match c.upd.keep with
  | none => c
  | some k =>
    if k.complete && c.runCfmt = k.cfmt then
      let n := lostWrites c.dict.live k.live
      let c := { c with dict := c.dict.erased.rewrite k.live, upd := { c.upd with keep := none } }
      c.log 0x0F (leB 1 1 ++ leB 1 0 ++ leB 2 0 ++ leB 4 n)
    else c

/-- First start of a TRIAL firmware of another configuration format (R413): the live set is copied to the keep area, then converted.
Whether the conversion changes the serialisation is the firmware's own: a free bit. -/
def Chan.convertFormat (c : Chan) (changes : Bool) : Chan :=
  match c.upd.find [0, 1] .trial, c.upd.find [0, 1] .good with
  | some t, some g =>
    let ct := (((c.upd.slot t).man).map (·.cfmt)).getD 0
    let cg := (((c.upd.slot g).man).map (·.cfmt)).getD 0
    if ct ≠ cg && (c.upd.slot t).trials = 1 && c.upd.keep.isNone then
      let live := c.dict.live
      let conf := BitVec.ofNat 32 (c.cfgN 0x1040 2)
      let c := { c with upd := { c.upd with keep := some ⟨cg, conf, live, true⟩ } }
      let es := if changes then c.freshEntries clearConfirm else []
      { c with dict := c.dict.rewrite (liveApply live es) }
    else c
  | _, _ => c

/-- BOOT_SLOT_SELECT (R411): the trial start count advances, or the slot falls back. -/
def Chan.bootSelect (c : Chan) (changes : Bool) : Chan :=
  match c.upd.find [0, 1] .trial with
  | none => c.restoreKeep
  | some n =>
    if 3 ≤ (c.upd.slot n).trials then c.fallBack.restoreKeep
    else ({ c with upd := c.upd.updSlot n (fun x => { x with trials := x.trials + 1 }) }).convertFormat changes

/-! Release (R59, R60) -/

/-- Every release condition of R59 holds. -/
def Chan.releasable (c : Chan) : Bool :=
  c.sys.cstate = .held && c.pwr.dom = 0x1F#5 && c.clk.laneLock && c.clk.pllLock && c.clk.qual && c.clk.divRun &&
  !c.sys.released && !c.sys.hrst && !c.sys.barred

/-- CLOCK_TRIP (Table 3-13). -/
def ClockBlk.tripWord (k : ClockBlk) : Word := BitVec.ofNat 32 (k.tripCount * 16777216 + k.tripSrc * 256 + k.tripKind)

/-- CLOCK_WATCH (Table 3-12). -/
def ClockBlk.watchWord (k : ClockBlk) : Word := BitVec.ofNat 32 (k.qatt * 16777216 + k.cal)

/-- A monitor-trip fallback is recorded in the chronicle at the channel's next start (R87). -/
def Chan.logTrip (c : Chan) : Chan :=
  if c.clk.tripNew then
    ({ c with clk := { c.clk with tripNew := false } }).log 0x06 (payW [c.clk.tripWord, c.clk.watchWord])
  else c

/-- The released channel: reeve running, geographic address read, boot slot selected, S1 begun (R60, R62, R411, R468). -/
def Chan.releaseReeve (c : Chan) (ga : Nat) (changes : Bool) : Chan :=
  let c := { c with
    sys := { c.sys with cstate := .testing, released := true, reeveState := 0, kickTime := c.now }
    assay := { c.assay with ga := ga % 64, step := 1, result := 3 }
    clk := c.clk.switchTest true
    host := { c.host with flag := c.host.flag.raiseIf c.sys.hrstSeen 5 } }
  let c := { c with
    sys := { c.sys with hrstSeen := false }
    chron := if c.chron.ready then c.chron else c.chron.scan }
  c.logTrip.bootSelect changes

/-- REEVE_RELEASE: in time the channel is released, and the module enters M2 with the second one; late it stays HELD and LATE is set. -/
def execReeveRelease (ch : Ch) (ga : Nat) (late : Bool) (s : State) : Out :=
  if !(s.chan ch).releasable then .next s
  else if late then
    onChan s ch (fun c => { c with sys := { c.sys with modeFlag := c.sys.modeFlag.raise 2, barred := true } })
  else
    let bit := Config.freeBit s.free
    .next ((s.tick.upd ch (fun c => c.releaseReeve ga bit)).remode)

/-! Assay (R62 to R70) -/

/-- Code of a cell finding (ASSAY_CELL). -/
def findCode : CellFind → Nat
  | .ok => 0 | .core0 => 1 | .core1 => 2 | .comparator => 3 | .delay => 4

/-- Nibble `n` of ASSAY_CELL. -/
def cellNib (w : Word) (n : Nat) : Nat := w.toNat / 16 ^ n % 16

/-- Set nibble `n`. -/
def setNib (w : Word) (n v : Nat) : Word := BitVec.ofNat 32 (w.toNat - cellNib w n * 16 ^ n + v * 16 ^ n)

/-- Findings of S2 (first part) and S3 (which completes the tests): ASSAY_CELL, retired cells shown apart (R65 to R67). -/
def Chan.cellFinds (c : Chan) (last : Bool) (fs : List CellFind) : Chan :=
  let one (w : Word) (n : Nat) : Word :=
    let f := findCode ((fs[n]?).getD .ok)
    let old := cellNib w n
    let v := if old ≠ 15 && old ≠ 0 then old else if f ≠ 0 then f else if last then 0 else 15
    let v := if last && c.mram.retire.getLsbD n then (if v = 0 then 5 else 6) else v
    setNib w n v
  { c with assay := { c.assay with cell := (List.range 8).foldl one c.assay.cell } }

/-- A cell passed assay. -/
def Chan.cellPassed (c : Chan) (n : Nat) : Bool := cellNib c.assay.cell n = 0

/-- Cells whose test failed in this assay. -/
def Chan.failMask (c : Chan) : BitVec 8 :=
  (List.range 8).foldl (fun (m : BitVec 8) n =>
    let v := cellNib c.assay.cell n
    if v ≠ 0 && v ≠ 5 && v ≠ 15 then m ||| (1#8 <<< n) else m) 0#8

/-- The ASSAY_STAT word. -/
def AssayBlk.stat (a : AssayBlk) : Word :=
  BitVec.ofNat 32 (a.step * 268435456 + a.result * 16777216 + a.njCnt % 256 * 65536 + a.eligible.toNat)

/-- ASSAY_MEM[n]. -/
def AssayBlk.memWord (a : AssayBlk) (n : Nat) : Word :=
  let m := atD (false, 0, 0) n a.mem
  BitVec.ofNat 32 (m.1.toNat * 2147483648 + m.2.1 * 256 + m.2.2)

/-- An ASSAY record (Table 16-1). -/
def Chan.logAssay (c : Chan) : Chan :=
  c.log 0x07 (payW [c.assay.stat, c.assay.cell, c.assay.memWord 0, c.assay.memWord 1, c.assay.memWord 2, BitVec.setWidth 32 c.assay.retireShown])

/-- A cell that fails at two consecutive starts is retired (R67). -/
def Chan.retireTwice (c : Chan) : Chan :=
  let f := c.failMask
  let m := c.mram
  let new := f &&& m.afail &&& ~~~ m.retire
  let c := { c with
    mram := { m with afail := f, retire := m.retire ||| new }
    assay := { c.assay with retireShown := m.retire ||| new } }
  if new = 0#8 then c else c.logAssay

/-- Spare rows of an array (R64): 4 per 256 KiB array, 64 per dynamic bank. -/
def spares (mem : Nat) : Nat := if mem = 2 then 64 else 4

/-- One memory finding of S4 or S5 (R64). -/
def Chan.memFind (c : Chan) (f : MemFind) : Chan :=
  let bad := f.bad || spares f.mem < f.used
  let a := { c.assay with
    mem := modAt (fun (m : Bool × Nat × Nat) => (m.1 || bad, max m.2.1 (min f.used 255), m.2.2 + (if 0 < f.used then 1 else 0))) f.mem c.assay.mem
    failed := c.assay.failed || bad }
  let c := { c with assay := a }
  if spares f.mem < 2 * f.used then ({ c with assay := { a with flag := a.flag.raise 0 } }).logAssay else c

/-- Usable cells outside the split mask (R69, R70). -/
def Chan.usableBonded (c : Chan) (split : BitVec 8) : Nat :=
  ((List.range 8).filter (fun n => c.cellPassed n && !c.mram.retire.getLsbD n && !split.getLsbD n)).length

/-- The split mask of the configuration: none in compatibility personality (R44). -/
def Chan.cfgSplit (c : Chan) : BitVec 8 := if c.cfgN 0x1001 1 = 1 then 0#8 else BitVec.ofNat 8 (c.cfgN 0x2001 1)

/-- Assay ends: eligible under R70. -/
def Chan.endAssay (c : Chan) : Chan :=
  let ok := !c.assay.failed && !c.assay.missedS7 && c.cfgN 0x2001 2 ≤ c.usableBonded c.cfgSplit
  { c with
    assay := { c.assay with done := !c.assay.failed, eligible := ok }
    sys := { c.sys with cstate := if c.assay.failed then c.sys.cstate else .ready } }

/-- The content of one step's result. -/
def Chan.stepResult (c : Chan) (r : AssayFind) : Chan :=
  let n := c.assay.step
  let c := match n with
    | 2 => c.cellFinds false r.cells
    | 3 => (c.cellFinds true r.cells).retireTwice
    | 4 => r.mems.foldl (fun (c : Chan) f => if MemFind.mem f ≤ 1 then c.memFind f else c) c
    | 5 => r.mems.foldl (fun (c : Chan) f => if MemFind.mem f = 2 then c.memFind f else c) c
    | _ => c
  let bad := !r.pass || ((n = 1 || n = 7) && r.stuckOn)
  { c with assay := { c.assay with
    failed := c.assay.failed || bad
    stuckOn := c.assay.stuckOn || ((n = 1 || n = 7) && r.stuckOn)
    attempts := 0
    result := if c.assay.failed || bad then 1 else 0 } }

/-- Go on to the next step (R62); S1 and S3 switch multiplexers 0 to 5 at their start and end (Table 3-4, R89). -/
def Chan.nextStep (c : Chan) : Chan :=
  let n := c.assay.step
  if n < 6 then
    { c with
      assay := { c.assay with step := n + 1, result := 3 }
      clk := if onTestClock n then c.clk.testDone.switchTest false else if onTestClock (n + 1) then c.clk.testDone.switchTest true else c.clk.testDone }
  else if n = 6 then { c with assay := { c.assay with s6done := true } }
  else c.endAssay

/-- Channels released for this start: TESTING or READY. -/
def State.candidates (s : State) : List Ch :=
  allCh.filter (fun c => (s.chan c).sys.released && (s.view c == .testing || s.view c == .ready))

/-- Channels that take part in this start: released, and with a way over class 1 to another one (Table 6-7, M2: what coordinates the assay
and agrees the decision goes over class 1). -/
def State.starters (s : State) : List Ch :=
  s.candidates.filter (fun c => s.candidates.any (fun d => d != c && s.reach d c 1))

/-- S7 has begun somewhere. -/
def State.s7Begun (s : State) : Bool := allCh.any (fun c => 7 ≤ (s.chan c).assay.step)

/-- S7 begins in every channel that takes part and finished S6; the others are not eligible (R62). -/
def State.beginS7 (s : State) : State :=
  s.updAll (fun ch c =>
    if !(s.candidates.contains ch) then c
    else if c.assay.s6done && s.starters.contains ch then { c with assay := { c.assay with step := 7, result := 3 } }
    else { c with assay := { c.assay with missedS7 := true } })

/-- ASSAY_STEP_COMPLETE: a judged result; the next step, or S7 when every participating channel has finished S6. -/
def execAssayStepComplete (ch : Ch) (r : AssayFind) (s : State) : Out :=
  let c := s.chan ch
  if !(c.sys.cstate = .testing && c.assay.result = 3 && !c.assay.waiting && 1 ≤ c.assay.step) then .next s
  else
    let s1 := s.upd ch (fun c => (c.stepResult r).nextStep)
    if !s1.s7Begun && s1.starters.all (fun p => (s1.chan p).assay.s6done) && 2 ≤ s1.starters.length then .next s1.beginS7
    else .next s1

/-- S7_WAIT_LIMIT: 1,000 ms after the first channel finished S6, S7 begins without the others (R62). -/
def execS7WaitLimit (s : State) : Out :=
  guardC (!s.s7Begun && s.starters.any (fun p => (s.chan p).assay.s6done)) s s.beginS7

/-- ASSAY_STEP_ABANDON: a condition of R63 failed during the step. -/
def execAssayStepAbandon (ch : Ch) (s : State) : Out :=
  onChan s ch (fun c => if c.sys.cstate = .testing && c.assay.result = 3 && !c.assay.waiting then c.abandonStep else c)

/-- ASSAY_STEP_RETRY: 100 ms later the step starts again (R63). -/
def execAssayStepRetry (ch : Ch) (s : State) : Out :=
  onChan s ch (fun c =>
    if c.sys.cstate = .testing && c.assay.waiting then
      { c with
        assay := { c.assay with waiting := false, result := 3 }
        clk := if onTestClock c.assay.step then c.clk.testDone.switchTest true else c.clk }
    else c)

/-! Image verification at start (R407) -/

/-- A channel has finished its assay, whatever the result. -/
def Chan.assayOver (c : Chan) : Bool :=
  c.assay.done || c.assay.missedS7 || c.assay.result = 2 || (c.assay.step = 7 && c.assay.result ≠ 3)

/-- Verify the selected firmware and the STORED program, which must not break R139 either; the keys are compared with their fuses (R414, R422). -/
def Chan.verifyStart (c : Chan) (floor : Nat) : Chan :=
  let sha (n : Option Nat) : Option (List Byte) :=
    n.bind (fun i => let x := c.upd.slot i; if c.verifyCode x floor = 0 then x.man.map (·.sha) else none)
  { c with
    assay := { c.assay with fwSha := sha c.upd.selected, pgSha := sha (c.upd.storedSlot.filter c.programOk), verified := true }
    upd := { c.upd with rootOk := (c.key 0).isSome, custOk := (c.key 1).isSome } }

/-- A TRIAL slot that fails in two or more channels falls back, at the same start (R411). -/
def State.trialFails (s : State) (floor : Nat) : State :=
  let bad (ch : Ch) : Bool :=
    let c := s.chan ch
    s.starters.contains ch && c.assay.verified && c.assay.fwSha.isNone && (c.upd.find [0, 1] .trial).isSome
  if 2 ≤ (allCh.filter bad).length then
    s.updAll (fun ch c => if s.starters.contains ch && (c.upd.find [0, 1] .trial).isSome then
      let c := c.fallBack.restoreKeep
      if c.assay.verified then c.verifyStart floor else c else c)
  else s

/-- START_IMAGE_VERIFICATION (R407). -/
def execStartImageVerification (ch : Ch) (s : State) : Out :=
  let c := s.chan ch
  if !(s.starters.contains ch && c.assayOver && c.dict.ready && !c.assay.verified && !c.sys.decided.isSome && !c.tb.tickRun) then .next s
  else
    let f := s.secFloor ch
    .next ((s.upd ch (fun c => c.verifyStart f)).trialFails f)

/-! The start decision -/

/-- The value held by at least two of a list. -/
def agreeTwo {α : Type} [DecidableEq α] (l : List α) : Option α := l.find? (fun x => decide (2 ≤ (l.filter (fun y => decide (y = x))).length))

/-- The agreed verified firmware identity of the participating channels. -/
def State.agreedFw (s : State) : Option (List Byte) := agreeTwo (s.starters.filterMap (fun c => (s.chan c).assay.fwSha))

/-- The agreed verified STORED program: none unless two hold it with equal SHA, its FWVER is met, and its kind suits the personality (R407, R437). -/
def State.agreedProgram (s : State) : Option (List Byte) :=
  match agreeTwo (s.starters.filterMap (fun c => (s.chan c).assay.pgSha)) with
  | none => none
  | some sha =>
    match s.starters.find? (fun c => (s.chan c).assay.pgSha == some sha) with
    | none => none
    | some q =>
      let c := s.chan q
      let man := (c.upd.storedSlot.bind (fun n => (c.upd.slot n).man)).getD factoryManifest
      let compat := c.cfgN 0x1001 1 = 1
      if c.runFw < man.fwver then none
      else if compat && !(man.kind = 3 && 2 ≤ (s.starters.filter (fun x => (s.chan x).compat.list.isSome)).length) then none
      else if !compat && man.kind ≠ 2 then none
      else some sha

/-- The translation digest on which two participating channels agree (R443); a channel whose digest differs is not eligible. -/
def State.agreedDigest (s : State) : Option (List Byte) :=
  agreeTwo ((s.starters.filter (fun x => (s.chan x).compat.list.isSome)).map (fun x => (s.chan x).compat.digest))

/-- The channel's translation differs from two agreeing ones. -/
def State.digestDiffers (s : State) (ch : Ch) : Bool :=
  match s.agreedDigest with
  | some d => (s.chan ch).compat.tstate ≠ 0 && (s.chan ch).compat.digest ≠ d
  | none => false

/-- A participating channel is eligible for the start (R70, R407, R417, R443). -/
def State.eligibleCh (s : State) (ch : Ch) : Bool :=
  let c := s.chan ch
  s.starters.contains ch && c.assay.eligible && !c.upd.fuseBad && !s.digestDiffers ch &&
  (match s.agreedFw with | some f => c.assay.fwSha == some f | none => false) &&
  (match agreeTwo (s.starters.filterMap (fun x => (s.chan x).assay.pgSha)) with | some p => c.assay.pgSha == some p | none => true)

/-- The hallmark of a channel as the start decision computes it (R389, R392). -/
def State.startHallmark (s : State) (ch : Ch) : Word :=
  match s.agreedProgram with
  | some sha => (s.chan ch).hallmarkWith sha (s.chan ch).storedProgram
  | none => (s.chan ch).hallmarkWith (List.replicate 32 0#8) none

/-- No two equal live-set digests among the participating channels (R386). -/
def State.noLiveMajority (s : State) : Bool := (agreeTwo (s.starters.map (fun c => (s.chan c).dict.ldig))).isNone

/-- The start decision of R71, with R68 first. -/
def State.decision (s : State) : Proposal :=
  let p := s.starters
  let el := p.filter s.eligibleCh
  let lead := s.chan ((el.head?).getD s.leader)
  let h := s.startHallmark ((el.head?).getD s.leader)
  if p.any (fun c => (s.chan c).assay.stuckOn) then ⟨.m11, 0x0B⟩
  else if p.any (fun c => (s.chan c).mram.recovery) || s.agreedFw.isNone then ⟨.m3, 0x0E⟩
  else if el.length < 2 then ⟨.m10, if 2 ≤ (p.filter (fun c => (s.chan c).assay.result = 2)).length then 0x07 else 0x06⟩
  else if lead.cfgN 0x1040 3 = 0 || lead.cfgF 0x1040 5 then ⟨.m4, 0x0F⟩
  else if lead.cfgN 0x1040 2 ≠ h.toNat || s.noLiveMajority || s.agreedProgram.isNone then ⟨.m10, 0x05⟩
  else if lead.cfgN 0x1001 1 = 1 then ⟨.m6, 0⟩
  else if lead.cfgF 0x4400 1 then ⟨.m5, 0⟩
  else if el.length = 3 then ⟨.m7, 0⟩ else ⟨.m8, 0⟩

/-- Tick period code of a period in µs. -/
def periodCode (us : Nat) : Nat := if us = 125 then 0 else if us = 250 then 1 else if us = 500 then 2 else if us = 1000 then 3 else 4

/-- The window layout of the view (R463): entries in list order, each at the next multiple of 4; an absent object takes 4 octets. -/
def viewLayout (p : Option Program) : Nat → List (Nat × Nat) → List ViewEnt
  | _, [] => []
  | off, a :: r =>
    match Chan.viewSize p a.1 a.2 with
    | some x => ⟨off, x.1, a.1, a.2, true⟩ :: viewLayout p (off + (x.1 + 3) / 4 * 4) r
    | none => ⟨off, 4, a.1, a.2, false⟩ :: viewLayout p (off + 4) r

/-- An output network in M6 (R445): bound to bit 0 of output word n, safe state OFF, quench 48 ms, tested, wiring 0; STO networks are not bound. -/
def legacyOut (i : Nat) : OutCfg := ⟨true, i < 16, 0, 0, 0, 48, i < 16, 0, if i < 16 then i else 0, 0⟩

/-- The shepherd computes the identity of its copy (R241): where it differs from the node's, it enables nothing and SHEP_BAD is set. -/
def MillBlk.shepCheck (m : MillBlk) : MillBlk :=
  let ok := decide (schedIdent m.shepP m.shepLen m.shepWins = m.sched)
  { m with shepValid := ok, flag := m.flag.raiseIf (!ok) 7 }

/-- The configuration that a channel takes at the start decision, CLOCK_CLKOUT with it (R107 says only that the start sequence loads it:
DESIGN CHOICE, log entry 114), in M6 with the settings of Table 17-1 (R19, R91, R102, R107, R137, R173, R196, R217, R252, R273, R296, R297, R349, R367, R437). -/
def Chan.loadConfig (c : Chan) (ch : Ch) (p : Option Program) (compat : Bool) : Chan :=
  let pub := c.cfgPubs.filter (fun q => match ch with | .A => q.planeA | .B => q.planeB | .C => false)
  let c := { c with
    sys := { c.sys with
      minBonded := c.cfgN 0x2001 2
      split := c.cfgSplit
      sramSplit := c.cfgN 0x2001 3
      dramSplit := c.cfgN 0x2001 4 }
    tb := { c.tb with
      period := if compat then 3 else periodCode c.cfgP
      tickOfs := if compat then 0 else c.cfgN 0x1021 2
      src := if compat then 0 else c.cfgN 0x1022 1
      jump := c.cfgN 0x1022 2 }
    sl := { c.sl with cutoff := c.cfgN 0x2030 1, ovrLimit := if compat then 1 else c.cfgN 0x2030 2 }
    vote := { c.vote with proofH := c.cfgN 0x2400 1 }
    ecn := { c.ecn with
      pubs := if compat then [] else pub
      subs := if compat then [] else c.cfgSubs
      pubSeq := []
      lastSeq := []
      ip := BitVec.ofNat 32 (c.cfgN 0x2C00 (match ch with | .A => 1 | .B => 3 | .C => 8))
      prefixLen := c.cfgN 0x2C00 (match ch with | .A => 2 | .B => 4 | .C => 9)
      vlan := (match ch with | .A => c.cfgN 0x2C00 5 | .B => c.cfgN 0x2C00 6 | .C => 0)
      mdCom := BitVec.ofNat 32 (c.cfgN 0x2C00 7)
      domain := c.cfgN 0x2C00 12
      consist := c.cfgB 0x2C01 1 }
    bridge := { c.bridge with
      collect := c.cfgN 0x4000 1 / 10
      life := c.cfgN 0x4000 2
      wired := c.cfgF 0x4000 3
      routes := c.cfgRoutes
      moves := c.cfgMoves }
    pair := { c.pair with cfg := if compat then .init else c.cfgPair, repSec := c.mram.opsec, cycle1 := [], cycle3 := [] }
    field := { c.field with
      nets := (c.field.nets.zipIdx).map (fun (x : NetRt × Nat) => { x.1 with cfg := if compat then legacyOut x.2 else c.cfgOut x.2 })
      inCfg := (List.range 32).map (fun i =>
        if compat then (0, ((c.compat.list.map (fun (l : LList) => l.filt)).getD 0) * 1000)
        else (bitsN (c.cfgN 0x4801 (i + 1)) 17 16, bitsN (c.cfgN 0x4801 (i + 1)) 13 0))
      typ := if compat then (c.compat.list.map (fun (l : LList) => l.type3)).getD 0#4 else (List.range 4).foldl (fun (t : BitVec 4) g => if c.cfgN 0x4800 (g + 1) = 3 then t ||| (1#4 <<< g) else t) 0#4
      lvl := 0#32
      filt := List.replicate 32 0
      tested := List.replicate 72 c.now
      rstIn := c.cfgN 0x4C02 1
      sto0 := if compat then .init else { StoRt.init with
        disc := bitsN (c.cfgN 0x4C01 1) 31 24
        fbEn := (c.cfgN 0x4C01 1).testBit 23
        fbPol := (c.cfgN 0x4C01 1).testBit 22
        fbIn := bitsN (c.cfgN 0x4C01 1) 21 16 }
      sto1 := if compat then .init else { StoRt.init with
        disc := bitsN (c.cfgN 0x4C01 2) 31 24
        fbEn := (c.cfgN 0x4C01 2).testBit 23
        fbPol := (c.cfgN 0x4C01 2).testBit 22
        fbIn := bitsN (c.cfgN 0x4C01 2) 21 16 } }
    sd := { c.sd with
      pref := (match c.cfgN 0x5000 1 with | 0 => .A | 1 => .B | _ => .C)
      pinEn := c.cfgF 0x5000 2
      pinFall := c.cfgF 0x5000 3
      ins := (c.sd.ins.zipIdx).map (fun (x : SdIn × Nat) => { x.1 with cfg := c.cfgSd x.2 }) } }
  let c := { c with mvb := { c.mvb with dev := c.cfgN 0x2C80 1, ports := if compat then c.mvb.ports else c.cfgMvb } }
  let c := { c with mill := { c.mill with tmarks1 := c.cfgMarks .r1, tmarks2 := c.cfgMarks .r2 } }
  let c := match ch with
    | .C => c
    | _ =>
      let r : Ring := if ch = Ch.A then .r1 else .r2
      { c with mill := { c.mill with
        addr := c.cfgAddr r
        role := c.cfgN 0x2800 (if ch = Ch.A then 1 else 3)
        len := c.cfgN (ringBase r) 2
        sched := c.cfgSched r
        wins := c.cfgWins r
        noAddr := c.cfgNoAddr r
        shepWins := c.cfgWins r
        shepLen := c.cfgN (ringBase r) 2
        shepP := c.cfgP
        shepLocked := true
        binds := c.cfgBinds r
        nsub := (ringSubs ch p).length
        subs := ringSubs ch p
        marks := c.cfgMarks r }.shepCheck }
  let vs := viewLayout p 0x8000 c.cfgView
  let c := { c with host := { c.host with
    view := vs
    legacy := c.cfgN 0x1001 1 = 1
    flag := c.host.flag.raiseIf (vs.any (fun v => !v.present)) 7 } }
  c.loadClkout ch

/-- R376: journal values replace the initial retained values that R142 loads. -/
def Chan.journalRetained (c : Chan) (p : Program) : Chan :=
  (p.objs.filter (fun o => (0x8000 ≤ o.index || within 0x3800 0x3FFF o.index) && (o.cls == 1 || o.cls == 2))).foldl (fun (c : Chan) (o : ObjDecl) =>
    match c.dict.stored 1 o.ident.toNat with
    | none => c
    | some e =>
      let ws := octetsElems o.typ e.val
      { c with sl := c.sl.updTask o.task (fun t => { t with rsPub := t.rsPub.take o.word ++ ws ++ t.rsPub.drop (o.word + ws.length) }) }) c

/-- The program is loaded into bank 0, its areas laid out and its defaults set (R140, R142, R197, R376). -/
def Chan.loadProgram (c : Chan) (p : Program) : Chan :=
  let c := { c with
    sl := { c.sl with prog := some p, tasks := p.tasks.map TaskRt.start }
    assay := { c.assay with pgSha := some p.sha }
    chg := { c.chg with bank := 0 } }
  (c.fillBank 0 p).journalRetained p

/-- Usable cells start (R17, R112, R137): bonded, or split by the mask; the others stay unusable. In M3 all stay in reset (Table 4-16).
RUNNING shows the cells released for application work (Table 4-4). -/
def Chan.startCells (c : Chan) (m : Mode) (work : Bool) : Chan :=
  { c with cells := (List.range 8).map (fun n =>
      let usable := c.cellPassed n && !c.mram.retire.getLsbD n && m != .m3
      { CellSt.init with
        mode := if !usable then .unusable else if c.sys.split.getLsbD n then .split else .bonded
        running := usable && work }) }

/-- The tick generator starts at the first boundary at least 2 µs after the alignment (R105). -/
def TimeBlk.startTick (t : TimeBlk) (ns : Nat) : TimeBlk :=
  let t := t.alignTo ns
  let p := periodNs t.period
  let now := t.acc.toNat / 4294967296
  let k := (now + 2000 - t.tickOfs + p - 1) / p
  { t with
    tickRun := true
    started := false
    aligned := true
    dstate := .free
    rate := 0
    trim := 0
    f := 0
    k := k
    c := 0
    bk := t.tickOfs + k * p
    held := []
    step := 0
    used := (match t.src with | 1 => 1 | 2 => 2 | 3 => 1 | 4 => 3 | 5 => 4 | 6 => 3 | _ => 0)
    usedAt := 0
    lastValid := [none, none, none, none]
    smpOwn := 0#64
    smpList := []
    lastApplied := none }

/-- The firmware identity of a START record. -/
def Chan.fwImg (c : Chan) : Word := ((c.assay.fwSha).map (fun h => BitVec.ofNat 32 (leAt h 0 4))).getD 0#32

/-- A participating channel at the decision. -/
def Chan.atDecision (c : Chan) (ch : Ch) (d : Proposal) (elig : Bool) (mask : Nat) (h : Word) (ns : Nat) (p : Option Program) (ga : Option Nat) (allPass : Bool) : Chan :=
  let running := d.mode.runs
  let c := { c with
    host := { c.host with
      ga := ga.getD 63
      gaValid := ga.isSome
      flag := c.host.flag.raiseIf ga.isNone 6 }
    mram := { c.mram with proofAt := if allPass then c.mram.opsec else c.mram.proofAt }
    dict := { c.dict with hallStart := h }
    sl := { c.sl with rise := List.replicate 32 0#32, fall := List.replicate 32 0#32 } }
  let c := c.loadConfig ch p (d.mode = .m6)
  let c := match p with
    | some q => if running then c.loadProgram q else c
    | none => c
  let c := c.startCells d.mode (running && elig)
  let c := if (d.mode = .m5 || d.mode = .m7 || d.mode = .m8) && elig && ch ≠ Ch.C && !c.mill.noAddr then { c with mill := { c.mill with nstate := .linking, coil := true } } else c
  let c := { c with
    tb := c.tb.startTick ns
    sys := { c.sys with decided := some d, cstate := if running && !elig then .out else c.sys.cstate } }
  c.log 0x03 (leB 1 d.mode.num ++ leB 1 d.cause ++ leB 1 mask ++ leB 1 0 ++ payW [c.assay.cell, h, c.fwImg])

/-- An ineligible channel repairs the slots that failed from a peer that class 4 brings, for the next start: the firmware slots, or the program
slots (R407). -/
def State.repairSlots (s : State) : State :=
  s.updAll (fun ch c =>
    match s.starters.find? (fun q => s.eligibleCh q && s.reach q ch 4) with
    | none => c
    | some q =>
      if s.starters.contains ch && !s.eligibleCh ch then
        let u := (s.chan q).upd
        let fw := c.assay.fwSha ≠ (s.chan q).assay.fwSha
        let pg := c.assay.pgSha ≠ (s.chan q).assay.pgSha
        { c with upd := { c.upd with slots := (c.upd.slots.zipIdx).map (fun (x : ImgSlot × Nat) =>
          if (fw && decide (x.2 ≤ 1)) || (pg && decide (2 ≤ x.2 ∧ x.2 ≤ 3)) then u.slot x.2 else x.1) } }
      else c)

/-- A released channel that no link reaches at the decision: not eligible, and unable to follow it, it is OUT until the next start (R51, R71;
DEDUCED, log entry 124). -/
def Chan.cutOff (c : Chan) : Chan := { c with sys := { c.sys with cstate := .out } }

/-- START_DECISION (R71, R95, R105, R392, R468): taken once every participating channel has finished its assay, its verification and its
journal scan. Each channel aligns to the largest time base value that class 1 brings it (R95). -/
def execStartDecision (s : State) : Out :=
  let p := s.starters
  let ready := 2 ≤ p.length && p.all (fun c => (s.chan c).assayOver && (s.chan c).assay.verified && (s.chan c).dict.ready && (s.chan c).sys.decided.isNone && !(s.chan c).tb.tickRun)
  if !(ready && s.mode = .m2) then .next s
  else
    let d := s.decision
    let el := p.filter s.eligibleCh
    let mask := el.foldl (fun m c => m + 2 ^ chCode c) 0
    let ns (ch : Ch) : Nat := ((p.filter (fun c => s.reach c ch 1)).map (fun c => (s.chan c).now)).foldl max 0
    let ga := agreeTwo (p.map (fun c => (s.chan c).assay.ga))
    let pass := p.length = 3 && p.all (fun c => (s.chan c).assay.done)
    let prog (ch : Ch) : Option Program :=
      if s.agreedProgram.isNone then none
      else if d.mode = .m6 then (s.chan ch).sl.prog else (s.chan ch).storedProgram
    let t := s.repairSlots
    .next (t.updAll (fun ch c =>
      let c := if s.digestDiffers ch then { c with compat := { c.compat with tstate := 3, treason := 7 } } else c
      if s.candidates.contains ch && !(p.contains ch) then c.cutOff
      else if p.contains ch then c.atDecision ch d (el.contains ch) mask (s.startHallmark ch) (ns ch) (prog ch) ga pass else c) |> State.sdStart)

end Sys2Proof.Machine
end

