-- ==== Sys2Proof/Machine/Cells.lean ====
section
/-! DEFINITION. Cores: retiring an instruction, traps, slice faults, cell halts, custom CSRs, waits and interrupts (R109 to R117, R126 to R130, R188). -/

namespace Sys2Proof.Machine
open Sys2Proof

/-- Value of register `n` (R109: x0 reads 0). -/
def CoreSt.reg (k : CoreSt) (n : Nat) : Word := if n = 0 then 0#32 else atD 0#32 (n - 1) k.x

/-- Write register `n`; x0 discards. -/
def CoreSt.setReg (k : CoreSt) (n : Nat) (v : Word) : CoreSt := if n = 0 then k else { k with x := modAt (fun _ => v) (n - 1) k.x }

/-- mip.MEIP: the OR of the enabled pending bits of tkirq (R116). -/
def CoreSt.meip (k : CoreSt) : Bool := (k.irqE &&& k.irqP) ≠ 0#11

/-- mstatus (R110, R112). -/
def CoreSt.mstatus (k : CoreSt) : Word :=
  BitVec.ofNat 32 (k.mie.toNat * 8 + k.mpie.toNat * 128 + (if k.mppM then 6144 else 0) + k.mprv.toNat * 131072 + k.tw.toNat * 2097152)

/-- mie: MEIE only (R114). -/
def CoreSt.mieWord (k : CoreSt) : Word := if k.meie then 0x800#32 else 0#32

/-- mip: MEIP only (R114). -/
def CoreSt.mipWord (k : CoreSt) : Word := if k.meip then 0x800#32 else 0#32

/-- The 41 sample words of R129. -/
def CoreSt.samples (k : CoreSt) : List Word :=
  k.x ++ [k.pc, k.mstatus, k.mieWord, k.mipWord, k.mtvec, k.mscratch, k.mepc, k.mcause, k.mtval, k.slice]

/-- The core is live: main core of a bonded cell or core of a split cell, not halted, in a channel state whose cells run (Tables 2-1
and 4-16). -/
def Chan.coreLive (c : Chan) (h : Nat) : Bool :=
  let x := c.cell (h / 2)
  let k := c.core h
  h < 16 && (x.mode == .split || (x.mode == .bonded && h % 2 == 0)) && !k.halted &&
  (c.sys.cstate == .voting || c.sys.cstate == .config || (c.sys.cstate == .maint && k.freed))

/-- The core may execute an instruction: it is live and waits for nothing. -/
def Chan.coreRuns (c : Chan) (h : Nat) : Bool := c.coreLive h && (c.core h).waiting == .none

/-- After an instruction under single step the core halts again (R131). -/
def CoreSt.endStep (k : CoreSt) : CoreSt :=
  if k.stepping then { k with stepping := false, halted := true, dcause := 4, dpc := k.pc } else k

/-- Behind an instruction of `n` octets. -/
def CoreSt.behind (n : Nat) (j : CoreSt) : CoreSt := { j with pc := j.pc + BitVec.ofNat 32 n, instret := j.instret + 1#64 }.endStep

/-- Retire an instruction of `n` octets with its effect on the core. -/
def Chan.retireBy (c : Chan) (h n : Nat) (f : CoreSt → CoreSt) : Chan := c.updPair h (fun k => (f k).behind n)

/-- Retire an instruction of 4 octets. -/
def Chan.retire (c : Chan) (h : Nat) (f : CoreSt → CoreSt) : Chan := c.retireBy h 4 f

/-- Exceptions that are slice faults in a bonded cell (Table 4-2). -/
def isSliceFault (cause : Nat) : Bool := [1, 2, 3, 4, 5, 6, 7, 24, 25, 26].contains cause

/-- A core takes a trap to mtvec in direct mode (R110, R114; privileged architecture 1.12). -/
def CoreSt.trap (k : CoreSt) (cause tval : Word) : CoreSt :=
  { k with
    mepc := k.pc
    mcause := cause
    mtval := tval
    mpie := k.mie
    mie := false
    mppM := !k.user
    user := false
    pc := k.mtvec &&& 0xFFFFFFFC#32 }.endStep

/-- An exception of hart `h`: the trap, and in a bonded cell with a current slice the slice fault that ends it (R114, R115). -/
def Chan.exception (c : Chan) (h cause : Nat) (tval : Word) : Chan :=
  let k := c.core h
  let bonded := (c.cell (h / 2)).mode == .bonded
  let fault := bonded && isSliceFault cause && k.slice ≠ 0#32
  let c := c.updPair h (fun k => k.trap (BitVec.ofNat 32 cause) tval)
  if fault then
    (c.updPair h (fun k => { k with slice := 0#32, posts := [] })).sliceFault (h / 2) k.slice cause
  else c

/-- A trigger matches an access of a kind (tdata1 bit 2 execute, 1 store, 0 load) at an address: type 2 mcontrol, enabled for the privilege,
an equal address (debug specification 0.13.2; log entry 23). -/
def Trigger.fires (t : Trigger) (user : Bool) (kind a : Nat) : Bool :=
  t.tdata1.toNat / 268435456 == 2 && t.tdata1.getLsbD kind && t.tdata1.getLsbD (if user then 3 else 6) &&
  !t.tdata1.getLsbD 19 && t.tdata1.toNat / 128 % 16 == 0 && t.tdata2.toNat == a

/-- The first trigger of a hart that matches. -/
def Chan.hit (c : Chan) (h kind a : Nat) : Option Trigger :=
  let k := c.core h
  k.trig.find? (fun (t : Trigger) => t.fires k.user kind a)

/-- A trigger fires before its access: action 1 enters debug mode, any other raises a breakpoint exception, whose mtval is pc (Table 4-2). -/
def Chan.trigFire (c : Chan) (h : Nat) (t : Trigger) : Chan :=
  if t.tdata1.toNat / 4096 % 16 = 1 then c.updPair h (fun k => { k with halted := true, dcause := 2, dpc := k.pc, stepping := false })
  else c.exception h 3 (c.core h).pc

/-- A cell in CONFIG runs the boot ROM's idle loop from its start, with no slice (Table 4-16). -/
def CellSt.idleLoop (x : CellSt) : CellSt := { CellSt.init with mode := x.mode, cap := x.cap }

/-! Cell halts (R127, R129, R188) -/

/-- 720 h in operating seconds (R67). -/
def haltWindow : Nat := 2592000

/-- The cell's halt goes to MRAM; the third within 720 h writes its retire bit at once (R67). -/
def Mram.halt (m : Mram) (n : Nat) : Mram :=
  let hs := m.halts ++ [(n, m.opsec)]
  let recent := (hs.filter (fun x => x.1 == n && m.opsec < x.2 + haltWindow)).length
  { m with halts := hs, retire := if 3 ≤ recent then m.retire ||| (1#8 <<< n) else m.retire }

/-- Bonded cells that still run. -/
def Chan.bondedCount (c : Chan) : Nat := c.bondedCells.length

/-- SYSCTL_CMP_CAP of a cell (Table 4-18). -/
def CellSt.capWord (x : CellSt) : Word :=
  match x.cap with
  | none => 0#32
  | some p => BitVec.ofNat 32 (2147483648 + p.sig.toNat * 1073741824 + (if p.sig then 0 else p.groups.toNat))

/-- A bonded cell is halted by a mismatch: capture, record, slice back to the queue, cell in reset, notice below the minimum. -/
def Chan.haltCell (c : Chan) (ch : Ch) (n : Nat) (sig : Bool) (groups : BitVec 13) : Chan :=
  let x := c.cell n
  if x.mode ≠ .bonded then c
  else
    let k := x.core0
    let h := k.slice
    let debug := c.sys.mode = .m9 && (k.halted || k.freed)
    let cap : CmpCap := ⟨sig, groups, k.pc⟩
    let x1 : CellSt := { CellSt.init with mode := .halted, cap := some ((x.cap).getD cap) }
    let c : Chan := { c.updCell n (fun _ => x1) with
      sys := { c.sys with cmp := c.sys.cmp.raise (if sig then 8 + n else n) }
      mram := c.mram.halt n
      assay := { c.assay with retireShown := (c.mram.halt n).retire }
      dbg := { c.dbg with flag := c.dbg.flag.raiseIf debug 2 } }
    let c : Chan := c.logHw 0x08 (leB 1 n ++ leB 1 0 ++ leB 2 0 ++ payW [x1.capWord, k.pc, h])
    let c : Chan := if h = 0#32 then c else c.sliceFault n h (if sig then 0xF1 else 0xF0)
    if c.bondedCount < c.sys.minBonded then c.notice ch 0x05 else c

/-- COMPARATOR_MISMATCH (R127). -/
def execComparatorMismatch (ch : Ch) (cell : Nat) (groups : BitVec 13) (s : State) : Out :=
  onChan s ch (fun c => if groups = 0#13 then c else c.haltCell ch cell false groups)

/-! The comparator (R126, Table 4-12) -/

/-- A core takes the external interrupt: pending, enabled, and not masked by the mode (R114, R116). -/
def CoreSt.acks (k : CoreSt) : Bool := k.meip && k.meie && (k.mie || k.user)

/-- What a core sends in a cycle without an access: nothing while it waits, its acknowledge when it takes an interrupt, else its fetch. -/
def CoreSt.fetchOut (k : CoreSt) : CoreOut :=
  if k.waiting ≠ .none then .idle else if k.acks then ⟨0#32, 0#32, 0#32, 128#8⟩ else ⟨k.pc, 0#32, 0#32, 1#8⟩

/-- The groups in which two copies differ: the octets of the three words from G0 on, and G12. -/
def diffGroups (a b : CoreOut) : BitVec 13 :=
  let g (x y : Word) (n : Nat) : Nat := ((List.range 4).filter (fun i => octetOf x i != octetOf y i)).foldl (fun m i => m + 2 ^ (n + i)) 0
  BitVec.ofNat 13 (g a.fetch b.fetch 0 + g a.addr b.addr 4 + g a.data b.data 8 + (if a.ctl = b.ctl then 0 else 4096))

/-- The groups in which the copies of a bonded cell differ in what they send, idle cycles and interrupt acknowledges included. The checker
repeats the main core's stream at once, so what both send now is what stage 2 and the checker send two cycles on (DEDUCED, log entry 123). -/
def Chan.copies (c : Chan) (h : Nat) : BitVec 13 :=
  let x := c.cell (h / 2)
  if x.mode = .bonded then diffGroups x.core0.fetchOut x.core1.fetchOut else 0#13

/-- An instruction of hart `h`: the comparator sees both copies, and a trigger on the address comes first (R126, R131). -/
def Chan.fetch (c : Chan) (ch : Ch) (h : Nat) (f : Chan → Chan) : Chan :=
  if c.copies h ≠ 0#13 then c.haltCell ch (h / 2) false (c.copies h)
  else match c.hit h 2 (c.core h).pc.toNat with
    | some t => c.trigFire h t
    | none => f c

/-- A guard for commands that a core executes. -/
def coreCmd (s : State) (ch : Ch) (h : Nat) (f : Chan → Chan) : Out :=
  guardC ((s.chan ch).coreRuns h) s (s.upd ch (fun c => c.fetch ch h f))

/-- The slice engine's signature request to every running bonded cell at a boundary (R129, Table 4-16): both cores, which stand between two
instructions then, copy their sample sets into the snapshot buffers. -/
def Chan.requestSigs (c : Chan) : Chan :=
  if (c.sys.mode.runs && c.sys.cstate = .voting) || (c.sys.mode = .m9 && c.sys.cstate = .maint) then
    { c with cells := c.cells.map (fun (x : CellSt) =>
        if x.mode = .bonded then { x with sigReq := true, snap0 := x.core0.samples, snap1 := x.core1.samples } else x) }
  else c

/-- SIGNATURE_COMPARE (R129): the signatures of a bonded cell's two snapshots, little-endian, and a halt on a difference. -/
def execSignatureCompare (ch : Ch) (cell : Nat) (s : State) : Out :=
  onChan s ch (fun c =>
    let x := c.cell cell
    if x.mode ≠ .bonded || !x.sigReq then c
    else
      let a := crc64 (wordBytes x.snap0)
      let b := crc64 (wordBytes x.snap1)
      let c := c.updCell cell (fun y => { y with core0 := { y.core0 with sig := a }, core1 := { y.core1 with sig := b }, sigReq := false })
      if a = b then c else c.haltCell ch cell true 0#13)

/-! Exceptions by command (R114) -/

def execEcall (ch : Ch) (hart : Nat) (s : State) : Out :=
  coreCmd s ch hart (fun c => c.exception hart (if (c.core hart).user then 8 else 11) 0#32)

/-- EBREAK traps, or enters debug mode where dcsr.ebreakm or ebreaku is set (Table 4-2). -/
def execEbreak (ch : Ch) (hart : Nat) (s : State) : Out :=
  coreCmd s ch hart (fun c =>
    let k := c.core hart
    if (if k.user then k.ebreaku else k.ebreakm) then
      c.updPair hart (fun k => { k with halted := true, dcause := 1, dpc := k.pc, stepping := false })
    else c.exception hart 3 k.pc)

def execIllegalInstruction (ch : Ch) (hart : Nat) (bits : Word) (s : State) : Out :=
  coreCmd s ch hart (fun c => c.exception hart 2 bits)

def execInstructionAccessFault (ch : Ch) (hart : Nat) (addr : Word) (s : State) : Out :=
  coreCmd s ch hart (fun c => c.exception hart 1 addr)

/-- EXTERNAL_INTERRUPT (R114, R116): taken when pending, enabled, and not masked by the mode; the comparator sees both acknowledges. -/
def execExternalInterrupt (ch : Ch) (hart : Nat) (s : State) : Out :=
  guardC ((s.chan ch).coreRuns hart) s (s.upd ch (fun c =>
    if c.copies hart ≠ 0#13 then c.haltCell ch (hart / 2) false (c.copies hart)
    else if (c.core hart).acks then c.updPair hart (fun k => k.trap 0x8000000B#32 0#32) else c))

/-! FENCE, waits -/

/-- FENCE waits for earlier stores, which this model performs at once (Table 4-1). -/
def execFence (ch : Ch) (hart : Nat) (s : State) : Out := coreCmd s ch hart (fun c => c.retire hart id)

/-- FENCE.I: the FENCE action, then the core's instruction cache is invalidated (Table 4-1). -/
def execFenceI (ch : Ch) (hart : Nat) (s : State) : Out := coreCmd s ch hart (fun c => c.retire hart (fun k => { k with icache := [] }))

/-- WFI: a wait for mip & mie ≠ 0; illegal in U mode with mstatus.TW = 1 (Table 4-1). -/
def execWfi (ch : Ch) (hart : Nat) (s : State) : Out :=
  coreCmd s ch hart (fun c =>
    let k := c.core hart
    if k.user && k.tw then c.exception hart 2 0x10500073#32
    else if k.meip && k.meie then c.retire hart id
    else c.updPair hart (fun k => { k with waiting := .wfi }))

/-- The condition that ends tk.wait (Table 4-8). -/
def CoreSt.waitOver (k : CoreSt) : Bool := k.irqP.getLsbD 0 || k.irqP.getLsbD 2 || k.meip

/-- A live core's wait ends: its condition holds. -/
def Chan.waitEnds (c : Chan) (h : Nat) : Bool :=
  let k := c.core h
  c.coreLive h && ((k.waiting == .tkWait && k.waitOver) || (k.waiting == .wfi && k.meip && k.meie))

/-- TK_WAIT_RESUME: a waiting core goes on once its condition holds. -/
def execTkWaitResume (ch : Ch) (hart : Nat) (s : State) : Out :=
  onChan s ch (fun c => if c.waitEnds hart then (c.updPair hart (fun k => { k with waiting := .none })).retire hart id else c)

/-! CSRs -/

/-- tkcell (Table 4-4). -/
def Chan.tkcell (c : Chan) (h : Nat) : Word :=
  let x := c.cell (h / 2)
  BitVec.ofNat 32 (h / 2 * 16 + (if x.mode = .split then h % 2 * 4 + 2 else 0) + x.running.toNat)

/-- tkirq (Table 4-5). -/
def CoreSt.tkirq (k : CoreSt) : Word := BitVec.ofNat 32 (k.irqP.toNat * 65536 + k.irqE.toNat)

/-- Bits of tkirq that exist: AVAIL, BOUND, MARK[7:0]. -/
def irqBits : BitVec 11 := 0x7FD#11

/-- A write of tkirq: pending bits are W1C, enables RW. -/
def CoreSt.setTkirq (k : CoreSt) (w : Word) : CoreSt :=
  { k with
    irqP := k.irqP &&& ~~~ (BitVec.ofNat 11 (w.toNat / 65536))
    irqE := BitVec.ofNat 11 w.toNat &&& irqBits }

/-- A custom CSR's value; none for an address that is not implemented (Table 4-3). -/
def Chan.customCsr (c : Chan) (ch : Ch) (h csr : Nat) : Option Word :=
  let k := c.core h
  match csr with
  | 0x7C0 => some (BitVec.ofNat 32 (chCode ch))
  | 0x7C1 => some (c.tkcell h)
  | 0x7C2 => some k.tkirq
  | 0x7C4 => some (BitVec.setWidth 32 k.sig)
  | 0x7C5 => some (BitVec.setWidth 32 (k.sig >>> (32 : Nat)))
  | 0x800 => some k.slice
  | _ => none

/-- Low or high word of a 64-bit value. -/
def half (v : Nat) (hi : Bool) : Word := BitVec.ofNat 32 (if hi then v / 4294967296 else v)

/-- Trigger `n` of a core. -/
def CoreSt.trigger (k : CoreSt) (n : Nat) : Trigger := atD ⟨0#32, 0#32⟩ n k.trig

/-- dcsr (debug specification 0.13.2): version 4, ebreakm, ebreaku, cause, step, prv. -/
def CoreSt.dcsr (k : CoreSt) : Word :=
  BitVec.ofNat 32 (0x40000000 + k.ebreakm.toNat * 32768 + k.ebreaku.toNat * 4096 + k.dcause * 64 + k.stepping.toNat * 4 + (if k.user then 0 else 3))

/-- CSRs that the privileged architecture 1.12 requires of a machine with M and U modes and that have nothing to show here: mstatush,
menvcfg, menvcfgh, mconfigptr, and the machine counters and events 3 to 31; they read 0 (PRESUMED, log entry 122). -/
def isZeroCsr (n : Nat) : Bool :=
  [0x30A, 0x310, 0x31A, 0xF15].contains n || (0xB03 ≤ n && n ≤ 0xB1F) || (0xB83 ≤ n && n ≤ 0xB9F) || (0x323 ≤ n && n ≤ 0x33F)

/-- A CSR of hart `h` as its own reads show it (Tables 4-1, 4-3, R111); none for one that does not exist. -/
def Chan.csrValue (c : Chan) (ch : Ch) (h n : Nat) : Option Word :=
  let k := c.core h
  match n with
  | 0x300 => some k.mstatus
  | 0x301 => some 0x40901104#32
  | 0x304 => some k.mieWord
  | 0x305 => some k.mtvec
  | 0x306 => some k.mcounteren
  | 0x340 => some k.mscratch
  | 0x341 => some k.mepc
  | 0x342 => some k.mcause
  | 0x343 => some k.mtval
  | 0x344 => some k.mipWord
  | 0x7A0 => some (BitVec.ofNat 32 k.tselect)
  | 0x7A1 => some (k.trigger k.tselect).tdata1
  | 0x7A2 => some (k.trigger k.tselect).tdata2
  | 0xF11 => some 0#32
  | 0xF12 => some 0#32
  | 0xF13 => some 0x00032410#32
  | 0xF14 => some (BitVec.ofNat 32 h)
  | 0xC00 => some (half k.cycle.toNat false)
  | 0xC01 => some (half c.now false)
  | 0xC02 => some (half k.instret.toNat false)
  | 0xC80 => some (half k.cycle.toNat true)
  | 0xC81 => some k.timeh
  | 0xC82 => some (half k.instret.toNat true)
  | 0xB00 => some (half k.cycle.toNat false)
  | 0xB02 => some (half k.instret.toNat false)
  | 0xB80 => some (half k.cycle.toNat true)
  | 0xB82 => some (half k.instret.toNat true)
  | _ => if isZeroCsr n then some 0#32 else c.customCsr ch h n

/-- Replace one half of a 64-bit counter. -/
def setHalf (v : W64) (hi : Bool) (w : Word) : W64 :=
  if hi then BitVec.ofNat 64 (w.toNat * 4294967296 + v.toNat % 4294967296) else BitVec.ofNat 64 (v.toNat / 4294967296 * 4294967296 + w.toNat)

/-- A CSR write as a core takes it; read-only registers ignore it (Tables 4-1, 4-3). -/
def CoreSt.writeCsr (k : CoreSt) (split : Bool) (n : Nat) (w : Word) : CoreSt :=
  match n with
  | 0x300 => { k with
      mie := w.getLsbD 3
      mpie := w.getLsbD 7
      mppM := w.getLsbD 12 && w.getLsbD 11
      mprv := w.getLsbD 17
      tw := w.getLsbD 21 }
  | 0x304 => { k with meie := w.getLsbD 11 }
  | 0x305 => { k with mtvec := w &&& 0xFFFFFFFC#32 }
  | 0x306 => if split then { k with mcounteren := w &&& 7#32 } else k
  | 0x340 => { k with mscratch := w }
  | 0x341 => { k with mepc := w &&& 0xFFFFFFFE#32 }
  | 0x342 => { k with mcause := w }
  | 0x343 => { k with mtval := w }
  | 0x7A0 => if w.toNat < 4 then { k with tselect := w.toNat } else k
  | 0x7A1 => { k with trig := modAt (fun (t : Trigger) => { t with tdata1 := w }) k.tselect k.trig }
  | 0x7A2 => { k with trig := modAt (fun (t : Trigger) => { t with tdata2 := w }) k.tselect k.trig }
  | 0x7B0 => { k with ebreakm := w.getLsbD 15, ebreaku := w.getLsbD 12, user := !(w.getLsbD 0 && w.getLsbD 1) }
  | 0x7B1 => { k with dpc := w &&& 0xFFFFFFFE#32 }
  | 0x7C2 => k.setTkirq w
  | 0xB00 => { k with cycle := setHalf k.cycle false w }
  | 0xB02 => { k with instret := setHalf k.instret false w }
  | 0xB80 => { k with cycle := setHalf k.cycle true w }
  | 0xB82 => { k with instret := setHalf k.instret true w }
  | _ => k

/-- The user-mode counters of R111. -/
def isCounter (n : Nat) : Bool := (0xC00 ≤ n && n ≤ 0xC02) || (0xC80 ≤ n && n ≤ 0xC82)

/-- A core may access a CSR: its privilege suffices, a read-only address (bits 11:10 set) is not written, a user-mode read of a counter
has its bit of mcounteren, which is hard-wired 0 in a bonded cell (R111, R117). -/
def Chan.csrAllowed (c : Chan) (h n : Nat) (write : Bool) : Bool :=
  let k := c.core h
  (!k.user || n / 256 % 4 == 0) && !(write && n / 1024 == 3) &&
  (!(isCounter n && k.user) || ((c.cell (h / 2)).mode == .split && k.mcounteren.getLsbD (n % 128)))

/-- A read of time latches timeh into the core's shadow (R111). -/
def CoreSt.latchTime (k : CoreSt) (n now : Nat) : CoreSt := if n = 0xC01 then { k with timeh := half now true } else k

/-- A CSR instruction of hart `h`: the old value to `rd`, then the write, if any; refused it is an illegal instruction. -/
def Chan.csrExec (c : Chan) (ch : Ch) (h rd n : Nat) (write : Option Word) (bits : Word) : Chan :=
  match c.csrValue ch h n with
  | none => c.exception h 2 bits
  | some v =>
    if !c.csrAllowed h n write.isSome then c.exception h 2 bits
    else
      let now := c.now
      let split := (c.cell (h / 2)).mode == .split
      c.retire h (fun k =>
        let k := (k.setReg rd v).latchTime n now
        match write with
        | none => k
        | some w => k.writeCsr split n w)

/-- The bits of a CSR instruction: csrrs with x0 for a read, csrrw for a write, whose source register the command does not give (a free value). -/
def encCsr (rd n : Nat) (write : Bool) (free : Word) : Word :=
  BitVec.ofNat 32 (n % 4096 * 1048576 + (if write then free.toNat % 32 else 0) * 32768 + (if write then 1 else 2) * 4096 + rd % 32 * 128 + 0x73)

/-- CUSTOM_CSR_ACCESS (R117): any CSR that a core may name. -/
def execCustomCsrAccess (ch : Ch) (hart rd csr : Nat) (write : Bool) (value : Word) (s : State) : Out :=
  let bits := encCsr rd csr write (Config.freeWord s.free)
  guardC ((s.chan ch).coreRuns hart) s (s.tick.upd ch (fun c => c.fetch ch hart (fun c =>
    c.csrExec ch hart rd csr (if write then some value else none) bits)))

/-- CSR_TIME_READ (R111): cycle, time, instret and their high halves; any other number is an illegal instruction here. -/
def execCsrTimeRead (ch : Ch) (hart rd csr : Nat) (s : State) : Out :=
  let bits := encCsr rd csr false 0#32
  coreCmd s ch hart (fun c => if isCounter csr then c.csrExec ch hart rd csr none bits else c.exception hart 2 bits)

end Sys2Proof.Machine
end

