-- ==== Sys2Proof/Machine/Yarlos.lean ====
section
/-! DEFINITION. What the one slice of L0 does: the block list in list order, the output bank and its copy (R440 to R442). -/

namespace Sys2Proof.Machine
open Sys2Proof

/-- Words of a port's data by its F-code. -/
def portWords (f : Nat) : Nat := (fcodeLen f + 3) / 4

/-- Source ports and sink ports, in port-list order. -/
def LList.sources (l : LList) : List (Nat × Nat × Bool × Nat) := l.mvb.filter (fun p => p.2.2.1)
def LList.sinks (l : LList) : List (Nat × Nat × Bool × Nat) := l.mvb.filter (fun p => !p.2.2.1)

/-- Image words of a list of ports. -/
def wordsOf (ps : List (Nat × Nat × Bool × Nat)) : Nat := ps.foldl (fun n p => n + portWords p.2.1) 0

/-- The first variable behind the last source port word: the host words. -/
def LList.hostVar (l : LList) : Nat := match l.sources.getLast? with | some p => p.2.2.2 + portWords p.2.1 | none => 16

/-- Output words: the digital outputs, the source port words, the host words. -/
def LList.outLen (l : LList) : Nat := 16 + wordsOf l.sources + l.nhost

/-- Retained words: variables, tunables, the copy of the output bank, block state. -/
def LList.rsLen (l : LList) : Nat := l.nvar + l.ntune + l.outLen + l.blocks.foldl (fun n b => n + Config.yarlosState b.typ) 0

/-- The variables, tunables, output copy and block state as the retained bank of L0 holds them, in this order (log entry 108). -/
structure LMem where
  vars : List Word
  tunes : List Word
  copy : List Word
  states : List Word
deriving DecidableEq, Repr

/-- The retained bank read. -/
def LList.mem (l : LList) (rs : List Word) : LMem :=
  ⟨fixW l.nvar rs, fixW l.ntune (rs.drop l.nvar), fixW l.outLen (rs.drop (l.nvar + l.ntune)), rs.drop (l.nvar + l.ntune + l.outLen)⟩

/-- The retained bank written. -/
def LMem.bank (m : LMem) : List Word := m.vars ++ m.tunes ++ m.copy ++ m.states

/-- A reference (R440): input bit (levels in the first input word, fresh flags of the sink ports' sources), input word, variable, constant,
tunable. -/
def LList.ref (l : LList) (t : TaskRt) (m : LMem) (r : Nat) : Word :=
  let i := r % 4096
  match r / 4096 with
  | 0 =>
    if i < 32 then ((atD 0#32 0 t.inImg >>> i) &&& 1#32)
    else
      let w := 1 + wordsOf (l.sinks.take (i - 32))
      if i - 32 < l.sinks.length && (atD 0#8 w t.qual).getLsbD 0 then 1#32 else 0#32
  | 1 => atD 0#32 (1 + i) t.inImg
  | 2 => atD 0#32 i m.vars
  | 3 => atD 0#32 i l.consts
  | _ => atD 0#32 i m.tunes

/-- One block (R441): its inputs as they stand, the constants from PAR on and its own state; its variable and its state follow. What a
block type computes is the library's, which the spec does not give (log entry 15). -/
def LList.block (l : LList) (t : TaskRt) (m : LMem) (at_ : Nat) (b : LBlock) : LMem :=
  let n := Config.yarlosState b.typ
  let r := Config.yarlosBlock l.fver b.typ b.retained (l.consts.drop b.par) (b.ins.map (l.ref t m)) ((m.states.drop at_).take n)
  { m with vars := modAt (fun _ => r.1) b.out m.vars, states := copyW r.2 at_ n m.states }

/-- The list, every block exactly once in list order (R441); `at_` is where the next block's state lies. -/
def LList.blocksFrom (l : LList) (t : TaskRt) : Nat → List LBlock → LMem → LMem
  | _, [], m => m
  | at_, b :: bs, m => l.blocksFrom t (at_ + Config.yarlosState b.typ) bs (l.block t m at_ b)

/-- The output bank from the variables (R442): output words 0 to 15 as 1 or 0, the source port words, the host words. -/
def LList.outBank (l : LList) (vars : List Word) : List Word :=
  (List.range 16).map (fun n => if atD 0#32 n vars = 0#32 then 0#32 else 1#32) ++
  l.sources.flatMap (fun p => (List.range (portWords p.2.1)).map (fun j => atD 0#32 (p.2.2.2 + j) vars)) ++
  (List.range l.nhost).map (fun j => atD 0#32 (l.hostVar + j) vars)

/-- What the slice of L0 leaves in its working banks (R442): at a cycle release the list is run and the output bank formed, with its copy
in retained state; at any other release the copy goes to the output slice and nothing else changes. -/
def LList.slice (l : LList) (t : TaskRt) : TaskRt :=
  let m := l.mem t.rsPub
  if (t.releases - 1) % 4 = 0 then
    let m := l.blocksFrom t 0 l.blocks m
    let out := l.outBank m.vars
    { t with outWork := out, rsWork := fixW t.rsPub.length { m with copy := out }.bank }
  else { t with outWork := m.copy, rsWork := t.rsPub }

/-- L0's slice complete (R442): its working banks are what R441 and R442 make of them. The code that the translator writes is opaque, so
the effect of its stores stands where the slice is reported (log entry 108). -/
def Chan.l0Slice (c : Chan) (h : Word) : Chan :=
  match c.sl.prog, c.compat.list with
  | some p, some l => if p.legacy && hTask h = 0 then { c with sl := c.sl.updTask 0 l.slice } else c
  | _, _ => c

end Sys2Proof.Machine
end

