-- ==== Sys2Proof/Machine/Xtok.lean ====
section
/-! DEFINITION. The Xtok instructions: image access, release values, timers, slice queue, waits, tags (R118 to R125, R153 to R157, R164). -/

namespace Sys2Proof.Machine
open Sys2Proof

/-! Encodings (Table 4-10), for mtval -/

/-- I format on custom-0. -/
def encI (f3 rd rs1 : Nat) (imm : BitVec 12) : Word :=
  BitVec.ofNat 32 (imm.toNat * 1048576 + rs1 % 32 * 32768 + f3 * 4096 + rd % 32 * 128 + 0x0B)

/-- R format on custom-0, funct3 0b111. -/
def encR (f7 rd rs1 rs2 : Nat) : Word :=
  BitVec.ofNat 32 (f7 * 33554432 + rs2 % 32 * 1048576 + rs1 % 32 * 32768 + 7 * 4096 + rd % 32 * 128 + 0x0B)

/-- S format on custom-1. -/
def encS (f3 rs1 rs2 : Nat) (imm : BitVec 12) : Word :=
  BitVec.ofNat 32 (imm.toNat / 32 * 33554432 + rs2 % 32 * 1048576 + rs1 % 32 * 32768 + f3 * 4096 + imm.toNat % 32 * 128 + 0x2B)

/-! Slice context -/

/-- The task and instance of a handle. -/
def Chan.ctx (c : Chan) (h : Word) : Option (TaskRt × Inst) :=
  match c.sl.task (hTask h) with
  | none => none
  | some t => t.inst.map (fun i => (t, i))

/-- The core is in a split cell. -/
def Chan.splitCore (c : Chan) (h : Nat) : Bool := (c.cell (h / 2)).mode == .split

/-- An image or timer instruction (R120): illegal in a split cell, mcause 25 without a slice, otherwise `f` with the slice's context. -/
def Chan.withSlice (c : Chan) (h : Nat) (bits : Word) (f : Word → TaskRt → Inst → Chan) : Chan :=
  if c.splitCore h then c.exception h 2 bits
  else
    let hd := (c.core h).slice
    match c.ctx hd with
    | none => c.exception h 25 bits
    | some (t, i) => if hd = 0#32 then c.exception h 25 bits else f hd t i

/-- index = x[rs1] + sign-extended imm (R119), modulo 2^32. -/
def CoreSt.index (k : CoreSt) (rs1 : Nat) (imm : BitVec 12) : Word := k.reg rs1 + imm.signExtend 32

/-- The index is not negative and below the bound (R120). -/
def idxOk (ix : Word) (bound : Nat) : Bool := ix.msb = false && ix.toNat < bound

/-- An image load of `rd` from a list, or mcause 24. -/
def Chan.imgLoad (c : Chan) (h rd : Nat) (ix : Word) (l : List Word) : Chan :=
  if idxOk ix l.length then c.retire h (fun k => k.setReg rd (atD 0#32 ix.toNat l)) else c.exception h 24 ix

/-- tk.ldin: the frozen input image. -/
def execTkLdin (ch : Ch) (hart rd rs1 : Nat) (imm : BitVec 12) (s : State) : Out :=
  coreCmd s ch hart (fun c => c.withSlice hart (encI 0 rd rs1 imm) (fun _ t _ => c.imgLoad hart rd ((c.core hart).index rs1 imm) t.inImg))

/-- tk.ldfr: the freshness qualifiers. -/
def execTkLdfr (ch : Ch) (hart rd rs1 : Nat) (imm : BitVec 12) (s : State) : Out :=
  coreCmd s ch hart (fun c => c.withSlice hart (encI 1 rd rs1 imm) (fun _ t _ =>
    c.imgLoad hart rd ((c.core hart).index rs1 imm) (t.qual.map (fun b => BitVec.setWidth 32 b))))

/-- The slice's own retained-state slice as at release. -/
def TaskRt.ownRs (t : TaskRt) (h : Word) : List Word :=
  let n := (t.decl.stage (hStage h)).rsW
  (t.rsPub.drop (t.decl.rsBase (hStage h) + hSlice h * n)).take n

/-- tk.ldrs: retained state as committed before the release (R121). -/
def execTkLdrs (ch : Ch) (hart rd rs1 : Nat) (imm : BitVec 12) (s : State) : Out :=
  coreCmd s ch hart (fun c => c.withSlice hart (encI 2 rd rs1 imm) (fun h t _ => c.imgLoad hart rd ((c.core hart).index rs1 imm) (t.ownRs h)))

/-- The stage that a word of the stage-output area belongs to. -/
def TaskDecl.stageOf (d : TaskDecl) (ix : Nat) : Nat :=
  ((List.range d.last).filter (fun st => d.soBase (st + 1) ≤ ix)).length

/-- tk.ldso: committed outputs of earlier stages; mcause 26 for the current or a later stage. -/
def execTkLdso (ch : Ch) (hart rd rs1 : Nat) (imm : BitVec 12) (s : State) : Out :=
  coreCmd s ch hart (fun c => c.withSlice hart (encI 3 rd rs1 imm) (fun h t _ =>
    let ix := (c.core hart).index rs1 imm
    if !idxOk ix t.stageOut.length then c.exception hart 24 ix
    else
      let st := t.decl.stageOf ix.toNat
      if hStage h ≤ st then c.exception hart 26 (BitVec.ofNat 32 st)
      else c.retire hart (fun k => k.setReg rd (atD 0#32 ix.toNat t.stageOut))))

/-- A store of one word of the working banks: output slice. -/
def TaskRt.storeOut (t : TaskRt) (h : Word) (ix : Nat) (v : Word) : TaskRt :=
  let n := (t.decl.stage (hStage h)).outW
  if hStage h = t.decl.last then { t with outWork := modAt (fun _ => v) (hSlice h * n + ix) t.outWork }
  else { t with stageOut := modAt (fun _ => v) (t.decl.soBase (hStage h) + hSlice h * n + ix) t.stageOut }

/-- A store of one word of the retained-state slice in the working bank. -/
def TaskRt.storeRs (t : TaskRt) (h : Word) (ix : Nat) (v : Word) : TaskRt :=
  let n := (t.decl.stage (hStage h)).rsW
  { t with rsWork := modAt (fun _ => v) (t.decl.rsBase (hStage h) + hSlice h * n + ix) t.rsWork }

/-- tk.stout. -/
def execTkStout (ch : Ch) (hart rs1 rs2 : Nat) (imm : BitVec 12) (s : State) : Out :=
  coreCmd s ch hart (fun c => c.withSlice hart (encS 0 rs1 rs2 imm) (fun h t _ =>
    let k := c.core hart
    let ix := k.index rs1 imm
    if !idxOk ix (t.decl.stage (hStage h)).outW then c.exception hart 24 ix
    else { c.retire hart id with sl := c.sl.updTask (hTask h) (fun t => t.storeOut h ix.toNat (k.reg rs2)) }))

/-- tk.strs. -/
def execTkStrs (ch : Ch) (hart rs1 rs2 : Nat) (imm : BitVec 12) (s : State) : Out :=
  coreCmd s ch hart (fun c => c.withSlice hart (encS 1 rs1 rs2 imm) (fun h t _ =>
    let k := c.core hart
    let ix := k.index rs1 imm
    if !idxOk ix (t.decl.stage (hStage h)).rsW then c.exception hart 24 ix
    else { c.retire hart id with sl := c.sl.updTask (hTask h) (fun t => t.storeRs h ix.toNat (k.reg rs2)) }))

/-- A value of Table 4-9 for a release. Selector 6 counts the releases before the present one: R442 and R444 put a release with selector 6
mod 4 = 0 at c mod 16 = 0, the first at c = 0 (log entry 108). -/
def relValue (sel : Nat) (stamp k : Nat) (t : Option TaskRt) : Word :=
  match sel with
  | 0 => half stamp false
  | 1 => half stamp true
  | 2 => half k false
  | 3 => half k true
  | 4 => BitVec.ofNat 32 ((t.map (fun x => x.decl.num)).getD 0)
  | 5 => BitVec.ofNat 32 ((t.map (fun x => x.decl.period)).getD 0)
  | _ => BitVec.ofNat 32 ((t.map (fun x => x.releases - 1)).getD 0)

/-- tk.rdrel (R123). -/
def execTkRdrel (ch : Ch) (hart rd rs1 : Nat) (imm : BitVec 12) (s : State) : Out :=
  coreCmd s ch hart (fun c =>
    let hd := (c.core hart).slice
    if 6 < imm.toNat || rs1 ≠ 0 then c.exception hart 2 (encI 4 rd rs1 imm)
    else match (if hd = 0#32 then none else c.ctx hd) with
      | some (t, i) => c.retire hart (fun k => k.setReg rd (relValue imm.toNat i.stamp i.relK (some t)))
      | none =>
        if c.splitCore hart then c.retire hart (fun k => k.setReg rd (relValue imm.toNat c.tb.latest.1 c.tb.latest.2 none))
        else c.exception hart 25 (encI 4 rd rs1 imm))

/-- Post a timer operation of the current slice. -/
def Chan.postOp (c : Chan) (h : Nat) (op : TimerOp) : Chan := c.retire h (fun k => { k with posts := k.posts ++ [op] })

/-- tk.tmstart: identity 0 or duration 0 raises mcause 24, whose mtval, a word index, the instruction has none of: a free value. -/
def execTkTmstart (ch : Ch) (hart rs1 rs2 : Nat) (s : State) : Out :=
  let w := Config.freeWord s.free
  guardC ((s.chan ch).coreRuns hart) s (s.tick.upd ch (fun c => c.fetch ch hart (fun c => c.withSlice hart (encR 0 0 rs1 rs2) (fun _ _ i =>
    let k := c.core hart
    if k.reg rs1 = 0#32 || k.reg rs2 = 0#32 then c.exception hart 24 w
    else c.postOp hart (.start (k.reg rs1) (k.reg rs2) i.stamp)))))

/-- tk.tmstop. -/
def execTkTmstop (ch : Ch) (hart rs1 : Nat) (s : State) : Out :=
  let w := Config.freeWord s.free
  guardC ((s.chan ch).coreRuns hart) s (s.tick.upd ch (fun c => c.fetch ch hart (fun c => c.withSlice hart (encR 1 0 rs1 0) (fun _ _ _ =>
    let k := c.core hart
    if k.reg rs1 = 0#32 then c.exception hart 24 w else c.postOp hart (.stop (k.reg rs1))))))

/-- tk.tmel: elapsed µs at the release stamp (R164). -/
def execTkTmel (ch : Ch) (hart rd rs1 : Nat) (s : State) : Out :=
  coreCmd s ch hart (fun c => c.withSlice hart (encR 2 rd rs1 0) (fun _ _ i =>
    let v := match i.timers.find? (fun t => t.id == (c.core hart).reg rs1) with
      | some t => BitVec.ofNat 32 (t.elapsed i.stamp)
      | none => 0#32
    c.retire hart (fun k => k.setReg rd v)))

/-- tk.tmst: 0 none, 1 running, 2 expired at the release stamp. -/
def execTkTmst (ch : Ch) (hart rd rs1 : Nat) (s : State) : Out :=
  coreCmd s ch hart (fun c => c.withSlice hart (encR 3 rd rs1 0) (fun _ _ i =>
    let v := match i.timers.find? (fun t => t.id == (c.core hart).reg rs1) with
      | some t => BitVec.ofNat 32 (t.stateAt i.stamp)
      | none => 0#32
    c.retire hart (fun k => k.setReg rd v)))

/-- What the engine would give a core's tk.next (R153, R154): the queues after it, the range, and whether it is gleaned. -/
def Chan.sliceFor (c : Chan) (h : Nat) : Option (List (List QRange) × QRange × Bool) :=
  let e := c.sl
  if c.splitCore h then e.next e.cq h 16 (fun n => n / 2) (fun n => (c.cell (n / 2)).mode == .halted)
  else e.next e.q (h / 2) 8 id (fun n => (c.cell n).mode == .halted)

/-- The core's request for a slice would be met by gleaning (R154). -/
def Chan.wouldGlean (c : Chan) (h : Nat) : Bool :=
  match c.sliceFor h with
  | some (_, _, gl) => gl
  | none => false

/-- The engine's answer to tk.next of a core (R153), with SLICE_GLEAN_CNT of the thief (R154). -/
def Chan.takeSlice (c : Chan) (h : Nat) : Chan × Word :=
  let cap := c.splitCore h
  let e := c.sl
  match c.sliceFor h with
  | none => (c, 0#32)
  | some (q, g, gl) =>
    let e := if cap then { e with cq := q } else { e with q := q }
    let e := if gl then { e with glean := modAt satInc (h / 2) e.glean } else e
    ({ c with sl := e }, mkHandle g.task g.stage g.lo cap)

/-- tk.next: mcause 25 with a slice current, otherwise a handle or 0. -/
def execTkNext (ch : Ch) (hart rd : Nat) (s : State) : Out :=
  coreCmd s ch hart (fun c =>
    if (c.core hart).slice ≠ 0#32 then c.exception hart 25 (encR 8 rd 0 0)
    else
      let r := c.takeSlice hart
      r.1.retire hart (fun k => { k.setReg rd r.2 with slice := r.2, posts := [] }))

/-- tk.sdone: mcause 25 without a slice; otherwise it waits for SLICE_COMPLETE_REPORT. -/
def execTkSdone (ch : Ch) (hart : Nat) (s : State) : Out :=
  coreCmd s ch hart (fun c =>
    if (c.core hart).slice = 0#32 then c.exception hart 25 (encR 9 0 0 0)
    else c.updPair hart (fun k => { k with waiting := .sdone }))

/-- Stamp of the next tick boundary. -/
def Chan.nextB (c : Chan) : Nat := if c.tb.started then c.tb.bk + c.period else c.tb.bk

/-- After a completion: the notice at once when it is in time, otherwise after the boundary message (R157); a resynchronising channel sends none (R186). -/
def State.noticeDone (s : State) (ch : Ch) (n : Nat) : State :=
  let c := s.chan ch
  match c.sl.task n with
  | none => s
  | some t =>
    match t.inst with
    | none => s
    | some i =>
      if t.decl.cap || !i.complete || i.notices.contains ch || i.late then s
      else if c.now + 4000 ≤ c.nextB then
        if c.vote.state == .resync then s else
        (s.upd ch (fun c => { c with sl := c.sl.addNotice n i.due ch })).sendBoth ch (.notice n i.due)
      else s.upd ch (fun c => { c with sl := c.sl.updTask n (fun t => t.updInst (fun j => { j with late := true })) })

/-- SLICE_COMPLETE_REPORT (R155, R157): the slice's stores and posts are accepted, the slice is reported and the current slice cleared. -/
def execSliceCompleteReport (ch : Ch) (hart : Nat) (s : State) : Out :=
  let c := s.chan ch
  let k := c.core hart
  if !(c.coreLive hart && k.waiting == .sdone && k.slice ≠ 0#32) then .next s
  else
    let t := s.upd ch (fun c =>
      ((c.updPair hart (fun k => { k with waiting := .none, slice := 0#32, posts := [] })).retire hart id).l0Slice k.slice |>.sliceDone k.slice k.posts)
    .next (t.noticeDone ch (hTask k.slice))

/-- tk.wait: goes on at once when its condition already holds. -/
def execTkWait (ch : Ch) (hart : Nat) (s : State) : Out :=
  coreCmd s ch hart (fun c =>
    if (c.core hart).waitOver then c.retire hart id else c.updPair hart (fun k => { k with waiting := .tkWait }))

/-- tk.sid. -/
def execTkSid (ch : Ch) (hart rd : Nat) (s : State) : Out := coreCmd s ch hart (fun c => c.retire hart (fun k => k.setReg rd k.slice))

/-- tk.ptag. -/
def execTkPtag (ch : Ch) (hart rd : Nat) (s : State) : Out :=
  coreCmd s ch hart (fun c => c.retire hart (fun k => k.setReg rd (BitVec.ofNat 32 (c.tag (.core hart)))))

/-- The answer of tk.pchk: bit 0 read permitted, bit 1 write permitted, bit 2 mapped. -/
def Chan.rightsAt (c : Chan) (h a : Nat) : Word :=
  let r := c.verdict (.core h) false a
  let w := c.verdict (.core h) true a
  BitVec.ofNat 32 ((r == .served).toNat + (w == .served).toNat * 2 + (r != .unmapped).toNat * 4)

/-- tk.pchk: rights at an address without accessing it, with no flag and no count. -/
def execTkPchk (ch : Ch) (hart rd rs1 : Nat) (s : State) : Out :=
  coreCmd s ch hart (fun c => c.retire hart (fun k => k.setReg rd (c.rightsAt hart (k.reg rs1).toNat)))

end Sys2Proof.Machine
end

