-- ==== Sys2Proof/Machine/Debug.lean ====
section
/-! DEFINITION. The debug module and the test access port (R131 to R135, R489), but for its system bus and its program buffer. -/

namespace Sys2Proof.Machine
open Sys2Proof

/-- The debug port is disconnected from the chain during S1 (R132). -/
def Chan.tapCut (c : Chan) : Bool := c.sys.cstate = .testing && c.assay.step = 1 && c.assay.result = 3

/-- A DMI access (R132, R134): failed outside M9, refused with cmderr 7 while the log is full. -/
def Chan.dmi (c : Chan) (f : Chan → Chan) : Chan :=
  if c.sys.cstate = .off || c.tapCut then c
  else if c.sys.mode ≠ .m9 then { c with dbg := { c.dbg with dmiOp := 2, flag := c.dbg.flag.raise 1 } }
  else if 256 ≤ c.dbg.log.length then
    { c with dbg := { c.dbg with active := true, dmiOp := 0, cmderr := 7, flag := c.dbg.flag.raise 0 } }
  else f { c with dbg := { c.dbg with active := true, dmiOp := 0 } }

/-- Enter an action in the log (R133, Table 4-15). -/
def Chan.logAct (c : Chan) (hart kind : Nat) (whereW data : Word) : Chan :=
  let d := c.dbg
  { c with dbg := { d with
    log := d.log ++ [⟨d.seq, hart, kind, c.tb.k % 65536, whereW, data⟩]
    seq := (d.seq + 1) % 128
    logged := satInc d.logged } }

/-- A hart exists: there are 16 numbers, and the checker core of a bonded cell, one that a mismatch halted included, reports nonexistent (R131). -/
def Chan.hartExists (c : Chan) (h : Nat) : Bool :=
  let x := c.cell (h / 2)
  h < 16 && (h % 2 == 0 || x.mode == .split || (x.mode == .unusable && c.sys.split.getLsbD (h / 2)))

/-- A hart reports unavailable: its cell was halted or is in reset (R131, R135). -/
def Chan.hartUnavail (c : Chan) (h : Nat) : Bool :=
  c.hartExists h && !((c.cell (h / 2)).mode == .bonded || (c.cell (h / 2)).mode == .split)

/-- An action on a hart: one that does not exist or is unavailable takes none; `g` is what an unavailable hart leaves. -/
def Chan.onHartOr (c : Chan) (h : Nat) (g f : Chan → Chan) : Chan :=
  c.dmi (fun c =>
    let c := { c with dbg := { c.dbg with hartsel := h } }
    if !c.hartExists h then c else if c.hartUnavail h then g c else f c)

/-- A halt, resume, step or trigger action on a hart. -/
def Chan.onHart (c : Chan) (h : Nat) (f : Chan → Chan) : Chan := c.onHartOr h id f

/-- An abstract command ends with cmderr 4. -/
def Chan.cmdErr4 (c : Chan) : Chan := { c with dbg := { c.dbg with cmderr := 4 } }

/-- An abstract command, which needs its hart available (R135) and halted: cmderr 4 otherwise (debug specification 0.13.2). -/
def Chan.abstractCmd (c : Chan) (h : Nat) (f : Chan → Chan) : Chan :=
  c.onHartOr h Chan.cmdErr4 (fun c => if (c.core h).halted then f c else c.cmdErr4)

/-! What the debug transport and the debug module read as (Table 4-14; layouts of the debug specification 0.13.2) -/

/-- dtmcs: version 1 (0.13), abits 7, idle 2, and the status of the latest access. -/
def DebugBlk.dtmcs (d : DebugBlk) : Word := BitVec.ofNat 32 (1 + 7 * 16 + d.dmiOp * 1024 + 2 * 4096)

/-- dmcontrol: hartsel and dmactive; ndmreset and hartreset read 0. -/
def DebugBlk.dmcontrol (d : DebugBlk) : Word := BitVec.ofNat 32 (d.hartsel % 1024 * 65536 + d.active.toNat)

/-- abstractcs: a program buffer of 8 words, one data word, cmderr. -/
def DebugBlk.abstractcs (d : DebugBlk) : Word := BitVec.ofNat 32 (8 * 16777216 + d.cmderr * 256 + 1)

/-- dmstatus of the selected hart: version 2, authenticated, impebreak 0; nonexistent, unavailable, running or halted. -/
def Chan.dmstatus (c : Chan) : Word :=
  let h := c.dbg.hartsel
  let ex := c.hartExists h
  let un := c.hartUnavail h
  let ha := ex && !un && (c.core h).halted
  let ru := ex && !un && !(c.core h).halted
  BitVec.ofNat 32 (2 + 128 + ha.toNat * 768 + ru.toNat * 3072 + un.toNat * 12288 + (!ex).toNat * 49152)

/-- A command type other than Access Register, Quick Access (1) and Access Memory (2) among them, ends with cmderr 2. -/
def Chan.unsupportedCmd (c : Chan) (_cmdtype : Nat) : Chan := { c with dbg := { c.dbg with cmderr := 2 } }

def execDebugHaltRequest (ch : Ch) (hart : Nat) (s : State) : Out :=
  onChan s ch (fun c => c.onHart hart (fun c =>
    let pc := (c.core hart).pc
    (c.updPair hart (fun k => if k.halted then k else { k with halted := true, dcause := 3, dpc := k.pc })).logAct hart 0 pc 0#32))

def execDebugResumeRequest (ch : Ch) (hart : Nat) (s : State) : Out :=
  onChan s ch (fun c => c.onHart hart (fun c =>
    let pc := (c.core hart).dpc
    (c.updPair hart (fun k => if k.halted then { k with halted := false, freed := true, stepping := false, pc := k.dpc } else k)).logAct hart 1 pc 0#32))

/-- DEBUG_STEP: a halted hart resumes for one instruction. -/
def execDebugStep (ch : Ch) (hart : Nat) (s : State) : Out :=
  onChan s ch (fun c => c.onHart hart (fun c =>
    let pc := (c.core hart).dpc
    (c.updPair hart (fun k => if k.halted then { k with halted := false, freed := true, stepping := true, pc := k.dpc } else k)).logAct hart 2 pc 0#32))

/-- Register number of an abstract command: CSRs from 0, GPRs from 0x1000; a command of another type names none. -/
def regno : DbgReg → Nat
  | .gpr n => 0x1000 + n
  | .csr n => n
  | .other _ => 0

/-- A register as the debug module reads it; none for one that does not exist. -/
def Chan.dbgRead (c : Chan) (ch : Ch) (h : Nat) : DbgReg → Option Word
  | .gpr n => if n < 32 then some ((c.core h).reg n) else none
  | .csr n =>
    if n = 0x7B0 then some (c.core h).dcsr
    else if n = 0x7B1 then some (c.core h).dpc
    else c.csrValue ch h n
  | .other _ => none

/-- What an abstract command that names no register of its hart ends with: cmderr 3, and 2 for a type that is not supported (Table 4-14). -/
def Chan.badReg (c : Chan) : DbgReg → Chan
  | .other t => c.unsupportedCmd t
  | _ => { c with dbg := { c.dbg with cmderr := 3 } }

/-- DEBUG_REGISTER_READ: into data0, logged without replay (R133); a register that does not exist ends with cmderr 3. -/
def execDebugRegisterRead (ch : Ch) (hart : Nat) (r : DbgReg) (s : State) : Out :=
  onChan s ch (fun c => c.abstractCmd hart (fun c =>
    match c.dbgRead ch hart r with
    | none => c.badReg r
    | some v =>
      let now := c.now
      let c := match r with
        | .csr n => if n = 0xC01 then c.updPair hart (fun k => k.latchTime n now) else c
        | _ => c
      ({ c with dbg := { c.dbg with data0 := v } }).logAct hart 3 (BitVec.ofNat 32 (regno r)) v))

/-- DEBUG_REGISTER_WRITE: replayed into the checker (R133). -/
def execDebugRegisterWrite (ch : Ch) (hart : Nat) (r : DbgReg) (value : Word) (s : State) : Out :=
  onChan s ch (fun c => c.abstractCmd hart (fun c =>
    let c := { c with dbg := { c.dbg with data0 := value } }
    match c.dbgRead ch hart r with
    | none => c.badReg r
    | some _ =>
      let split := c.splitCore hart
      (c.updPair hart (fun k => match r with
        | .gpr n => k.setReg n value
        | .csr n => k.writeCsr split n value
        | .other _ => k)).logAct hart 4 (BitVec.ofNat 32 (regno r)) value))

/-- DEBUG_TRIGGER_WRITE: replayed; which of the two written words the one DATA word of the log holds the spec does not say. -/
def execDebugTriggerWrite (ch : Ch) (hart trig : Nat) (tdata1 tdata2 : Word) (s : State) : Out :=
  let d := if Config.freeBit s.free then tdata1 else tdata2
  .next (s.tick.upd ch (fun c => c.onHart hart (fun c =>
    if 4 ≤ trig then { c with dbg := { c.dbg with cmderr := 3 } }
    else (c.updPair hart (fun k => { k with trig := modAt (fun _ => ⟨tdata1, tdata2⟩) trig k.trig })).logAct hart 8 (BitVec.ofNat 32 trig) d)))

/-- DEBUG_LOG_0 of an entry (Table 4-15). -/
def LogEntry.word0 (e : LogEntry) : Word :=
  BitVec.ofNat 32 (2147483648 + e.seq % 128 * 16777216 + e.hart % 16 * 1048576 + e.kind % 16 * 65536 + e.tick % 65536)

/-- A read of DEBUG_LOG_0 is POP (R134, Table 0-4): the oldest entry leaves, its other words are held, and the reeve writes it to the chronicle. -/
def Chan.popLog (c : Chan) : Chan :=
  match c.dbg.log with
  | [] => c
  | e :: r =>
    ({ c with dbg := { c.dbg with log := r, log1 := e.whereW, log2 := e.data } }).log 0x0B (payW [e.word0, e.whereW, e.data])

/-- DEBUG_LOG_POP: a read of DEBUG_LOG_0. -/
def execDebugLogPop (ch : Ch) (ini : Initiator) (s : State) : Out :=
  onChan s ch (fun c => c.access ini false (blkBase 17 + 0x10) Chan.popLog)

/-- TAP_IDCODE (R132, R489): in every powered mode, but for S1. -/
def execTapIdcode (ch : Ch) (s : State) : Out :=
  onChan s ch (fun c =>
    if c.sys.cstate = .off || c.tapCut then c
    else ({ c with dbg := { c.dbg with tapId := true } }).emit (.tapShift 0x12410B47#32 32))

/-- TAP_BYPASS. -/
def execTapBypass (ch : Ch) (s : State) : Out :=
  onChan s ch (fun c =>
    if c.sys.cstate = .off || c.tapCut then c
    else ({ c with dbg := { c.dbg with tapId := false, tapBit := false } }).emit (.tapShift 0#32 1))

end Sys2Proof.Machine
end

