-- ==== Sys2Proof/Machine/Change.lean ====
section
/-! DEFINITION. The online program change: commands, verification, carry-over, the switch and the rollback (R197 to R212). -/

namespace Sys2Proof.Machine
open Sys2Proof

/-! Carried values (R199, R204, R205) -/

/-- Table 7-5: from one type code to a wider one. -/
def widens (a b : Nat) : Bool :=
  match a with
  | 1 => [2, 3, 4, 5].contains b
  | 2 => [3, 4, 5, 7, 8, 9, 10, 11].contains b
  | 3 => [4, 5, 8, 9, 10, 11].contains b
  | 4 => [5, 9, 11].contains b
  | 6 => [7, 8, 9, 10, 11].contains b
  | 7 => [8, 9, 10, 11].contains b
  | 8 => [9, 11].contains b
  | 10 => b == 11
  | _ => false

/-- The IEEE 754 pattern of an integer that the format holds exactly: `mb` fraction bits, exponent bias, width. -/
def floatOf (mb bias w : Nat) (v : Int) : Nat :=
  if v = 0 then 0
  else
    let m := v.natAbs
    let e := Nat.log2 m
    (if v < 0 then 2 ^ (w - 1) else 0) + (e + bias) * 2 ^ mb + (m * 2 ^ (mb - e) - 2 ^ mb)

/-- A REAL32 pattern as the REAL64 pattern of the same value. -/
def real64Of (p : Nat) : Nat :=
  let s := p / 2147483648 * 9223372036854775808
  let e := p / 8388608 % 256
  let f := p % 8388608
  if e = 0 then
    (if f = 0 then s
     else s + (Nat.log2 f + 1023 - 149) * 4503599627370496 + (f * 2 ^ (52 - Nat.log2 f) - 4503599627370496))
  else if e = 255 then s + 2047 * 4503599627370496 + f * 536870912
  else s + (e + 896) * 4503599627370496 + f * 536870912

/-- The integer that one element of a type of at most 32 bits holds. -/
def elemInt (t : Nat) (w : Word) : Int := if t = 6 || t = 7 || t = 8 then w.toInt else w.toNat

/-- One element converted from type `a` to `b` (Table 7-5). -/
def convert (a b : Nat) (w : Word) : List Word :=
  let wide (v : BitVec 64) : List Word := [v.setWidth 32, (v >>> (32 : Nat)).setWidth 32]
  if b = 11 then wide (BitVec.ofNat 64 (if a = 10 then real64Of w.toNat else floatOf 52 1023 64 (elemInt a w)))
  else if b = 10 then [BitVec.ofNat 32 (floatOf 23 127 32 (elemInt a w))]
  else if elemWords b = 2 then wide (BitVec.ofInt 64 (elemInt a w))
  else [BitVec.ofInt 32 (elemInt a w)]

/-- An area of a task by its declaration code: 1 published output bank, 2 committed retained bank. -/
def bankWords (ts : List TaskRt) (task area : Nat) : List Word :=
  match ts.find? (fun (t : TaskRt) => t.decl.num == task) with
  | none => []
  | some t => if area = 1 then t.outPub else t.rsPub

/-- The words an entry carries, converted if need be. -/
def CarryEntry.words (e : CarryEntry) (old : List TaskRt) : List Word :=
  let src := (bankWords old e.oldTask e.oldArea).drop e.oldIdx
  if e.action = 0 then fixW (e.count * elemWords e.oldTyp) src
  else (fixW e.count src).flatMap (convert e.oldTyp e.newTyp)

/-- Replace words of a bank from an index, within it. -/
def putWords (bank : List Word) (i : Nat) (ws : List Word) : List Word := (bank.take i ++ ws ++ bank.drop (i + ws.length)).take bank.length

/-- One carried variable placed in the new areas. -/
def CarryEntry.place (e : CarryEntry) (old new : List TaskRt) : List TaskRt :=
  new.map (fun (t : TaskRt) =>
    if t.decl.num ≠ e.newTask then t
    else if e.newArea = 1 then { t with outPub := putWords t.outPub e.newIdx (e.words old) }
    else { t with rsPub := putWords t.rsPub e.newIdx (e.words old) })

/-! The map (R204) -/

/-- First word and input of each edge detector of a task, in their order. -/
def TaskDecl.edgeKeys (d : TaskDecl) : List (Nat × Nat) :=
  (d.srcs.filter (·.kind == 3)).flatMap (fun x => ((List.range 32).filter (fun i => x.ref.testBit i)).map (fun i => (x.first, i)))

/-- Inputs of the field source that a declaration of kind 2 names: by its task and first word (log entry 50). -/
def Program.fieldInputs (p : Program) (d : CarryDecl) : List Nat :=
  match p.tasks.find? (fun (t : TaskDecl) => t.num == d.task) with
  | none => []
  | some t => (t.edgeKeys.filter (fun k => k.1 == d.word)).map (·.2)

/-- The declaration of an identity and kind. -/
def Program.carry (p : Program) (ident : Word) (kind : Nat) : Option CarryDecl :=
  p.carries.find? (fun (d : CarryDecl) => d.ident == ident && d.kind == kind)

/-- Map entries of one identity of the new program. -/
def carryNew (old new : Program) (d : CarryDecl) : List CarryEntry :=
  match d.kind with
  | 0 =>
    match old.carry d.ident 0 with
    | none => [⟨d.ident, 0, d.typ, 3, 0, d.word, d.count, 0, 0, d.task, d.area⟩]
    | some o =>
      let act := if o.typ = d.typ && o.count = d.count then 0 else if o.count = d.count && widens o.typ d.typ then 1 else 2
      [⟨d.ident, o.typ, d.typ, act, o.word, d.word, d.count, o.task, o.area, d.task, d.area⟩]
  | 1 => [⟨d.ident, 0, 0, if (old.carry d.ident 1).isSome then 5 else 6, 0, 0, 0, 0, 0, 0, 0⟩]
  | _ =>
    let was := ((old.carry d.ident 2).map old.fieldInputs).getD []
    let o := (old.carry d.ident 2)
    (new.fieldInputs d).map (fun i =>
      ⟨d.ident, 0, 0, if was.contains i then 8 else 9, i, i, 0, (o.map (·.task)).getD 0, (o.map (·.word)).getD 0, d.task, d.word⟩)

/-- Map entries of an identity that only the old program declares. -/
def carryOld (new : Program) (d : CarryDecl) : List CarryEntry :=
  match d.kind with
  | 0 => if (new.carry d.ident 0).isSome then [] else [⟨d.ident, d.typ, 0, 4, d.word, 0, d.count, d.task, d.area, 0, 0⟩]
  | 1 => if (new.carry d.ident 1).isSome then [] else [⟨d.ident, 0, 0, 7, 0, 0, 0, 0, 0, 0, 0⟩]
  | _ => []

/-- Insert an entry in ascending identity, behind equal ones. -/
def carryInsert (e : CarryEntry) : List CarryEntry → List CarryEntry
  | [] => [e]
  | x :: xs => if e.ident.toNat < x.ident.toNat then e :: x :: xs else x :: carryInsert e xs

/-- The carry-over map from one program to another, in ascending identity. -/
def carryMap (old new : Program) : List CarryEntry :=
  (new.carries.flatMap (carryNew old new) ++ old.carries.flatMap (carryOld new)).foldl (fun m e => carryInsert e m) []

/-- The load digest (R203). -/
def loadDigest (sha : List Byte) (m : List CarryEntry) : W64 :=
  crc64 (sha ++ m.flatMap (fun (e : CarryEntry) =>
    leB 4 e.ident.toNat ++ leB 1 e.oldTyp ++ leB 1 e.newTyp ++ leB 1 e.action ++ leB 4 e.oldIdx ++ leB 4 e.newIdx))

/-! Applying the map -/

/-- The edge detector kept by an entry of action 8: that of the input in the old task, whose source the entry's first word names. -/
def CarryEntry.edge (e : CarryEntry) (old : List TaskRt) : Option EdgeDet :=
  match old.find? (fun (t : TaskRt) => t.decl.num == e.oldTask) with
  | none => none
  | some t => if t.decl.edgeKeys.contains (e.oldArea, e.oldIdx) then t.edges.find? (fun (x : EdgeDet) => x.input == e.oldIdx) else none

/-- An ED_KEEP entry placed in the new areas. -/
def CarryEntry.placeEdge (e : CarryEntry) (old new : List TaskRt) : List TaskRt :=
  match e.edge old with
  | none => new
  | some d => new.map (fun (t : TaskRt) =>
      if t.decl.num ≠ e.newTask || !t.decl.edgeKeys.contains (e.newArea, e.newIdx) then t
      else { t with edges := t.edges.map (fun (x : EdgeDet) => if x.input = e.newIdx then { d with input := x.input } else x) })

/-- Overrun counts follow the identity of their task (R205). -/
def carryCounts (old new : List TaskRt) : List TaskRt :=
  new.map (fun (t : TaskRt) =>
    match old.find? (fun (o : TaskRt) => o.decl.ident == t.decl.ident) with
    | some o => { t with ovrRun := o.ovrRun, ovrTotal := o.ovrTotal }
    | none => { t with ovrRun := 0, ovrTotal := 0#32 })

/-- Every action of the map on the new areas. -/
def carryAreas (m : List CarryEntry) (old new : List TaskRt) : List TaskRt :=
  carryCounts old (m.foldl (fun (n : List TaskRt) (e : CarryEntry) =>
    if e.action ≤ 1 then e.place old n else if e.action = 8 then e.placeEdge old n else n) new)

/-- Timers that both programs declare stay; of one that only the new one declares there is no entry until its start (Table 7-4 actions 5 to 7). -/
def carryTimers (old new : Program) (ts : List Timer) : List Timer :=
  ts.filter (fun (t : Timer) => (old.carry t.id 1).isSome && (new.carry t.id 1).isSome)

/-- Words carried by a map. -/
def carriedWords (m : List CarryEntry) : Nat :=
  (m.filter (fun (e : CarryEntry) => decide (e.action ≤ 1))).foldl (fun n (e : CarryEntry) => n + e.count * elemWords e.newTyp) 0

/-- Items by action, for object 0x2041. -/
def actionCounts (m : List CarryEntry) : List Word :=
  (List.range 10).map (fun a => BitVec.ofNat 32 (m.filter (fun (e : CarryEntry) => e.action == a)).length)

/-! Commands (R201) -/

/-- A change command is permitted in the present state (Table 7-2). -/
def ChgState.permits (x : ChgState) (v : Nat) : Bool :=
  match v, x with
  | 1, .idle => true
  | 2, .ready => true
  | 3, .loading | 3, .verifying | 3, .ready | 3, .armed | 3, .failed => true
  | 4, .trial => true
  | _, _ => false

/-- M7 or M8. -/
def chgMode (m : Mode) : Bool := m = .m7 || m = .m8

/-- A write of a change command (R197, R201): refused, or distributed. -/
def State.chgCommand (s : State) (ch : Ch) (via : Option Transport) (tag : Byte) (v : Nat) : State :=
  let c := s.chan ch
  if !c.up then s
  else if c.sys.reeveState ≠ 0 then s.refuseOne ch via tag abUnavail
  else if v = 0 || 4 < v then s.refuseOne ch via tag abRange
  else if !(chgMode c.sys.mode && c.chg.state.permits v) then s.refuseOne ch via tag abState
  else if v = 1 && c.sys.dramSplit < 8 then s.refuseOne ch via tag abConfig
  else s.upd ch (fun c => c.queueCmd ch 1 v via tag)

def execChgLoad (ch : Ch) (s : State) : Out := .next (s.chgCommand ch none 0#8 1)
def execChgArm (ch : Ch) (s : State) : Out := .next (s.chgCommand ch none 0#8 2)
def execChgCancel (ch : Ch) (s : State) : Out := .next (s.chgCommand ch none 0#8 3)
def execChgRollback (ch : Ch) (s : State) : Out := .next (s.chgCommand ch none 0#8 4)

/-- A change command takes effect (Table 7-2, R409). -/
def Chan.applyChg (c : Chan) (v : Nat) : Chan :=
  match v with
  | 1 =>
    let ready := (c.upd.slot c.upd.otherSlot).st == .verified
    { c with chg := { c.chg.toIdle with state := if ready then .verifying else .loading, reason := 0 } }
  | 2 => { c with chg := { c.chg with state := .armed, armC := c.tb.c } }
  | 3 => { c with chg := c.chg.toIdle }
  | 4 => { c with chg := { c.chg with state := .rollback } }
  | _ => c

/-! Verification (R202, R203) -/

/-- A failed check. -/
def Chan.chgFail (c : Chan) (reason : Nat) : Chan :=
  { c with chg := { c.chg with
    state := .failed
    reason := reason
    lastReason := reason
    failed := satInc c.chg.failed
    flag := c.chg.flag.raise 0 } }

/-- Octets of the areas of tasks in the voted or unvoted part. -/
def areaOctets (cap : Bool) (ts : List TaskDecl) : Nat :=
  ((ts.filter (fun (t : TaskDecl) => t.cap == cap)).map TaskDecl.octets).foldl (· + ·) 0

/-- The first check of Table 7-3 that fails, 0 for none. -/
def Chan.chgCheck (c : Chan) (floor : Nat) : Nat :=
  let x := c.upd.slot c.upd.otherSlot
  let m := x.man.getD factoryManifest
  let p := readProgram m.sha x.content
  let old := c.sl.tasks.map (·.decl)
  let ids := p.carries.map (·.ident)
  if c.verifyCode x 0 ≠ 0 then 1
  else if m.secver < floor then 2
  else if m.kind ≠ 2 || !(p.rulesOk c.sys.split.toNat (2 ^ 40) (2 ^ 40)) || !(c.subsOk p) then 3
  else if 67108864 < m.imglen then 4
  else if 3145728 < areaOctets false old + areaOctets false p.tasks || 1048576 < areaOctets true old + areaOctets true p.tasks then 5
  else if !(decide ids.Nodup) || ids.contains 0#32 || 4096 < (p.carries.filter (fun (d : CarryDecl) => d.kind == 1)).length then 6
  else 0

/-- The load digests are judged over the voting channels (R203, Table 7-6). -/
def Chan.judgeLoad (c : Chan) (next prev : Bool) : Chan :=
  if c.chg.state ≠ .verifying || !c.chg.ldigSent then c
  else
    let differs := (next && c.chg.ldig0.isSome && c.chg.ldig0 ≠ some c.chg.ldig) || (prev && c.chg.ldig1.isSome && c.chg.ldig1 ≠ some c.chg.ldig)
    let all := (!next || c.chg.ldig0.isSome) && (!prev || c.chg.ldig1.isSome)
    if differs then c.chgFail 7
    else if all then { c with chg := { c.chg with state := .ready } }
    else c

/-- The judgement with the voting channels as they stand. -/
def State.judgeLoad (s : State) (ch : Ch) : State :=
  s.upd ch (fun c => c.judgeLoad (s.view (chNext ch) == .voting) (s.view (chPrev ch) == .voting))

/-- A verified image: placed in the bank not running, with its map, new areas with their defaults, the hallmark with the new program and
the load digest (R197, R198, R203, R204). -/
def Chan.chgVerified (c : Chan) : Chan :=
  let x := c.upd.slot c.upd.otherSlot
  let m := x.man.getD factoryManifest
  let p := readProgram m.sha x.content
  let map := match c.sl.prog with | some q => carryMap q p | none => []
  let c := c.fillBank (1 - c.chg.bank) p
  { c with chg := { c.chg with
    newProg := some p
    newTasks := p.tasks.map TaskRt.start
    map := map
    hallmark := c.hallmarkWith p.sha (some p)
    ldig := loadDigest p.sha map
    ldigSent := true } }

/-- CHANGE_VERIFICATION: the load digest goes out with the boundary count and the target bank (R203). -/
def execChangeVerification (ch : Ch) (s : State) : Out :=
  let c := s.chan ch
  if c.chg.state ≠ .verifying || c.chg.ldigSent || c.sys.cstate ≠ .voting then .next s
  else
    let r := c.chgCheck (s.secFloor ch)
    if r ≠ 0 then .next (s.upd ch (fun c => c.chgFail r))
    else
      let t := s.upd ch Chan.chgVerified
      let c := t.chan ch
      .next ((t.sendBoth ch (.loadDigest c.chg.ldig c.tb.c (1 - c.chg.bank))).judgeLoad ch)

/-- LOAD_DIGEST_RECEIVE (R203). -/
def execLoadDigestReceive (rx tx : Ch) (ok : Bool) (s : State) : Out :=
  .next (s.recv rx tx ok XBody.isLoadDigest (fun b t =>
    match b with
    | .loadDigest d _ _ =>
      (t.upd rx (fun c => match linkTo rx tx with
        | some .next => { c with chg := { c.chg with ldig0 := some d } }
        | some .prev => { c with chg := { c.chg with ldig1 := some d } }
        | none => c)).judgeLoad rx
    | _ => t))

/-- LOAD_DIGEST_TIMEOUT (R203): a digest of a voting channel is missing 100 ms after the own one was sent. -/
def execLoadDigestTimeout (ch : Ch) (s : State) : Out :=
  let c := s.chan ch
  let miss := (s.view (chNext ch) == .voting && c.chg.ldig0.isNone) || (s.view (chPrev ch) == .voting && c.chg.ldig1.isNone)
  guardC (c.chg.state == .verifying && c.chg.ldigSent && miss) s (s.upd ch (fun c => c.chgFail 7))

/-! Confirmation (R211) -/

/-- A write of the confirmation hallmark. -/
def State.confirmChg (s : State) (ch : Ch) (via : Option Transport) (tag : Byte) (v : Word) : State :=
  let c := s.chan ch
  if !c.up then s
  else if c.sys.reeveState ≠ 0 then s.refuseOne ch via tag abUnavail
  else if c.chg.state ≠ .trial then s.refuseOne ch via tag abState
  else if v ≠ c.chg.hallmark then s.refuseOne ch via tag abHallMis
  else s.enqueue ⟨[addrEntry 0x1040 2 (leB 4 v.toNat), addrEntry 0x1040 3 (leB 1 1)], [(8, v.toNat)], ch, via, tag, 1⟩

/-- CHANGE_CONFIRMATION. -/
def execChangeConfirmation (ch : Ch) (value : Word) (s : State) : Out := .next (s.confirmChg ch none 0#8 value)

/-- ARM_WINDOW_EXPIRY (R206): object 0x2040.05 in boundaries. -/
def execArmWindowExpiry (ch : Ch) (s : State) : Out :=
  onChan s ch (fun c =>
    if c.chg.state = .armed && decide (c.chg.armC + c.cfgN 0x2040 5 ≤ c.tb.c) then
      { c with chg := { c.chg with state := .ready, flag := c.chg.flag.raise 1 } }
    else c)

/-- TRIAL_LIMIT_EXPIRY (R210): object 0x2040.06 in seconds. -/
def execTrialLimitExpiry (ch : Ch) (s : State) : Out :=
  onChan s ch (fun c =>
    if c.chg.state = .trial && decide (c.cfgN 0x2040 6 ≤ c.chg.trialS) then { c with chg := { c.chg with state := .rollback } } else c)

/-- R210: an instance of the new program was abandoned in every voting channel. Two boundaries after its abandonment every channel
knows it alike (DESIGN CHOICE, log entry 97). -/
def State.abandonedByAll (s : State) (ch : Ch) (voting : List Ch) : Bool :=
  let old (p : Ch) (x : Nat × Nat × Nat) : Bool :=
    (s.chan p).sl.abandons.any (fun y => y.1 == x.1 && y.2.1 == x.2.1 && decide (y.2.2 + 2 ≤ (s.chan ch).tb.c))
  (s.chan ch).sl.abandons.any (fun x => voting.all (fun p => s.reach p ch 1 && old p x))

/-- An automatic rollback by abandonment (R210). -/
def State.changeFails (s : State) (ch : Ch) (voting : List Ch) : State :=
  if (s.chan ch).chg.state = .trial && s.abandonedByAll ch voting then
    s.upd ch (fun c => { c with chg := { c.chg with state := .rollback } })
  else s

/-! The switch (R206, R209) -/

/-- Integrity instances still in progress. -/
def Chan.running (c : Chan) : List (TaskRt × Inst) :=
  c.sl.tasks.filterMap (fun (t : TaskRt) => if t.decl.cap || !t.inProgress then none else t.inst.map (fun i => (t, i)))

/-- A switch is wanted at this boundary: ARMED within its window, or ROLLBACK. -/
def Chan.wantsSwitch (c : Chan) : Bool :=
  (c.chg.state == .armed && decide (c.chg.armC < c.tb.c) && decide (c.tb.c ≤ c.chg.armC + c.cfgN 0x2040 5)) || c.chg.state == .rollback

/-- The last boundary message of channel `p` shows FLAGS bit 2. -/
def Chan.saysResync (c : Chan) (ch p : Ch) : Bool :=
  match linkTo ch p with
  | some .next => (c.vote.last0.map (·.resync)).getD false
  | some .prev => (c.vote.last1.map (·.resync)).getD false
  | none => c.vote.state = .resync

/-- The first and second conditions of R206, with the voting channels; a resynchronisation that is decided bars the switch in every
channel until it ends (Table 7-6). -/
def Chan.switchOk (c : Chan) (ch : Ch) (voting : List Ch) : Bool :=
  c.running.all (fun (x : TaskRt × Inst) => decide (2 ≤ (x.2.notices.filter (fun k => voting.contains k)).length)) &&
  !(voting.any (fun p => c.saysResync ch p)) && c.vote.run.isNone && c.vote.serving.isNone && c.vote.other.isNone

/-- A switch is made at this boundary, judged after the due commits (R206). -/
def Chan.switches (c : Chan) (ch : Ch) (voting : List Ch) (modeChange : Bool) : Bool :=
  chgMode c.sys.mode && c.wantsSwitch && c.switchOk ch voting && !modeChange && c.chg.newProg.isSome

/-- What the commits of a boundary have done: the channel, the tasks committed, the timer operations applied, whether it lags. -/
structure CommitRun where
  c : Chan
  done : List Nat
  ops : List TimerOp
  lag : Bool

/-- Steps 1 and 2 of R206: complete instances commit at this edge, the others are cancelled with lag; capacity instances go. An abandoned
instance is no longer in progress: it lags where two channels were complete, as at its due boundary (R158, R161). -/
def CommitRun.early (x : CommitRun) (voting : List Ch) : CommitRun :=
  x.c.sl.tasks.foldl (fun (x : CommitRun) (t : TaskRt) =>
    match t.inst with
    | none => x
    | some i =>
      if t.decl.cap then { x with c := x.c.dropInst t.decl.num }
      else if i.complete && !i.abandoned then
        let r := x.c.commitTask t.decl.num true
        { x with c := r.1, done := x.done ++ [t.decl.num], ops := x.ops ++ r.2 }
      else if i.abandoned && (i.notices.filter (fun k => voting.contains k)).length < 2 then { x with c := x.c.dropInst t.decl.num }
      else
        let c := x.c.dropInst t.decl.num
        { x with c := { c with sl := { c.sl with flag := c.sl.flag.raise 6 } }, lag := true }) x

/-- A variable that the switch resets is recorded (Table 7-4 action 2). -/
def Chan.logResets (c : Chan) (m : List CarryEntry) : Chan :=
  (m.filter (fun (e : CarryEntry) => e.action == 2)).foldl (fun (c : Chan) (e : CarryEntry) =>
    ({ c with chg := { c.chg with flag := c.chg.flag.raise 3 } }).log 0x0E (leB 4 e.ident.toNat ++ leB 1 e.oldTyp ++ leB 1 e.newTyp ++ leB 2 0)) c

/-- The old program's areas for a rollback: banks and counts as kept since the switch, inputs and qualifiers frozen afresh (R205, R208, R209). -/
def TaskRt.kept (t : TaskRt) : TaskRt :=
  { TaskRt.start t.decl with outPub := t.outPub, rsPub := t.rsPub, ovrRun := t.ovrRun, ovrTotal := t.ovrTotal }

/-- Steps 3 and 4 of R206 and the switch digest of R207. In a rollback the old areas kept since the switch take what the reversed map carries
(R208, R209; log entry 51), and the change is IDLE. -/
def Chan.switchOver (c : Chan) (lag : Bool) : Chan :=
  match c.sl.prog, c.chg.newProg with
  | some old, some new =>
    let back := c.chg.state == .rollback
    let m := if back then carryMap old new else c.chg.map
    let tasks := carryAreas m c.sl.tasks c.chg.newTasks
    let bank := 1 - c.chg.bank
    let dig := outDigest tasks c.tb.c
    let c := c.logResets m
    let flag := (c.chg.flag.raiseIf lag 4).raiseIf back 2
    let g := if back then { c.chg.toIdle with rolled := satInc c.chg.rolled }
      else { c.chg with state := .trial, newProg := some old, newTasks := c.sl.tasks.map TaskRt.kept, trialS := 0 }
    { c with
      chg := { g with
        bank := bank
        flag := flag
        swc := c.tb.c % 4294967296
        words := carriedWords m
        actions := actionCounts m
        swDig := some (bank, dig)
        sw0 := c.chg.sw0
        sw1 := c.chg.sw1 }
      tb := { c.tb with timers := carryTimers old new c.tb.timers }
      sl := { c.sl with prog := some new, tasks := tasks, abandons := [], q := List.replicate 8 [], cq := List.replicate 16 [] }
      vote := { c.vote with gate := false, committedNow := tasks.map (·.decl.num) } }
  | _, _ => c

/-- R212: the module leaves M7 and M8. Before the switch the change is cancelled; after it the running program stays, unconfirmed. -/
def Chan.changeEnds (c : Chan) : Chan := if c.chg.state = .idle then c else { c with chg := c.chg.toIdle }

end Sys2Proof.Machine
end

