-- ==== Sys2Proof/Machine/Pair.lean ====
section
/-! DEFINITION. The hot-standby module pair: grant, role, drive, transfer, tracking, standby tests, health (R297 to R317). -/

namespace Sys2Proof.Machine
open Sys2Proof

/-- Change the pair function of a channel. -/
def Chan.pr (c : Chan) (f : PairBlk → PairBlk) : Chan := { c with pair := f c.pair }

/-- A flag of SYSCTL_PAIR_FLAG. -/
def PairBlk.hit (p : PairBlk) (n : Nat) : PairBlk := { p with flag := p.flag.raise n }

/-- CYCLE of the latest frame of a ring whose first passage is done (R300), as a channel knows it that the ring's owner reaches on class 2
(DEDUCED, log entry 101). -/
def State.ringF (s : State) (ch : Ch) (r : Ring) : Option Word :=
  if s.reach (ringOwner r) ch 2 then ((s.chan (ringOwner r)).mill.lastFrame).map (·.2) else none

/-- Current: written in the latest cycle or the one before (R300). -/
def State.isCurrent (s : State) (ch : Ch) (r : Ring) (w : Word) : Bool :=
  match s.ringF ch r with
  | none => false
  | some f => w = f || w = f - 1#32

/-! The grant (R299, R300) -/

/-- Result of Table 11-2: 0 renewed, 1 revoked, 2 missed, 3 conflict. -/
def grantResult (own against : Bool) : Nat := if own then (if against then 3 else 0) else if against then 1 else 2

/-- Reaction of an active module. REVOKED is an active module's flag: a standby's grant names its partner in every cycle (DEDUCED, log entry
101). -/
def Chan.grantActive (c : Chan) (res : Nat) : Chan :=
  match res with
  | 0 => c.pr (fun p => { p with miss := 0 })
  | 1 => (c.pr (fun p => p.hit 2)).trigger .m5 0x09
  | k =>
    let c := c.pr (fun p => { p.hit (if k = 3 then 0 else 1) with miss := min (p.miss + 1) 3 })
    if 3 ≤ c.pair.miss then c.trigger .m5 0x09 else c

/-- Reaction of a standby module: a renewed grant proposes the active role, and its CYCLE is remembered per ring (R306). -/
def Chan.grantStandby (c : Chan) (res : Nat) (voting : Nat) (mine : List Grant) : Chan :=
  match res with
  | 0 =>
    let g := mine.reverse.foldl (fun (g : List (Ring × Word)) (x : Grant) => if g.any (fun y => y.1 == x.ring) then g else g ++ [(x.ring, x.wcyc)]) c.pair.g
    (c.pr (fun p => { p with g := g })).trigger (if voting = 3 then .m7 else .m8) 0
  | 1 => c.pr (fun p => { p with g := [] })
  | k => c.pr (fun p => { p.hit (if k = 3 then 0 else 1) with g := [] })

/-- Grant evaluation of a channel at a boundary (R300). -/
def State.pairGrant (s : State) (ch : Ch) : State :=
  let c := s.chan ch
  if !c.pair.cfg.on || !(c.sys.mode = .m5 || chgMode c.sys.mode) then s
  else
    let cur := c.pair.grants.filter (fun (g : Grant) => s.isCurrent ch g.ring g.wcyc)
    let mine := cur.filter (fun (g : Grant) => g.active == c.cfgAddr g.ring)
    let res := grantResult (!mine.isEmpty) (cur.any (fun (g : Grant) => g.active != c.cfgAddr g.ring))
    s.upd ch (fun c =>
      let c := c.pr (fun p => { p with grants := cur, grant := res })
      if c.sys.mode = .m5 then c.grantStandby res s.votingChs.length mine else c.grantActive res)

/-- The partner's pair window on a ring, 0 for none. -/
def PairCfg.pwin (p : PairCfg) : Ring → Nat
  | .r1 => p.pwin1
  | .r2 => p.pwin2

/-! The partner's status (R301, R306, R310, R313) -/

/-- The partner's newest status of a ring, when current. -/
def State.partnerNow (s : State) (ch : Ch) : Option PairStatus :=
  ((s.chan ch).pair.partner.find? (fun x => s.isCurrent ch x.1 x.2.1)).map (·.2.2)

/-- Own TIMEVALID and that of the partner's current status (PAIR_STAT.TVALID). -/
def State.pairValid (s : State) (ch : Ch) : Bool := (s.chan ch).tb.valid && (((s.partnerNow ch).map (·.timeValid)).getD false)

/-- Back to WAITING (Table 11-8). -/
def PairBlk.toWaiting (p : PairBlk) : PairBlk :=
  { p with
    track := .waiting
    req := false
    stTimers := []
    stItems := []
    endRec := none }

/-- PAIR_STATUS_RECEIVE: the newest status of a ring is kept; PROGDIFF and the digest comparison of R313 follow. -/
def Chan.takeStatus (c : Chan) (r : Ring) (wcyc : Word) (ps : PairStatus) : Chan :=
  let newer := match c.pair.partner.find? (fun x => x.1 == r) with
    | some x => laterW wcyc x.2.1
    | none => true
  if !newer then c
  else
    let mine := match c.sl.prog with | some q => BitVec.ofNat 64 (leAt q.sha 0 8) | none => 0#64
    let c := c.pr (fun p => { p with
      partner := (r, wcyc, ps) :: p.partner.filter (fun x => x.1 != r)
      progdiff := decide (ps.prog ≠ mine) })
    if c.pair.track = .tracking && !c.pair.progdiff && ps.pdk = c.pair.pdk && ps.pdig ≠ c.pair.pdig then
      c.pr (fun p => (p.hit 6).toWaiting)
    else c

/-- A status that reached a channel with its check correct. -/
def Chan.pairStatusIn (c : Chan) (r : Ring) (wcyc : Word) (ps : PairStatus) : Chan :=
  if c.pair.cfg.on && c.up && c.pair.cfg.pwin r ≠ 0 then c.takeStatus r wcyc ps else c

/-- PAIR_STATUS_RECEIVE: the ring's owner takes the status from its window and forwards it on class 2 (R301); another channel takes it from
the link. -/
def execPairStatusReceive (rx : Ch) (r : Ring) (wcyc : Word) (ps : PairStatus) (ok : Bool) (s : State) : Out :=
  if rx = ringOwner r then
    guardC (ok && (s.chan rx).speaks) s ((s.upd rx (fun c => c.pairStatusIn r wcyc ps)).sendBoth rx (.pairStatus r wcyc ps))
  else .next (s.recv rx (ringOwner r) ok XBody.isPairStatus (fun b s =>
    match b with
    | .pairStatus q w x => s.upd rx (fun c => c.pairStatusIn q w x)
    | _ => s))

/-! Transfer, standby side (R311, R315) -/

/-- Timer entries of a record. -/
def recTimers (r : PairRecord) : List Timer := r.entries.map (fun (e : XEntry) => ⟨e.ident, e.dur, e.start⟩)

/-- The content of a record enters the working banks or the staged tables. A timer record that starts below the last staged identity restarts the table. -/
def Chan.stageRecord (c : Chan) (wcyc : Word) (r : PairRecord) : Chan :=
  match r.status.xkind with
  | 1 =>
    { c with sl := c.sl.updTask r.status.xtask (fun (t : TaskRt) =>
        if r.status.xarea = 1 then { t with outWork := putWords t.outWork (256 * r.status.xpage) r.words }
        else { t with rsWork := putWords t.rsWork (256 * r.status.xpage) r.words }) }
  | 2 =>
    let ts := recTimers r
    let restart := match ts.head?, c.pair.stTimers.getLast? with
      | some a, some b => decide (a.id.toNat ≤ b.id.toNat)
      | _, _ => false
    c.pr (fun p => { p with stTimers := ts.foldl (fun l t => timerPut t l) (if restart then [] else p.stTimers) })
  | 3 => c.pr (fun p => { p with stItems := p.stItems.filter (fun (e : XEntry) => !(r.entries.any (fun (x : XEntry) => x.ident == e.ident))) ++ r.entries })
  | 4 => c.pr (fun p => { p with endRec := some ⟨r.ce, r.ke, r.edig, wcyc⟩ })
  | _ => c

/-- COPYING is entered with XSEQ 0: integrity instances are discarded, and availability-wired outputs hold their last commit (R310): their
quench timers stand until the next commit (DEDUCED, log entry 127). -/
def Chan.startCopy (c : Chan) (k : Word) : Chan :=
  let c := c.sl.tasks.foldl (fun (c : Chan) (t : TaskRt) => if t.decl.cap then c else c.dropInst t.decl.num) c
  let c := c.mapNets (fun i n => if c.wiring i = 1 then { n with quenchAt := none } else n)
  c.pr (fun p => { p with
    track := .copying
    copyK := k
    stTimers := []
    stItems := []
    endRec := none
    xseq := 0
    xcount := 1
    copyAt := c.now })

/-- A record of the transfer in progress that was taken already, from the other ring: XSEQ 0 of the same boundary, or one at most half the
numbers behind. -/
def PairBlk.oldRecord (p : PairBlk) (n : Nat) (k : Word) : Bool :=
  if n = 0 then decide (k = p.copyK) else n = p.xseq || (p.xseq ≠ 0 && decide (32768 ≤ (n + 65535 - p.xseq) % 65535))

/-- The XSEQ after one: 1 to 65,535 cyclically. -/
def nextXseq (n : Nat) : Nat := if 65535 ≤ n then 1 else n + 1

/-- PAIR_RECORD_RECEIVE: each XSEQ once, from either ring; a gap ends the copy. -/
def Chan.takeRecord (c : Chan) (wcyc : Word) (r : PairRecord) : Chan :=
  let n := r.status.xseq
  match c.pair.track with
  | .waiting => if n = 0 && c.pair.req then (c.startCopy r.status.klo).stageRecord wcyc r else c
  | .copying =>
    if c.pair.oldRecord n r.status.klo then c
    else if n = 0 then (c.startCopy r.status.klo).stageRecord wcyc r
    else if n = nextXseq c.pair.xseq then
      (c.pr (fun p => { p with xseq := n, xcount := min (p.xcount + 1) 65535 })).stageRecord wcyc r
    else c.pr (fun p => (p.hit 5).toWaiting)
  | _ => c

/-- A record that reached a channel with its check correct. -/
def Chan.pairRecordIn (c : Chan) (r : Ring) (wcyc : Word) (rec : PairRecord) : Chan :=
  if c.pair.cfg.on && c.sys.mode = .m5 && rec.status.recP && c.pair.cfg.pwin r ≠ 0 then c.takeRecord wcyc rec else c

/-- PAIR_RECORD_RECEIVE: the ring's owner takes the record from its window and forwards it on class 3 (R301); another channel takes it from
the link. -/
def execPairRecordReceive (rx : Ch) (r : Ring) (wcyc : Word) (rec : PairRecord) (ok : Bool) (s : State) : Out :=
  if rx = ringOwner r then
    guardC (ok && (s.chan rx).speaks) s ((s.upd rx (fun c => c.pairRecordIn r wcyc rec)).sendBoth rx (.pairRecord r wcyc rec))
  else .next (s.recv rx (ringOwner r) ok XBody.isPairRecord (fun b s =>
    match b with
    | .pairRecord q w x => s.upd rx (fun c => c.pairRecordIn q w x)
    | _ => s))

/-- TRACK_TIMEOUT (object 0x4400.09). -/
def execTrackTimeout (ch : Ch) (s : State) : Out :=
  onChan s ch (fun c =>
    if c.pair.track = .copying then
      ({ c with tb := c.tb.reach (c.pair.copyAt + c.pair.cfg.timeout * nsPerSec) }).pr (fun p => (p.hit 8).toWaiting)
    else c)

/-- Integrity tasks with the staged banks published. -/
def stagedTasks (ts : List TaskRt) : List TaskRt :=
  ts.map (fun (t : TaskRt) => if t.decl.cap then t else { t with outPub := t.outWork, outWork := t.outPub, rsPub := t.rsWork, rsWork := t.rsPub })

/-- Detectors seeded anew and overrun counts cleared at adoption. -/
def adopted (ts : List TaskRt) : List TaskRt :=
  ts.map (fun (t : TaskRt) => if t.decl.cap then t else { t with
    ovrRun := 0
    ovrTotal := 0#32
    edges := t.edges.map (fun (e : EdgeDet) => { e with seeded := false }) })

/-- Own variables whose staged item Table 7-4 makes a RESET (R315): same identity, another count or a type that does not widen. -/
def resetItems (p : Program) (items : List XEntry) : List CarryEntry :=
  p.carries.filterMap (fun (d : CarryDecl) =>
    match (if d.kind = 0 then items.find? (fun (e : XEntry) => e.ident == d.ident) else none) with
    | none => none
    | some e =>
      if (e.typ = d.typ || widens e.typ d.typ) && e.words.length = d.count * elemWords e.typ then none
      else some ⟨d.ident, e.typ, d.typ, 2, 0, d.word, d.count, 0, 0, d.task, d.area⟩)

/-- Own variables from staged items by Table 7-4, the active program running and the own one new (R315). Capacity tasks run on. -/
def itemAreas (p : Program) (items : List XEntry) (run : List TaskRt) : List TaskRt :=
  p.carries.foldl (fun (ts : List TaskRt) (d : CarryDecl) =>
    match (if d.kind = 0 then items.find? (fun (e : XEntry) => e.ident == d.ident) else none) with
    | none => ts
    | some e =>
      let n := d.count
      let ws : Option (List Word) :=
        if e.typ = d.typ && e.words.length = n * elemWords d.typ then some e.words
        else if widens e.typ d.typ && e.words.length = n * elemWords e.typ then some (e.words.flatMap (convert e.typ d.typ))
        else none
      match ws with
      | none => ts
      | some w => ts.map (fun (t : TaskRt) =>
          if t.decl.num ≠ d.task then t
          else if d.area = 1 then { t with outPub := putWords t.outPub d.word w } else { t with rsPub := putWords t.rsPub d.word w }))
    (run.map (fun (t : TaskRt) => if t.decl.cap then t else TaskRt.start t.decl))

/-- The integrity tasks of the running program. -/
def Chan.integrityTasks (c : Chan) : List Nat := (c.sl.tasks.filter (fun (t : TaskRt) => !t.decl.cap)).map (·.decl.num)

/-- Adoption at the boundary whose k is END's WCYC + 2 (R311, R315), at its commit edge: the exchanged banks drive the outputs there as committed
ones do (DEDUCED, log entry 127). -/
def Chan.pairAdopt (c : Chan) : Chan :=
  match c.pair.endRec with
  | none => c
  | some e =>
    if c.pair.track ≠ .copying || BitVec.ofNat 32 c.tb.k ≠ e.wcyc + 2#32 then c
    else
      let st := stagedTasks c.sl.tasks
      let b := c.tb.tickOfs + e.ke * c.period
      let good := c.pair.progdiff || pairDigest st c.pair.stTimers e.ke b = e.dig
      if !good then c.pr PairBlk.toWaiting
      else
        let ts := match c.pair.progdiff, c.sl.prog with
          | true, some p => itemAreas p c.pair.stItems c.sl.tasks
          | _, _ => st
        let tm := match c.pair.progdiff, c.sl.prog with
          | true, some p => c.pair.stTimers.filter (fun (t : Timer) => (p.carry t.id 1).isSome)
          | _, _ => c.pair.stTimers
        let c := match c.pair.progdiff, c.sl.prog with
          | true, some p => c.logResets (resetItems p c.pair.stItems)
          | _, _ => c
        { c with
          sl := { c.sl with tasks := adopted ts }
          vote := { c.vote with committedNow := c.integrityTasks }
          tb := { c.tb with timers := tm, c := e.ce + (c.tb.k - e.ke) }
          pair := { c.pair with track := .tracking, req := false, endRec := none, stTimers := [], stItems := [] } }

/-! Transfer, active side (R311, R315) -/

/-- Page sums of areas 1 and 2 of the integrity tasks: task, area, page, sum. -/
def pageSums (ts : List TaskRt) : List ((Nat × Nat × Nat) × W64) :=
  (ts.filter (fun (t : TaskRt) => !t.decl.cap)).flatMap (fun (t : TaskRt) => [1, 2].flatMap (fun a =>
    (List.range (pageCount (t.area a))).map (fun p => ((t.decl.num, a, p), t.pageSum a p))))

/-- Pages whose sums differ between two states of the tasks. -/
def changedPages (before after : List TaskRt) : List (Nat × Nat × Nat) :=
  let b := pageSums before
  ((pageSums after).filter (fun x => !(b.contains x))).map (·.1)

/-- Order of pages: task, area, page. -/
def pageLe (a b : Nat × Nat × Nat) : Bool :=
  a.1 < b.1 || (a.1 == b.1 && (a.2.1 < b.2.1 || (a.2.1 == b.2.1 && a.2.2 ≤ b.2.2)))

/-- The least page of some. -/
def leastPage : List (Nat × Nat × Nat) → Option (Nat × Nat × Nat)
  | [] => none
  | p :: ps => match leastPage ps with
    | none => some p
    | some q => if pageLe p q then some p else some q

/-- The first dirty page at or after the cursor, cyclically. -/
def pickPage (cursor : Nat × Nat × Nat) (dirty : List (Nat × Nat × Nat)) : Option (Nat × Nat × Nat) :=
  match leastPage (dirty.filter (fun p => pageLe cursor p)) with
  | some p => some p
  | none => leastPage dirty

/-- The carry-over variables a program declares, ascending, with their words (R315). -/
def itemEntries (p : Program) (ts : List TaskRt) : List XEntry :=
  let vs := (p.carries.filter (fun (d : CarryDecl) => d.kind == 0)).map (fun (d : CarryDecl) =>
    (⟨d.ident, d.typ, d.typ, 0, d.word, d.word, d.count, d.task, d.area, d.task, d.area⟩ : CarryEntry))
  (vs.foldl (fun m e => carryInsert e m) []).map (fun (e : CarryEntry) => ⟨e.ident, 0#32, 0, e.newTyp, e.words ts⟩)

/-- As many item entries as fit in a record of 1,040 octets, at least one. -/
def fitItems : Nat → List XEntry → List XEntry
  | _, [] => []
  | room, e :: es => if 8 + 4 * e.words.length ≤ room then e :: fitItems (room - (8 + 4 * e.words.length)) es else []

/-- A record of a kind with its sequence number. -/
def mkRecord (c : Chan) (n kind area task page : Nat) (ws : List Word) (es : List XEntry) (ce ke : Nat) (d : W64) : PairRecord :=
  ⟨{ c.pairStatus with xseq := n, xkind := kind, xarea := area, xtask := task, xpage := page }, ws, es, ce, ke, d⟩

/-- The next record of a transfer (R311 steps 2 to 4). -/
def Chan.nextRecord (c : Chan) (n : Nat) : Chan :=
  let p := c.pair
  let put (q : PairBlk) (r : PairRecord) : Chan := { c with pair := { q with xseq := n, record := some r, xcount := min q.dirty.length 65535 } }
  let tdig := timerDigest c.tb.timers c.tb.bk
  let tmPos := if p.tmPos ≠ 0 && p.tmDig ≠ tdig then 0 else p.tmPos
  let items := match p.progdiff, c.sl.prog with
    | true, some q => (itemEntries q c.sl.tasks).drop p.itPos
    | _, _ => []
  match (if p.progdiff then none else pickPage p.cursor p.dirty) with
  | some (t, a, g) =>
    let ws := match c.sl.task t with | some x => pageOf (x.area a) g | none => []
    put { p with dirty := p.dirty.filter (· ≠ (t, a, g)), cursor := (t, a, g + 1) } (mkRecord c n 1 a t g ws [] 0 0 0#64)
  | none =>
    match items with
    | e :: es =>
      let l := e :: fitItems (1040 - (8 + 4 * e.words.length)) es
      put { p with itPos := p.itPos + l.length } (mkRecord c n 3 0 0 l.length [] l 0 0 0#64)
    | [] =>
      if tmPos < c.tb.timers.length then
        let l := ((c.tb.timers.drop tmPos).take 52).map (fun (t : Timer) => (⟨t.id, t.dur, t.start, t.stateAt c.tb.bk, []⟩ : XEntry))
        put { p with tmPos := tmPos + l.length, tmDig := tdig } (mkRecord c n 2 0 0 l.length [] l 0 0 0#64)
      else
        let d := pairDigest c.sl.tasks c.tb.timers c.tb.k c.tb.bk
        let sent := if p.progdiff then 0#64 else d
        (put { p with sending := false, transfers := satInc p.transfers } (mkRecord c n 4 0 0 0 [] [] c.tb.c c.tb.k sent)).pr (fun q =>
          { q with pdig := d, pdk := BitVec.ofNat 32 c.tb.k })

/-- The transfer at a boundary of the active module, after its commits: `before` are the tasks ahead of them. -/
def Chan.pairSend (c : Chan) (before : List TaskRt) (req : Bool) : Chan :=
  if !req then c.pr (fun p => { p with sending := false, record := none })
  else if !c.pair.sending then
    if c.pair.record.isSome then c.pr (fun p => { p with record := none })
    else
      let all := (pageSums c.sl.tasks).map (·.1)
      (c.pr (fun p => { p with sending := true, dirty := all, cursor := (0, 1, 0), tmPos := 0, itPos := 0 })).nextRecord 0
  else
    let more := (changedPages before c.sl.tasks).filter (fun p => !c.pair.dirty.contains p)
    (c.pr (fun p => { p with dirty := p.dirty ++ more })).nextRecord (nextXseq c.pair.xseq)

/-! Drive (R305 to R307) -/

/-- Partner statuses that count for the activation: WCYC at or after G of their ring. -/
def PairBlk.sinceG (p : PairBlk) : List PairStatus :=
  p.partner.filterMap (fun x =>
    match p.g.find? (fun g => g.1 == x.1) with
    | some g => if x.2.1 = g.2 || laterW x.2.1 g.2 then some x.2.2 else none
    | none => none)

/-- R306 and R307 at a boundary of an active module. -/
def Chan.pairDriveStep (c : Chan) : Chan :=
  match c.pair.actC with
  | none => c
  | some a =>
    if c.pair.clear then c
    else
      let st := c.pair.sinceG
      let off := st.any (fun (x : PairStatus) => !x.drive)
      if off || (c.tb.c = a + 4 && st.isEmpty) then c.pr (fun p => { p with clear := true })
      else
        let c := c.pr (fun p => { p with wait := min (p.wait + 1) 255 })
        if c.tb.c = a + 4 then (c.pr (fun p => p.hit 3)).trigger .m10 0x12 else c

/-! Health (R309) -/

/-- Summary of object 0x4420.02. -/
def Chan.pairSummary (c : Chan) (seen valid : Bool) (voting : Nat) : Word :=
  let p := c.pair
  BitVec.ofNat 32 (p.h1.toNat + 2 * p.h2.toNat + 4 * p.h3.toNat + (if p.grant = 0 then 8 else 0) + 16 * seen.toNat + 32 * valid.toNat +
    64 * p.progdiff.toNat + 256 * voting + 4096 * p.track.code + 65536 * c.sys.mode.num)

/-- The report of a new operating second. -/
def Chan.pairReport (c : Chan) (seen valid : Bool) (voting : Nat) : Chan :=
  if c.mram.opsec = c.pair.repSec then c
  else c.pr (fun p => { p with
    reports := satInc p.reports
    repSec := c.mram.opsec
    repVals := [p.missInj, p.corrected, p.uncorr, p.h3Finds, BitVec.ofNat 32 c.mram.opsec]
    summary := c.pairSummary seen valid voting })

/-! A boundary (R300 to R315) -/

/-- The part at the commit edge, ahead of the commits: adoption (R311) and the drive of an active module (R306). -/
def Chan.pairEdge (c : Chan) : Chan :=
  let c := c.pairAdopt
  if c.pair.cfg.on && chgMode c.sys.mode then c.pairDriveStep else c

/-- The part after the commits of a channel that votes: REQ and the transfer. -/
def State.pairAfter (s : State) (ch : Ch) (before : List TaskRt) : State :=
  let c := s.chan ch
  if !c.pair.cfg.on then s
  else
    let now := s.partnerNow ch
    let valid := s.pairValid ch
    let active := (now.map (fun (x : PairStatus) => x.role == 2)).getD false
    let req := (now.map (·.req)).getD false
    s.upd ch (fun c =>
      let c := if c.sys.mode = .m5 && c.pair.track = .waiting then c.pr (fun p => { p with req := valid && active }) else c
      if chgMode c.sys.mode then c.pairSend before req else c)

/-- DRIVE as latched once the boundary's drive step is done. -/
def Chan.pairLatch (c : Chan) : Chan := c.pr (fun p => { p with drive := c.wiredDrive })

/-- The part of every boundary of a paired module, whatever its mode: the pair digest of every 64th k (R312), the health report (R309), DRIVE. -/
def State.pairTick (s : State) (ch : Ch) : State :=
  if !(s.chan ch).pair.cfg.on then s
  else
    s.upd ch (fun c =>
      let c := if c.tb.k % 64 = 0 then
          c.pr (fun p => { p with pdig := pairDigest c.sl.tasks c.tb.timers c.tb.k c.tb.bk, pdk := BitVec.ofNat 32 c.tb.k })
        else c
      (c.pairReport (s.partnerNow ch).isSome (s.pairValid ch) s.votingChs.length).pairLatch)

/-- Role and track at a mode change (R306, R310, R314, Table 11-10); M5 holds the safety-wired networks off (R305). -/
def Chan.pairMode (c : Chan) (old new : Mode) : Chan :=
  if !c.pair.cfg.on || old = new then c
  else
    let was := chgMode old
    let c := if was && !chgMode new then
        c.pr (fun p => { p with
          roleEnds := satInc p.roleEnds
          actC := none
          clear := false
          sending := false
          record := none
          g := []
          wait := 0
          miss := 0 })
      else c
    match new with
    | .m5 => (c.mapNets (fun i n => if c.wiring i = 2 then n.release else n)).pr (fun p =>
        if was then { p with track := .tracking, req := false } else p.toWaiting)
    | .m7 | .m8 =>
      if was then c
      else c.pr (fun p => { p with
        track := .none
        req := false
        activations := satInc p.activations
        actC := some c.tb.c
        clear := false
        miss := 0
        wait := 0
        stTimers := []
        stItems := []
        endRec := none
        xseq := 0
        xcount := 0
        record := none
        sending := false })
    | _ => c.pr (fun p => { p with track := .none, req := false })

/-! Standby tests (R308) -/

/-- A failed test: flag and record. -/
def Chan.pairTestFail (c : Chan) (t detail : Nat) : Chan :=
  (c.pr (fun p => p.hit 7)).log 0x11 (leB 1 t ++ leB 1 0 ++ leB 2 0 ++ leB 4 detail)

/-- One cell of an H1 cycle is tested: the cycle is complete when every bonded cell is, and its result then shows (R308, R309). -/
def PairBlk.testedH1 (p : PairBlk) (cell : Nat) (ok : Bool) (todo : List Nat) : PairBlk :=
  let l := (cell, ok) :: p.cycle1.filter (fun x => x.1 != cell)
  if todo.all (fun n => l.any (fun x => x.1 == n)) then { p with h1 := l.all (·.2), cycle1 := [] } else { p with cycle1 := l }

/-- One transistor of an H3 cycle is tested. -/
def PairBlk.testedH3 (p : PairBlk) (x : Nat × Nat) (ok : Bool) (todo : List (Nat × Nat)) : PairBlk :=
  let l := (x, ok) :: p.cycle3.filter (fun y => y.1 != x)
  if todo.all (fun n => l.any (fun y => y.1 == n)) then { p with h3 := l.all (·.2), cycle3 := [] } else { p with cycle3 := l }

/-- The result of a test. -/
def Chan.pairTest (c : Chan) (ch : Ch) : StandbyTest → Chan
  | .h1 cell ok =>
    let c := if ok then c else
      let c := (c.pr (fun p => { p with missInj := satInc p.missInj })).pairTestFail 1 cell
      let c := c.updCell cell (fun _ => CellSt.init)
      if c.bondedCount < c.sys.minBonded then c.notice ch 0x05 else c
    let todo := c.bondedCells
    c.pr (fun p => p.testedH1 cell ok todo)
  | .h2 cor unc =>
    let c := c.pr (fun p => { p with h2 := decide (unc = 0), corrected := BitVec.ofNat 32 cor, uncorr := BitVec.ofNat 32 unc })
    if unc = 0 then c else c.pairTestFail 2 unc
  | .h3 net idx ok on =>
    let c := c.stampTest net idx c.now
    let c := if ok && !on then c else
      let c := (c.pr (fun p => { p with h3Finds := satInc p.h3Finds })).pairTestFail 3 (net * 256 + idx)
      if on then c.outFault
      else
        let c := c.markFailed net (.stuckOff idx)
        if 16 ≤ net then c.stoFault (net - 16) 2 else c
    let todo := (((List.range 18).filter (fun n => c.wiring n == 2)).flatMap (fun n => (ownedBy ch).map (fun i => (n, i))))
    c.pr (fun p => p.testedH3 (net, idx) (ok && !on) todo)

/-- STANDBY_TEST: in M5 of a configured pair; H1 runs on a bonded cell that holds no slice. -/
def execStandbyTest (ch : Ch) (t : StandbyTest) (s : State) : Out :=
  onChan s ch (fun c =>
    let fits := match t with
      | .h1 cell _ => (c.cell cell).mode == .bonded && (c.core (2 * cell)).slice == 0#32
      | .h2 _ _ => true
      | .h3 net idx _ _ => c.wiring net == 2 && (ownedBy ch).contains idx
    if c.sys.mode = .m5 && c.pair.cfg.on && c.up && fits then c.pairTest ch t else c)

end Sys2Proof.Machine
end

