-- ==== Sys2Proof/Machine/Regs.lean ====
section
/-! DEFINITION. The registers as the fabric reads them, block by block, with the shadows of R94 (R7, R8, R45, R73, R107, R137, R172, R195, R214, R251, R272, R295, R318, R348, R366, R395, R422, R435, R457, R471, R497). -/

namespace Sys2Proof.Machine
open Sys2Proof

/-- A register of `n` instances at `base`. -/
def regArr (o base n : Nat) (f : Nat → Word) : Option Word :=
  if base ≤ o && o < base + 4 * n then some (f ((o - base) / 4)) else none

/-- A single register. -/
def regAt (o base : Nat) (w : Word) : Option Word := if o = base then some w else none

/-- The first register that matches; a reserved offset reads 0 (R8). -/
def regPick (l : List (Option Word)) : Word := (l.find? Option.isSome).elim 0#32 (fun x => x.getD 0#32)

/-- The event counters behind a flag register (R10). -/
def regCnt (o base n : Nat) (f : FlagReg) : Option Word := regArr o base n f.count

/-- A number as a register value. -/
def regN (n : Nat) : Word := BitVec.ofNat 32 n

/-- An I32 value, saturating. -/
def regI (v : Int) : Word := BitVec.ofInt 32 (max (-2147483648) (min v 2147483647))

/-- Bits set in the order of a list, bit 0 first. -/
def regBits (l : List Bool) : Nat := l.foldr (fun b n => b.toNat + 2 * n) 0

/-- The low half of a 64-bit value. -/
def loW (v : W64) : Word := v.extractLsb' 0 32
/-- The high half. -/
def hiW (v : W64) : Word := v.extractLsb' 32 32

/-- How many of the operating seconds of a list lie within the last 3,600 s (R425). -/
def Chan.hourOf (c : Chan) (l : List Nat) : Nat := (l.filter (fun t => decide (c.mram.opsec < t + 3600))).length

/-! Shadows (R94) -/

/-- The value of a 64-bit register pair. -/
def Chan.wide (c : Chan) : ShadowReg → W64
  | .now => BitVec.ofNat 64 c.now
  | .tickNum => BitVec.ofNat 64 c.tb.latest.2
  | .gm => c.ecn.gm
  | .chgLdig => c.chg.ldig
  | .bridgeEvt => c.bridge.evt
  | .bridgeEvtPub => c.bridge.evtPub
  | .pairPdig => c.pair.pdig
  | .voteDig => c.vote.dig
  | .votePeer0 => c.vote.peer0
  | .votePeer1 => c.vote.peer1
  | .voteRs => c.vote.rs
  | .voteRsPeer0 => c.vote.rsPeer0
  | .voteRsPeer1 => c.vote.rsPeer1
  | .nvmLdig => c.dict.ldig

/-- Block and offset of the low register of each pair. -/
def shadowAt : ShadowReg → Nat × Nat
  | .now => (2, 0x000)
  | .tickNum => (2, 0x030)
  | .gm => (7, 0x014)
  | .chgLdig => (3, 0x610)
  | .bridgeEvt => (9, 0x030)
  | .bridgeEvtPub => (9, 0x038)
  | .pairPdig => (0, 0x410)
  | .voteDig => (4, 0x010)
  | .votePeer0 => (4, 0x018)
  | .votePeer1 => (4, 0x020)
  | .voteRs => (4, 0x028)
  | .voteRsPeer0 => (4, 0x030)
  | .voteRsPeer1 => (4, 0x038)
  | .nvmLdig => (13, 0x018)

/-- Every pair. -/
def shadowRegs : List ShadowReg :=
  [.now, .tickNum, .gm, .chgLdig, .bridgeEvt, .bridgeEvtPub, .pairPdig, .voteDig, .votePeer0, .votePeer1,
   .voteRs, .voteRsPeer0, .voteRsPeer1, .nvmLdig]

/-- Whether an initiator holds shadows: each core, the reeve and the debug module. -/
def hasShadow : Initiator → Bool
  | .engine _ => false
  | _ => true

/-- The pair whose low register lies at a block's offset. -/
def shadowLo (blk o : Nat) : Option ShadowReg := shadowRegs.find? (fun r => shadowAt r == (blk, o))

/-- The pair whose high register lies at a block's offset. -/
def shadowHi (blk o : Nat) : Option ShadowReg := shadowRegs.find? (fun r => shadowAt r == (blk, o - 4) && 4 ≤ o)

/-- The shadow of a pair held for an initiator. -/
def TimeBlk.shadow (t : TimeBlk) (ini : Initiator) (r : ShadowReg) : Word :=
  match t.shadows.find? (fun (x : Initiator × ShadowReg × Word) => x.1 == ini && x.2.1 == r) with
  | some x => x.2.2
  | none => 0#32

/-- A low read copies the upper half into the reader's shadow. -/
def Chan.latch (c : Chan) (ini : Initiator) (r : ShadowReg) : Chan :=
  if hasShadow ini then
    { c with tb := { c.tb with
      shadows := (c.tb.shadows.filter (fun (x : Initiator × ShadowReg × Word) => !(x.1 == ini && x.2.1 == r))) ++ [(ini, r, hiW (c.wide r))] } }
  else c

/-! SYSCTL -/

/-- SYSCTL_REEVE_STAT (Table 1-19). -/
def Chan.reeveStat (c : Chan) : Word :=
  regN (c.sys.reeveRestarts * 65536 + min (c.hourOf c.sys.reeveHist) 4 * 256 + c.sys.reeveState)

/-- SYSCTL_MODE (Table 2-10). -/
def Chan.modeWord (c : Chan) : Word :=
  let sub := if c.sys.flushing then 2 else if c.chg.state = .idle then 0 else 1
  regN (c.sys.cause * 16777216 + sub * 65536 + c.sys.cstate.code * 256 + c.sys.mode.num)

/-- Seconds until the automatic restart (R56): 0 outside M10 and where none will be made. -/
def Chan.dwellLeft (c : Chan) : Nat :=
  match c.sys.m10At with
  | some t =>
    if c.sys.mode = .m10 && c.cfgF 0x1012 1 && [0x03, 0x04, 0x06, 0x07, 0x11, 0x12].contains c.sys.cause then
      c.cfgN 0x1012 2 - (c.mram.opsec - t)
    else 0
  | none => 0

/-- SYSCTL_RESTART (Table 2-13). -/
def Chan.restartWord (c : Chan) : Word := regN (min (c.hourOf c.mram.restarts) 8 * 65536 + c.dwellLeft)

/-- SYSCTL_PAIR_STAT (Table 11-11). -/
def State.pairStat (s : State) (ch : Ch) : Word :=
  let c := s.chan ch
  let now := s.partnerNow ch
  regN (c.pairRole * 1073741824 + c.pair.track.code * 268435456 + c.wiredDrive.toNat * 134217728 + c.pair.progdiff.toNat * 67108864 +
    now.isSome.toNat * 33554432 + (c.tb.valid && (now.map (·.timeValid)).getD false).toNat * 16777216 + c.pair.grant * 4194304 +
    c.pair.miss * 1048576 + min c.pair.wait 255)

/-- SYSCTL_COMPAT (Table 17-13). -/
def Chan.compatWord (c : Chan) : Word :=
  regN (c.compat.ldiag * 65536 + c.tb.c % 16 * 4096 + c.compat.tstate * 256 + c.compat.treason)

/-- SYSCTL, by offset. -/
def State.regSys (s : State) (ch : Ch) (o : Nat) : Word :=
  let c := s.chan ch
  let y := c.sys
  regPick [
    regAt o 0x000 (regN (y.issue.toNat * 16777216 + 65536 + chCode ch)),
    regAt o 0x010 (regN (y.minBonded * 256 + y.split.toNat)),
    regAt o 0x014 (regN (c.cells.foldr (fun (x : CellSt) n => x.mode.code + 4 * n) 0)),
    regAt o 0x020 (regN (y.outInt * 16777216 + y.outEng * 65536 + y.outRev * 256 + y.outCap)),
    regAt o 0x030 y.viol.bits,
    regAt o 0x034 y.vaddr,
    regAt o 0x038 y.vsrc,
    regAt o 0x040 (regN (y.dramSplit * 65536 + y.sramSplit)),
    regAt o 0x050 y.unmap,
    regAt o 0x070 c.reeveStat,
    regCnt o 0x080 7 y.viol,
    regAt o 0x100 c.modeWord,
    regAt o 0x104 s.chanView,
    regAt o 0x108 y.modeFlag.bits,
    regAt o 0x10C c.restartWord,
    regCnt o 0x180 3 y.modeFlag,
    regAt o 0x200 y.cmp.bits,
    regArr o 0x210 8 (fun n => (c.cell n).capWord),
    regArr o 0x240 8 (fun n => ((c.cell n).cap.map (·.pc)).getD 0#32),
    regCnt o 0x280 16 y.cmp,
    regAt o 0x400 (s.pairStat ch),
    regAt o 0x404 c.pair.flag.bits,
    regAt o 0x408 (regN (c.pair.xseq * 65536 + min (if chgMode y.mode then c.pair.dirty.length else c.pair.xcount) 65535)),
    regAt o 0x410 (loW c.pair.pdig),
    regCnt o 0x440 10 c.pair.flag,
    regAt o 0x500 c.compatWord,
    regAt o 0x504 c.compat.lcycle,
    regAt o 0x508 (regN c.compat.bound)]

/-! CLOCK and TIMEBASE -/

/-- CLOCK_STAT (Table 3-10). -/
def ClockBlk.stat (k : ClockBlk) : Word := regN (regBits [k.laneLock, k.pllLock, k.divRun, k.qual, k.holdover, k.keepSrc])

/-- Source frequency of CLKOUT in Hz (Table 3-5); none for events and unused codes. DESIGN CHOICE (log entry 113): the watch oscillator's
frequency while it is unqualified is taken as 0. -/
def ClockBlk.outHz (k : ClockBlk) : Nat :=
  match k.outSrc with
  | 0 => 125000000 | 1 => 1000000000 | 2 => 750000000 | 3 => 500000000 | 4 => 250000000 | 5 => 125000000
  | 6 => 20000000 | 7 => 8000000 | 8 => k.cal | _ => 0

/-- The resulting frequency of CLKOUT would exceed 62.5 MHz (R92). -/
def ClockBlk.outRange (k : ClockBlk) : Bool := k.outEn && decide (62500000 * (k.outDiv + 1) < k.outHz)

/-- CLOCK_CLKOUT (Table 3-15), RANGE by R92 of a channel that drives the pin: 0 after reset. -/
def ClockBlk.outWord (k : ClockBlk) : Word :=
  regN (k.outEn.toNat * 2147483648 + k.outRange.toNat * 1073741824 + k.outSrc * 16777216 + k.outDiv)

/-- What a channel puts on the CLKOUT pin (R91, R92). -/
inductive ClkPin where
  | highZ
  | low
  /-- A clock: source frequency in Hz, division, and half cycles of the source that it is high per period. -/
  | clock (hz div high : Nat)
  /-- A level that changes at events. -/
  | level (b : Bool)
deriving DecidableEq, Repr

/-- The CLKOUT pin of a channel (R91, R92, Table 3-5): high impedance without EN, held low in M0, M1 and S1, out of range and for unused sources. -/
def Chan.clkout (c : Chan) : ClkPin :=
  let k := c.clk
  let div := k.outDiv + 1
  if !k.outEn then .highZ
  else if c.sys.mode = .m0 || c.sys.mode = .m1 || (c.assay.step = 1 && c.assay.result = 3) || k.outRange || 10 < k.outSrc then .low
  else if k.outSrc = 9 || k.outSrc = 10 then .level (decide ((c.outEvents k.outSrc - k.outBase) / div % 2 = 1))
  else .clock k.outHz div (if div = 1 then 1 else if div % 2 = 0 then div else div + 1)

/-- CLOCK, by offset. -/
def Chan.regClock (c : Chan) (o : Nat) : Word :=
  let k := c.clk
  regPick [
    regAt o 0x000 k.stat,
    regAt o 0x004 k.mon.bits,
    regAt o 0x008 (regN (k.forced.bits.toNat % 256 * 256 + k.muxSel.toNat)),
    regAt o 0x010 k.watchWord,
    regAt o 0x014 k.tripWord,
    regAt o 0x020 k.outWord,
    regCnt o 0x040 11 k.mon,
    regCnt o 0x080 8 k.forced]

/-- The timer TIMEBASE_TMR_QID selects (R167). -/
def TimeBlk.queried (t : TimeBlk) : Option Timer := t.timers.find? (fun (x : Timer) => x.id == t.qid)

/-- TIMEBASE_STAT (Table 3-17). -/
def TimeBlk.stat (t : TimeBlk) : Word :=
  regN (t.used * 65536 + t.valid.toNat * 16 + t.tickRun.toNat * 8 + t.aligned.toNat * 4 + t.dstate.code)

/-- TIMEBASE, by offset. -/
def Chan.regTime (c : Chan) (o : Nat) : Word :=
  let t := c.tb
  regPick [
    regAt o 0x000 (loW (c.wide .now)),
    regAt o 0x008 (regN t.inc),
    regAt o 0x00C (regN (t.inc / 4294967296)),
    regAt o 0x010 t.stat,
    regAt o 0x014 t.flag.bits,
    regAt o 0x018 (regI t.offset),
    regAt o 0x01C (regI t.rate),
    regAt o 0x020 (regI t.trim),
    regAt o 0x024 (regN t.period),
    regAt o 0x028 (regN t.tickOfs),
    regAt o 0x030 (loW (c.wide .tickNum)),
    regAt o 0x038 (regI t.skew0),
    regAt o 0x03C (regI t.skew1),
    regAt o 0x040 (loW (BitVec.ofInt 64 t.step)),
    regAt o 0x044 (hiW (BitVec.ofInt 64 t.step)),
    regAt o 0x048 (regN (t.src * 16777216 + t.jump)),
    regCnt o 0x080 5 t.flag,
    regAt o 0x100 t.qid,
    regAt o 0x104 (regN ((t.queried.map (fun (x : Timer) => x.stateAt t.bk)).getD 0)),
    regAt o 0x108 ((t.queried.map (·.dur)).getD 0#32),
    regAt o 0x10C (regN ((t.queried.map (fun (x : Timer) => x.elapsed t.bk)).getD 0)),
    regAt o 0x110 (regN t.timers.length),
    regAt o 0x120 t.tmrFlag.bits,
    regCnt o 0x140 1 t.tmrFlag]

/-! SLICE -/

/-- A queue register (Table 5-11). -/
def queueWord (q : List QRange) : Word := regN (q.length * 33554432 + q.foldl (fun n (r : QRange) => n + r.n) 0)

/-- SLICE_STAT (Table 5-9). DESIGN CHOICE (log entry 116): DIST shows the bonded cells that receive ranges, not the split ones whose cores
receive capacity ranges. -/
def Chan.sliceStat (c : Chan) : Word :=
  let run := c.sys.mode.runs
  let active := (c.sl.tasks.filter (fun (t : TaskRt) => t.inst.isSome)).length
  let dist := if run then c.bondedCells else []
  let haltq := (List.range 8).filter (fun n => (c.cell n).mode == .halted && !((c.sl.q[n]?).getD []).isEmpty)
  regN (run.toNat * 2147483648 + active * 65536 + regBits ((List.range 8).map dist.contains) * 256 + regBits ((List.range 8).map haltq.contains))

/-- SLICE_TASK_STAT[t] (Table 5-14). -/
def SliceBlk.taskStat (e : SliceBlk) (n : Nat) : Word :=
  match e.task n with
  | none => 0xC0000000#32
  | some t =>
    let cap := t.decl.cap.toNat * 536870912 + min t.ovrRun 15 * 1048576
    match t.inst with
    | none => regN cap
    | some i => regN ((if i.complete then 2 else 1) * 1073741824 + cap + i.stage * 16777216 + i.left)

/-- SLICE_TASK_TIME[t]. -/
def SliceBlk.taskTime (e : SliceBlk) (n : Nat) : Word := ((e.task n).map (·.lastTime)).getD 0#32

/-- SLICE_FAULT_INFO (Table 5-13). -/
def FaultInfo.word (f : FaultInfo) : Word := regN (f.cell * 16777216 + f.attempt * 65536 + f.cause % 256)

/-- SLICE_CHG_STAT (Table 7-10). -/
def ChangeBlk.stat (g : ChangeBlk) : Word := regN ((if g.state = .trial then min g.trialS 1048575 else 0) * 4096 + g.reason * 256 + g.bank * 16 + g.state.code)

/-- SLICE, by offset. -/
def Chan.regSlice (c : Chan) (o : Nat) : Word :=
  let e := c.sl
  let g := c.chg
  regPick [
    regAt o 0x000 c.sliceStat,
    regAt o 0x004 (regN (e.cutoff * 65536 + e.ovrLimit)),
    regArr o 0x010 8 (fun n => queueWord ((e.q[n]?).getD [])),
    regAt o 0x050 e.flag.bits,
    regAt o 0x060 e.fault.handle,
    regAt o 0x064 e.fault.word,
    regAt o 0x070 (loW (e.capHold &&& ~~~ e.integrityBits)),
    regAt o 0x074 (hiW (e.capHold &&& ~~~ e.integrityBits)),
    regCnt o 0x080 8 e.flag,
    regArr o 0x0C0 8 (fun n => (e.glean[n]?).getD 0#32),
    regArr o 0x0E0 8 (fun n => (e.availCnt[n]?).getD 0#32),
    regArr o 0x100 16 (fun n => queueWord ((e.cq[n]?).getD [])),
    regArr o 0x400 64 e.taskStat,
    regArr o 0x500 64 e.taskTime,
    regAt o 0x600 g.stat,
    regAt o 0x604 g.flag.bits,
    regAt o 0x608 (regN g.swc),
    regAt o 0x60C (regN g.words),
    regAt o 0x610 (loW g.ldig),
    regCnt o 0x640 5 g.flag]

/-! VOTE and XLINK -/

/-- Code of a channel or 3 for none. -/
def chCodeO : Option Ch → Nat
  | some x => chCode x
  | none => 3

/-- VOTE_STAT (Table 6-8). -/
def Chan.voteStat (c : Chan) : Word :=
  let v := c.vote
  let unsync := (c.sl.tasks.filter (fun (t : TaskRt) => !t.decl.cap && t.unsync)).length
  regN (unsync * 65536 + chCodeO (v.run.map (·.src)) * 4096 + v.state.code * 256 + v.gate.toNat * 128 + v.conf.toNat * 64 +
    v.nomaj.toNat * 8 + (v.agree ||| (if v.state = .voting then v.own else 0#3)).toNat)

/-- VOTE_RUN (Table 6-11). -/
def Chan.voteRun (c : Chan) : Word :=
  regN (min (c.hourOf c.mram.resyncs) 3 * 16777216 + min c.vote.silent1 15 * 1048576 + min c.vote.silent0 15 * 65536 + min c.vote.minRun 65535)

/-- VOTE_OUT (Table 6-12). -/
def VoteBlk.outWord (v : VoteBlk) : Word := regN (v.out.c * 65536 + v.out.b * 256 + v.out.a)

/-- VOTE_PROOF: operating hours since the last start whose assay passed in all channels (R189). -/
def Chan.proofHours (c : Chan) : Nat := (c.mram.opsec - c.mram.proofAt) / 3600

/-- VOTE, by offset. -/
def Chan.regVote (c : Chan) (o : Nat) : Word :=
  let v := c.vote
  regPick [
    regAt o 0x000 c.voteStat,
    regAt o 0x004 (regN v.proofH),
    regAt o 0x010 (loW v.dig),
    regAt o 0x018 (loW v.peer0),
    regAt o 0x020 (loW v.peer1),
    regAt o 0x028 (loW v.rs),
    regAt o 0x030 (loW v.rsPeer0),
    regAt o 0x038 (loW v.rsPeer1),
    regAt o 0x040 v.flag.bits,
    regAt o 0x044 c.voteRun,
    regAt o 0x048 v.outWord,
    regAt o 0x04C (regN (c.hourOf v.minHour)),
    regAt o 0x050 (regN c.proofHours),
    regCnt o 0x080 9 v.flag]

/-- Traffic of `ch` to its peer on a link is relayed through the third channel (R34). -/
def State.relayed (s : State) (ch : Ch) (l : Link) : Bool :=
  let p := peerOf ch l
  !s.linked ch p && s.linked ch (third ch p) && s.linked (third ch p) p

/-- XLINK_LINK_STAT[n] (Table 1-20). -/
def State.linkStat (s : State) (ch : Ch) (l : Link) : Word :=
  let e := (s.chan ch).lend l
  regN (e.peer * 256 + (s.relayed ch l).toNat * 8 + e.codeErr.toNat * 4 + e.loss.toNat * 2 + e.up.toNat)

/-- XLINK, by offset. -/
def State.regXlink (s : State) (ch : Ch) (o : Nat) : Word :=
  let x := (s.chan ch).xl
  regPick [
    regAt o 0x000 (s.linkStat ch .next),
    regAt o 0x004 (s.linkStat ch .prev),
    regAt o 0x010 x.l0.lossCnt,
    regAt o 0x014 x.l1.lossCnt,
    regAt o 0x018 x.l0.codeCnt,
    regAt o 0x01C x.l1.codeCnt]

/-! MILLRACE, ECN, MVB, BRIDGE -/

/-- Ring or plane number of a channel's block: 1 for A, 2 for B, 0 for C. -/
def stationOf : Ch → Nat
  | .A => 1 | .B => 2 | .C => 0

/-- MILLRACE_STAT (Table 8-11). -/
def MillBlk.stat (m : MillBlk) (ch : Ch) : Word :=
  regN (stationOf ch * 1073741824 + m.addr * 16777216 + m.nstate.code * 65536 + min m.silent 255 * 256 + m.line.toNat * 32 + m.loop * 4 +
    m.up1.toNat * 2 + m.up0.toNat)

/-- MILLRACE_SHEP (Table 8-15). -/
def MillBlk.shepWord (m : MillBlk) : Word :=
  regN (m.shepLocked.toNat * 2147483648 + m.shepValid.toNat * 1073741824 + m.hold * 256 + (m.cuts.filter id).length)

/-- MILLRACE_MB_STAT (Table 8-16). -/
def MillBlk.mbStat (m : MillBlk) : Word := regN (m.mbSeq * 16777216 + m.mbTo * 65536 + m.mbRetry * 256 + m.mbOut.isSome.toNat)

/-- MILLRACE, by offset: 0 in channel C, which has no ring (R216). -/
def Chan.regMill (c : Chan) (ch : Ch) (o : Nat) : Word :=
  let m := c.mill
  if ch = Ch.C then 0#32 else regPick [
    regAt o 0x000 (m.stat ch),
    regAt o 0x004 (regN (m.role * 1073741824 + m.nsub * 65536 + m.len)),
    regAt o 0x008 m.sched,
    regAt o 0x00C m.cycle,
    regAt o 0x010 (regN m.delay0),
    regAt o 0x014 (regN m.delay1),
    regAt o 0x018 (regN m.res),
    regAt o 0x020 m.flag.bits,
    regAt o 0x024 m.shepWord,
    regAt o 0x030 m.mbStat,
    regCnt o 0x080 19 m.flag,
    regArr o 0x100 8 (fun n => (m.marks[n]?).getD 0#32),
    regArr o 0x200 128 (fun n => (m.subCrc[n]?).getD 0#32),
    regArr o 0x400 128 (fun n => (m.subEmpty[n]?).getD 0#32),
    regArr o 0x600 128 (fun n => (m.subMiss[n]?).getD 0#32),
    regArr o 0x1000 512 (wGet m.mbBuf)]

/-- ECN_STAT.PTPST (Table 9-4). -/
def EcnBlk.ptpst (e : EcnBlk) : Nat :=
  if e.sel.isNone then 0 else if e.sampled then 3 else if e.delays.isEmpty then 1 else 2

/-- ECN_STAT (Table 9-4); `on`: the plane's switch works (R254). -/
def EcnBlk.stat (e : EcnBlk) (ch : Ch) (on : Bool) : Word :=
  regN (stationOf ch * 1073741824 + e.ptpst * 1024 + (e.tc && on).toNat * 8 + (e.sw && on).toNat * 4 + e.up1.toNat * 2 + e.up0.toNat)

/-- ECN, by offset. -/
def Chan.regEcn (c : Chan) (ch : Ch) (o : Nat) : Word :=
  let e := c.ecn
  regPick [
    regAt o 0x000 (e.stat ch (c.sys.cstate.present && planeMode c.sys.mode)),
    regAt o 0x010 (regN e.mpd),
    regAt o 0x014 (loW e.gm),
    regAt o 0x020 e.flag.bits,
    regCnt o 0x080 10 e.flag,
    regArr o 0x200 128 (fun n => (e.subRx[n]?).getD 0#32),
    regArr o 0x400 128 (fun n => (e.pubTx[n]?).getD 0#32)]

/-- MVB_STAT (Tables 9-7, 9-8). -/
def MvbBlk.stat (m : MvbBlk) : Word :=
  regN (m.dev * 65536 + m.ports.length * 16 + m.trustB.toNat * 4 + (m.histB.any id).toNat * 2 + (m.histA.any id).toNat)

/-- MVB, by offset: 0 in channels A and B (R272). -/
def Chan.regMvb (c : Chan) (ch : Ch) (o : Nat) : Word :=
  if ch = Ch.C then regPick [regAt o 0x000 c.mvb.stat, regAt o 0x020 c.mvb.flag.bits, regCnt o 0x080 5 c.mvb.flag] else 0#32

/-- BRIDGE_STAT (Table 10-9); `on`: the bridge is active (Table 10-8). -/
def BridgeBlk.stat (b : BridgeBlk) (on : Bool) : Word :=
  regN (on.toNat * 2147483648 + b.wired.toNat * 1073741824 + b.queue.length * 65536 + b.work.length * 256 +
    (b.slots.filter (fun (x : Slot) => x.state != .free)).length)

/-- BRIDGE_SLOT[s] (Table 10-11). -/
def Chan.slotWord (c : Chan) (n : Nat) : Word :=
  let x := c.bridge.slot n
  let left := match x.until_ with
    | some t => (t - c.now + 9999) / 10000
    | none => 0
  regN (x.state.code * 536870912 + x.entry * 16384 + min left 8191)

/-- BRIDGE, by offset. -/
def Chan.regBridge (c : Chan) (o : Nat) : Word :=
  let b := c.bridge
  regPick [
    regAt o 0x000 (b.stat c.bridgeOn),
    regAt o 0x004 (regN (b.collect * 65536 + b.life)),
    regAt o 0x020 b.flag.bits,
    regAt o 0x030 (loW b.evt),
    regAt o 0x038 (loW b.evtPub),
    regArr o 0x040 8 (fun n => (b.wireCnt[n]?).getD 0#32),
    regCnt o 0x080 12 b.flag,
    regArr o 0x200 32 c.slotWord]

/-! FIELD and SDCHAIN -/

/-- FIELD_OUT_CFG[n] (Table 12-15). -/
def Chan.outCfgWord (c : Chan) (n : Nat) : Word :=
  let g := (c.net n).cfg
  let sto := decide (16 ≤ n)
  regN ((g.safety || sto).toNat * 2147483648 + (g.test || sto).toNat * 1073741824 + (if sto then 0 else g.safe) * 268435456 +
    c.wiring n * 67108864 + g.permit * 65536 + g.quench)

/-- Energised by the partner module: wired to it and energised while no channel of this module commands the network (R304). -/
def State.partOn (s : State) (ch : Ch) (n : Nat) : Bool :=
  let x := (s.chan ch).net n
  decide ((s.chan ch).wiring n ≠ 0) && x.qplus && x.qminus && s.onChs n == 0

/-- FIELD_OUT_STAT[n] (Table 12-16). -/
def State.outStatWord (s : State) (ch : Ch) (n : Nat) : Word :=
  let x := (s.chan ch).net n
  regN (x.state.code * 1073741824 + x.tcond.toNat * 65536 + (x.qplus && x.qminus).toNat * 8192 + (s.partOn ch n).toNat * 4096 + min x.current 1023)

/-- FIELD_STO_CFG[m] (R348). -/
def Chan.stoCfgWord (c : Chan) (m : Nat) : Word :=
  let x := if m = 0 then c.field.sto0 else c.field.sto1
  regN (x.disc * 16777216 + x.fbEn.toNat * 8388608 + x.fbPol.toNat * 4194304 + x.fbIn * 65536 + c.field.rstIn)

/-- One bit per network. -/
def Chan.netBits (c : Chan) (f : NetRt → Bool) : Word := regN (regBits (c.field.nets.map f))

/-- FIELD_STAT (Table 12-10); HOLDQ follows R331. -/
def Chan.fieldStat (c : Chan) : Word :=
  regN (c.field.fsup.toNat * 2147483648 + c.clk.qual.toNat * 1073741824 + ((c.field.test.map (·.1)).getD 255) * 65536 +
    ((c.field.test.map (·.2)).getD 0) * 256)

/-- FIELD, by offset. -/
def State.regField (s : State) (ch : Ch) (o : Nat) : Word :=
  let c := s.chan ch
  let f := c.field
  regPick [
    regAt o 0x000 c.fieldStat,
    regAt o 0x004 f.raw,
    regAt o 0x008 f.lvl,
    regAt o 0x00C f.agree,
    regAt o 0x010 (f.typ.setWidth 32),
    regAt o 0x014 f.sense,
    regAt o 0x018 (f.rbSense.setWidth 32),
    regAt o 0x020 (c.netBits (·.cmd)),
    regAt o 0x024 (c.netBits (·.drv)),
    regAt o 0x028 (c.netBits (·.quench)),
    regAt o 0x030 f.flag.bits,
    regAt o 0x040 c.stoStat,
    regCnt o 0x080 14 f.flag,
    regArr o 0x100 32 (fun i => regN ((atD (0, 100) i f.inCfg).1 * 65536 + (atD (0, 100) i f.inCfg).2)),
    regArr o 0x200 32 (fun i => (c.sl.rise[i]?).getD 0#32),
    regArr o 0x280 32 (fun i => (c.sl.fall[i]?).getD 0#32),
    regArr o 0x300 18 c.outCfgWord,
    regArr o 0x380 18 (s.outStatWord ch),
    regArr o 0x400 18 (fun n => (c.net n).findWord),
    regArr o 0x480 2 c.stoCfgWord]

/-- SDCHAIN_CFG[i] (Table 13-12). -/
def SdCfg.word (g : SdCfg) : Word :=
  regN (g.en.toNat * 2147483648 + g.inv.toNat * 1073741824 + (g.order - 3) * 268435456 + g.rcode * 33554432 + g.prof * 8388608 + g.nsamp)

/-- SDCHAIN_STAT (Table 13-10). -/
def SdBlk.stat (d : SdBlk) : Word :=
  regN (chCodeO d.clkCh * 1073741824 + d.drv.toNat * 536870912 + d.run.toNat * 268435456 + min d.lastL 65535)

/-- SDCHAIN, by offset. -/
def Chan.regSd (c : Chan) (o : Nat) : Word :=
  let d := c.sd
  let inp (n : Nat) : SdIn := atD SdIn.init n d.ins
  regPick [
    regAt o 0x000 d.stat,
    regAt o 0x020 d.flag.bits,
    regAt o 0x040 d.chk,
    regAt o 0x044 d.peer0,
    regAt o 0x048 d.peer1,
    regAt o 0x050 (d.sense.setWidth 32),
    regCnt o 0x080 9 d.flag,
    regArr o 0x100 12 (fun i => (inp i).cfg.word),
    regArr o 0x180 12 (fun i => (inp i).status),
    regArr o 0x200 12 (fun i => (inp i).last)]

/-! CHRON, NVM, SEC, HOSTIF, ASSAY, DEBUG, PWR -/

/-- CHRON_STAT (Table 16-3). -/
def ChronBlk.stat (k : ChronBlk) : Word := regN (k.ready.toNat * 2147483648 + k.flush.toNat * 1073741824 + k.queue.length)

/-- CHRON, by offset: a staging buffer of 488 octets per initiator. -/
def Chan.regChron (c : Chan) (o : Nat) : Word :=
  let k := c.chron
  regPick [
    regAt o 0x000 k.stat,
    regAt o 0x004 (regN k.head),
    regAt o 0x008 (regN k.tail),
    regAt o 0x00C k.seq,
    regAt o 0x010 k.oldSeq,
    regAt o 0x014 (regN c.mram.opsec),
    regAt o 0x018 (regN c.mram.pcyc),
    regAt o 0x01C k.ovw,
    regAt o 0x020 k.flag.bits,
    regCnt o 0x080 6 k.flag,
    (if 0x1000 ≤ o && o < 0x1000 + 0x200 * 17 && (o - 0x1000) % 0x200 < 488 then
      some (wGet ((k.stage[(o - 0x1000) / 0x200]?).getD []) ((o - 0x1000) % 0x200 / 4)) else none)]

/-- NVM_STAT (Table 14-15); free blocks and octets show 0 until the journal has been read, their value after reset. -/
def State.nvmStat (s : State) (ch : Ch) : Word :=
  let d := (s.chan ch).dict
  regN (d.ready.toNat * 2147483648 + (s.seqCh == some ch).toNat * 1073741824 + (d.txn.isSome || d.prep.isSome).toNat * 536870912 +
    d.compact.toNat * 268435456 + (if d.ready then d.freeBlocks.length * 65536 + d.active else 0))

/-- NVM, by offset. -/
def State.regNvm (s : State) (ch : Ch) (o : Nat) : Word :=
  let d := (s.chan ch).dict
  regPick [
    regAt o 0x000 (s.nvmStat ch),
    regAt o 0x004 (regN (if d.ready then d.lastTxn else 0)),
    regAt o 0x008 (regN (if d.ready then d.freeOctets else 0)),
    regAt o 0x00C (regN (if d.ready then d.blocks.foldl (fun n (b : Nat × Nat) => max n b.1) 0 else 0)),
    regAt o 0x010 (regN (if d.ready then d.live.length else 0)),
    regAt o 0x014 (regN (if d.ready then (d.live.filter (fun (e : JEntry) => wcountLimit ≤ e.wcount)).length else 0)),
    regAt o 0x018 (loW d.ldig),
    regAt o 0x020 d.flag.bits,
    regCnt o 0x080 8 d.flag]

/-- SEC_STAT (Table 15-12). -/
def UpdBlk.stat (u : UpdBlk) : Word :=
  regN (u.rootOk.toNat * 2147483648 + u.custFuse.isSome.toNat * 1073741824 + u.custOk.toNat * 536870912 + u.busy.toNat * 268435456 + u.fuses)

/-- SEC, by offset. -/
def Chan.regSec (c : Chan) (o : Nat) : Word :=
  let u := c.upd
  regPick [
    regAt o 0x000 u.stat,
    regAt o 0x020 u.flag.bits,
    regAt o 0x050 u.hashAddr,
    regAt o 0x054 u.hashLen,
    regArr o 0x060 8 (fun n => (u.hashOut[n]?).getD 0#32),
    regCnt o 0x080 7 u.flag]

/-- HOSTIF_STAT (Table 18-6). -/
def Chan.hostStat (c : Chan) : Word :=
  let h := c.host
  regN (c.clk.laneLock.toNat * 2147483648 + h.legacy.toNat * 1073741824 + h.gaValid.toNat * 536870912 + h.ga * 262144 + min h.outst.length 15 * 4096 +
    h.hout.isSome.toNat * 8 + h.inBusy.toNat * 4 + h.ready.toNat * 2 + h.busy.toNat)

/-- HOSTIF, by offset. -/
def Chan.regHost (c : Chan) (o : Nat) : Word :=
  let h := c.host
  regPick [
    regAt o 0x000 c.hostStat,
    regAt o 0x004 h.rx,
    regAt o 0x008 h.tx,
    regAt o 0x00C h.msgs,
    regAt o 0x020 h.flag.bits,
    regCnt o 0x080 8 h.flag]

/-- ASSAY, by offset. -/
def Chan.regAssay (c : Chan) (o : Nat) : Word :=
  let a := c.assay
  regPick [
    regAt o 0x000 a.stat,
    regAt o 0x004 a.cell,
    regAt o 0x008 (a.retireShown.setWidth 32),
    regArr o 0x010 3 a.memWord,
    regAt o 0x020 a.flag.bits,
    regCnt o 0x040 2 a.flag]

/-- DEBUG_STAT (Table 4-19). -/
def Chan.debugStat (c : Chan) : Word :=
  let halted := (List.range 8).map (fun n => (c.cell n).core0.halted || ((c.cell n).mode == .split && (c.cell n).core1.halted))
  regN (c.dbg.active.toNat * 2147483648 + regBits halted * 65536 + c.dbg.log.length)

/-- DEBUG, by offset. -/
def Chan.regDebug (c : Chan) (o : Nat) : Word :=
  let d := c.dbg
  regPick [
    regAt o 0x000 c.debugStat,
    regAt o 0x010 ((d.log.head?.map LogEntry.word0).getD 0#32),
    regAt o 0x014 d.log1,
    regAt o 0x018 d.log2,
    regAt o 0x020 d.flag.bits,
    regCnt o 0x040 3 d.flag]

/-- PWR_STAT (Table 19-19). -/
def Chan.pwrStat (c : Chan) : Word :=
  let p := c.pwr
  regN (p.ok1.toNat * 2147483648 + p.ok2.toNat * 1073741824 + c.sys.flushing.toNat * 536870912 + p.hot.toNat * 268435456 + p.dom.toNat)

/-- PWR, by offset. -/
def Chan.regPwr (c : Chan) (o : Nat) : Word :=
  let p := c.pwr
  regPick [
    regAt o 0x000 c.pwrStat,
    regAt o 0x004 (p.mv1.setWidth 32),
    regAt o 0x008 (p.mv2.setWidth 32),
    regAt o 0x00C (regN (p.board.toNat * 65536 + p.die.toNat)),
    regAt o 0x010 (p.dieMax.setWidth 32),
    regAt o 0x014 (p.power.setWidth 32),
    regAt o 0x020 p.flag.bits,
    regCnt o 0x080 8 p.flag]

/-! The whole window -/

/-- The word at offset `o` of block `blk` (Table 1-9), without its read side effects; the high half of a pair is the reader's shadow. -/
def State.regWord (s : State) (ch : Ch) (ini : Initiator) (blk o : Nat) : Word :=
  let c := s.chan ch
  match shadowHi blk o with
  | some r => c.tb.shadow ini r
  | none =>
    match blk with
    | 0 => s.regSys ch o
    | 1 => c.regClock o
    | 2 => c.regTime o
    | 3 => c.regSlice o
    | 4 => c.regVote o
    | 5 => s.regXlink ch o
    | 6 => c.regMill ch o
    | 7 => c.regEcn ch o
    | 8 => c.regMvb ch o
    | 9 => c.regBridge o
    | 10 => s.regField ch o
    | 11 => c.regSd o
    | 12 => c.regChron o
    | 13 => s.regNvm ch o
    | 14 => c.regSec o
    | 15 => c.regHost o
    | 16 => c.regAssay o
    | 17 => c.regDebug o
    | 18 => c.regPwr o
    | _ => 0#32

/-- The side effect of a served register read: shadows and POP. -/
def Chan.regSide (c : Chan) (ini : Initiator) (blk o : Nat) : Chan :=
  match shadowLo blk o with
  | some r => c.latch ini r
  | none => if blk = 17 && o = 0x010 then c.popLog else c

end Sys2Proof.Machine
end

