-- ==== Sys2Proof/Machine/Modes.lean ====
section
/-! DEFINITION. Mode commands, the automatic restart, the reset window, the proof test, the reeve watchdog, operating seconds (R23, R55, R56, R189, R344, R425). -/

namespace Sys2Proof.Machine
open Sys2Proof

/-! Mode commands (R55, Table 2-5) -/

/-- The modes in which a command is legal (Table 2-5). -/
def cmdLegal (v : Nat) (m : Mode) : Bool :=
  match v, m with
  | 1, .m5 | 1, .m6 | 1, .m7 | 1, .m8 => true
  | 2, .m3 | 2, .m4 | 2, .m9 | 2, .m10 => true
  | 3, .m10 => true
  | 4, .m4 | 4, .m10 => true
  | 5, .m4 | 5, .m9 | 5, .m10 => true
  | _, _ => false

/-- The mode and cause a command leads to (Tables 2-3, 2-5). -/
def cmdTarget (v : Nat) : Proposal :=
  match v with
  | 1 => ⟨.m10, 0x01⟩
  | 3 => ⟨.m4, 0x0F⟩
  | 4 => ⟨.m9, 0x0D⟩
  | _ => ⟨.m1, 0x02⟩

/-- A write of a mode command: a value outside Table 2-5 is refused; the rest waits for the next boundary, whose mode it is checked against.
Without a running tick no boundary comes, so a command not legal is refused at once. -/
def State.modeCommand (s : State) (ch : Ch) (via : Option Transport) (tag : Byte) (v : Nat) : State :=
  let c := s.chan ch
  if !c.up then s
  else if c.sys.reeveState ≠ 0 then s.refuseOne ch via tag abUnavail
  else if v = 0 || 5 < v then s.refuseOne ch via tag abRange
  else if !c.tb.tickRun then s.refuseOne ch via tag abState
  else s.upd ch (fun c => c.queueCmd ch 0 v via tag)

/-- CMD_STOP. -/
def execCmdStop (ch : Ch) (s : State) : Out := .next (s.modeCommand ch none 0#8 1)
/-- CMD_RESTART. -/
def execCmdRestart (ch : Ch) (s : State) : Out := .next (s.modeCommand ch none 0#8 2)
/-- CMD_COMMISSION. -/
def execCmdCommission (ch : Ch) (s : State) : Out := .next (s.modeCommand ch none 0#8 3)
/-- CMD_MAINTAIN. -/
def execCmdMaintain (ch : Ch) (s : State) : Out := .next (s.modeCommand ch none 0#8 4)
/-- CMD_RECOVER. -/
def execCmdRecover (ch : Ch) (s : State) : Out := .next (s.modeCommand ch none 0#8 5)

/-- AUTOMATIC_RESTART (R56): enabled, with a cause marked Yes, and the dwell elapsed: M1, or M11 with the budget spent. -/
def execAutomaticRestart (ch : Ch) (s : State) : Out :=
  let c := s.chan ch
  let due := match c.sys.m10At with
    | some t => c.up && c.sys.mode = .m10 && c.cfgF 0x1012 1 && [0x03, 0x04, 0x06, 0x07, 0x11, 0x12].contains c.sys.cause &&
        decide (t + c.cfgN 0x1012 2 ≤ c.mram.opsec)
    | none => false
  let p : Proposal := if c.cfgN 0x1012 3 ≤ c.hourOf c.mram.restarts then ⟨.m11, 0x0C⟩ else ⟨.m1, 0x08⟩
  guardC (due && !c.sys.triggers.contains p) s (s.upd ch (fun c => c.trigger p.mode p.cause))

/-! The vote's chronicle record and the proof test (R189, R432) -/

/-- A VOTE record: VOTE_STAT, VOTE_OUT, notice cause, accused channel, boundary count. -/
def Chan.logVote (c : Chan) (cause accused : Nat) : Chan :=
  c.log 0x09 (payW [c.voteStat, c.vote.outWord] ++ leB 1 cause ++ leB 1 accused ++ leB 2 0 ++ leB 4 c.tb.c)

/-- PROOF_TEST_DUE: the operating time since the last fully passed assay exceeds the interval. -/
def execProofTestDue (ch : Ch) (s : State) : Out :=
  let c := s.chan ch
  guardC (c.up && decide (c.vote.proofH * 3600 < c.mram.opsec - c.mram.proofAt)) s
    (s.upd ch (fun c => ({ c with vote := { c.vote with flag := c.vote.flag.raise 8 } }).logVote 0 0))

/-! The deliberate reset (R344) -/

/-- A write of object 0x4C10.01. -/
def State.resetCmd (s : State) (ch : Ch) (via : Option Transport) (tag : Byte) (v : Nat) : State :=
  let c := s.chan ch
  let busy := allCh.any (fun k => (s.chan k).field.win.isSome || (s.chan k).sys.cmds.any (fun (x : PendCmd) => x.kind == 2))
  if !c.up then s
  else if c.sys.reeveState ≠ 0 then s.refuseOne ch via tag abUnavail
  else if v ≠ 1 then s.refuseOne ch via tag abRange
  else if c.sys.mode ≠ .m11 || busy then s.refuseOne ch via tag abState
  else s.upd ch (fun c => c.queueCmd ch 2 v via tag)

/-- RESET_REQUEST. -/
def execResetRequest (ch : Ch) (value : Byte) (s : State) : Out := .next (s.resetCmd ch none 0#8 value.toNat)

/-- RESET_WINDOW_EXPIRY: the window ends without a reset: reason 2 while the check waits, else 1. -/
def execResetWindowExpiry (ch : Ch) (s : State) : Out :=
  let c := s.chan ch
  match c.field.win with
  | none => .next s
  | some w =>
    guardC (c.up && decide (w.ends ≤ c.now)) s
      ((s.upd ch (fun c => c.closeWindow (if w.waiting || w.granted then 2 else 1))).shareWindow ch true)

/-! The reeve (R23) -/

/-- Timeout of the reeve watchdog, ns. -/
def reeveTimeout : Nat := 50000000

/-- REEVE_KICK: any write of SYSCTL_REEVE_KICK. -/
def Chan.kick (c : Chan) : Chan := { c with sys := { c.sys with kickTime := c.now } }

def execReeveKick (ch : Ch) (ini : Initiator) (s : State) : Out :=
  onChan s ch (fun c => c.access ini true (blkBase 0 + 0x74) Chan.kick)

/-- Requests that reached the reeve are answered by hardware: timeout where the sequencing reeve already has the write, else unavailable;
message data that cannot be served is answered with Me (R261). -/
def Chan.answerAll (c : Chan) : Chan :=
  c.sys.unanswered.foldl (fun (c : Chan) u =>
    match u.1, u.2.2.2.2 with
    | .md p src ses, false =>
      ({ c with
        sys := { c.sys with unanswered := c.sys.unanswered.filter (fun v => !(v.1 == u.1 && v.2.1 == u.2.1 && v.2.2.1 == u.2.2.1)) }
        ecn := c.ecn.mdOver src ses u.2.1
        dict := { c.dict with refused := satInc c.dict.refused } }).sendMe p src ses
    | _, true => c.replyAll u.1 u.2.1 u.2.2.1 u.2.2.2.1 abTimeout
    | _, false => c.replyAll u.1 u.2.1 u.2.2.1 u.2.2.2.1 abUnavail) c

/-- What was answered owes no second answer. -/
def State.forget (s : State) (ch : Ch) : State :=
  s.updAll (fun _ c => { c with
    dict := { c.dict with
      waiting := c.dict.waiting.map (fun (w : WaitTxn) => if w.origin = ch then { w with via := none } else w)
      txn := c.dict.txn.map (fun (t : Txn) => if t.origin = ch then { t with via := none } else t)
      prep := c.dict.prep.map (fun (p : Prep) => if p.txn.origin = ch then { p with txn := { p.txn with via := none } } else p)
      writes := c.dict.writes.map (fun (w : StateWrite) => if w.origin = ch then { w with via := none } else w) }
    sys := { c.sys with cmds := c.sys.cmds.map (fun (x : PendCmd) => if x.origin = ch then { x with via := none } else x) } })

/-- Requests of other channels that wait for this reeve to sequence them receive timeout (R384). -/
def State.dropWaiting (s : State) (ch : Ch) : State :=
  let ws := (s.chan ch).dict.waiting
  let s := s.upd ch (fun c => { c with dict := { c.dict with waiting := [] } })
  ws.foldl (fun (s : State) (w : WaitTxn) => s.answer w.origin w.via w.tag 1 (refusedAt w.n 0 abTimeout)) s

/-- The reeve is held in reset: counted, recorded, lost at the fourth time within 3,600 s. Its transfers end (Table 15-10). -/
def Chan.reeveDown (c : Chan) : Chan :=
  let hist := c.sys.reeveHist ++ [c.mram.opsec]
  let lost := decide (4 ≤ c.hourOf hist)
  let c := { c with
    sys := { c.sys with
      reeveState := if lost then 2 else 1
      reeveRestarts := min (c.sys.reeveRestarts + 1) 65535
      reeveHist := hist }
    vote := { c.vote with reads := [] }
    dict := { c.dict with txn := none, calls := [] }
    upd := { c.upd with recv := [], sends := [] } }
  (c.log 0x05 (payW [c.reeveStat])).answerAll.bridgeRestart

/-- REEVE_WATCHDOG_TIMEOUT: 50 ms of time base without a kick. -/
def execReeveWatchdogTimeout (ch : Ch) (s : State) : Out :=
  let c := s.chan ch
  guardC (c.up && c.sys.reeveState == 0 && decide (c.sys.kickTime + reeveTimeout ≤ c.now)) s
    ((((s.awayRestart ch).upd ch Chan.reeveDown).forget ch).dropWaiting ch)

/-- The host message in HMSG_IN (Table 18-3); none when its LEN is beyond 1,024 octets. -/
def HostBlk.inMsg (h : HostBlk) : Option HostMsg :=
  let b := wBytes h.hin 2048
  if 1024 < leAt b 6 2 then none
  else some ⟨BitVec.ofNat 32 (leAt b 0 4), leAt b 4 1, BitVec.ofNat 8 (leAt b 5 1), leAt b 8 2, (b.drop 12).take (leAt b 6 2)⟩

/-- A restarted reeve takes the answer that waits in HMSG_IN. -/
def State.takeIn (s : State) (ch : Ch) : State :=
  if !(s.chan ch).host.inBusy then s
  else
    let s1 := s.upd ch (fun c => { c with host := { c.host with inBusy := false } })
    match (s.chan ch).host.inMsg with
    | some m => s1.hostAnswer ch m
    | none => s1

/-- REEVE_RESTART: 10 µs later the reeve runs from the boot ROM; it resends the commits of COMMITTING slots with the same tokens (R291). -/
def execReeveRestart (ch : Ch) (s : State) : Out :=
  let c := s.chan ch
  if c.up && c.sys.reeveState = 1 then
    let s := s.upd ch (fun c => ({ c with sys := { c.sys with reeveState := 0, reeveBusErr := false } }).kick)
    .next (((List.range 32).foldl (fun (s : State) n =>
      if ((s.chan ch).bridge.slot n).state = .committing then s.sendCommit ch n else s) s).takeIn ch)
  else .next s

/-! Counters of time and the chronicle's post register (R425, R428) -/

/-- OPERATING_SECOND: the operating seconds and, in TRIAL, the trial seconds advance. -/
def execOperatingSecond (ch : Ch) (s : State) : Out :=
  guardC (s.chan ch).up s (s.upd ch (fun c => { c with
    mram := { c.mram with opsec := min (c.mram.opsec + 1) 0xFFFFFFFF }
    chg := if c.chg.state = .trial then { c.chg with trialS := c.chg.trialS + 1 } else c.chg }))

/-- CHRON_POST: a write of CHRON_POST[n]; another initiator's register is refused under R29. -/
def execChronPost (ch : Ch) (ini : Initiator) (n : Nat) (value : Word) (s : State) : Out :=
  guardC (decide (n < 17)) s (s.upd ch (fun c => c.access ini true (blkBase 12 + 0x100 + 4 * n) (fun c => c.chronPost n value)))

end Sys2Proof.Machine
end

