-- ==== Sys2Proof/Machine/Bus.lean ====
section
/-! DEFINITION. Ordinary accesses: memory as each region holds it, register reads and writes with their effects, loads and stores of cores, the debug module's system bus (R7 to R11, R21 to R30, R40, R94, R110, R133). -/

namespace Sys2Proof.Machine
open Sys2Proof

/-! Register writes (Table 0-4) -/

/-- Write 1 to clear: the flag registers of a channel, by block and offset. DESIGN CHOICE (log entry 88): TIMEBASE_FLAG is W1C as Table 3-17
gives it, though R94 calls the TIMEBASE registers RO. -/
def Chan.clearFlags (c : Chan) (ch : Ch) (blk o : Nat) (w : Word) : Chan :=
  match blk, o with
  | 0, 0x030 => { c with sys := { c.sys with viol := c.sys.viol.clear w } }
  | 0, 0x108 => { c with sys := { c.sys with modeFlag := c.sys.modeFlag.clear w } }
  | 0, 0x200 => { c with sys := { c.sys with cmp := c.sys.cmp.clear w } }
  | 0, 0x404 => { c with pair := { c.pair with flag := c.pair.flag.clear w } }
  | 1, 0x004 => { c with clk := { c.clk with mon := c.clk.mon.clear w } }
  | 1, 0x008 => { c with clk := { c.clk with forced := c.clk.forced.clear ((w >>> 8) &&& 0xFF#32) } }
  | 2, 0x014 => { c with tb := { c.tb with flag := c.tb.flag.clear w } }
  | 2, 0x120 => { c with tb := { c.tb with tmrFlag := c.tb.tmrFlag.clear w } }
  | 3, 0x050 => { c with sl := { c.sl with flag := c.sl.flag.clear w } }
  | 3, 0x604 => { c with chg := { c.chg with flag := c.chg.flag.clear w } }
  | 4, 0x040 => { c with vote := { c.vote with flag := c.vote.flag.clear w } }
  | 5, 0x000 => c.setEnd .next (fun e => { e with loss := e.loss && !w.getLsbD 1, codeErr := e.codeErr && !w.getLsbD 2 })
  | 5, 0x004 => c.setEnd .prev (fun e => { e with loss := e.loss && !w.getLsbD 1, codeErr := e.codeErr && !w.getLsbD 2 })
  | 6, 0x020 => { c with mill := { c.mill with flag := c.mill.flag.clear w } }
  | 7, 0x020 => { c with ecn := { c.ecn with flag := c.ecn.flag.clear w } }
  | 8, 0x020 => if ch = Ch.C then { c with mvb := { c.mvb with flag := c.mvb.flag.clear w } } else c
  | 9, 0x020 => { c with bridge := { c.bridge with flag := c.bridge.flag.clear w } }
  | 10, 0x030 => { c with field := { c.field with flag := c.field.flag.clear w } }
  | 11, 0x020 => { c with sd := { c.sd with flag := c.sd.flag.clear w } }
  | 12, 0x020 => { c with chron := { c.chron with flag := c.chron.flag.clear w } }
  | 13, 0x020 => { c with dict := { c.dict with flag := c.dict.flag.clear w } }
  | 14, 0x020 => { c with upd := { c.upd with flag := c.upd.flag.clear w } }
  | 15, 0x020 => { c with host := { c.host with flag := c.host.flag.clear w } }
  | 16, 0x020 => { c with assay := { c.assay with flag := c.assay.flag.clear w } }
  | 17, 0x020 => { c with dbg := { c.dbg with flag := c.dbg.flag.clear w } }
  | 18, 0x020 => { c with pwr := { c.pwr with flag := c.pwr.flag.clear w } }
  | _, _ => c

/-- Set the octets of a field under a mask. -/
def under (m new old : Word) : Word := (old &&& ~~~ m) ||| (new &&& m)

/-- A write of CLOCK_CLKOUT. -/
def Chan.writeClkout (c : Chan) (w : Word) : Chan := c.setClkout (w.getLsbD 31) (bitsN w.toNat 27 24) (bitsN w.toNat 15 0)

/-- The plain read-write registers: the new word under the mask of the octets written. -/
def Chan.setFields (c : Chan) (blk o : Nat) (w m : Word) : Chan :=
  match blk, o with
  | 1, 0x020 => if c.sys.mode = .m4 || c.sys.mode = .m9 then c.writeClkout (under m w c.clk.outWord) else c
  | 4, 0x004 =>
    if c.sys.mode = .m4 || c.sys.mode = .m9 then { c with vote := { c.vote with proofH := (under m w (BitVec.ofNat 32 c.vote.proofH)).toNat % 16384 } } else c
  | 2, 0x100 => { c with tb := { c.tb with qid := under m w c.tb.qid } }
  | 3, 0x070 => { c with sl := { c.sl with capHold := (hiW c.sl.capHold ++ under m w (loW c.sl.capHold)) &&& ~~~ c.sl.integrityBits } }
  | 3, 0x074 => { c with sl := { c.sl with capHold := (under m w (hiW c.sl.capHold) ++ loW c.sl.capHold) &&& ~~~ c.sl.integrityBits } }
  | 14, 0x050 => { c with upd := { c.upd with hashAddr := under m w c.upd.hashAddr } }
  | 14, 0x054 => { c with upd := { c.upd with hashLen := under m w c.upd.hashLen, busy := true } }
  | 6, _ =>
    if 0x1000 ≤ o && o < 0x1800 then
      { c with mill := { c.mill with mbBuf := wPut c.mill.mbBuf ((o - 0x1000) / 4) (under m w (wGet c.mill.mbBuf ((o - 0x1000) / 4))) } }
    else c
  | 12, _ =>
    if 0x1000 ≤ o && o < 0x3200 && (o - 0x1000) % 0x200 < 488 then
      { c with chron := { c.chron with stage := modAt (fun (b : List (Nat × Word)) =>
          wPut b ((o - 0x1000) % 0x200 / 4) (under m w (wGet b ((o - 0x1000) % 0x200 / 4)))) ((o - 0x1000) / 0x200) c.chron.stage } }
    else c
  | _, _ => c

/-- The effect of a served register write of the octets under a mask, by access code: write-only registers act. -/
def State.regWrite (s : State) (ch : Ch) (blk o : Nat) (w m : Word) : State :=
  let v := (w &&& m).toNat
  match blk, o with
  | 0, 0x074 => s.upd ch Chan.kick
  | 6, _ => if ch = Ch.C then s else s.upd ch (fun c => (c.clearFlags ch blk o (w &&& m)).setFields blk o w m)
  | 0, 0x110 => s.modeCommand ch none 0#8 (v % 256)
  | 0, 0x300 => s.chgCommand ch none 0#8 (v % 256)
  | 11, 0x060 => s.syncCmd ch none 0#8 (v % 256)
  | 14, 0x040 => s.tick.upd ch (fun c => c.advanceFuses v (Config.freeBit s.free))
  | 12, _ =>
    if 0x100 ≤ o && o < 0x144 then s.upd ch (fun c => c.chronPost ((o - 0x100) / 4) (w &&& m))
    else s.upd ch (fun c => (c.clearFlags ch blk o (w &&& m)).setFields blk o w m)
  | _, _ => s.upd ch (fun c => (c.clearFlags ch blk o (w &&& m)).setFields blk o w m)

/-! Accesses -/

/-- An address of a peripheral block. -/
def isReg (a : Nat) : Bool := inRange 0x40000000 0x4012FFFF a

/-- The octets under an access of `n` octets at an address, within its word. -/
def laneMask (a n : Nat) : Word := (if n = 4 then 0xFFFFFFFF#32 else if n = 2 then 0xFFFF#32 else 0xFF#32) <<< (8 * (a % 4))

/-- A served read of 1, 2 or 4 octets: the value. -/
def State.busValue (s : State) (ch : Ch) (ini : Initiator) (a n : Nat) : Nat :=
  if isReg a then (s.regWord ch ini ((a - 0x40000000) / 65536) (a % 65536 / 4 * 4)).toNat / 256 ^ (a % 4) % 256 ^ n
  else (s.chan ch).loadN a n

/-- A served read: its side effect. -/
def State.busSide (s : State) (ch : Ch) (ini : Initiator) (a : Nat) : State :=
  if isReg a then s.upd ch (fun c => c.regSide ini ((a - 0x40000000) / 65536) (a % 65536 / 4 * 4)) else s

/-- A served write of 1, 2 or 4 octets. -/
def State.busWrite (s : State) (ch : Ch) (a n : Nat) (v : Word) : State :=
  if isReg a then s.regWrite ch ((a - 0x40000000) / 65536) (a % 65536 / 4 * 4) (v <<< (8 * (a % 4))) (laneMask a n)
  else s.upd ch (fun c => c.storeN a n v.toNat)

/-- A refused access: what the fabric does besides the trap of a core. -/
def Chan.notServed (c : Chan) (ini : Initiator) (write : Bool) (a : Nat) : Verdict → Chan
  | .served => c
  | .refused f => c.refuse ini write a f
  | .unmapped => c.missed ini write a

/-- Whether an address is a multiple of the access size. -/
def aligned (a n : Nat) : Bool := a % n == 0

/-- 1, 2 or 4 octets. -/
def sizeOk (n : Nat) : Bool := n == 1 || n == 2 || n == 4

/-- Memory that the caches of a core hold (Table 4-1): boot ROM, SRAM, dynamic memory and flash. -/
def cacheable (a : Nat) : Bool :=
  inRange 0 0xFFFF a || inRange 0x10000000 0x10FFFFFF a || inRange 0x80000000 0xBFFFFFFF a || inRange 0xC0000000 0xCFFFFFFF a

/-- 16 KiB. -/
def cacheSize : Nat := 16384

/-- The newest entries that a cache has room for. DESIGN CHOICE (log entry 91): the spec gives no line size and no replacement. -/
def cacheFit {α : Type} (l : List α) : List α := l.drop (l.length - cacheSize)

/-- A served load of cacheable memory leaves its octets in the data cache, which equals memory (log entry 91). -/
def CoreSt.cacheLoad (k : CoreSt) (a n : Nat) : CoreSt :=
  if cacheable a then
    { k with dcache := cacheFit (k.dcache ++ ((List.range n).map (fun i => a + i)).filter (fun x => !k.dcache.contains x)) }
  else k

/-- A loaded value as the register receives it. -/
def extend (n : Nat) (signed : Bool) (v : Nat) : Word :=
  if signed then (if n = 1 then (BitVec.ofNat 8 v).signExtend 32 else if n = 2 then (BitVec.ofNat 16 v).signExtend 32 else BitVec.ofNat 32 v)
  else BitVec.ofNat 32 v

/-- A load or store of a core by an instruction of `len` octets: copies that differ halt the cell (R126), misaligned it traps (R110), refused it traps and counts (R29), served it is
performed. -/
def State.memAccess (s : State) (ch : Ch) (h : Nat) (write : Bool) (n a : Nat) (data : Word) (rd : Nat) (signed : Bool) (len : Nat) : State :=
  let ini : Initiator := .core h
  let w : Word := BitVec.ofNat 32 a
  let pc := ((s.chan ch).core h).pc.toNat
  if (s.chan ch).copies h ≠ 0#13 then s.upd ch (fun c => c.haltCell ch (h / 2) false (c.copies h))
  else match (s.chan ch).hit h 2 pc, (s.chan ch).hit h (if write then 1 else 0) a with
  | some t, _ => s.upd ch (fun c => c.trigFire h t)
  | none, some t => s.upd ch (fun c => c.trigFire h t)
  | none, none =>
  if !aligned a n then s.upd ch (fun c => c.exception h (if write then 6 else 4) w)
  else match (s.chan ch).verdict ini write a with
    | .served =>
      if write then (s.busWrite ch a n data).upd ch (fun c => c.retireBy h len id)
      else
        let v := s.busValue ch ini a n
        (s.busSide ch ini a).upd ch (fun c => c.retireBy h len (fun k => (k.cacheLoad a n).setReg rd (extend n signed v)))
    | v => s.upd ch (fun c => (c.notServed ini write a v).exception h (if write then 7 else 5) w)

/-- The load or store of a command, whose instruction is of 4 or 2 octets (log entry 18). -/
def State.coreAccess (s : State) (ch : Ch) (h : Nat) (write : Bool) (n a : Nat) (data : Word) (rd : Nat) (signed : Bool) : State :=
  s.tick.memAccess ch h write n a data rd signed (if Config.compressed s.free then 2 else 4)

/-- An access of an initiator without an architectural register here: the reeve, a port engine. A misaligned one is not performed. -/
def State.plainAccess (s : State) (ch : Ch) (ini : Initiator) (write : Bool) (n a : Nat) (data : Word) : State :=
  if !aligned a n then s
  else match (s.chan ch).verdict ini write a with
    | .served => if write then s.busWrite ch a n data else s.busSide ch ini a
    | v => s.upd ch (fun c => c.notServed ini write a v)

/-- CORE_LOAD_STORE. -/
def execCoreLoadStore (ch : Ch) (ini : Initiator) (write : Bool) (size addr : Nat) (data : Word) (rd : Nat) (signed : Bool) (s : State) : Out :=
  let c := s.chan ch
  let a := addr % 4294967296
  if !sizeOk size then .next s
  else match ini with
    | .core h => guardC (c.coreRuns h) s (s.coreAccess ch h write size a data rd signed)
    | .reeve => guardC (c.up && c.sys.reeveState == 0) s (s.plainAccess ch ini write size a data)
    | .engine n => guardC (c.up && decide (n < 8)) s (s.plainAccess ch ini write size a data)
    | .debug => .next s

/-- REGISTER_WRITE: a 32-bit write to a register; a core's refused write traps as its store does. -/
def execRegisterWrite (ch : Ch) (ini : Initiator) (addr : Nat) (value : Word) (s : State) : Out :=
  let c := s.chan ch
  let a := addr % 4294967296 / 4 * 4
  if !isReg a then .next s
  else match ini with
    | .core h => guardC (c.coreRuns h) s (s.coreAccess ch h true 4 a value 0 false)
    | .reeve => guardC (c.up && c.sys.reeveState == 0) s (s.plainAccess ch ini true 4 a value)
    | .engine n => guardC (c.up && decide (n < 8)) s (s.plainAccess ch ini true 4 a value)
    | .debug => .next s

/-- SHADOW_LO_READ: the read of a low register latches the high word for the reader (R94). -/
def execShadowLoRead (ch : Ch) (ini : Initiator) (r : ShadowReg) (s : State) : Out :=
  guardC (s.chan ch).up s
    (s.upd ch (fun c => c.access ini false (blkBase (shadowAt r).1 + (shadowAt r).2) (fun c => c.latch ini r)))

/-! The debug module's system bus (R131 to R134) -/

/-- A system bus access: the DMI's own checks, then the access with the INTEGRITY tag; sberror 2 for a refused address, 3 for a
misaligned one, 4 for a size not supported (debug specification 0.13.2). The action is logged without replay. DESIGN CHOICE (log entry 92):
HART of its entry is the last selected hart; an access that the fabric refuses is logged, one of a wrong size or alignment is not. -/
def State.sysBus (s : State) (ch : Ch) (write : Bool) (n a : Nat) (value : Word) : State :=
  let c := s.chan ch
  let d := c.dmi (fun c => { c with dbg := { c.dbg with sberror := 0 } })
  if c.sys.cstate = .off || c.tapCut || c.sys.mode ≠ .m9 || 256 ≤ c.dbg.log.length then s.upd ch (fun _ => d)
  else
    let err (e : Nat) (c : Chan) : Chan := { c with dbg := { c.dbg with sberror := e } }
    let s := s.upd ch (fun _ => d)
    let kind := if write then 7 else 6
    let w : Word := BitVec.ofNat 32 a
    if !sizeOk n then s.upd ch (err 4)
    else if !aligned a n then s.upd ch (err 3)
    else match (s.chan ch).verdict .debug write a with
      | .served =>
        if write then
          (s.busWrite ch a n value).upd ch (fun c => ({ c with dbg := { c.dbg with sbdata := value } }).logAct c.dbg.hartsel kind w value)
        else
          let v : Word := BitVec.ofNat 32 (s.busValue ch .debug a n)
          (s.busSide ch .debug a).upd ch (fun c => ({ c with dbg := { c.dbg with sbdata := v } }).logAct c.dbg.hartsel kind w v)
      | v => s.upd ch (fun c => ((err 2 (c.notServed .debug write a v))).logAct c.dbg.hartsel kind w (if write then value else 0#32))

/-- DEBUG_SYSTEM_BUS_READ. -/
def execDebugSystemBusRead (ch : Ch) (size addr : Nat) (s : State) : Out := .next (s.sysBus ch false size (addr % 4294967296) 0#32)

/-- DEBUG_SYSTEM_BUS_WRITE. -/
def execDebugSystemBusWrite (ch : Ch) (size addr : Nat) (value : Word) (s : State) : Out :=
  .next (s.sysBus ch true size (addr % 4294967296) value)

end Sys2Proof.Machine
end

