-- ==== Sys2Proof/Machine/Views.lean ====
section
/-! DEFINITION. What the status objects show: one row per object of the chapters' tables, and the register snapshots they are served from (R378). -/

namespace Sys2Proof.Machine
open Sys2Proof

/-- How the channels' parts make up an object: a subindex run or an index per channel, a sum, an OR, the greatest, the median,
the serving channel's own value, or that of one channel. -/
inductive ViewOp where
  | perSub | perIdx | sum | bor | greatest | median | own
  | one (ch : Ch)
deriving DecidableEq, Repr

/-- An object row: index, first subindex, number of subindices per channel, and each channel's part. -/
structure ObjView where
  idx : Nat
  sub : Nat
  n : Nat
  op : ViewOp
  f : State → Ch → Nat → Nat

/-- A row whose parts are read from the channel alone. -/
def viewC (idx sub n : Nat) (op : ViewOp) (f : Chan → Nat → Nat) : ObjView := ⟨idx, sub, n, op, fun s ch j => f (s.chan ch) j⟩

/-- A row of one flag's event count. -/
def viewCnt (idx sub : Nat) (op : ViewOp) (f : Chan → FlagReg) (bit : Nat) : ObjView := viewC idx sub 1 op (fun c _ => ((f c).count bit).toNat)

/-- Two's complement of a value in `n` octets. -/
def twos (n : Nat) (v : Int) : Nat := (BitVec.ofInt (8 * n) v).toNat

/-- Tasks as own per-task values. -/
def taskOf (c : Chan) (n : Nat) (f : TaskRt → Nat) : Nat := ((c.sl.task n).map f).getD 0

/-- Objects of ch. 01 to 03. -/
def views1 : List ObjView := [
  viewC 0x1000 8 1 .own (fun _ _ => 0),
  viewC 0x1010 1 1 .own (fun c _ => c.sys.mode.num),
  viewC 0x1010 2 1 .own (fun c _ => c.sys.cause),
  ⟨0x1010, 3, 3, .own, fun s _ j => (s.view (atD Ch.A j allCh)).code⟩,
  viewCnt 0x1010 6 .sum (·.sys.modeFlag) 0,
  viewC 0x1020 1 1 .own (fun c _ => c.tb.latest.1),
  viewC 0x1020 2 1 .own (fun c _ => c.tb.latest.2),
  viewC 0x1020 3 1 .own (fun c _ => c.tb.dstate.code),
  viewC 0x1020 4 1 .own (fun c _ => c.tb.valid.toNat),
  viewC 0x1020 5 1 .own (fun c _ => twos 8 c.tb.step),
  viewC 0x1020 6 1 .own (fun c _ => twos 4 c.tb.offset),
  viewC 0x1020 7 1 .own (fun c _ => twos 4 c.tb.rate),
  viewCnt 0x1023 1 .perSub (·.tb.flag) 0,
  viewCnt 0x1023 4 .perSub (·.tb.flag) 3,
  viewC 0x1024 1 1 .perSub (fun c _ => c.clk.stat.toNat),
  viewC 0x1024 4 1 .perSub (fun c _ => c.clk.tripWord.toNat),
  viewC 0x1024 7 1 .perSub (fun c _ => c.clk.watchWord.toNat),
  viewC 0x1030 1 1 .perSub (fun c _ => c.pwrStat.toNat),
  viewC 0x1031 1 1 .perSub (fun c _ => c.pwr.mv1.toNat),
  viewC 0x1031 4 1 .perSub (fun c _ => c.pwr.mv2.toNat),
  viewC 0x1032 1 1 .perSub (fun c _ => c.pwr.die.toNat),
  viewC 0x1032 4 1 .perSub (fun c _ => c.pwr.dieMax.toNat),
  viewC 0x1032 7 1 .median (fun c _ => c.pwr.board.toNat),
  viewCnt 0x1033 1 .perSub (·.pwr.flag) 4,
  viewCnt 0x1033 4 .perSub (·.pwr.flag) 6,
  viewC 0x1034 1 1 .sum (fun c _ => c.pwr.power.toNat),
  viewC 0x2002 1 1 .perSub (fun c _ => (c.sys.viol.sum 0 7).toNat),
  viewC 0x2003 1 1 .perSub (fun c _ => c.cells.foldr (fun (x : CellSt) n => x.mode.code + 4 * n) 0),
  viewC 0x2004 1 1 .perSub (fun c _ => c.sys.reeveRestarts),
  viewC 0x2010 1 1 .perSub (fun c _ => c.assay.stat.toNat),
  viewC 0x2011 1 1 .perSub (fun c _ => c.mram.retire.toNat),
  viewC 0x2012 1 1 .perSub (fun c _ => c.assay.cell.toNat),
  viewC 0x2013 1 3 .perSub (fun c j => (c.assay.memWord j).toNat),
  ⟨0x2410, 1, 3, .sum, fun s ch j =>
    let c := s.chan ch
    let a := atD Ch.A j allCh
    (if ch = a then c.xl.l0.lossCnt.toNat else 0) + (if ch = chNext a then c.xl.l1.lossCnt.toNat else 0)⟩]

/-- Objects of ch. 04 to 07. -/
def views2 : List ObjView := [
  viewC 0x2020 1 1 .perSub (fun c _ => (c.sys.cmp.sum 0 8).toNat),
  viewC 0x2020 4 1 .perSub (fun c _ => (c.sys.cmp.sum 8 16).toNat),
  viewC 0x2021 1 8 .perSub (fun c j => (c.cell j).capWord.toNat),
  viewC 0x2022 1 1 .perSub (fun c _ => c.dbg.logged.toNat),
  viewC 0x2022 4 1 .perSub (fun c _ => (c.dbg.flag.sum 0 2).toNat),
  viewC 0x2031 1 64 .perIdx (fun c j => (c.sl.taskStat j).toNat),
  viewC 0x2034 1 64 .own (fun c j => taskOf c j (fun t => t.ovrTotal.toNat)),
  viewCnt 0x2035 1 .perSub (·.sl.flag) 2,
  viewCnt 0x2035 4 .perSub (·.sl.flag) 3,
  viewCnt 0x2035 7 .perSub (·.sl.flag) 6,
  viewC 0x2036 1 1 .perSub (fun c _ => c.tb.timers.length),
  viewCnt 0x2036 4 .perSub (·.tb.tmrFlag) 0,
  viewCnt 0x2037 1 .perSub (·.sl.flag) 4,
  viewCnt 0x2037 4 .perSub (·.sl.flag) 5,
  viewC 0x2040 2 1 .own (fun c _ => c.chg.state.code),
  viewC 0x2040 4 1 .own (fun c _ => if [ChgState.ready, .armed, .trial].contains c.chg.state then c.chg.hallmark.toNat else 0),
  viewC 0x2040 7 1 .own (fun c _ => c.chg.lastReason),
  viewC 0x2041 1 10 .own (fun c j => (atD 0#32 j c.chg.actions).toNat),
  viewC 0x2042 1 1 .own (fun c _ => c.chg.confirmed.toNat),
  viewC 0x2042 2 1 .own (fun c _ => c.chg.rolled.toNat),
  viewC 0x2042 3 1 .own (fun c _ => c.chg.failed.toNat),
  viewC 0x2050 1 1 .own (fun c _ => c.compat.tstate),
  viewC 0x2050 2 1 .own (fun c _ => c.compat.treason),
  viewC 0x2050 3 1 .own (fun c _ => c.compat.bound),
  viewC 0x2050 4 1 .own (fun c _ => (c.compat.list.map (·.nblk)).getD 0),
  viewC 0x2051 1 1 .own (fun c _ => c.compat.lcycle.toNat),
  viewC 0x2401 1 1 .perSub (fun c _ => c.voteStat.toNat),
  viewCnt 0x2402 1 .perSub (·.vote.flag) 0,
  viewCnt 0x2402 4 .sum (·.vote.flag) 1,
  viewC 0x2403 1 1 .perSub (fun c _ => c.vote.rsCount.toNat),
  viewCnt 0x2403 4 .perSub (·.vote.flag) 3,
  viewC 0x2404 1 3 .own (fun c j => c.vote.out.get (atD Ch.A j allCh)),
  viewCnt 0x2405 1 .perSub (·.vote.flag) 5,
  viewCnt 0x2405 4 .perSub (·.vote.flag) 6,
  viewC 0x2406 1 1 .own (fun c _ => c.proofHours)]

/-- A ring's view, from the channel that owns it. -/
def viewRing (sub : Nat) (f : MillBlk → Nat) : List ObjView :=
  [viewC 0x2810 sub 1 (.one .A) (fun c _ => f c.mill), viewC 0x2810 (sub + 1) 1 (.one .B) (fun c _ => f c.mill)]

/-- The channel that owns the plane in use by the discipline (object 0x2C40.03). -/
def gmCh (s : State) (ch : Ch) : Option Ch :=
  match (s.chan ch).tb.used with | 1 => some .A | 2 => some .B | _ => none

/-- Objects of ch. 08 to 11. -/
def views3 : List ObjView :=
  [viewC 0x2801 1 1 .own (fun c _ => (c.cfgSched .r1).toNat), viewC 0x2805 1 1 .own (fun c _ => (c.cfgSched .r2).toNat)] ++
  viewRing 1 (·.nstate.code) ++ viewRing 3 (·.line.toNat) ++ viewRing 5 (fun m => (m.flag.count 0).toNat) ++
  viewRing 7 (fun m => (m.flag.count 4).toNat) ++ viewRing 9 (fun m => (m.flag.count 5).toNat) ++ viewRing 11 (fun m => (m.flag.count 8).toNat) ++ [
  viewC 0x2C40 1 1 (.one .A) (fun c _ => c.ecn.samples.toNat),
  viewC 0x2C40 2 1 (.one .B) (fun c _ => c.ecn.samples.toNat),
  ⟨0x2C40, 3, 1, .own, fun s ch _ => match gmCh s ch with | some p => (s.chan p).ecn.gm.toNat | none => 0⟩,
  ⟨0x2C40, 4, 1, .own, fun s ch _ => match (gmCh s ch).bind (fun p => (s.chan p).ecn.sel) with | some m => twos 2 m.utc | none => 0⟩,
  viewCnt 0x2CF0 1 .sum (·.ecn.flag) 4,
  viewCnt 0x2CF0 2 .sum (·.ecn.flag) 5,
  viewCnt 0x2CF0 3 (.one .A) (·.ecn.flag) 7,
  viewCnt 0x2CF0 4 (.one .B) (·.ecn.flag) 7,
  viewCnt 0x2CF0 5 (.one .C) (·.mvb.flag) 4,
  viewCnt 0x2CF0 6 (.one .C) (·.mvb.flag) 3,
  viewC 0x4001 1 1 .perSub (fun c _ => (c.bridge.stat c.bridgeOn).toNat),
  viewC 0x4002 1 1 .perSub (fun c _ => c.bridge.delivered.toNat),
  viewC 0x4002 4 1 .perSub (fun c _ => c.bridge.dropped.toNat),
  viewC 0x4003 1 1 .perSub (fun c _ => c.bridge.completed.toNat),
  viewCnt 0x4003 4 .perSub (·.bridge.flag) 4,
  viewCnt 0x4003 7 .perSub (·.bridge.flag) 5,
  viewCnt 0x4003 10 .perSub (·.bridge.flag) 7,
  viewC 0x4004 1 1 .perSub (fun c _ => c.bridge.evtPub.toNat),
  viewC 0x4420 1 1 .own (fun c _ => c.pair.reports.toNat),
  viewC 0x4420 2 1 .own (fun c _ => c.pair.summary.toNat),
  viewC 0x4420 3 1 .own (fun c _ => (atD 0#32 0 c.pair.repVals).toNat),
  viewC 0x4420 4 1 .own (fun c _ => (atD 0#32 1 c.pair.repVals).toNat),
  viewC 0x4420 5 1 .own (fun c _ => (atD 0#32 2 c.pair.repVals).toNat),
  viewC 0x4420 6 1 .own (fun c _ => (atD 0#32 3 c.pair.repVals).toNat),
  viewC 0x4420 7 1 .own (fun c _ => (atD 0#32 4 c.pair.repVals).toNat),
  viewC 0x4421 1 1 .own (fun c _ => c.pair.activations.toNat),
  viewC 0x4421 2 1 .own (fun c _ => c.pair.roleEnds.toNat),
  viewCnt 0x4421 3 .own (·.pair.flag) 1,
  viewCnt 0x4421 4 .own (·.pair.flag) 0,
  viewCnt 0x4421 5 .own (·.pair.flag) 3,
  viewC 0x4421 6 1 .own (fun c _ => c.pair.transfers.toNat),
  viewCnt 0x4421 7 .own (·.pair.flag) 6,
  viewCnt 0x4421 8 .own (·.pair.flag) 4]

/-- Objects of ch. 12 to 18. -/
def views4 : List ObjView := [
  viewC 0x4820 1 1 .perSub (fun c _ => c.field.lvl.toNat),
  viewC 0x4820 4 1 .own (fun c _ => c.field.agree.toNat),
  viewC 0x4820 5 1 .perSub (fun c _ => c.field.sense.toNat),
  ⟨0x4821, 1, 18, .perIdx, fun s ch j => (s.outStatWord ch j).toNat⟩,
  viewC 0x4824 1 18 .bor (fun c j => (c.net j).findWord.toNat),
  viewC 0x4825 1 14 .sum (fun c j => (c.field.flag.count j).toNat),
  viewC 0x4C11 1 1 .greatest (fun c _ => c.field.sto0.fault),
  viewC 0x4C11 2 1 .greatest (fun c _ => c.field.sto1.fault),
  viewC 0x4C11 3 1 .own (fun c _ => c.field.rreason),
  viewC 0x4C11 4 1 .own (fun c _ => match c.field.win with | some w => (w.ends - c.now + 999999) / 1000000 | none => 0),
  viewC 0x4C11 5 1 .own (fun c _ => c.field.accepted.toNat),
  viewC 0x4C11 6 1 .own (fun c _ => c.field.made.toNat),
  viewC 0x4C11 7 1 .own (fun c _ => c.field.refused.toNat),
  viewC 0x5010 1 12 .own (fun c j => (atD SdIn.init j c.sd.ins).last.toNat),
  viewC 0x5011 1 12 .own (fun c j => (atD SdIn.init j c.sd.ins).status.toNat),
  viewCnt 0x5012 1 .perSub (·.sd.flag) 0,
  viewC 0x5012 4 1 .perSub (fun c _ => c.sd.sense.toNat),
  viewC 0x5013 1 1 .own (fun c _ => chCodeO c.sd.clkCh),
  viewC 0x5013 2 1 .own (fun c _ => c.sd.syncs.toNat),
  viewC 0x1040 1 1 .own (fun c _ => c.dict.hallmark.toNat),
  viewC 0x1040 6 1 .own (fun c _ => c.dict.hallStart.toNat),
  viewC 0x1041 1 1 .perSub (fun c _ => c.dict.served.toNat),
  viewC 0x1041 4 1 .perSub (fun c _ => c.dict.refused.toNat),
  viewC 0x1041 7 1 .perSub (fun c _ => c.dict.committed.toNat),
  viewC 0x1041 10 1 .perSub (fun c _ => c.dict.resolved.toNat),
  viewC 0x1042 1 1 .perSub (fun c _ => if c.dict.ready then c.dict.freeOctets else 0),
  viewC 0x1042 4 1 .perSub (fun c _ => c.dict.blocks.foldl (fun n (b : Nat × Nat) => max n b.1) 0),
  viewC 0x1042 7 1 .own (fun c _ => (c.dict.live.filter (fun (e : JEntry) => decide (wcountLimit ≤ e.wcount))).length),
  viewC 0x1400 1 1 .perSub (fun c _ => c.chron.seq.toNat),
  viewC 0x1400 4 1 .perSub (fun c _ => c.chron.oldSeq.toNat),
  viewC 0x1400 7 1 .perSub (fun c _ => c.chron.ovw.toNat),
  viewC 0x1400 10 1 .perSub (fun c _ => (c.chron.flag.count 0 + c.chron.flag.count 1 + c.chron.flag.count 4).toNat),
  viewC 0x1400 13 1 .perSub (fun c _ => c.mram.opsec),
  viewC 0x1400 16 1 .perSub (fun c _ => c.mram.pcyc),
  viewC 0x1060 1 1 .perSub (fun c _ => c.hostStat.toNat),
  viewC 0x1060 4 1 .own (fun c _ => if c.host.gaValid then c.host.ga else 0xFF),
  viewCnt 0x1060 5 .perSub (·.host.flag) 0,
  viewC 0x5801 1 1 .own (fun c _ => match c.upd.storedSlot with | some n => n - 2 | none => 0xFF),
  viewC 0x5802 1 4 .own (fun c j => (c.upd.slot j).st.code),
  viewC 0x5810 1 1 .own (fun c _ => c.upd.xState),
  viewC 0x5810 2 1 .own (fun c _ => c.upd.xImg.toNat),
  viewC 0x5810 3 1 .own (fun c _ => c.upd.xNext),
  viewC 0x5810 4 1 .own (fun c _ => c.upd.xNblk),
  viewC 0x5810 5 1 .own (fun c _ => c.upd.xReason),
  viewC 0x5831 1 6 .own (fun c j => (atD 0#32 j c.upd.stats).toNat),
  ⟨0x5C00, 1, 1, .own, fun s ch _ => s.secFloor ch⟩,
  ⟨0x5C00, 3, 1, .own, fun s _ _ => (s.participants.all (fun p => (s.chan p).upd.rootOk)).toNat⟩,
  viewC 0x5C00 4 1 .own (fun c _ => c.upd.custFuse.isSome.toNat)]

/-- Every status object. -/
def objViews : List ObjView := views1 ++ views2 ++ views3 ++ views4

/-! Snapshots (R378) -/

/-- The addresses of channel `ch`'s part of a row. -/
def ObjView.parts (v : ObjView) (s : State) (ch : Ch) : List (Nat × Nat × Nat) :=
  (List.range v.n).map (fun j =>
    match v.op with
    | .perSub => (v.idx, v.sub + chCode ch * v.n + j, v.f s ch j)
    | .perIdx => (v.idx + chCode ch, v.sub + j, v.f s ch j)
    | _ => (v.idx, v.sub + j, v.f s ch j))

/-- The register snapshot of a channel. -/
def State.snapshotOf (s : State) (ch : Ch) : Snapshot := ⟨objViews.flatMap (fun v => v.parts s ch)⟩

/-- A value of a snapshot. -/
def Snapshot.val (x : Snapshot) (i s : Nat) : Option Nat := (x.vals.find? (fun e => e.1 == i && e.2.1 == s)).map (fun e => e.2.2)

/-- The snapshot that the serving channel holds of channel `x`: its own is taken at serving in M2 to M4. -/
def State.snapFor (s : State) (ch x : Ch) : Option Snapshot :=
  let d := (s.chan ch).dict
  let m := (s.chan ch).sys.mode
  match linkTo ch x with
  | none => if m = .m2 || m = .m3 || m = .m4 || d.snapOwn.isNone then some (s.snapshotOf ch) else d.snapOwn
  | some .next => d.snap0
  | some .prev => d.snap1

/-- The row that shows an object. -/
def viewRow (i s : Nat) : Option ObjView :=
  objViews.find? (fun v => match v.op with
    | .perSub => v.idx == i && v.sub ≤ s && s < v.sub + 3 * v.n
    | .perIdx => v.idx ≤ i && i < v.idx + 3 && v.sub ≤ s && s < v.sub + v.n
    | _ => v.idx == i && v.sub ≤ s && s < v.sub + v.n)

/-- The channels' parts of an object as the serving channel has them, channels without a snapshot left out. -/
def State.viewParts (s : State) (ch : Ch) (i sub : Nat) : List Nat := allCh.filterMap (fun x => (s.snapFor ch x).bind (fun y => y.val i sub))

/-- The value of a status object that channel `ch` serves, `d` where no snapshot holds it. -/
def State.viewVal (s : State) (ch : Ch) (i sub d : Nat) : Option Nat :=
  (viewRow i sub).map (fun v =>
    let parts := s.viewParts ch i sub
    match v.op with
    | .perSub => ((s.snapFor ch (atD Ch.A ((sub - v.sub) / v.n) allCh)).bind (fun y => y.val i sub)).getD d
    | .perIdx => ((s.snapFor ch (atD Ch.A (i - v.idx) allCh)).bind (fun y => y.val i sub)).getD d
    | .sum => min (parts.foldl (· + ·) (if i = 0x1034 then Config.hostPower s.free else 0)) 0xFFFFFFFF
    | .bor => (parts.foldl (fun (w : Word) n => w ||| BitVec.ofNat 32 n) 0#32).toNat
    | .greatest => parts.foldl max 0
    | .median => twos 2 (medianInt (parts.map (fun n => (BitVec.ofNat 16 n).toInt)))
    | .own => if i = 0x1000 then chCode ch else ((s.snapFor ch ch).bind (fun y => y.val i sub)).getD d
    | .one x => ((s.snapFor ch x).bind (fun y => y.val i sub)).getD d)

/-! Values that are no numbers, or are read where they lie -/

/-- The 1,024 coefficients of a resampling profile (object 0x5040). -/
def profileOctets (p : Nat) : List Byte := (List.range 1024).flatMap (fun i => leB 4 (twos 4 (Config.resample p i)))

/-- Octets of a text. -/
def ascii (t : String) : List Byte := t.toList.map (fun c => BitVec.ofNat 8 c.toNat)

/-- Objects whose value is a string or lies outside the snapshots. -/
def State.bigVal (s : State) (ch : Ch) (i sub : Nat) : Option (List Byte) :=
  let c := s.chan ch
  let chron (n : Nat) : Option (List Byte) :=
    let x := atD Ch.A (sub - 1) allCh
    let rs := if s.reach x ch 4 then (s.chan x).chron.from (c.dict.cursors.get x) else []
    some (takeFit n (if n = 516 then rs.take 1 else rs))
  match i with
  | 0x1000 => (match sub with
    | 1 => some (ascii "ZV3-2410")
    | 2 => some [c.sys.issue]
    | 3 => some (Config.serial.take 10)
    | 4 => some (leB 2 Config.week)
    | 5 => some (leB 4 Config.romVersion.toNat)
    | 6 => some (leB 4 c.runFw)
    | 7 => some (match c.sl.prog with | some p => padTo 32 p.sha | none => List.replicate 32 0#8)
    | _ => none)
  | 0x1410 => some (leB 4 (c.dict.cursors.get (atD Ch.A (sub - 1) allCh)).toNat)
  | 0x1411 => chron 516
  | 0x1412 => chron 7680
  | 0x2050 => if sub = 5 then some (padTo 32 c.compat.digest) else none
  | 0x5040 => some (profileOctets (sub - 1))
  | 0x5041 => some (leB 4 (crc32c (profileOctets (sub - 1))).toNat)
  | 0x5804 => some (match (c.upd.slot (sub - 1)).man with | some m => m.raw ++ m.sig | none => List.replicate 512 0#8)
  | 0x5C00 => if sub = 5 then some (match c.upd.custFuse with | some h => padTo 32 h | none => List.replicate 32 0#8) else none
  | _ => none

end Sys2Proof.Machine
end

