-- ==== Sys2Proof/Machine/Legacy.lean ====
section
/-! DEFINITION. Compatibility mode: translation of a Yarlos list, diagnostic codes, legacy commands, legacy objects and the front LEDs (R437 to R451). -/

namespace Sys2Proof.Machine
open Sys2Proof

/-! Reading a list (R439, R440) -/

/-- A block record (Table 17-3). -/
def readLBlock (b : List Byte) : LBlock where
  typ := leAt b 0 2
  retained := (leAt b 2 1).testBit 0
  out := leAt b 4 2
  par := leAt b 6 2
  ins := (List.range (min (leAt b 3 1) 8)).map (fun i => leAt b (8 + 2 * i) 2)

/-- `n` records of `k` octets from an offset. -/
def tableAt (b : List Byte) (off k n : Nat) : List (List Byte) := (List.range n).map (fun i => (b.drop (off + k * i)).take k)

/-- A list as its header and tables give it (Tables 17-2, 17-3). -/
def readList (b : List Byte) : LList where
  fver := leAt b 4 2
  nblk := leAt b 6 2
  filt := leAt b 12 1
  type3 := BitVec.ofNat 4 (leAt b 13 1)
  ntune := leAt b 14 2
  nhost := leAt b 16 2
  nvar := leAt b 18 2
  mvb := (tableAt b (leAt b 24 4) 8 (leAt b 10 2)).map (fun r => (leAt r 0 2, leAt r 2 1, leAt r 3 1 == 1, leAt r 4 2))
  tunes := (tableAt b (leAt b 28 4) 8 (leAt b 14 2)).map (fun r => (BitVec.ofNat 32 (leAt r 0 4), leAt r 4 1))
  consts := bytesWords ((b.length - leAt b 32 4) / 4) (b.drop (leAt b 32 4))
  blocks := (tableAt b (leAt b 20 4) 32 (leAt b 6 2)).map readLBlock
  lcrc := BitVec.ofNat 32 (leAt b 36 4)

/-- Header fields in their ranges, tables within the content. -/
def headerOk (b : List Byte) : Bool :=
  let l := b.length
  40 ≤ l && leAt b 0 4 = 0x4C424659 && within 1 3 (leAt b 4 2) && within 1 4096 (leAt b 6 2) && leAt b 10 2 ≤ 256 &&
  within 1 16 (leAt b 12 1) && leAt b 13 1 ≤ 15 && leAt b 14 2 ≤ 2040 && leAt b 16 2 ≤ 448 && within 16 4096 (leAt b 18 2) &&
  leAt b 20 4 + 32 * leAt b 6 2 ≤ l && leAt b 24 4 + 8 * leAt b 10 2 ≤ l && leAt b 28 4 + 8 * leAt b 14 2 ≤ l && leAt b 32 4 ≤ l

/-- Fields of the tunables and of the block records in their ranges (R439, Tables 17-2, 17-3): type codes, flags, NIN, unused and reserved octets. -/
def recordsOk (b : List Byte) : Bool :=
  (tableAt b (leAt b 28 4) 8 (leAt b 14 2)).all (fun r => (leAt r 4 1 == 0x07 || leAt r 4 1 == 0x08) && leAt r 5 3 == 0) &&
  (tableAt b (leAt b 20 4) 32 (leAt b 6 2)).all (fun r =>
    decide (leAt r 2 1 ≤ 1) && decide (leAt r 3 1 ≤ 8) && (r.drop (8 + 2 * leAt r 3 1)).all (fun x => x == 0#8))

/-- Reserved fields of the port list. -/
def portRecsOk (b : List Byte) : Bool :=
  (tableAt b (leAt b 24 4) 8 (leAt b 10 2)).all (fun r => decide (leAt r 3 1 ≤ 1) && leAt r 6 2 == 0)

/-- The block types of Table 17-4. -/
def lTypeOk (t : Nat) : Bool :=
  within 0x01 0x1F t || within 0x20 0x2F t || within 0x30 0x3F t || within 0x40 0x5F t || within 0x60 0x7F t || within 0x80 0x8F t ||
  within 0xA0 0xBF t || within 0xC0 0xC7 t || within 0xE0 0xFF t

/-- A reference lies in its space (R440). -/
def LList.refOk (l : LList) (r : Nat) : Bool :=
  let i := r % 4096
  match r / 4096 with
  | 0 => i < 288
  | 1 => i < wordsOf l.sinks
  | 2 => i < l.nvar
  | 3 => i < l.consts.length
  | 4 => i < l.ntune
  | _ => false

/-- Port list: F-codes and addresses in range, source words among the variables, host words too. -/
def LList.portsOk (l : LList) : Bool :=
  l.mvb.all (fun p => decide (p.1 ≤ 4095) && decide (p.2.1 ≤ 4) && (!p.2.2.1 || decide (p.2.2.2 + portWords p.2.1 ≤ l.nvar))) &&
  decide (l.hostVar + l.nhost ≤ l.nvar) && (l.mvb.map (·.1)).Nodup

/-- The execution bound (R443). -/
def LList.bound (l : LList) : Nat := 20 + l.blocks.foldl (fun n b => n + Config.yarlosCost b.typ) 0

/-- Why a list is refused (Table 17-13), 0 for none. -/
def listReason (b : List Byte) : Nat :=
  let l := readList b
  if !headerOk b || !recordsOk b then 1
  else if leAt b 8 2 ≠ 16 then 6
  else if crc32 (b.drop 40) ≠ l.lcrc then 2
  else if !portRecsOk b || !l.portsOk then 8
  else if !l.blocks.all (fun x => lTypeOk x.typ) then 3
  else if !l.blocks.all (fun x => x.ins.all l.refOk && decide (x.out < l.nvar) && decide (x.par ≤ l.consts.length)) then 4
  else if 3000 < l.bound then 5 else 0

/-! The task L0 (R442) -/

/-- Input sources: the field inputs in word 0, then one source per sink port, all with substitution HOLD. -/
def sinkSources : Nat → List (Nat × Nat × Bool × Nat) → List SourceDecl
  | _, [] => []
  | at_, p :: r => ⟨2, 0, 0, p.1, at_, portWords p.2.1, List.replicate (portWords p.2.1) 0#32⟩ :: sinkSources (at_ + portWords p.2.1) r

/-- L0. -/
def LList.task (l : LList) : TaskDecl where
  num := 0
  cap := false
  prio := 0
  period := 4
  phase := 0
  inLen := 1 + wordsOf l.sinks
  ident := 0#32
  entry := 0#32
  stages := [⟨1, l.outLen, l.rsLen⟩]
  srcs := ⟨3, 0, 0, 0xFFFFFFFF, 0, 1, [0#32]⟩ :: sinkSources 1 l.sinks
  defOut := []
  initRs := List.replicate l.nvar 0#32 ++ l.tunes.map (·.1)

/-- Tunables as application objects (R449). -/
def LList.objs (l : LList) : List ObjDecl :=
  (l.tunes.zipIdx).map (fun (x : (Word × Nat) × Nat) =>
    ⟨0x3800 + x.2 / 255, x.2 % 255 + 1, x.1.2, 1, 1, false, 0x40, 0x40, BitVec.ofNat 32 (0x300000 + x.2), 0, 2, l.nvar + x.2⟩)

/-- The translated program. -/
def LList.program (l : LList) (sha : List Byte) (b : List Byte) : Program where
  sha := sha
  imgid := BitVec.ofNat 32 (leAt sha 0 4)
  code := Config.yarlosCode b
  image := Config.yarlosCode b
  legacy := true
  tasks := [l.task]
  carries := []
  objs := l.objs
  subs := []
  capq := none

/-- Output word of a source port. -/
def srcWord : Nat → List (Nat × Nat × Bool × Nat) → Nat → Nat
  | n, [], _ => n
  | n, p :: r, a => if p.1 = a then n else srcWord (n + portWords p.2.1) r a

/-- The MVB ports of the list (R448): sources are VOTED. -/
def LList.ports (l : LList) : List MvbPort :=
  l.mvb.map (fun p => ⟨p.1, p.2.1, p.2.2.1, 0, 0, if p.2.2.1 then srcWord 16 l.sources p.1 else 0, none⟩)

/-- LEGACY_TRANSLATION (R442, R443): after image verification, in compatibility personality, of a STORED image of KIND 3. -/
def Chan.translate (c : Chan) : Chan :=
  match c.upd.storedSlot.bind (fun n => (c.upd.slot n).man.map (fun m => (m, c.upd.slot n))) with
  | none => c
  | some (m, x) =>
    if m.kind ≠ 3 then c
    else
      let b := x.content
      let l := readList b
      let r := listReason b
      if r ≠ 0 then { c with compat := { c.compat with tstate := 3, treason := r, bound := if r = 5 then l.bound else 0, list := none, digest := [] } }
      else { c with
        compat := { c.compat with tstate := 2, treason := 0, bound := l.bound, list := some l, digest := sha256 (Config.yarlosCode b) }
        sl := { c.sl with prog := some (l.program m.sha b) }
        mvb := { c.mvb with ports := l.ports } }

def execLegacyTranslation (ch : Ch) (s : State) : Out :=
  let c := s.chan ch
  guardC (s.starters.contains ch && c.assay.verified && c.assay.pgSha.isSome && c.compat.tstate == 0 && c.cfgN 0x1001 1 == 1 &&
      c.sys.decided.isNone && !c.tb.tickRun) s (s.upd ch Chan.translate)

/-! Diagnostic codes (R450) -/

/-- A line without a valid frame for 16 frames. -/
def lineDead (h : List Bool) : Bool := h.length == 16 && !h.any id

/-- The codes present. -/
def State.legacyCodes (s : State) (ch : Ch) : List Nat :=
  let c := s.chan ch
  let m := c.sys.mode
  let mvb := (s.chan .C).mvb
  let cause := c.sys.cause
  (if m = .m1 || m = .m2 || m = .m3 || m = .m4 then [0x1001]
   else if m = .m10 then
     (match cause with
      | 0x01 => [0x1100]
      | 0x05 => [if s.agreedProgram.isNone then 0x1201 else 0x1202]
      | 0x11 => [0x1300]
      | 0x03 => [0x1500]
      | 0x04 | 0x06 | 0x07 => [0x1600]
      | _ => [])
   else if m = .m11 then (match cause with | 0x0B => [0x1400] | 0x0C => [0x1401] | _ => [])
   else if m = .m9 then [0x1800] else []) ++
  (if m = .m6 then (allCh.filter (fun x => s.view x == .out)).map (fun x => 0x2A01 + chCode x) else []) ++
  (if lineDead mvb.histA then [0x2B00] else []) ++ (if lineDead mvb.histB then [0x2B01] else []) ++ c.compat.appCodes

/-- Codes evaluated at a boundary: one that becomes present is entered in the history. -/
def State.legacyEval (s : State) (ch : Ch) : State :=
  let app := match (s.chan ch).sl.prog, (s.chan ch).sl.task 0 with
    | some p, some t => if p.legacy then (Config.yarlosCodes t.rsPub).filter (fun x => within 0x3000 0x3FFF x) else []
    | _, _ => []
  let s := s.upd ch (fun c => { c with compat := { c.compat with appCodes := app } })
  let now := s.legacyCodes ch
  s.upd ch (fun c => { c with compat := { c.compat with
    present := now
    history := ((now.filter (fun x => !c.compat.present.contains x)).map (fun x => (x, c.compat.lcycle.toNat % 65536))).reverse ++ c.compat.history } })

/-- The legacy part of a boundary: cycle starts counted (R444), codes evaluated, a waiting RESTART given in M10 (R438). -/
def State.legacyBoundary (s : State) (ch : Ch) : State :=
  let c := s.chan ch
  if !c.host.legacy then s
  else
    let s := if c.sys.mode = .m6 && c.tb.c % 16 = 0 then s.upd ch (fun c => { c with compat := { c.compat with lcycle := satInc c.compat.lcycle } }) else s
    let s := s.legacyEval ch
    let s := if c.sys.mode = .m6 || c.sys.mode = .m10 then s else s.upd ch (fun c => { c with compat := { c.compat with restartDue := false } })
    if c.compat.restartDue && c.sys.mode = .m10 then
      s.upd ch (fun c => ({ c with compat := { c.compat with restartDue := false } }).selfCommand ch 2)
    else s

/-! Registers of the legacy window (Table 17-5) -/

/-- LDIAG. -/
def CompatBlk.ldiagWord (k : CompatBlk) : Word := BitVec.ofNat 32 (min k.history.length 65535 * 65536 + k.ldiag)

/-- LSTAT. -/
def State.lstat (s : State) (ch : Ch) : Word :=
  let c := s.chan ch
  let has (g : Nat) : Bool := c.compat.present.any (fun x => x / 4096 == g)
  let mvb := (s.chan .C).mvb
  regN (regBits [c.sys.mode = .m6, has 1, c.sys.mode = .m9 || c.sys.mode = .m10, mvb.histA.any id || mvb.histB.any id, has 2])

/-- Committed output word and frozen input word of L0. -/
def Chan.l0Out (c : Chan) (i : Nat) : Word := match c.sl.task 0 with | some t => atD 0#32 i t.outPub | none => 0#32
def Chan.l0In (c : Chan) (i : Nat) : Word := match c.sl.task 0 with | some t => atD 0#32 i t.inImg | none => 0#32

/-- Outputs 0 to 15 as one word. -/
def Chan.l0Bits (c : Chan) : Nat := regBits ((List.range 16).map (fun i => (c.l0Out i).getLsbD 0))

/-- First output word of the host words. -/
def Chan.hostBase (c : Chan) : Nat := match c.compat.list with | some l => 16 + wordsOf l.sources | none => 16

/-- Data of MVB port `n` of the list as last frozen or committed. -/
def Chan.portData (c : Chan) (n : Nat) : Option (List Byte) :=
  match c.compat.list with
  | none => none
  | some l => (l.mvb[n]?).map (fun p =>
      let off := if p.2.2.1 then srcWord 16 l.sources p.1 else srcWord 1 l.sinks p.1
      (wordBytes ((List.range (portWords p.2.1)).map (fun j => if p.2.2.1 then c.l0Out (off + j) else c.l0In (off + j)))).take (fcodeLen p.2.1))

/-- The value of a legacy object (Table 17-6). -/
def State.legacyVal (s : State) (ch : Ch) (i sub : Nat) : List Byte :=
  let c := s.chan ch
  match i with
  | 0x3000 => (match sub with
    | 1 => ascii "YARLOS 120"
    | 2 => leB 2 0x0500
    | 3 => Config.serial.take 10
    | _ => leB 4 ((c.compat.list.map (·.lcrc)).getD 0#32).toNat)
  | 0x3001 => (match sub with
    | 1 => leB 4 (s.lstat ch).toNat
    | 2 => leB 4 c.compat.ldiagWord.toNat
    | _ => leB 4 c.compat.lcycle.toNat)
  | 0x3010 => let h := atD (0, 0) (sub - 1) c.compat.history
    leB 4 (h.1 * 65536 + h.2)
  | 0x3100 => leB 4 (c.l0In 0).toNat
  | 0x3200 => leB 2 c.l0Bits
  | 0x3400 => (c.portData (sub - 1)).getD []
  | _ => (c.portData 255).getD []

/-! Legacy commands (R438, R450, Table 17-5) -/

/-- A write of LCMD: STOP, RESTART (in M6 as STOP), clear history; other values are ignored. -/
def State.lcmd (s : State) (ch : Ch) (v : Nat) : State :=
  let c := s.chan ch
  if !c.host.legacy then s
  else match v with
    | 1 => s.modeCommand ch none 0#8 1
    | 2 =>
      if c.sys.mode = .m6 then (s.modeCommand ch none 0#8 1).upd ch (fun c => { c with compat := { c.compat with restartDue := true } })
      else s.modeCommand ch none 0#8 2
    | 4 => s.upd ch (fun c => { c with compat := { c.compat with history := [] } })
    | _ => s

/-- LCMD_STOP. -/
def execLcmdStop (ch : Ch) (s : State) : Out := .next (s.lcmd ch 1)
/-- LCMD_RESTART. -/
def execLcmdRestart (ch : Ch) (s : State) : Out := .next (s.lcmd ch 2)
/-- LCMD_CLEAR_HISTORY. -/
def execLcmdClearHistory (ch : Ch) (s : State) : Out := .next (s.lcmd ch 4)

/-! The front LEDs (R451, Table 17-8) -/

/-- What an LED shows. -/
inductive Led where | off | on | slow | fast
deriving DecidableEq, Repr

/-- RUN. -/
def State.ledRun (s : State) : Led :=
  match s.mode with
  | .m4 | .m5 => .slow
  | .m6 | .m7 | .m8 => .on
  | .m9 => .fast
  | _ => .off

/-- A valid frame within the last 100 ms. -/
def recent (now : Nat) (t : Option Nat) : Bool := t.any (fun t => decide (now ≤ t + 100000000))

/-- BUS: the MVB lines in M6, the Millrace rings in native personality. -/
def State.ledBus (s : State) : Led :=
  let of (x y : Bool) : Led := if x && y then .on else if x || y then .slow else .off
  let c := s.chan .C
  if s.mode = .m6 then of (recent c.now c.mvb.validA) (recent c.now c.mvb.validB)
  else if c.host.legacy then .off
  else of (recent (s.chan .A).now (s.chan .A).mill.validAt) (recent (s.chan .B).now (s.chan .B).mill.validAt)

/-- FLT. -/
def State.ledFlt (s : State) : Led :=
  match s.mode with
  | .m1 | .m2 | .m10 => .on
  | .m3 | .m11 => .fast
  | .m6 | .m7 => if allCh.any (fun x => s.view x == .out) then .slow else .off
  | .m8 => .slow
  | _ => .off

end Sys2Proof.Machine
end

