-- ==== Sys2Proof/Machine/Dict.lean ====
section
/-! DEFINITION. The dictionary service: descriptors, values, requests, writes, confirmation, snapshots (R368 to R382, R390 to R394, R182, R261, R447). -/

namespace Sys2Proof.Machine
open Sys2Proof

/-! Requests as octets (Table 14-4) -/

/-- `n` entries of a request of service `svc`; none when the octets do not spell exactly them. -/
def parseEntries (svc : Nat) : Nat → List Byte → Option (List DEntry)
  | 0, bs => if bs.isEmpty then some [] else none
  | n + 1, bs =>
    let size := if svc = 2 then 8 + (leAt bs 4 2 + 3) / 4 * 4 else if svc = 6 then 8 else 4
    if bs.length < size || leAt bs 3 1 ≠ 0 || ((svc = 2 || svc = 6) && leAt bs 6 2 ≠ 0) then none
    else
      let e : DEntry := ⟨leAt bs 0 2, leAt bs 2 1, if svc = 2 then (bs.drop 8).take (leAt bs 4 2) else [], if svc = 6 then leAt bs 4 2 else 0⟩
      (parseEntries svc n (bs.drop size)).map (fun l => e :: l)

/-- A request message: service and content. A message whose header or entries are not as Table 14-4 gives keeps as many entries as N states. -/
def parseReq (bs : List Byte) : Nat × DReq :=
  let n := leAt bs 2 1
  match parseEntries (leAt bs 0 1) n (bs.drop 4) with
  | some l => (leAt bs 0 1, ⟨BitVec.ofNat 8 (leAt bs 1 1), leAt bs 3 1 = 0 && 4 ≤ bs.length, bs.length, l⟩)
  | none => (leAt bs 0 1, ⟨BitVec.ofNat 8 (leAt bs 1 1), false, bs.length, List.replicate n ⟨0, 0, [], 0⟩⟩)

/-! Descriptors (R368, R369, R372, R373) -/

/-- An object's descriptor. -/
structure Desc where
  typ : Nat
  maxLen : Nat
  fixed : Bool
  rmask : Nat
  wmask : Nat
  cls : Nat
  safety : Bool
  side : Bool
  /-- The declaration of a process or application object. -/
  decl : Option ObjDecl
  proxy : Bool
  /-- Subindex 0x00. -/
  top : Bool
deriving DecidableEq, Repr

/-- The command objects of R372. -/
def safetyCommands : List (Nat × Nat) := [(0x1011, 1), (0x2040, 1), (0x2040, 3), (0x4C10, 1), (0x5002, 1)]

/-- Every command object: a write of it acts and stores nothing. -/
def commandObjects : List (Nat × Nat) := safetyCommands ++ [(0x5800, 1), (0x5803, 1), (0x5820, 1)]

/-- The program whose declarations the channel serves: the stored one in M4, else the running one. -/
def Chan.dictProgram (c : Chan) : Option Program :=
  if c.sys.mode = .m4 then c.storedProgram else c.sl.prog.or c.storedProgram

/-- Declarations served in the present mode: tunables in M6 only (R449). -/
def Chan.dictDecls (c : Chan) : List ObjDecl :=
  ((c.dictProgram.map (·.objs)).getD []).filter (fun o => c.sys.mode = .m6 || !(0x3000 ≤ o.index && o.index ≤ 0x3FFF))

/-- Native and, in M6, legacy descriptor rows. -/
def Chan.dictRows (c : Chan) : List ObjRow := if c.sys.mode = .m6 then objRows ++ legacyRows else objRows

/-- Proxy objects that the port of a request reaches (R277). -/
def Chan.dictProxies (c : Chan) (ch : Ch) (via : Transport) : List Route :=
  match viaPort ch via with
  | none => []
  | some p => c.bridge.routes.filter (fun (r : Route) => r.read && r.sport == p)

/-- Indices of the proxy objects (R282). -/
def isProxyIndex (i : Nat) : Bool := within 0x4200 0x43FF i

/-- Legacy messages reach legacy objects only (R447). -/
def viaReaches (via : Transport) (i : Nat) : Bool :=
  match via with
  | .legacy _ => 0x3000 ≤ i && i ≤ 0x3FFF
  | _ => true

/-- The highest subindex of an index, none when no object lies there. -/
def Chan.topSub (c : Chan) (ch : Ch) (via : Transport) (i : Nat) : Option Nat :=
  let rows := (c.dictRows.filter (fun (r : ObjRow) => r.idx0 ≤ i && i ≤ r.idx1)).map (fun (r : ObjRow) => if i = r.idx1 then r.sub1 else 255)
  let decls := (c.dictDecls.filter (fun (o : ObjDecl) => o.index == i)).map (fun (o : ObjDecl) => o.sub)
  let prox := ((c.dictProxies ch via).filter (fun (r : Route) => r.sid.toNat / 65536 == i)).map (fun (r : Route) => r.sid.toNat % 256)
  let l := if viaReaches via i then rows ++ decls ++ prox else []
  if l.isEmpty then none else some (l.foldl max 0)

/-- The descriptor of an object, or the abort code of an absent one. -/
def Chan.desc (c : Chan) (ch : Ch) (via : Transport) (i sub : Nat) : Except Word Desc :=
  match c.topSub ch via i with
  | none => .error abNoObject
  | some _ =>
    if sub = 0 then .ok ⟨2, 1, true, 0xFFF, 0, 0, false, false, none, false, true⟩
    else match c.dictRows.find? (fun r => r.holds i sub) with
      | some r => .ok ⟨r.typ, r.maxLen, r.fixed, r.rmask, r.wmask, r.cls, r.cls = 2 || safetyCommands.contains (i, sub), false, none, false, false⟩
      | none => match c.dictDecls.find? (fun o => o.index == i && o.sub == sub) with
        | some o => .ok ⟨o.typ, o.size, (typeSize o.typ).isSome, o.rmask, o.wmask, o.cls, o.safety || o.cls = 2, false, some o, false, false⟩
        | none => match (c.dictProxies ch via).find? (fun (r : Route) => r.sid.toNat / 65536 == i && r.sid.toNat % 256 == sub) with
          | some r => .ok ⟨14, dportLimit r.sport, false, 0xFA0, 0, 0, false, r.side, none, true, false⟩
          | none => .error (if isProxyIndex i then abNoObject else abNoSub)

/-! Values -/

/-- The image words a declaration lies in. -/
def TaskRt.declWords (t : TaskRt) (area : Nat) : List Word :=
  match area with
  | 1 => t.outPub
  | 2 => t.rsPub
  | _ => t.inImg

/-- The value of a process or application object (R374). In M4, where no program runs, classes J and H show what is stored. -/
def Chan.declVal (c : Chan) (o : ObjDecl) : List Byte :=
  let stored : List Byte := match c.dict.stored 1 o.ident.toNat with
    | some e => e.val
    | none => match c.dictProgram with
      | some p => if o.area = 2 then progInitial p o else List.replicate o.size 0#8
      | none => List.replicate o.size 0#8
  if c.sys.mode = .m4 && o.cls ≠ 0 then stored
  else match c.sl.task o.task with
    | some t => elemsOctets o.typ o.count ((t.declWords o.area).drop o.word)
    | none => stored

/-- The value of a present object that is no proxy. -/
def State.dictVal (s : State) (ch : Ch) (via : Transport) (i sub : Nat) (d : Desc) : List Byte :=
  let c := s.chan ch
  if d.top then leB 1 ((c.topSub ch via i).getD 0)
  else match d.decl with
    | some o => c.declVal o
    | none =>
      if 0x3000 ≤ i && i ≤ 0x3FFF then s.legacyVal ch i sub
      else match s.viewVal ch i sub (((objRow i sub).map (·.dflt)).getD 0) with
        | some v => leB ((typeSize d.typ).getD 1) v
        | none => match s.bigVal ch i sub with
          | some b => b
          | none => c.cfgB i sub

/-- Reads are offered of this index in the present mode (Table 14-14). -/
def readRange (m : Mode) (i : Nat) : Bool :=
  match m with
  | .m0 | .m1 => false
  | .m2 => 0x1000 ≤ i && i ≤ 0x1012
  | .m3 => (0x1000 ≤ i && i ≤ 0x1012) || (0x5800 ≤ i && i ≤ 0x5BFF)
  | .m6 => true
  | _ => !(within 0x3000 0x3FFF i)

/-- The transports of each mode (Tables 14-14, 9-3; R447). -/
def viaOffered (m : Mode) (via : Transport) : Bool :=
  match m, via with
  | .m0, _ | .m1, _ => false
  | .m2, .host => true
  | .m2, _ => false
  | .m3, .host | .m3, .md .service _ _ | .m3, .notify .service _ => true
  | .m3, _ => false
  | .m4, .host | .m4, .md _ _ _ | .m4, .notify _ _ => true
  | .m4, _ => false
  | .m6, .host | .m6, .legacy _ => true
  | .m6, _ => false
  | _, .legacy _ => false
  | _, _ => true

/-- A voted output word: a process output of an integrity task, or the outputs of the legacy program (R182, Table 17-6). -/
def Chan.votedEntry (c : Chan) (i sub : Nat) : Bool :=
  if i = 0x3200 then c.sys.mode = .m6
  else 0x7000 ≤ i && i ≤ 0x7FFF &&
    (match c.dictDecls.find? (fun o => o.index == i && o.sub == sub) with
    | some o => ((c.sl.task o.task).map (fun (t : TaskRt) => !t.decl.cap)).getD false
    | none => false)

/-- How a voted read stands: 0 served, 1 waits, 2 refused at once (R182). -/
def Chan.votedRead (c : Chan) : Nat :=
  if !(c.sys.mode.runs || c.sys.mode.stopped) then 0
  else if c.vote.state == .abstaining || c.vote.state == .resync then 2
  else if c.vote.gate || c.vote.conf then 0
  else if c.sys.mode.stopped then 2
  else 1

/-! Reads -/

/-- What stands against reading an object, 0 for nothing. -/
def Chan.readBar (c : Chan) (d : Desc) : Word :=
  if d.rmask = 0 then abWriteOnly
  else if !d.rmask.testBit c.sys.mode.num then abState
  else 0#32

/-- One entry of a READ or PEEK that is no proxy. -/
def State.readEntry (s : State) (ch : Ch) (via : Transport) (e : DEntry) : REntry :=
  let c := s.chan ch
  if !readRange c.sys.mode e.index then abortEntry abUnavail
  else match c.desc ch via e.index e.sub with
    | .error ab => abortEntry ab
    | .ok d =>
      if c.readBar d ≠ 0#32 then abortEntry (c.readBar d)
      else if c.votedEntry e.index e.sub && c.votedRead ≠ 0 then abortEntry abUnconf
      else ⟨0#32, 0, s.dictVal ch via e.index e.sub d⟩

/-- The entry names a proxy object that the transport reaches. -/
def Chan.isProxy (c : Chan) (ch : Ch) (via : Transport) (e : DEntry) : Bool :=
  match c.desc ch via e.index e.sub with
  | .ok d => d.proxy
  | .error _ => false

/-- A READ of the entry goes to the bridge: a proxy object, or any index of one while the bridge is inactive (R282, R294). -/
def Chan.toBridge (c : Chan) (ch : Ch) (via : Transport) (e : DEntry) : Bool :=
  c.isProxy ch via e || (isProxyIndex e.index && !c.bridgeOn)

/-- An entry refused as unconfirmed sets UNCONF_READ. -/
def Chan.noteUnconf (c : Chan) (es : List REntry) : Chan :=
  if es.any (fun e => e.abort == abUnconf) then { c with vote := { c.vote with flag := c.vote.flag.raise 6 } } else c

/-- A new call of a channel. -/
def Chan.addCall (c : Chan) (x : Nat → Call) : Chan :=
  { c with dict := { c.dict with calls := c.dict.calls ++ [x c.dict.nextCall], nextCall := c.dict.nextCall + 1 } }

/-- A READ with proxy entries beside others: it is answered when the bridge has answered each of them. -/
def State.readParts (s : State) (ch : Ch) (via : Transport) (svc : Nat) (req : DReq) (own : List (Nat × REntry)) (prox : List (DEntry × Nat)) : State :=
  let id := (s.chan ch).dict.nextCall
  prox.foldl (fun (s : State) x => s.proxyRead ch via (.part id x.2) req.tag x.1.index x.1.sub)
    (s.upd ch (fun c => c.addCall (fun id => ⟨id, via, req.tag, svc, req.entries.length, prox.map (·.2), own, [], none⟩)))

/-- One entry of a READ or PEEK; `deny` refuses a voted one as unconfirmed (R182). -/
def State.answerEntry (s : State) (ch : Ch) (via : Transport) (svc : Nat) (deny : Bool) (e : DEntry) : REntry :=
  let c := s.chan ch
  if deny && c.votedEntry e.index e.sub then abortEntry abUnconf
  else if svc = 5 && c.isProxy ch via e then abortEntry abNoObject
  else s.readEntry ch via e

/-- Serve a READ or PEEK. Proxy objects of a READ go to the bridge; beside other entries each is a part of the request's call (R282, R378). -/
def State.serveRead (s : State) (ch : Ch) (via : Transport) (svc : Nat) (req : DReq) (deny : Bool) : State :=
  let c := s.chan ch
  let asks (e : DEntry) : Bool := svc == 1 && c.toBridge ch via e
  let es := req.entries.zipIdx
  let own := (es.filter (fun x => !asks x.1)).map (fun x => (x.2, s.answerEntry ch via svc deny x.1))
  let prox := es.filter (fun x => asks x.1)
  let s := s.upd ch (fun c => c.noteUnconf (own.map (·.2)))
  match prox with
  | [] => s.upd ch (fun c => c.reply via req.tag svc 0 (own.map (·.2)))
  | [x] => if own.isEmpty then s.proxyRead ch via via req.tag x.1.index x.1.sub else s.readParts ch via svc req own prox
  | _ => s.readParts ch via svc req own prox

/-- A READ or PEEK: one that reads a voted output waits as a whole while no confirmation is held (R182). -/
def State.readCall (s : State) (ch : Ch) (via : Transport) (svc : Nat) (req : DReq) : State :=
  let c := s.chan ch
  if c.votedRead = 1 && req.entries.any (fun e => c.votedEntry e.index e.sub) then
    s.upd ch (fun c => { c with vote := { c.vote with reads := c.vote.reads ++ [(via, svc, req)] } })
  else s.serveRead ch via svc req false

/-- Waiting reads are served from the confirmed commit. -/
def State.serveHeld (s : State) (ch : Ch) : State :=
  let rs := (s.chan ch).vote.reads
  rs.foldl (fun (s : State) (x : Transport × Nat × DReq) => s.serveRead ch x.1 x.2.1 x.2.2 false)
    (s.upd ch (fun c => { c with vote := { c.vote with reads := [] } }))

/-- Waiting reads that no confirmation reached before the next boundary: their voted entries are refused (R182). -/
def State.refuseHeld (s : State) (ch : Ch) : State :=
  let rs := (s.chan ch).vote.reads
  rs.foldl (fun (s : State) (x : Transport × Nat × DReq) => s.serveRead ch x.1 x.2.1 x.2.2 true)
    (s.upd ch (fun c => { c with vote := { c.vote with reads := [] } }))

/-- The 16 octets of an INFO entry (Table 14-6). -/
def Chan.infoOctets (c : Chan) (i sub : Nat) (d : Desc) : List Byte :=
  let wc := match d.decl with
    | some o => ((c.dict.stored 1 o.ident.toNat).map (·.wcount)).getD 0
    | none => ((c.dict.stored 0 (objKey i sub)).map (·.wcount)).getD 0
  leB 1 d.typ ++ leB 1 d.cls ++
    leB 1 (d.safety.toNat + 2 * d.side.toNat + 4 * (decide (wcountLimit ≤ wc)).toNat) ++ leB 1 0 ++
    leB 2 d.rmask ++ leB 2 d.wmask ++ leB 4 d.maxLen ++ leB 4 wc

/-- One entry of an INFO. -/
def Chan.infoEntry (c : Chan) (ch : Ch) (via : Transport) (e : DEntry) : REntry :=
  if !readRange c.sys.mode e.index then abortEntry abUnavail
  else match c.desc ch via e.index e.sub with
    | .error ab => abortEntry ab
    | .ok d => ⟨0#32, 0, c.infoOctets e.index e.sub d⟩

/-- The first address of a row behind `(i, sub)`, subindex 0x00 of each index included. -/
def ObjRow.after (r : ObjRow) (i sub : Nat) : Option Nat :=
  let lo := if i = r.idx0 then r.sub0 else 1
  let hi := if i = r.idx1 then r.sub1 else 255
  if r.idx0 ≤ i && i ≤ r.idx1 && max (sub + 1) lo ≤ hi then some (objKey i (max (sub + 1) lo))
  else if i < r.idx1 then some (objKey (max (i + 1) r.idx0) 0)
  else none

/-- The smaller of two addresses. -/
def minKey (a b : Option Nat) : Option Nat :=
  match a, b with
  | none, y => y
  | x, none => x
  | some x, some y => some (min x y)

/-- Addresses served in the mode and reached by the transport. -/
def Chan.reaches (c : Chan) (via : Transport) (k : Nat) : Bool := readRange c.sys.mode (k / 256) && viaReaches via (k / 256)

/-- The next present object behind an address (NEXT). -/
def Chan.nextObj (c : Chan) (ch : Ch) (via : Transport) (i sub : Nat) : Option Nat :=
  let key := objKey i sub
  let rows := c.dictRows.filterMap (fun r => (r.after i sub).filter (fun k => c.reaches via k))
  let decls := (c.dictDecls.flatMap (fun (o : ObjDecl) => [objKey o.index 0, objKey o.index o.sub])).filter (fun k => key < k && c.reaches via k)
  let prox := ((c.dictProxies ch via).flatMap (fun (r : Route) => [objKey (r.sid.toNat / 65536) 0, objKey (r.sid.toNat / 65536) (r.sid.toNat % 256)])).filter
    (fun k => key < k && c.reaches via k)
  (rows ++ decls ++ prox).foldl (fun (a : Option Nat) k => minKey a (some k)) none

/-- The entry of a NEXT. In M2 and M3 the search goes on from the start of the range served. -/
def Chan.nextEntry (c : Chan) (ch : Ch) (via : Transport) (e : DEntry) : REntry :=
  let from3 (i sub : Nat) : Option Nat := c.nextObj ch via i sub
  let first := from3 e.index e.sub
  let skip (a : Nat) : Option Nat := if e.index < a then from3 (a - 1) 255 else none
  match minKey first (minKey (skip 0x1000) (minKey (skip 0x3000) (skip 0x5800))) with
  | some k => ⟨0#32, 0, leB 2 (k / 256) ++ leB 1 (k % 256) ++ leB 1 0⟩
  | none => ⟨0#32, 0, []⟩

/-- The entry of a COMMIT: the module has no SIDE object of its own (R380). -/
def Chan.commitEntry (c : Chan) (ch : Ch) (via : Transport) (e : DEntry) : REntry :=
  if !readRange c.sys.mode e.index then abortEntry abUnavail
  else match c.desc ch via e.index e.sub with
    | .error ab => abortEntry ab
    | .ok d => if d.proxy then abortEntry abNoObject else if e.token = 0 then abortEntry 0#32 else abortEntry abStale

/-! Writes (R379) -/

/-- The write mask holds the present mode, and the mode's own limits permit the object (Table 14-14, R447); the arm window and the trial
limit only while no change is on (R215). -/
def Chan.writeMode (c : Chan) (e : DEntry) (d : Desc) : Bool :=
  d.wmask.testBit c.sys.mode.num &&
  (!(e.index == 0x2040 && (e.sub == 5 || e.sub == 6)) || c.chg.state == .idle) &&
  (match c.sys.mode with
  | .m3 => (e.index == 0x1011 && e.sub == 1) || (e.index == 0x5820 && e.sub == 1)
  | .m6 => d.cls = 1 || d.cls = 3 || (e.index == 0x1011 && e.sub == 1)
  | _ => true)

/-- Check 8: the length of a written value. -/
def lengthBar (d : Desc) (n : Nat) : Word :=
  match typeSize d.typ with
  | some _ => if n = d.maxLen then 0#32 else abLength
  | none => if d.fixed then (if n = d.maxLen then 0#32 else abLength) else if d.maxLen < n then abTooLong else 0#32

/-- The elements of a written value. -/
def elements (d : Desc) (b : List Byte) : List (List Byte) :=
  match typeSize d.typ with
  | some n => records n b
  | none => [b]

/-- The value an object's own range is judged against: as the object is served, or as stored. -/
def State.oldVal (s : State) (ch : Ch) (i sub : Nat) : Nat :=
  if i = 0x2011 then (s.viewVal ch i sub 0).getD 0 else (s.chan ch).cfgN i sub

/-- Check 9: type rules and the object's own range; the tick offset and the offset of a TIME mark lie below the tick period `p` in µs (R108,
R245). -/
def State.valueOk (s : State) (ch : Ch) (p : Nat) (e : DEntry) (d : Desc) : Bool :=
  (elements d e.data).all (fun b => typeOk d.typ b) &&
  (d.decl.isSome || (typeSize d.typ).isNone || rangeOk e.index e.sub (leN e.data) (s.oldVal ch e.index e.sub)) &&
  (!(within 0x4100 0x4110 e.index) || routeFieldsOk e.data) &&
  (e.index ≠ 0x1021 || e.sub ≠ 2 || decide (leN e.data < p * 1000)) &&
  ((e.index ≠ 0x2804 && e.index ≠ 0x2808) || !(leN e.data).testBit 30 || decide (leN e.data % 2097152 < p * 1000))

/-- The journal entries an entry stands for: native class J and H, declared J and H in M4, and the confirmation (R391). -/
def Chan.entriesOf (c : Chan) (e : DEntry) (d : Desc) : List JEntry :=
  if e.index = 0x1040 && e.sub = 4 then
    [addrEntry 0x1040 2 (padTo 4 e.data), addrEntry 0x1040 3 (leB 1 1), addrEntry 0x1040 5 (leB 1 0)] ++
      (if (c.upd.find [0, 1] .trial).isSome then c.floorEntries else [])
  else match d.decl with
    | some o => if c.sys.mode = .m4 && (o.cls = 1 || o.cls = 2) then [⟨1, o.ident.toNat, o.typ, e.data, 0⟩] else []
    | none => if d.cls = 1 || d.cls = 2 then [addrEntry e.index e.sub e.data] else []

/-- The descriptor of an entry that check 4 has passed. -/
def Chan.descD (c : Chan) (ch : Ch) (via : Transport) (e : DEntry) : Desc :=
  match c.desc ch via e.index e.sub with
  | .ok d => d
  | .error _ => ⟨0, 0, false, 0, 0, 0, false, false, none, false, false⟩

/-- Every journal entry of a request. -/
def Chan.requestEntries (c : Chan) (ch : Ch) (via : Transport) (es : List DEntry) : List JEntry :=
  es.flatMap (fun e => c.entriesOf e (c.descD ch via e))

/-- The keys whose write counters an entry would advance: those of its journal entries, and that of a class J state write (R385). -/
def Chan.keysOf (c : Chan) (e : DEntry) (d : Desc) : List (Nat × Nat) :=
  (c.entriesOf e d).map (fun j => (j.kkind, j.key)) ++
    (match d.decl with | some o => if c.sys.mode.runs && o.cls = 1 then [(1, o.ident.toNat)] else [] | none => [])

/-- The checks of Table 14-7 on one entry, in order. -/
def State.writeChecks (s : State) (ch : Ch) (via : Transport) (all : List DEntry) : List (DEntry → Word) :=
  let c := s.chan ch
  let js := c.requestEntries ch via all
  let d (e : DEntry) : Desc := c.descD ch via e
  [ fun e => match c.desc ch via e.index e.sub with | .ok _ => 0#32 | .error ab => if isProxyIndex e.index then 0#32 else ab,
    fun e => if (d e).wmask = 0 then abReadOnly else 0#32,
    fun e => if c.writeMode e (d e) then 0#32 else abState,
    fun e => if (d e).safety && via = .capacity then abPartition else 0#32,
    fun e => lengthBar (d e) e.data.length,
    fun e => if s.valueOk ch (c.withEntries js).cfgP e (d e) then 0#32 else abRange,
    fun e => if (c.keysOf e (d e)).any (fun k => decide (wcountLimit ≤ ((c.dict.stored k.1 k.2).map (·.wcount)).getD 0)) then abWriteLimit else 0#32,
    fun e => if !(c.entriesOf e (d e)).isEmpty && !((c.withEntries js).crossOk c.storedProgram) then abConfig
      else if e.index = 0x1040 && e.sub = 4 && !(c.progOk c.storedProgram) then abConfig else 0#32,
    fun e => if e.index = 0x1040 && e.sub = 4 && leN e.data ≠ c.dict.hallmark.toNat then abHallMis else 0#32 ]

/-- The first failure: the entry's position and its code. -/
def firstFailure (checks : List (DEntry → Word)) (es : List DEntry) : Option (Nat × Word) :=
  checks.findSome? (fun f => (es.zipIdx).findSome? (fun (x : DEntry × Nat) => if f x.1 = 0#32 then none else some (x.2, f x.1)))

/-- A state that an outcome leads to. -/
def outState (o : Out) (s : State) : State :=
  match o with
  | .next t => t
  | _ => s

/-- The neighbour that a transport's brigade messages come from (R403). -/
def viaPeer : Transport → Option Peer
  | .ring .r1 n => some ⟨3, BitVec.ofNat 32 n⟩
  | .ring .r2 n => some ⟨4, BitVec.ofNat 32 n⟩
  | .host => some ⟨6, 0#32⟩
  | _ => none

/-- A brigade message that arrived as a WRITE of object 0x5820.01 (Table 15-6). -/
def State.brigadeWrite (s : State) (ch : Ch) (via : Option Transport) (tag : Byte) (from_ : Transport) (b : List Byte) : State :=
  match viaPeer from_ with
  | none => s.refuseOne ch via tag abUnavail
  | some p =>
    let data := (b.drop 28).take (leAt b 2 2)
    let h : BrigadeHdr := ⟨BitVec.ofNat 32 (leAt b 4 4), leAt b 8 4, leAt b 12 2, leAt b 14 1, BitVec.ofNat 64 (leAt b 16 8),
      decide (28 ≤ b.length) && decide (b.length = 28 + leAt b 2 2) && decide ((crc32c (b.take 24 ++ b.drop 28)).toNat = leAt b 24 4),
      if via.isSome then some tag else none⟩
    match leAt b 0 1 with
    | 1 => outState (execBrigadeOffer ch p h (readManifest data) s) s
    | 2 => outState (execBrigadePiece ch p h data s) s
    | 3 => outState (execBrigadeStatus ch p h s) s
    | 4 => outState (execBrigadeEnd ch p h s) s
    | 5 => outState (execBrigadeRefuse ch p h s) s
    | _ => outState (execBrigadeEnd ch p { h with ok := false } s) s

/-- A write of a command object. -/
def State.commandWrite (s : State) (ch : Ch) (via : Option Transport) (tag : Byte) (from_ : Transport) (e : DEntry) : State :=
  let v := leN e.data
  match e.index, e.sub with
  | 0x1011, 1 => s.modeCommand ch via tag v
  | 0x2040, 1 => s.chgCommand ch via tag v
  | 0x2040, 3 => s.confirmChg ch via tag (BitVec.ofNat 32 v)
  | 0x4C10, 1 => s.resetCmd ch via tag v
  | 0x5002, 1 => s.syncCmd ch via tag v
  | 0x5800, 1 => s.updCommand ch via tag v (Config.freeBit s.free)
  | 0x5803, 1 => s.fwConfirm ch via tag (BitVec.ofNat 32 v)
  | _, _ => s.brigadeWrite ch via tag from_ e.data

/-- The abort code that a command of a request of several entries would be answered with at once if it stood alone, 0 for none: nothing
of the request is written then (R5, R379). A mode command is judged in the present mode (log entry 80). -/
def State.commandBar (s : State) (ch : Ch) (from_ : Transport) (e : DEntry) : Word :=
  if !commandObjects.contains (e.index, e.sub) then 0#32
  else if e.index = 0x1011 && !cmdLegal (leN e.data) (s.chan ch).sys.mode then abState
  else
    ((((s.commandWrite ch (some .host) 0#8 from_ e).chan ch).sent.drop (s.chan ch).sent.length).findSome? (fun x =>
      match x with
      | .dictReply _ _ _ _ (r :: _) => if r.abort = 0#32 then none else some r.abort
      | _ => none)).getD 0#32

/-- The state write of an application object (R375): due at the boundary that ends the tick after receipt. -/
def Chan.stateWriteOf (c : Chan) (ch : Ch) (via : Option Transport) (tag : Byte) (n : Nat) (o : ObjDecl) (v : List Byte) : StateWrite :=
  ⟨o.ident, o.task, o.word, o.typ, v, o.cls = 1, n, c.tb.c + 2, ch, via, tag⟩

/-- Queue a state write; one to a capacity task goes to the other reeves on class 4 at once (R375). -/
def State.putStateWrite (s : State) (ch : Ch) (w : StateWrite) : State :=
  let c := s.chan ch
  let cap := ((c.sl.task w.task).map (fun (t : TaskRt) => t.decl.cap)).getD false
  s.updAll (fun o d =>
    if o = ch then { d with dict := { d.dict with writes := d.dict.writes ++ [if cap then { w with due := 0 } else w] } }
    else if cap && d.up && s.reach ch o 4 then { d with dict := { d.dict with writes := d.dict.writes ++ [{ w with via := none, due := 0 }] } }
    else d)

/-- What each entry of a checked request does besides the journal: state writes, cursors, actions of its transaction (R388, R391), commands. -/
inductive WDeed where
  | none_
  | stateWrite (o : ObjDecl) (v : List Byte)
  | cursor (x : Ch) (v : Word)
  | act (l : List (Nat × Nat))
  | command (e : DEntry)

/-- The deed of an entry. -/
def Chan.deed (c : Chan) (e : DEntry) (d : Desc) : WDeed :=
  if commandObjects.contains (e.index, e.sub) then .command e
  else if e.index = 0x1410 then .cursor (atD Ch.A (e.sub - 1) allCh) (BitVec.ofNat 32 (leN e.data))
  else if e.index = 0x2011 then .act [(9, (e.sub - 1) * 256 + leN e.data)]
  else if e.index = 0x1040 && e.sub = 4 then .act ((10, leN e.data) :: (if (c.upd.find [0, 1] .trial).isSome then [(7, 0)] else []))
  else match d.decl with
    | some o => if c.sys.mode.runs then .stateWrite o e.data else .none_
    | none => .none_

/-- Mark a request as passed to the sequencing reeve (R23). -/
def Chan.passOn (c : Chan) (via : Transport) (tag : Byte) : Chan := { c with sys := { c.sys with
  unanswered := c.sys.unanswered.map (fun u => if u.1 == via && u.2.1 == tag && u.2.2.1 == 2 then (u.1, u.2.1, u.2.2.1, u.2.2.2.1, true) else u) } }

/-- Go on with a call of which nothing is open: its state writes begin, then its transaction (R375, R379). -/
def State.runCall (s : State) (ch : Ch) (x : Call) : State :=
  if !x.open_.isEmpty then s
  else if !x.writes.isEmpty then
    x.writes.foldl (fun (s : State) w => s.putStateWrite ch { w.2 with due := (s.chan ch).tb.c + 2 })
      (s.upd ch (fun c => { c with dict := { c.dict with
        calls := c.dict.calls.map (fun y => if y.id = x.id then { y with open_ := x.writes.map (·.1), writes := [] } else y) } }))
  else match x.txn with
    | none => s
    | some w =>
      (s.upd ch (fun c => ({ c with dict := { c.dict with
        calls := c.dict.calls.map (fun y => if y.id = x.id then { y with open_ := [w.1], txn := none } else y) } } : Chan).passOn x.via x.tag)).enqueue w.2

/-- Go on with the calls of a channel. -/
def State.runCalls (s : State) (ch : Ch) : State := (s.chan ch).dict.calls.foldl (fun (s : State) x => s.runCall ch x) s

/-- A command that is one entry of a WRITE of several; one that owes no reply of its own is settled as served. -/
def State.partCommand (s : State) (ch : Ch) (via : Transport) (tag : Byte) (id k : Nat) (e : DEntry) : State :=
  if e.index = 0x5820 then (s.commandWrite ch none tag via e).upd ch (fun c => c.reply (.part id k) tag 2 0 (servedAll 1))
  else s.commandWrite ch (some (.part id k)) tag via e

/-- Apply a WRITE that passed its checks. A single command or state write carries the reply itself, as does the one transaction of a request
without them. In any other request first the commands are accepted, then the state writes are applied, then one transaction stores what is to
be stored; the first refusal answers the whole and nothing later of it is begun (R5, R375, R379; DEDUCED, log entry 80). -/
def State.applyWrite (s : State) (ch : Ch) (via : Transport) (req : DReq) : State :=
  let c := s.chan ch
  let n := req.entries.length
  let js := c.requestEntries ch via req.entries
  let deeds := (req.entries.map (fun e => c.deed e (c.descD ch via e))).zipIdx
  let acts := deeds.flatMap (fun x => match x.1 with | .act l => l | _ => [])
  let sws := deeds.filterMap (fun x => match x.1 with | .stateWrite o v => some (x.2, o, v) | _ => none)
  let cmds := deeds.filterMap (fun x => match x.1 with | .command e => some (x.2, e) | _ => none)
  let s := deeds.foldl (fun (s : State) x => match x.1 with
    | .cursor k v => s.upd ch (fun c => { c with dict := { c.dict with cursors := c.dict.cursors.set k v } })
    | _ => s) s
  let store (es : List JEntry) (v : Transport) : WaitTxn := ⟨es, acts, ch, some v, req.tag, n⟩
  match cmds, sws with
  | [], [] =>
    if js.isEmpty && acts.isEmpty then s.upd ch (fun c => c.reply via req.tag 2 0 (servedAll n))
    else (s.upd ch (fun c => c.passOn via req.tag)).enqueue (store js via)
  | _, _ =>
    match req.entries, cmds, sws with
    | [_], x :: _, _ => s.commandWrite ch (some via) req.tag via x.2
    | [_], _, x :: _ => s.putStateWrite ch (c.stateWriteOf ch (some via) req.tag 1 x.2.1 x.2.2)
    | _, _, _ =>
      let id := c.dict.nextCall
      let es := js ++ (sws.filter (fun x => x.2.1.cls = 1)).map (fun x => (⟨1, x.2.1.ident.toNat, x.2.1.typ, x.2.2, 0⟩ : JEntry))
      let writes := sws.map (fun x => (x.1, { c.stateWriteOf ch (some (.part id x.1)) req.tag 1 x.2.1 x.2.2 with persist := false }))
      let pos := ((req.entries.zip deeds).findSome? (fun x => match x.2.1 with
        | .act _ => some x.2.2
        | .stateWrite o _ => if o.cls = 1 then some x.2.2 else none
        | _ => if (c.entriesOf x.1 (c.descD ch via x.1)).isEmpty then none else some x.2.2)).getD 0
      let txn := if es.isEmpty && acts.isEmpty then none else some (pos, { store es (.part id pos) with n := 1 })
      let s := s.upd ch (fun c => c.addCall (fun id => ⟨id, via, req.tag, 2, n, cmds.map (·.1), [], writes, txn⟩))
      (cmds.foldl (fun (s : State) x => s.partCommand ch via req.tag id x.1 x.2) s).runCalls ch

/-- A WRITE (R379). DESIGN CHOICE (log entry 87): a capability refusal, which has no bus address, captures nothing in VADDR and VSRC, and
its flag holds back later captures as any other (R30, R31). -/
def State.writeCall (s : State) (ch : Ch) (via : Transport) (req : DReq) : State :=
  let n := req.entries.length
  let checks := s.writeChecks ch via req.entries ++ (if n = 1 then [] else [s.commandBar ch via])
  match firstFailure checks req.entries with
  | some (k, ab) =>
    s.upd ch (fun c =>
      let c := if ab = abState then c.conflict else c
      let c := if ab = abPartition then { c with sys := { c.sys with viol := c.sys.viol.raise 5 } } else c
      c.reply via req.tag 2 1 (refusedAt n k ab))
  | none => s.applyWrite ch via req

/-! The call -/

/-- A request is registered: it is answered even when the reeve is lost (R23), and counts against its transport's limit (Table 14-8). -/
def Chan.register (c : Chan) (via : Transport) (tag : Byte) (svc n : Nat) : Chan :=
  let c := { c with sys := { c.sys with unanswered := c.sys.unanswered ++ [(via, tag, svc, n, false)] } }
  match via with
  | .md _ src ses => { c with ecn := { c.ecn with outst := c.ecn.outst ++ [(src, ses, tag)] } }
  | .capacity => { c with dict := { c.dict with capOut := c.dict.capOut + 1 } }
  | .ring r node => { c with dict := { c.dict with ringOut := c.dict.ringOut ++ [(r, node)] } }
  | _ => c

/-- The limit of Table 14-8 is reached. -/
def Chan.overLimit (c : Chan) (via : Transport) : Bool :=
  match via with
  | .md _ _ _ => 8 ≤ c.ecn.outst.length
  | .capacity => 4 ≤ c.dict.capOut
  | .ring r _ => 8 ≤ (c.dict.ringOut.filter (fun o => o.1 == r)).length
  | _ => false

/-- A request refused as a whole: Me for message data that cannot be served (R261), else a response that carries the code in every entry. -/
def Chan.refuseWhole (c : Chan) (via : Transport) (svc : Nat) (req : DReq) (ab : Word) : Chan :=
  match via with
  | .md p src ses =>
    if ab = abMalformed then c.replyAll via req.tag svc req.entries.length ab
    else { c with
      ecn := c.ecn.mdOver src ses req.tag
      dict := { c.dict with refused := satInc c.dict.refused } }.sendMe p src ses
  | .capacity => (c.register via req.tag svc req.entries.length).replyAll via req.tag svc req.entries.length ab
  | _ => c.replyAll via req.tag svc req.entries.length ab

/-- Header and entry count (Table 14-4): one entry for NEXT, PEEK and COMMIT. -/
def reqOk (svc : Nat) (req : DReq) : Bool :=
  req.hdrOk && 1 ≤ req.entries.length && req.entries.length ≤ 32 && 1 ≤ svc && svc ≤ 6 &&
  (svc = 1 || svc = 2 || svc = 3 || req.entries.length = 1)

/-- The client node of a ring has a request outstanding: its next one is acknowledged and discarded (Table 14-8). -/
def Chan.ringBusy (c : Chan) : Transport → Bool
  | .ring r node => c.dict.ringOut.contains (r, node)
  | _ => false

/-- A dictionary request reaches channel `ch` (R377 to R381, R394). -/
def State.dictCall (s : State) (ch : Ch) (via : Transport) (svc : Nat) (req : DReq) : State :=
  let c := s.chan ch
  let n := req.entries.length
  let no (ab : Word) : State := s.upd ch (fun c => c.refuseWhole via svc req ab)
  if !c.up || c.ringBusy via then s
  else if !viaOffered c.sys.mode via || c.sys.reeveState ≠ 0 || (svc = 2 && c.sys.mode = .m2) then no abUnavail
  else if c.overLimit via then no abLimit
  else if 8192 < req.len then no abTooLong
  else if !reqOk svc req then no abMalformed
  else
    let s := s.tick.upd ch (fun c => c.register via req.tag svc n)
    let all (f : Chan → DEntry → REntry) : State := s.upd ch (fun c => c.reply via req.tag svc 0 (req.entries.map (f c)))
    match svc with
    | 1 => s.readCall ch via 1 req
    | 2 => s.writeCall ch via req
    | 3 => all (fun c e => c.infoEntry ch via e)
    | 4 => all (fun c e => c.nextEntry ch via e)
    | 5 => s.readCall ch via 5 req
    | _ => all (fun c e => c.commitEntry ch via e)

/-- DICT_READ. -/
def execDictRead (ch : Ch) (via : Transport) (req : DReq) (s : State) : Out := .next (s.dictCall ch via 1 req)
/-- DICT_WRITE. -/
def execDictWrite (ch : Ch) (via : Transport) (req : DReq) (s : State) : Out := .next (s.dictCall ch via 2 req)
/-- DICT_INFO. -/
def execDictInfo (ch : Ch) (via : Transport) (req : DReq) (s : State) : Out := .next (s.dictCall ch via 3 req)
/-- DICT_NEXT. -/
def execDictNext (ch : Ch) (via : Transport) (req : DReq) (s : State) : Out := .next (s.dictCall ch via 4 req)
/-- DICT_PEEK. -/
def execDictPeek (ch : Ch) (via : Transport) (req : DReq) (s : State) : Out := .next (s.dictCall ch via 5 req)
/-- DICT_COMMIT. -/
def execDictCommit (ch : Ch) (via : Transport) (req : DReq) (s : State) : Out := .next (s.dictCall ch via 6 req)

/-- HALLMARK_CONFIRMATION (R391): a WRITE of object 0x1040.04. -/
def execHallmarkConfirmation (ch : Ch) (via : Transport) (tag : Byte) (value : Word) (s : State) : Out :=
  .next (s.dictCall ch via 2 ⟨tag, true, 16, [⟨0x1040, 4, leB 4 value.toNat, 0⟩]⟩)

/-! Message data (R261) -/

/-- The channel of a network port (R253, R268). -/
def portCh : NetPort → Ch
  | .planeA => .A
  | .planeB => .B
  | .service => .C

/-- Message data at a port (R253, R261): a frame with an option that is not supported, or of another type than Mr and Mn, is a header error;
one of another ComId than that of object 0x2C00.07 is not for the dictionary service. -/
def State.mdFrame (s : State) (p : NetPort) (hd : MdHead) (f : State → State) : State :=
  let c := s.chan (portCh p)
  if !(c.portOn p) then s
  else if !hd.plain then s.upd (portCh p) (fun c => c.ecnFlag true 1)
  else if hd.comId ≠ c.ecn.mdCom then s
  else f s

/-- MD_REQUEST: an Mr, to be answered within its reply timeout. -/
def execMdRequest (p : NetPort) (hd : MdHead) (session : Word) (svc : Nat) (req : DReq) (s : State) : Out :=
  .next (s.mdFrame p hd (fun s =>
    (s.upd (portCh p) (fun c => { c with ecn := { c.ecn with mdDue := c.ecn.mdDue ++ [(hd.src, session, req.tag, c.now + hd.timeout)] } })).dictCall
      (portCh p) (.md p hd.src session) svc req))

/-- MD_NOTIFY: a request that needs no reply. -/
def execMdNotify (p : NetPort) (hd : MdHead) (_session : Word) (svc : Nat) (req : DReq) (s : State) : Out :=
  .next (s.mdFrame p hd (fun s => s.dictCall (portCh p) (.notify p hd.src) svc req))

/-! Mailbox requests (R381) -/

/-- Whole mailbox messages are served in the order of arrival; a response (SVC from 0x80) is no request. -/
def State.serveMail (s : State) (r : Ring) : State :=
  let l := (s.chan (ringOwner r)).mill.mbDone
  (l.filter (fun x => leAt x.2 0 1 < 128)).foldl (fun (s : State) (x : Nat × List Byte) =>
      s.dictCall (ringOwner r) (.ring r x.1) (parseReq x.2).1 (parseReq x.2).2)
    (s.updMill r (fun m => { m with mbDone := [] }))

/-- FRAME_PASSAGE (R229, R231, R275, R246): the frame's passage, and the mailbox requests that it completes. -/
def execFramePassage (r : Ring) (f : MFrame) (s : State) : Out := .next ((s.framePass r f).serveMail r)

/-- PORT_DOWN (R219, R243): a frame in passage is stopped and ends with transmit error. -/
def execPortDown (r : Ring) (d : PortLoss) (s : State) : Out :=
  let m := (s.chan (ringOwner r)).mill
  guardC (m.wasUp d.port) s
    ((match d.part with | some (f, n) => (s.framePass r (frameCut f m n)).serveMail r | none => s).updMill r (fun m => m.portLost d.port))

/-! Legacy messages (R447) -/

/-- A legacy message reaches the legacy objects in M6: LSVC 1 read, 2 write. Another service, the Yarlos 120's program download among them,
is answered with LERR 0x0602 (Table 17-10, no. 7; log entry 108). -/
def State.legacyCall (s : State) (ch : Ch) (kind : Nat) (msg : List Byte) : State :=
  let c := s.chan ch
  let svc := leAt msg 0 1
  let len := leAt msg 2 2
  let ok := decide (8 ≤ msg.length) && decide (len ≤ 496) && decide (8 + len ≤ msg.length) && leAt msg 7 1 = 0 && (svc = 1 || svc = 2)
  let req : DReq := ⟨BitVec.ofNat 8 (leAt msg 1 1), ok, msg.length, [⟨leAt msg 4 2, leAt msg 6 1, (msg.drop 8).take len, 0⟩]⟩
  if 8 ≤ msg.length && svc ≠ 1 && svc ≠ 2 && svc < 128 && c.up && viaOffered c.sys.mode (.legacy kind) && c.sys.reeveState = 0 then
    s.upd ch (fun c => c.refuseWhole (.legacy kind) svc req abState)
  else s.dictCall ch (.legacy kind) svc req

/-- LEGACY_MESSAGE: 0 the host window, 1 MVB F-code 12 (channel C), 2 UDP port 4120 on the service port (channel C). -/
def execLegacyMessage (ch : Ch) (via : Nat) (msg : List Byte) (s : State) : Out :=
  guardC (decide (via ≤ 2) && (via = 0 || ch == .C)) s (s.legacyCall ch via msg)

/-! Snapshots (R378) -/

/-- Send the channel's snapshot to both others. -/
def State.sendSnapshot (s : State) (ch : Ch) : State := s.sendBoth ch (.snapshot (s.snapshotOf ch))

/-- SNAPSHOT_TIMER: every 10 ms in M2 to M4. -/
def execSnapshotTimer (ch : Ch) (s : State) : Out :=
  let c := s.chan ch
  guardC (c.up && c.sys.reeveState == 0 && (c.sys.mode = .m2 || c.sys.mode = .m3 || c.sys.mode = .m4)) s (s.sendSnapshot ch)

/-- SNAPSHOT_RECEIVE. -/
def execSnapshotReceive (rx tx : Ch) (ok : Bool) (s : State) : Out :=
  .next (s.recv rx tx ok XBody.isSnapshot (fun b s =>
    match b, linkTo rx tx with
    | .snapshot x, some .next => s.upd rx (fun c => { c with dict := { c.dict with snap0 := some x } })
    | .snapshot x, some .prev => s.upd rx (fun c => { c with dict := { c.dict with snap1 := some x } })
    | _, _ => s))

end Sys2Proof.Machine
end

