-- ==== Sys2Proof/Machine/Freeze.lean ====
section
/-! DEFINITION. Input images: which item of a source enters, qualifiers, substitution, edge detectors, and the release of a task (R141 to R149, R169, R170, R259). -/

namespace Sys2Proof.Machine
open Sys2Proof

/-! Network items (R143, R259) -/

/-- Items of a source that meet the cutoff of a release stamped `b`. -/
def Chan.itemsOf (c : Chan) (d : SourceDecl) (b : Nat) : List Item :=
  c.sl.items.filter (fun (i : Item) => i.kind == d.kind && i.ref == d.ref && decide (i.stamp + c.sl.cutoff * 1000 ≤ b))

/-- The channel that owns the port an item came in by (Table 1-7). -/
def Item.owner (i : Item) : Ch :=
  if i.kind = 2 then .C else if i.unit = 0 then .A else .B

/-- The items that a telegram gave the channel on its way from `c` to `d`, newest first. -/
def Chan.newItems (c d : Chan) : List Item := d.sl.items.take (d.sl.items.length - c.sl.items.length)

/-- The good items that a message holds for the channel, none from a port of a channel that is recorded out (R39). -/
def Chan.itemsIn (c : Chan) : XBody → List Item
  | .item i => if i.good && c.vote.out.get i.owner = 0 then [i] else []
  | .telegram p t => if c.vote.out.get (planeOwner p) = 0 then c.newItems (c.telegram p t) else []
  | _ => []

/-- Later than a stamp, if there is one. -/
def laterThan (last : Option Nat) (t : Nat) : Bool :=
  match last with
  | some s => decide (s < t)
  | none => true

/-- An item meets the cutoff of a release stamped `b` and is newer than what the source used last (R143). -/
def Chan.eligibleItem (c : Chan) (b : Nat) (d : SourceDecl) (r : SrcRt) (i : Item) : Bool :=
  i.kind == d.kind && i.ref == d.ref && decide (i.stamp + c.sl.cutoff * 1000 ≤ b) && laterThan r.lastStamp i.stamp

/-- An eligible item that the image lacks and that no release of the source has passed yet (R144). -/
def Chan.lacking (c : Chan) (b : Nat) (d : SourceDecl) (r : SrcRt) (i : Item) : Bool :=
  c.eligibleItem b d r i && laterThan r.missAt i.stamp

/-- The newest item later than the one used last. -/
def newestItem (last : Option Nat) (l : List Item) : Option Item :=
  l.foldl (fun (best : Option Item) (i : Item) =>
    if (match last with | some s => decide (i.stamp ≤ s) | none => false) then best
    else match best with
      | none => some i
      | some x => if x.stamp < i.stamp then some i else best) none

/-- The guard of subscription `n` (object 0x2C21). -/
def Chan.guardOf (c : Chan) (n : Nat) : Nat := ((c.ecn.subs.find? (fun (q : ESub) => q.num == n)).map (·.guard)).getD 255

/-- The better of two SDTv2 copies: latest SSC, then earliest stamp, then plane A. -/
def betterCopy (a b : Item) : Bool :=
  laterW a.ssc b.ssc || (a.ssc == b.ssc && (decide (a.stamp < b.stamp) || (a.stamp == b.stamp && decide (a.unit < b.unit))))

/-- The copy that enters the image (R259). -/
def bestCopy (l : List Item) : Option Item :=
  l.foldl (fun (best : Option Item) (i : Item) =>
    match best with
    | none => some i
    | some x => if betterCopy i x then some i else best) none

/-- The item of a network source at a release stamped `b`. -/
def Chan.pickItem (c : Chan) (d : SourceDecl) (r : SrcRt) (b : Nat) : Option Item :=
  let l := c.itemsOf d b
  if l.any (·.sdt) then bestCopy (l.filter (fun (i : Item) => r.mayTake (c.guardOf d.ref) i))
  else newestItem r.lastStamp l

/-- SDTv2 copies that a release stamped `b` has passed over, taken or not, are no candidates of a later one (R259). -/
def Chan.spendCopies (c : Chan) (d : SourceDecl) (r : SrcRt) (b : Nat) : SrcRt :=
  { r with spent := ((c.itemsOf d b).filter (fun (i : Item) => i.sdt && !(r.spent.contains i.copyKey))).map Item.copyKey ++ r.spent }

/-- Copies that no source may take any more are held no longer. -/
def Chan.dropSpent (c : Chan) : Chan :=
  let kept := c.sl.items.filter (fun (i : Item) => !i.sdt || (let rs := c.sdtSrcs i.ref; rs.isEmpty || rs.any (fun r => !(r.spent.contains i.copyKey))))
  { c with sl := { c.sl with
      items := kept
      tasks := c.sl.tasks.map (fun (t : TaskRt) => { t with srcs := t.srcs.map (fun (r : SrcRt) =>
        { r with spent := r.spent.filter (fun k => kept.any (fun (i : Item) => i.sdt && i.copyKey == k)) }) }) } }

/-! One source (R146, R147) -/

/-- What a freeze makes of one source. -/
structure SrcFreeze where
  words : List Word
  qual : Byte
  rt : SrcRt
  subst : Bool

/-- Qualifier of Table 5-3. -/
def qualOf (age : Nat) (dis subst noval fresh : Bool) : Byte :=
  BitVec.ofNat 8 (age * 16 + dis.toNat * 8 + subst.toNat * 4 + noval.toNat * 2 + fresh.toNat)

/-- The words of a source whose item is fresh, or what R147 gives in its substitution mode; `prev` are the words of the previous image. -/
def settle (d : SourceDecl) (mode : Nat) (r : SrcRt) (prev : List Word) (dis : Bool) (item : Option (List Word)) : SrcFreeze :=
  match item with
  | some ws => ⟨fixW d.len ws, qualOf 0 dis false false true, { r with age := 0, ageFull := 0, noval := false }, false⟩
  | none =>
    let full := r.ageFull + 1
    let age := min (r.age + 1) 15
    let sub := mode == 1 || (mode == 2 && decide (d.hold < full))
    ⟨fixW d.len (if sub || r.noval then d.defs else prev), qualOf age dis sub r.noval false, { r with age := age, ageFull := full }, sub⟩

/-! Field sources (R145, R169, R323) -/

/-- Declared inputs of a field source. -/
def SourceDecl.inputs (d : SourceDecl) : List Nat := (List.range 32).filter (fun i => d.ref.testBit i)

/-- The COUNT word of an input in its counting mode (R323): rises, falls or their sum. -/
def Chan.countWord (c : Chan) (s : SampleSet) (i : Nat) : Word :=
  match (atD (0, 100) i c.field.inCfg).1 with
  | 0 => atD 0#32 i s.rise
  | 1 => atD 0#32 i s.fall
  | _ => atD 0#32 i s.rise + atD 0#32 i s.fall

/-- An edge detector at a release with agreed counts: what it held, seeded when it held nothing. -/
def EdgeDet.step (e : EdgeDet) (s : SampleSet) : EdgeDet × Bool × Bool :=
  let r := atD 0#32 e.input s.rise
  let f := atD 0#32 e.input s.fall
  ({ e with rise := r, fall := f, seeded := true }, e.seeded && r != e.rise, e.seeded && f != e.fall)

/-- A word with the bits of the inputs that are marked. -/
def markWord (l : List (Nat × Bool)) : Word := l.foldl (fun (w : Word) x => if x.2 then w ||| (1#32 <<< x.1) else w) 0#32

/-- Levels of the declared inputs. -/
def SourceDecl.levelWord (d : SourceDecl) (s : SampleSet) : Word := markWord (d.inputs.map (fun i => (i, s.levels.getLsbD i)))

/-- A task's edge detectors after a release, each with the edges it saw: as they were when no counts are agreed (R169). -/
abbrev EdgeMarks := List (EdgeDet × Bool × Bool)

/-- The edge detectors at a release with the agreed sample set, if there is one. -/
def stepEdges (es : List EdgeDet) (agreed : Option SampleSet) : EdgeMarks :=
  match agreed with
  | some s => es.map (fun (e : EdgeDet) => e.step s)
  | none => es.map (fun (e : EdgeDet) => (e, false, false))

/-- The words of a field source: LEVEL, RISE, FALL, and one COUNT per declared input. -/
def Chan.freezeField (c : Chan) (d : SourceDecl) (r : SrcRt) (prev : List Word) (agreed : Option SampleSet) (dis differ : Bool) (es : EdgeMarks) : SrcFreeze :=
  match agreed with
  | some s =>
    let own := es.filter (fun x => d.inputs.contains x.1.input)
    let rise := markWord (own.map (fun x => (x.1.input, x.2.1)))
    let fall := markWord (own.map (fun x => (x.1.input, x.2.2)))
    settle d d.subst r prev dis (some ([d.levelWord s, rise, fall] ++ d.inputs.map (c.countWord s)))
  | none =>
    let f := settle d (if differ then 0 else d.subst) r prev dis none
    { f with words := fixW d.len ([atD 0#32 0 f.words, 0#32, 0#32] ++ f.words.drop 3) }

/-- The sample set that a release stamped `b` uses, and whether the channels' sets differ: agreed for an integrity task (R145), the channel's
own for a capacity task (R170). -/
def Chan.fieldSet (c : Chan) (cap : Bool) (b : Nat) : Option SampleSet × Bool := if cap then (c.ownSet b, false) else agreeSets (c.setsAt b)

/-! The freeze of a task (R149, R170) -/

/-- One source frozen at a release of a task stamped `b`; `coming` are the items on their way to the channel. With none held that meets R143,
the input of an item that comes too late or came damaged keeps its previous value (R38: HOLD of R147, whatever the source's own mode;
DEDUCED, log entry 89). -/
def Chan.freezeSource (c : Chan) (coming : List Item) (cap : Bool) (b : Nat) (d : SourceDecl) (r : SrcRt) (prev : List Word) (es : EdgeMarks) : SrcFreeze :=
  match d.kind with
  | 0 | 1 | 2 =>
    match c.pickItem d r b with
    | some i =>
      let f := settle d d.subst (c.spendCopies d r b) prev false (some i.words)
      { f with rt := { f.rt with lastStamp := some i.stamp, lastSsc := if i.sdt then some i.ssc else f.rt.lastSsc, noCopy := 0 } }
    | none =>
      let late := (coming ++ c.sl.missed).any (c.lacking b d r)
      let f := settle d (if late then 0 else d.subst) (c.spendCopies d r b) prev false none
      { f with rt := { f.rt with noCopy := f.rt.noCopy + 1 } }
  | 3 =>
    let a := c.fieldSet cap b
    c.freezeField d r prev a.1 a.2 (a.1.isNone && a.2) es
  | 4 =>
    let x := atD SdIn.init d.ref c.sd.ins
    settle d d.subst r prev false (if c.sd.delivered && x.cfg.en && x.status.toNat % 16 = 0 then some (x.out ++ [x.status]) else none)
  | _ =>
    match c.sl.task d.ref with
    | none => settle d 0 r prev false none
    | some t =>
      let f := settle d 0 r prev false (if r.lastCommits < t.commits then some t.outPub else none)
      { f with rt := { f.rt with lastCommits := t.commits } }

/-- Replace the bytes from an index. -/
def putBytes (l : List Byte) (i : Nat) (bs : List Byte) : List Byte := (l.take i ++ bs ++ l.drop (i + bs.length)).take l.length

/-- The sources of a task frozen one after another; the number of substituted sources comes last (each is an event of SUBST, R10). -/
def Chan.freezeAll (c : Chan) (coming : List Item) (cap : Bool) (b : Nat) (es : EdgeMarks) :
    List SourceDecl → List SrcRt → List Word × List Byte → (List Word × List Byte) × List SrcRt × Nat
  | d :: ds, r :: rs, (img, q) =>
    let f := c.freezeSource coming cap b d r ((img.drop d.first).take d.len) es
    let x := c.freezeAll coming cap b es ds rs (putWords img d.first f.words, putBytes q d.first (List.replicate d.len f.qual))
    (x.1, f.rt :: x.2.1, f.subst.toNat + x.2.2)
  | _, rs, iq => (iq, rs, 0)

/-- The own set differs from the agreed set of three (R145). -/
def Chan.ownDiffers (c : Chan) (b : Nat) : Bool :=
  match c.setsAt b, (agreeSets (c.setsAt b)).1 with
  | [x, _, _], some a => !(x.same a)
  | _, _ => false

/-- Sources of a task for which an item that came damaged into this channel is newer than the one its image took (R144). -/
def Chan.missCount (c : Chan) (b : Nat) (ds : List SourceDecl) (rs : List SrcRt) : Nat :=
  ((ds.zip rs).filter (fun (x : SourceDecl × SrcRt) => c.sl.missed.any (c.lacking b x.1 x.2))).length

/-- The source has passed the missed items that were eligible at a release stamped `b` (R144). -/
def Chan.markMissed (c : Chan) (b : Nat) (d : SourceDecl) (r : SrcRt) : SrcRt :=
  { r with missAt := (c.sl.missed.filter (c.lacking b d r)).foldl (fun m (i : Item) => if laterThan m i.stamp then some i.stamp else m) r.missAt }

/-- Missed items that a source of an integrity task has yet to pass are remembered, the others forgotten. -/
def Chan.dropMissed (c : Chan) : Chan :=
  { c with sl := { c.sl with missed := c.sl.missed.filter (fun (i : Item) =>
      c.sl.tasks.any (fun (t : TaskRt) => !t.decl.cap && (t.decl.srcs.zip t.srcs).any (fun (x : SourceDecl × SrcRt) =>
        x.1.kind == i.kind && x.1.ref == i.ref && laterThan x.2.lastStamp i.stamp && laterThan x.2.missAt i.stamp))) } }

/-- A task is released at the present boundary: images frozen, working banks prepared, the instance begun (R141, R149, R152). -/
def Chan.releaseTask (c : Chan) (coming : List Item) (t : TaskRt) : Chan :=
  let b := c.tb.bk
  let d := t.decl
  let es := stepEdges t.edges (c.fieldSet d.cap b).1
  let x := c.freezeAll coming d.cap b es d.srcs t.srcs (t.inImg, t.qual)
  let dis := !d.cap && d.srcs.any (·.kind == 3) && c.ownDiffers b
  let miss := if d.cap then 0 else c.missCount b d.srcs x.2.1
  let i : Inst := {
    relC := c.tb.c
    relK := c.tb.k
    stamp := b
    due := c.tb.c + d.period
    stage := 0
    left := (d.stage 0).slices
    avail := false
    complete := false
    late := false
    abandoned := false
    notices := []
    attempts := []
    faultedOn := []
    posts := []
    timers := c.tb.timers
    doneAt := 0 }
  { c with sl := { c.sl.updTask d.num (fun (y : TaskRt) => { y with
      inImg := x.1.1
      qual := x.1.2
      srcs := (d.srcs.zip x.2.1).map (fun (q : SourceDecl × SrcRt) => c.markMissed b q.1 q.2)
      edges := es.map (·.1)
      outWork := fixW d.outLen []
      rsWork := y.rsPub
      stageOut := fixW d.soLen []
      inst := some i
      releases := y.releases + 1 }) with
    flag := (((c.sl.flag.raiseN x.2.2 4).raiseIf dis 5).raiseN miss 7) } }

/-- A task is released at the present boundary (R141, R162, R170, R311). -/
def Chan.releases (c : Chan) (t : TaskRt) : Bool :=
  let d := t.decl
  let free := match t.inst with | none => true | some i => i.abandoned
  decide (d.phase ≤ c.tb.c) && decide ((c.tb.c - d.phase) % d.period = 0) && free && c.sys.mode.runs &&
    (if d.cap then !(c.sl.capHold.getLsbD d.num) && !c.capCores.isEmpty
     else !(c.sys.mode == .m5 && c.pair.track == .copying))

/-- Insert a task in queue-key order: due count, then PRIO (R149, R152). -/
def relInsert (t : TaskRt) : List TaskRt → List TaskRt
  | [] => [t]
  | x :: xs => if keyLt (t.decl.period, t.decl.prio) (x.decl.period, x.decl.prio) then t :: x :: xs else x :: relInsert t xs

/-- Step 4 of R104: every task whose turn it is, in key order. -/
def Chan.releaseDue (c : Chan) (coming : List Item) : Chan :=
  (((c.sl.tasks.filter (fun (t : TaskRt) => c.releases t)).foldl (fun l t => relInsert t l) []).foldl
    (fun (c : Chan) t => c.releaseTask coming t) c).dropSpent.dropMissed

/-- INPUT_FREEZE_COMPLETE (R149): the first stage of the released instance becomes available, unless a resynchronisation holds it (R186 step 3). -/
def execInputFreezeComplete (ch : Ch) (task : Nat) (s : State) : Out :=
  onChan s ch (fun c =>
    match c.sl.task task with
    | none => c
    | some t =>
      match t.inst with
      | none => c
      | some i =>
        if i.avail || i.abandoned || ((c.vote.run.map (fun r => r.held.any (fun h => h.1 == task))).getD false) then c
        else
          let i1 := { i with avail := true }
          ({ c with sl := c.sl.updTask task (fun (x : TaskRt) => { x with inst := some i1 }) }).startStage { t with inst := some i1 } i1 0)

/-- LATE_IN (R38, R144): a forwarded item arrives after a freeze that it was eligible for. -/
def Chan.lateItem (c : Chan) (i : Item) : Bool :=
  c.sl.tasks.any (fun (t : TaskRt) =>
    match t.inst with
    | none => false
    | some k => (t.decl.srcs.zip t.srcs).any (fun (x : SourceDecl × SrcRt) =>
        c.eligibleItem k.stamp x.1 x.2 i))

/-- The sources whose image in progress lacks a missed item have passed it (R144). -/
def Chan.passMissed (c : Chan) (i : Item) : Chan :=
  { c with sl := { c.sl with tasks := c.sl.tasks.map (fun (t : TaskRt) =>
      match t.inst with
      | none => t
      | some k => { t with srcs := (t.decl.srcs.zip t.srcs).map (fun (x : SourceDecl × SrcRt) =>
          if c.lacking k.stamp x.1 x.2 i then { x.2 with missAt := some i.stamp } else x.2) }) } }

end Sys2Proof.Machine
end

