-- ==== Sys2Proof/Machine/Host.lean ====
section
/-! DEFINITION. The host port: lane packets, the window, mailbox, host messages, HRST_n (R459 to R470, R446, Table 17-5). -/

namespace Sys2Proof.Machine
open Sys2Proof

/-! What a word of the window is -/

/-- How a window word answers a read: its data, unmapped, a voted output word, or not served in this mode. -/
inductive WinWord where
  | data (w : Word)
  | voted (w : Word)
  | unmapped
  | notServed
deriving DecidableEq, Repr

/-- Host messages are served: the bridge's modes (Tables 10-8, 18-5). -/
def hostMsgMode (m : Mode) : Bool :=
  match m with
  | .m5 | .m7 | .m8 | .m9 | .m10 | .m11 => true
  | _ => false

/-- VIEW is served: M5 to M11. -/
def viewMode (m : Mode) : Bool := hostMsgMode m || m = .m6

/-- Word `i` of octets, zero beyond their end. -/
def octetWord (b : List Byte) (i : Nat) : Word := BitVec.ofNat 32 (leAt b (4 * i) 4)

/-- The octets of a host message as HMSG_OUT holds it (Table 18-3). -/
def hostMsgOctets (m : HostMsg) : List Byte :=
  leB 4 m.id.toNat ++ leB 1 m.kind ++ [m.tag] ++ leB 2 m.data.length ++ leB 2 m.token ++ leB 2 0 ++ m.data

/-- H_MBX_STAT. -/
def HostBlk.mbxStat (h : HostBlk) : Word := BitVec.ofNat 32 (h.rsp.length * 65536 + 2 * h.ready.toNat + h.busy.toNat)

/-- A word of the native status area (Table 18-2); write-only words read 0. -/
def State.statusWord (s : State) (ch : Ch) (o : Nat) : WinWord :=
  let c := s.chan ch
  match o with
  | 0x00 => .data (BitVec.ofNat 32 (0x24100000 + c.sys.issue.toNat * 256 + chCode ch))
  | 0x04 => .data (BitVec.ofNat 32 (c.sys.cause * 16777216 + c.sys.mode.num * 65536 + s.chanView.toNat % 4096))
  | 0x08 => .data (BitVec.ofNat 32 c.tb.k)
  | 0x10 => .data (c.bridge.evtPub.setWidth 32)
  | 0x14 => .data ((c.bridge.evtPub >>> 32).setWidth 32)
  | 0x20 | 0x28 | 0x30 | 0x38 => .data 0#32
  | 0x24 => .data c.host.mbxStat
  | 0x34 => .data (BitVec.ofNat 32 (2 * c.host.hout.isSome.toNat + c.host.inBusy.toNat))
  | _ => .unmapped

/-- A word of the legacy window (Table 17-5, R446). The native mailbox serves in compatibility personality too (R447), so its doorbell,
status and acknowledgement keep their places, of which Table 17-5 gives no other use (log entry 109). -/
def State.legacyWord (s : State) (ch : Ch) (o : Nat) : WinWord :=
  let c := s.chan ch
  let live : Bool := c.sys.mode = .m6
  let img (w : Word) : WinWord := .data (if live then w else 0#32)
  if o = 0x000 then .data 0x01200500#32
  else if o = 0x004 then .data (s.lstat ch)
  else if o = 0x008 then .data c.compat.ldiagWord
  else if o = 0x00C then .data c.compat.lcycle
  else if o = 0x010 || o = 0x020 || o = 0x028 then .data 0#32
  else if o = 0x024 then .data c.host.mbxStat
  else if o < 0x100 then .unmapped
  else if o < 0x180 then img (c.l0In ((o - 0x100) / 4))
  else if o < 0x200 then
    let i := (o - 0x180) / 4
    let ports := (c.compat.list.map (fun (l : LList) => wordsOf l.sources)).getD 0
    if live then .voted (if i = 0 then BitVec.ofNat 32 c.l0Bits else if i ≤ ports then c.l0Out (15 + i) else 0#32) else .data 0#32
  else if o < 0x400 then .unmapped
  else if o < 0x600 then img (wGet c.compat.tx ((o - 0x400) / 4))
  else if o < 0x800 then img (octetWord c.compat.rx ((o - 0x600) / 4))
  else if o < 0xF00 then
    let i := (o - 0x800) / 4
    img (if i < (c.compat.list.map (fun (l : LList) => l.nhost)).getD 0 then c.l0Out (c.hostBase + i) else 0#32)
  else .data 0#32

/-- A word of VIEW (R463): the entry's value in the place and size it had at the start decision; beyond the last entry unmapped. -/
def State.viewWord (s : State) (ch : Ch) (o : Nat) : WinWord :=
  let c := s.chan ch
  match c.host.view.find? (fun v => decide (v.off ≤ o) && decide (o < v.off + (v.size + 3) / 4 * 4)) with
  | none => .unmapped
  | some v =>
    match c.desc ch .host v.index v.sub with
    | .error _ => .data 0#32
    | .ok d =>
      if d.proxy then .data 0#32
      else
        let w := octetWord (padTo v.size (s.dictVal ch .host v.index v.sub d)) ((o - v.off) / 4)
        if c.votedEntry v.index v.sub then .voted w else .data w

/-- The word at a window offset (R462). -/
def State.winWord (s : State) (ch : Ch) (o : Nat) : WinWord :=
  let c := s.chan ch
  if o < 0x1000 then (if c.host.legacy then s.legacyWord ch o else s.statusWord ch o)
  else if o < 0x3000 then .data (wGet c.host.req ((o - 0x1000) / 4))
  else if o < 0x5000 then .data (octetWord c.host.rsp ((o - 0x3000) / 4))
  else if o < 0x5800 then (if hostMsgMode c.sys.mode then .data (wGet c.host.hin ((o - 0x5000) / 4)) else .notServed)
  else if o < 0x6000 then
    (if hostMsgMode c.sys.mode then .data (octetWord ((c.host.hout.map hostMsgOctets).getD []) ((o - 0x5800) / 4)) else .notServed)
  else if o < 0x8000 then .unmapped
  else if o < 0x10000 then (if viewMode c.sys.mode then s.viewWord ch o else .notServed)
  else .unmapped

/-! Responses (R461) -/

/-- The window offsets of a packet. -/
def pktOffsets (p : LanePkt) : List Nat := (List.range p.cnt).map (fun i => p.addr + 4 * i)

/-- The response to a READ: `v` says how its voted words stand (0 served, 2 refused). -/
def State.readResponse (s : State) (ch : Ch) (p : LanePkt) (v : Nat) : Nat × List Word :=
  let ws := (pktOffsets p).map (s.winWord ch)
  let isVoted (w : WinWord) : Bool := match w with | .voted _ => true | _ => false
  let zeros := List.replicate p.cnt 0#32
  if ws.any (fun w => w == .notServed) then (3, zeros)
  else if v = 2 && ws.any isVoted then (2, zeros)
  else
    (if ws.any (fun w => w == .unmapped) then 1 else 0,
     ws.map (fun w => match w with | .data x => x | .voted x => x | _ => 0#32))

/-- Responses leave in request order. -/
def Chan.flushLane (c : Chan) : Nat → Chan
  | 0 => c
  | n + 1 =>
    match c.host.outst with
    | (_, some e) :: r => ({ c with host := { c.host with outst := r, tx := satInc c.host.tx } }.emit e).flushLane n
    | _ => c

/-- The response to a READ as an emission; STAT 2 sets UNCONF. -/
def State.formRead (s : State) (ch : Ch) (p : LanePkt) (v : Nat) : Emission × Bool :=
  let r := s.readResponse ch p v
  (.laneResp p.tag 0x81 r.1 r.2, r.1 = 2)

/-- Refused lane reads of voted words set UNCONF_READ (R182). -/
def Chan.unconf (c : Chan) (n : Nat) : Chan :=
  { c with vote := { c.vote with flag := (List.range n).foldl (fun (f : FlagReg) _ => f.raise 6) c.vote.flag } }

/-- Waiting reads are answered: `v` 0 from the confirmed commit, 2 refused. -/
def State.serveLane (s : State) (ch : Ch) (v : Nat) : State :=
  let os : List ((LanePkt × Option Emission) × Bool) := (s.chan ch).host.outst.map (fun (o : LanePkt × Option Emission) =>
    match o.2 with
    | some e => ((o.1, some e), false)
    | none => ((o.1, some (s.formRead ch o.1 v).1), (s.formRead ch o.1 v).2))
  let bad := (os.filter (fun (o : (LanePkt × Option Emission) × Bool) => o.2)).length
  s.upd ch (fun c =>
    { c with host := { c.host with
      outst := os.map (fun (o : (LanePkt × Option Emission) × Bool) => o.1)
      flag := (List.range bad).foldl (fun (f : FlagReg) _ => f.raise 3) c.host.flag } }.unconf bad |>.flushLane 8)

/-- The lane carries packets: the channel is up, its lane locked, the module beyond M1 (Table 18-5). -/
def Chan.laneOn (c : Chan) : Bool := c.up && c.clk.laneLock && !(c.sys.mode = .m0 || c.sys.mode = .m1)

/-- A packet error (R460, R461). -/
def Chan.pktErr (c : Chan) : Chan := { c with host := { c.host with flag := c.host.flag.raise 0 } }

/-- A packet's form: checks passed, 1 to 64 words, a word offset, no reserved length. -/
def pktGood (p : LanePkt) (write : Bool) : Bool :=
  p.ok && 1 ≤ p.cnt && p.cnt ≤ 64 && p.addr % 4 == 0 && (if write then p.data.length == p.cnt else p.data.isEmpty)

/-- Accept a request with its response, or with none while it waits. -/
def Chan.acceptLane (c : Chan) (p : LanePkt) (e : Option Emission) : Chan :=
  ({ c with host := { c.host with rx := satInc c.host.rx, outst := c.host.outst ++ [(p, e)] } } : Chan).flushLane 8

/-- LANE_READ. -/
def execLaneRead (ch : Ch) (p : LanePkt) (s : State) : Out :=
  let c := s.chan ch
  if !c.laneOn then .next s
  else if !pktGood p false || 8 ≤ c.host.outst.length then onChan s ch Chan.pktErr
  else
    let s := s.tick
    let voted := (pktOffsets p).any (fun o => match s.winWord ch o with | .voted _ => true | _ => false)
    let out := (pktOffsets p).any (fun o => s.winWord ch o == .notServed)
    if voted && !out && c.votedRead = 1 then onChan s ch (fun c => c.acceptLane p none)
    else
      let r := s.formRead ch p c.votedRead
      onChan s ch (fun c => ({ c with host := { c.host with flag := c.host.flag.raiseIf r.2 3 } }.unconf (if r.2 then 1 else 0)).acceptLane p (some r.1))

/-! The mailbox (R464) -/

/-- The mailbox doorbell. -/
def State.mbxDoor (s : State) (ch : Ch) (len : Nat) : State :=
  let c := s.chan ch
  if c.host.busy || c.host.ready then s.upd ch (fun c => { c with host := { c.host with flag := c.host.flag.raise 1 } })
  else
    let r := parseReq (wBytes c.host.req (min len 8192))
    let req : DReq := { r.2 with len := len }
    (s.upd ch (fun c => { c with host := { c.host with busy := true, serving := some (req.tag, req.entries.length) } })).dictCall ch .host r.1 req

/-- H_MBX_DOOR. -/
def execHMbxDoor (ch : Ch) (len : Nat) (s : State) : Out := guardC (s.chan ch).laneOn s (s.mbxDoor ch (len % 65536))

/-- The mailbox acknowledgement: MBX_RSP is released and READY cleared. -/
def Chan.mbxAck (c : Chan) : Chan :=
  let was := c.host.attnOn
  ({ c with host := { c.host with ready := false, rsp := [] } } : Chan).attn was

/-- H_MBX_ACK. -/
def execHMbxAck (ch : Ch) (s : State) : Out := guardC (s.chan ch).laneOn s (s.upd ch Chan.mbxAck)

/-! Host messages (R465) -/

/-- The message doorbell: kind 0 is a bridge item, kinds 4 to 6 answer a slot, any other is a packet error.
An answer waits in HMSG_IN while the reeve does not run. -/
def State.msgDoor (s : State) (ch : Ch) : State :=
  let c := s.chan ch
  if !hostMsgMode c.sys.mode then s
  else if c.host.inBusy then s.upd ch (fun c => { c with host := { c.host with flag := c.host.flag.raise 2 } })
  else match c.host.inMsg with
    | none => s.upd ch Chan.pktErr
    | some m =>
      if m.kind = 0 then s.bridgeItem (laneBport ch) m.id.toNat m.data
      else if m.kind = 4 || m.kind = 5 || m.kind = 6 then
        (if !c.bridgeOn then s
         else if c.reeveOn then s.hostAnswer ch m
         else s.upd ch (fun c => { c with host := { c.host with inBusy := true } }))
      else s.upd ch Chan.pktErr

/-- H_MSG_DOOR. -/
def execHMsgDoor (ch : Ch) (s : State) : Out := guardC (s.chan ch).laneOn s (s.msgDoor ch)

/-- The message acknowledgement: HMSG_OUT is released, and the next message takes it. -/
def Chan.msgAck (c : Chan) : Chan :=
  let was := c.host.attnOn
  match c.host.houtQ with
  | [] => ({ c with host := { c.host with hout := none } } : Chan).attn was
  | m :: r => (({ c with host := { c.host with hout := some m, houtQ := r, msgs := satInc c.host.msgs } } : Chan).emit (.hostMsg m)).attn was

/-- H_MSG_ACK. -/
def execHMsgAck (ch : Ch) (s : State) : Out := guardC ((s.chan ch).laneOn && hostMsgMode (s.chan ch).sys.mode) s (s.upd ch Chan.msgAck)

/-! Window writes (R461) -/

/-- A window write is not served in the mode: host messages outside the bridge's modes, VIEW outside M5 to M11. -/
def Chan.writeBarred (c : Chan) (o : Nat) : Bool :=
  (!hostMsgMode c.sys.mode && ((0x5000 ≤ o && o < 0x6000) || (!c.host.legacy && (o == 0x30 || o == 0x38)))) ||
  (!viewMode c.sys.mode && 0x8000 ≤ o && o < 0x10000)

/-- The buffers that a host writes: MBX_REQ, HMSG_IN, in M6 LMBX_TX. -/
def Chan.windowPut (c : Chan) (o : Nat) (w : Word) : Chan :=
  if 0x1000 ≤ o && o < 0x3000 then { c with host := { c.host with req := wPut c.host.req ((o - 0x1000) / 4) w } }
  else if 0x5000 ≤ o && o < 0x5800 && !c.host.inBusy then { c with host := { c.host with hin := wPut c.host.hin ((o - 0x5000) / 4) w } }
  else if c.host.legacy && c.sys.mode = .m6 && 0x400 ≤ o && o < 0x600 then { c with compat := { c.compat with tx := wPut c.compat.tx ((o - 0x400) / 4) w } }
  else c

/-- The words that act: doorbells and acknowledgements, LCMD, word 0 of LMBX_TX. -/
def State.windowAct (s : State) (ch : Ch) (o : Nat) (w : Word) : State :=
  let c := s.chan ch
  if c.host.legacy then
    (if o = 0x010 then s.lcmd ch w.toNat
     else if o = 0x020 then s.mbxDoor ch (w.toNat % 65536)
     else if o = 0x028 then s.upd ch Chan.mbxAck
     else if o = 0x400 && c.sys.mode = .m6 then
       (let b := wBytes c.compat.tx 512
        s.legacyCall ch 0 (b.take (8 + leAt b 2 2)))
     else s)
  else match o with
    | 0x20 => s.mbxDoor ch (w.toNat % 65536)
    | 0x28 => s.upd ch Chan.mbxAck
    | 0x30 => s.msgDoor ch
    | 0x38 => s.upd ch Chan.msgAck
    | _ => s

/-- LANE_WRITE: the buffers are written, then the words that act take effect in ascending offset. -/
def execLaneWrite (ch : Ch) (p : LanePkt) (s : State) : Out :=
  let c := s.chan ch
  if !c.laneOn then .next s
  else if !pktGood p true || 8 ≤ c.host.outst.length then onChan s ch Chan.pktErr
  else if (pktOffsets p).any c.writeBarred then
    onChan s ch (fun c => c.acceptLane p (some (.laneResp p.tag 0x82 3 [])))
  else
    let ows := (pktOffsets p).zip p.data
    let stat := if (pktOffsets p).any (fun o => s.winWord ch o == .unmapped) then 1 else 0
    let s := s.upd ch (fun c => ows.foldl (fun (c : Chan) (x : Nat × Word) => c.windowPut x.1 x.2) c)
    let s := ows.foldl (fun (s : State) (x : Nat × Word) => s.windowAct ch x.1 x.2) s
    onChan s ch (fun c => c.acceptLane p (some (.laneResp p.tag 0x82 stat [])))

/-! HRST_n (R467) -/

/-- HRST_ASSERT: low for 1 µs or more, the channel is held in HELD with its KEEP retention; while the module runs it stays there until the next start. -/
def execHrstAssert (ch : Ch) (s : State) : Out :=
  let c := s.chan ch
  let runs := s.ticking
  if c.sys.hrst then .next s
  else if c.sys.cstate = .off then onChan s ch (fun c => { c with sys := { c.sys with hrst := true, hrstSeen := true } })
  else .next ((s.upd ch (fun c =>
    let h := c.held
    { h with sys := { h.sys with hrst := true, hrstSeen := true, released := false, barred := runs || c.sys.barred } })).remode)

/-- HRST_RELEASE: outside a run of the module the clock start follows. -/
def execHrstRelease (ch : Ch) (s : State) : Out :=
  let c := s.chan ch
  if !c.sys.hrst then .next s
  else
    let s1 := s.upd ch (fun c => { c with sys := { c.sys with hrst := false } })
    .next (if s.ticking then s1 else s1.upd ch Chan.startClocks)

end Sys2Proof.Machine
end

