-- ==== Sys2Proof/Machine/Vote.lean ====
section
/-! DEFINITION. The vote: who counts, the judgement of a boundary, abstention and confirmation, the gate, completion notices, resynchronisation messages (R157, R174 to R190, R207). -/

namespace Sys2Proof.Machine
open Sys2Proof

/-! Who counts -/

/-- The channels that hold the module mode as `ch` sees them: not OFF, HELD or OUT, and not taken out (R48, R191); `ch` itself while
it is none of these. -/
def State.members (s : State) (ch : Ch) : List Ch :=
  allCh.filter (fun p => (s.view p).present && (p == ch || (s.chan ch).vote.out.get p == 0))

/-- A peer's boundary message for the present boundary. -/
def Chan.msgOf (c : Chan) (ch p : Ch) : Option BMsg :=
  match linkTo ch p with
  | some .next => c.vote.msg0
  | some .prev => c.vote.msg1
  | none => none

/-- A peer's boundary message for the boundary before. -/
def Chan.prevOf (c : Chan) (ch p : Ch) : Option BMsg :=
  match linkTo ch p with
  | some .next => c.vote.prev0
  | some .prev => c.vote.prev1
  | none => none

/-- The last boundary message received from a peer. -/
def Chan.lastOf (c : Chan) (ch p : Ch) : Option BMsg :=
  match linkTo ch p with
  | some .next => c.vote.last0
  | some .prev => c.vote.last1
  | none => none

/-- A peer's message when the peer is counted in the vote: voting, not resynchronising, not lagging (R178). -/
def State.countedMsg (s : State) (ch p : Ch) : Option BMsg :=
  ((s.chan ch).msgOf ch p).filter (fun (m : BMsg) => !m.resync && !m.lag && (s.members ch).contains p)

/-- The counted peers with their messages. -/
def State.counted (s : State) (ch : Ch) : List (Ch × BMsg) :=
  [chNext ch, chPrev ch].filterMap (fun p => (s.countedMsg ch p).map (fun m => (p, m)))

/-- This channel's own digest counts (R178). -/
def Chan.counts (c : Chan) : Bool := c.vote.state != .resync && !c.vote.lag

/-- Outcomes of Table 6-2. -/
inductive Judged where | confirmed | minority | noMajority | alone
deriving DecidableEq, Repr

/-- Table 6-2 for a channel with digest `own` and the digests of the counted peers. -/
def outcome (own : W64) : List W64 → Judged
  | [] => .alone
  | [a] => if own = a then .confirmed else .noMajority
  | a :: b :: _ => if own = a || own = b then .confirmed else if a = b then .minority else .noMajority

/-! Abstention and notices (R179, R180, R191) -/

/-- Put a notice, with a VOTE record when it is new. -/
def Chan.accuse (c : Chan) (p : Ch) (cause : Nat) : Chan :=
  if c.vote.notices.contains ⟨p, cause⟩ then c else (c.notice p cause).logVote cause (chCode p)

/-- The channel abstains (R179): its transistors are released and nothing confirmed is held. -/
def Chan.abstain (c : Chan) : Chan :=
  let c := c.releaseAll.endTest
  { c with vote := { c.vote with
      state := if c.vote.state = .resync then .resync else .abstaining
      gate := false
      conf := false } }

/-- Abstention by the vote: the gate cannot open for this commit and what waits is dropped (R181). -/
def Chan.shutOut (c : Chan) : Chan :=
  let c := c.abstain.dropGate
  { c with vote := { c.vote with shut := true } }

/-- Minority (R180): counted, noticed at the limits. -/
def Chan.inMinority (c : Chan) (ch : Ch) : Chan :=
  let hist := c.vote.minHour.filter (fun t => decide (c.mram.opsec < t + 3600)) ++ [c.mram.opsec]
  let c := ({ c with vote := { c.vote with
    flag := c.vote.flag.raise 0
    minRun := min (c.vote.minRun + 1) 65535
    minHour := hist } }).shutOut
  if 72 ≤ c.vote.minRun || 4096 ≤ hist.length then c.accuse ch 0x01 else c

/-- No majority (R180): M10 with cause 0x03 is proposed. -/
def Chan.noMajority (c : Chan) (ch : Ch) : Chan :=
  let c := { c with vote := { c.vote with flag := c.vote.flag.raise 1, nomaj := true } }
  (c.shutOut.trigger .m10 0x03).logVote 0 (chCode ch)

/-- Reads of voted outputs that wait in an abstaining channel are refused (R182). -/
def State.refuseReads (s : State) (ch : Ch) : State := (s.refuseHeld ch).serveLane ch 2

/-- The gate opens (R181, R182, R256, R266): what waited is sent, buffers are written, reads are served. -/
def State.openGate (s : State) (ch : Ch) : State :=
  let s := s.upd ch (fun c => { c with vote := { c.vote with gate := true } })
  let s := s.flushGate ch
  let s := if ch = Ch.C then s.mvbWrite [0] else s
  (s.serveHeld ch).serveLane ch 0

/-- The switch of this boundary, whose own digest gates every path (R207). -/
def Chan.switchNow (c : Chan) : Option (Nat × W64) := if c.chg.swc = c.tb.c % 4294967296 then c.chg.swDig else none

/-- Confirmed at J_c (R179): after abstaining, without a confirmation before, or after a switch the committed states are taken at this instant. -/
def State.confirm (s : State) (ch : Ch) : State :=
  (s.upd ch (fun c =>
    let now := !c.vote.confPrev || c.vote.state != .voting || c.switchNow.isSome
    let c := { c with vote := { c.vote with state := .voting, conf := true, shut := false, minRun := 0 } }
    if now then c.driveConfirmed c.vote.committedNow c.now else c)).openGate ch

/-! Resynchronisation decisions (R184, R185) -/

/-- The digest of a channel as counted at the present boundary in the eyes of `ch`. -/
def State.digOf (s : State) (ch x : Ch) : Option W64 :=
  let c := s.chan ch
  if x = ch then (if c.counts then some c.vote.dig else none) else (s.countedMsg ch x).map (·.odig)

/-- A channel's digest equals another counted channel's. -/
def State.digConfirmed (s : State) (ch x : Ch) : Bool :=
  match s.digOf ch x with
  | some d => s.digOf ch (chNext x) == some d || s.digOf ch (chPrev x) == some d
  | none => false

/-- The source for `m`: the next channel after it on a working direct link that was confirmed (R185). -/
def State.rsSource (s : State) (ch m : Ch) : Option Ch := [chNext m, chPrev m].find? (fun q => s.linked m q && s.digConfirmed ch q)

/-- The longest integrity task period. -/
def Chan.longestPeriod (c : Chan) : Nat := ((c.sl.tasks.filter (fun (t : TaskRt) => !t.decl.cap)).map (fun (t : TaskRt) => t.decl.period)).foldl max 0

/-- A RESYNC record (Table 16-1). -/
def Chan.logResync (c : Chan) (role fin pages : Nat) : Chan :=
  c.log 0x0A (leB 1 role ++ leB 1 fin ++ leB 2 0 ++ leB 4 pages ++ leB 4 c.tb.c)

/-- A resynchronisation of this channel is decided: counted, and refused at the third within 3,600 s or without a source (R185). -/
def Chan.resyncSelf (c : Chan) (ch : Ch) (src : Option Ch) : Chan :=
  let hist := c.mram.resyncs.filter (fun t => decide (c.mram.opsec < t + 3600)) ++ [c.mram.opsec]
  let c := { c with
    mram := { c.mram with resyncs := hist }
    vote := { c.vote with rsCount := satInc c.vote.rsCount } }
  if 3 ≤ hist.length then c.accuse ch 0x02
  else match src with
    | none => c.accuse ch 0x03
    | some q => { c with vote := { c.vote with
        run := some ⟨q, c.tb.c, c.tb.c + 1 + 2 * c.longestPeriod + 64, false, 0, [], [], 0⟩ } }

/-- A resynchronisation of `m` is decided at this boundary, in the eyes of `ch`; none while one runs, and only with three voting channels (R187, R194). -/
def State.decideResync (s : State) (ch m : Ch) : State :=
  let c := s.chan ch
  if c.vote.run.isSome || c.vote.other.isSome || (s.members ch).length < 3 then s
  else
    let src := s.rsSource ch m
    s.upd ch (fun c =>
      if m = ch then c.resyncSelf ch src
      else
        let c := { c with vote := { c.vote with other := some (m, c.tb.c) } }
        if src = some ch then { c with vote := { c.vote with serving := some (m, c.tb.c, 0), flag := c.vote.flag.raise 4 } } else c)

/-- The retained digests are judged at boundaries with c mod 64 = 0 (R184). -/
def State.judgeRetained (s : State) (ch : Ch) : State :=
  let c := s.chan ch
  if c.tb.c % 64 ≠ 0 || !c.counts then s
  else
    let ms := (s.counted ch).filter (fun x => x.2.rdigP)
    match outcome c.vote.rs (ms.map (·.2.rdig)) with
    | .minority => (s.upd ch (fun c => { c with vote := { c.vote with flag := c.vote.flag.raise 3 } })).decideResync ch ch
    | .noMajority => (s.upd ch (fun c => c.noMajority ch)).refuseReads ch
    | .alone => s
    | .confirmed =>
      match ms.find? (fun x => x.2.rdig != c.vote.rs) with
      | some x => if ms.length = 2 then s.decideResync ch x.1 else s
      | none => s

/-! The judgement (R178) -/

/-- Silence of the peers (Table 6-5, VOTE_RUN.SILENT): at three boundaries a peer is noticed, with cause 0x08 where its last message said
LEAVING, else, and where it never spoke, with 0x04. -/
def Chan.silence (c : Chan) (ch : Ch) : Chan :=
  let one (c : Chan) (p : Ch) (n : Nat) : Chan :=
    if 3 ≤ n && c.vote.out.get p = 0 then
      let cause := if (c.lastOf ch p).any (·.leaving) then 0x08 else 0x04
      if n = 3 then c.accuse p cause else c.notice p cause
    else c
  let n0 := if c.vote.msg0.isSome then 0 else min (c.vote.silent0 + 1) 15
  let n1 := if c.vote.msg1.isSome then 0 else min (c.vote.silent1 + 1) 15
  one (one { c with vote := { c.vote with silent0 := n0, silent1 := n1 } } (chNext ch) n0) (chPrev ch) n1

/-- The switch digest of a peer for the present boundary (R207). -/
def Chan.switchOf (c : Chan) (ch p : Ch) : Option (Nat × W64) :=
  let now (x : Option (Nat × W64 × Nat)) : Option (Nat × W64) := (x.filter (fun y => y.2.2 == c.tb.c)).map (fun y => (y.1, y.2.1))
  match linkTo ch p with
  | some .next => now c.chg.sw0
  | some .prev => now c.chg.sw1
  | none => none

/-- The outcome of the boundary: of the output digests and, where a switch was made, of the switch digests (R178, R207). -/
def State.boundaryOutcome (s : State) (ch : Ch) : Judged :=
  let c := s.chan ch
  let o := outcome c.vote.dig ((s.counted ch).map (·.2.odig))
  match c.switchNow with
  | none => o
  | some w => if o = .confirmed then outcome w.2 (((s.counted ch).filterMap (fun x => c.switchOf ch x.1)).map (·.2)) else o

/-- The bank of this channel, switched or not, differs from that of two equal counted channels (R207). -/
def State.bankDiffers (s : State) (ch : Ch) : Bool :=
  let c := s.chan ch
  match ((s.counted ch).filterMap (fun x => c.switchOf ch x.1)).map (·.1) with
  | [a, b] => a == b && a != c.chg.bank
  | _ => false

/-- The end of a resynchronisation: every integrity task synced and the own digest confirmed (R186 step 5). -/
def Chan.allSynced (c : Chan) : Bool := c.sl.tasks.all (fun (t : TaskRt) => t.decl.cap || !t.unsync)

/-- What is still to come of the source's timer operations when the resynchronisation ends at boundary `b` (R186 step 2): the channel applied
none of its own posts there. -/
def RsRun.rest (r : RsRun) (b : Nat) : Option (Ch × Nat × Nat) := if r.opsC < b then some (r.src, r.opsC, b) else none

/-- The judgement of this boundary has been made. -/
def Chan.endJudge (c : Chan) : Chan := { c with vote := { c.vote with judged := true } }

/-- The judgement of the present boundary (in M9, M10 and M11, where no digest is judged, the silence of the peers alone): silence, outcome, reads, lagging peers, retained digests. -/
def State.judge (s : State) (ch : Ch) : State :=
  let c0 := s.chan ch
  if c0.vote.judged then s
  else if !c0.sys.mode.runs then s.upd ch (fun c => (if c.sys.mode.speaks then c.silence ch else c).endJudge)
  else
    let missing := (s.members ch).any (fun p => p != ch && (c0.msgOf ch p).isNone)
    let bits := (s.counted ch).foldl (fun (w : BitVec 3) x => if x.2.odig = c0.vote.dig then w ||| (1#3 <<< chCode x.1) else w) 0#3
    let s := s.upd ch (fun c =>
      let c := c.silence ch
      let c := { c with
        vote := { c.vote with judged := true, nomaj := false, agree := bits, flag := c.vote.flag.raiseIf missing 2 } }
      if s.bankDiffers ch then c.accuse ch 0x09 else c)
    let res := s.boundaryOutcome ch
    let s :=
      if c0.vote.state = .resync then
        (if c0.vote.run.isSome && c0.allSynced && res = .confirmed then
          (s.upd ch (fun c =>
            let c := c.logResync 0 1 ((c.vote.run.map (·.pages)).getD 0)
            { c with vote := { c.vote with run := none, tail := c.vote.run.bind (·.rest c.tb.c) } })).confirm ch
        else s.refuseReads ch)
      else if c0.vote.lag then (s.decideResync ch ch).refuseReads ch
      else match res with
        | .confirmed => s.confirm ch
        | .minority => (s.upd ch (fun c => c.inMinority ch)).refuseReads ch
        | .noMajority => (s.upd ch (fun c => c.noMajority ch)).refuseReads ch
        | .alone => (s.upd ch (fun c => ({ c with vote := { c.vote with flag := c.vote.flag.raiseIf (!missing) 2 } }).abstain)).refuseReads ch
    let lagging := [chNext ch, chPrev ch].find? (fun p => (s.members ch).contains p && (((s.chan ch).msgOf ch p).map (·.lag)).getD false)
    let s := match lagging with
      | some p => s.decideResync ch p
      | none => s
    s.judgeRetained ch

/-- Every counted peer's message is in, with its switch digest where one is due (R178). -/
def State.allIn (s : State) (ch : Ch) : Bool :=
  let c := s.chan ch
  (s.members ch).all (fun p => p == ch || ((c.msgOf ch p).isSome && (c.switchNow.isNone || (c.switchOf ch p).isSome)))

/-- JUDGEMENT_INSTANT: when every message is in, else 20 µs after the boundary. -/
def execJudgementInstant (ch : Ch) (s : State) : Out :=
  let c := s.chan ch
  if !c.up || !c.tb.started || c.vote.judged then .next s
  else
    let s1 := if s.allIn ch then s else s.upd ch (fun c => { c with tb := c.tb.reach (c.tb.bk + 20000) })
    .next (s1.judge ch)

/-! Messages (R157, R174, R181, R207) -/

/-- Commands and state writes that a boundary message carries are held without a requester (R55, R375). -/
def Chan.takeCarried (c : Chan) (m : BMsg) : Chan :=
  { c with
    sys := { c.sys with cmds := c.sys.cmds ++ m.cmds.map (fun (x : PendCmd) => { x with via := none }) }
    dict := { c.dict with writes := c.dict.writes ++ m.writes.map (fun (w : StateWrite) => { w with via := none }) } }

/-- The boundary count that a message's mark is early for: the next one. -/
def TimeBlk.isNext (t : TimeBlk) (mc : Nat) : Bool := decide (mc = if t.started then t.c + 1 else 0)

/-- The skew of a mark that arrives now (R95): arrival less the link's latency less the own time of its boundary. -/
def Chan.skewNow (c : Chan) (l : Link) (cur : Bool) : Int :=
  (c.now : Int) - (c.lend l).lat - (if cur then c.tb.bk else if c.tb.started then c.tb.bk + c.period else c.tb.bk)

/-- A boundary message is held: as the last one of its link and, for the present boundary, for the judgement, with its mark until J_c;
the mark of one that comes before the own boundary is kept for it, and the skew of one that comes after J_c for the alarm (R95, R96).
DESIGN CHOICE (log entry 111): in the modes without a judgement instant a mark is taken until the receiver's next boundary. -/
def Chan.takeMsg (c : Chan) (l : Link) (m : BMsg) : Chan :=
  let cur := m.c = c.tb.c && c.tb.started
  let early := c.tb.isNext m.c
  let mark := cur && (!c.vote.judged || !c.sys.mode.runs)
  let skew := c.skewNow l cur
  let v := c.vote
  let t := c.tb
  match l with
  | .next => { c with
      vote := { v with
        last0 := some m
        msg0 := if cur then some m else v.msg0
        peer0 := if cur then m.odig else v.peer0
        rsPeer0 := if cur && m.rdigP then m.rdig else v.rsPeer0 }
      tb := { t with 
        mark0 := if mark then some skew else t.mark0
        late0 := if cur && !mark then some skew else t.late0
        early0 := if early then some skew else t.early0
        skew0 := if cur || early then skew else t.skew0 } }
  | .prev => { c with
      vote := { v with
        last1 := some m
        msg1 := if cur then some m else v.msg1
        peer1 := if cur then m.odig else v.peer1
        rsPeer1 := if cur && m.rdigP then m.rdig else v.rsPeer1 }
      tb := { t with 
        mark1 := if mark then some skew else t.mark1
        late1 := if cur && !mark then some skew else t.late1
        early1 := if early then some skew else t.early1
        skew1 := if cur || early then skew else t.skew1 } }

/-- A match may open the gate: before J_c in a channel that votes, after it unless the outcome was minority or no majority (R181); never
in one that lags or is resynchronised. -/
def Chan.mayOpen (c : Chan) : Bool :=
  !c.vote.gate && !c.vote.lag && (if c.vote.judged then !c.vote.shut && c.vote.state != .resync else c.vote.state == .voting)

/-- A matching digest for the present commit (R181): late after J_c, and the gate opens where it may. -/
def State.matched (s : State) (ch : Ch) : State :=
  let c := s.chan ch
  let s := s.upd ch (fun c => { c with vote := { c.vote with flag := c.vote.flag.raiseIf c.vote.judged 7 } })
  if c.mayOpen then s.openGate ch else s

/-- A digest that came before the own boundary was formed matches it: the gate opens at once (R181, R207). -/
def State.matchEarly (s : State) (ch : Ch) : State :=
  let c := s.chan ch
  let equal := match c.switchNow with
    | none => [c.vote.msg0, c.vote.msg1].any (fun (m : Option BMsg) => m.any (fun x => x.odig == c.vote.dig))
    | some w => c.switchOf ch (chNext ch) == some w || c.switchOf ch (chPrev ch) == some w
  if c.sys.mode.runs && equal then s.matched ch else s

/-- BOUNDARY_MESSAGE_RECEIVE (R174): `arrival` is the receiver's time base, ns, when the message arrives. -/
def execBoundaryMessageReceive (rx tx : Ch) (ok : Bool) (arrival : Nat) (s : State) : Out :=
  .next (s.recv rx tx ok XBody.isBoundary (fun b s =>
    match b, linkTo rx tx with
    | .boundary m, some l =>
      let s := s.upd rx (fun c => ({ c with tb := c.tb.reach arrival }.takeMsg l m).takeCarried m)
      let c := s.chan rx
      if m.c = c.tb.c && c.tb.started && c.sys.mode.runs && m.odig = c.vote.dig && c.switchNow.isNone then s.matched rx else s
    | _, _ => s))

/-- COMPLETION_NOTICE_RECEIVE (R157, R158). -/
def execCompletionNoticeReceive (rx tx : Ch) (ok : Bool) (s : State) : Out :=
  .next (s.recv rx tx ok XBody.isNotice (fun b s =>
    match b with
    | .notice n due => s.upd rx (fun c => { c with sl := c.sl.addNotice n due tx })
    | _ => s))

/-- SWITCH_DIGEST_RECEIVE (R207). -/
def execSwitchDigestReceive (rx tx : Ch) (ok : Bool) (s : State) : Out :=
  .next (s.recv rx tx ok XBody.isSwitchDigest (fun b s =>
    match b, linkTo rx tx with
    | .switchDigest bank dig cc, some l =>
      let s := s.upd rx (fun c => match l with
        | .next => { c with chg := { c.chg with sw0 := some (bank, dig, cc) } }
        | .prev => { c with chg := { c.chg with sw1 := some (bank, dig, cc) } })
      let c := s.chan rx
      if cc = c.tb.c && c.switchNow = some (bank, dig) then s.matched rx else s
    | _, _ => s))

/-! Resynchronisation (R186, R187) -/

/-- A page of words installed in an area. -/
def putPage (l : List Word) (p : Nat) (ws : List Word) : List Word := putWords l (256 * p) ws

/-- The octets of qualifier words. -/
def wordsQual (n : Nat) (ws : List Word) : List Byte := (wordBytes ws).take n

/-- What the engine remembers of a source follows an installed qualifier: AGE and NOVAL (R146, R147). -/
def SrcRt.follow (r : SrcRt) (q : Byte) : SrcRt :=
  let age := q.toNat / 16
  { r with age := age, ageFull := if age < 15 then age else max r.ageFull 15, noval := q.getLsbD 1 }

/-- The edge detectors and overrun counts that the status words give (R175 code 5). -/
def TaskRt.putStatus (t : TaskRt) (ws : List Word) (seeded : List Bool) : TaskRt :=
  let n := t.edges.length
  { t with
    edges := (t.edges.zipIdx).map (fun (x : EdgeDet × Nat) =>
      { x.1 with rise := atD 0#32 x.2 ws, fall := atD 0#32 (n + x.2) ws, seeded := atD false x.2 seeded })
    ovrRun := (atD 0#32 (2 * n) ws).toNat
    ovrTotal := atD 0#32 (2 * n + 1) ws }

/-- An installed page (R183, R186). -/
def TaskRt.install (t : TaskRt) (seeded : List Bool) (d : PageData) : TaskRt :=
  let ws := putPage (t.area d.area) d.page d.words
  match d.area with
  | 1 => { t with outPub := ws }
  | 2 => { t with rsPub := ws }
  | 3 => { t with inImg := ws }
  | 4 =>
    let q := wordsQual t.qual.length ws
    { t with
      qual := q
      srcs := (t.srcs.zip t.decl.srcs).map (fun (x : SrcRt × SourceDecl) => x.1.follow (atD 0#8 x.2.first q)) }
  | 5 => t.putStatus ws seeded
  | _ => t

/-- A held instance starts once its list is in, every page installed and the timer operations of its release applied (R186 step 3). -/
def Chan.startHeld (c : Chan) (n : Nat) : Chan :=
  match c.vote.run, c.sl.task n with
  | some r, some t =>
    let ready := r.held.any (fun (h : Nat × Nat × Bool) => h.1 == n && h.2.2 && r.snap && decide (h.2.1 ≤ r.opsC)) && !r.want.any (fun w => w.1 == n)
    match ready, t.inst with
    | true, some i =>
      let c := { c with vote := { c.vote with run := some { r with held := r.held.filter (fun h => h.1 != n) } } }
      let j : Inst := { i with avail := true, timers := c.tb.timers }
      let u : TaskRt := { t with inst := some j, rsWork := t.rsPub, outWork := fixW t.decl.outLen [] }
      ({ c with sl := c.sl.updTask n (fun _ => u) }).startStage u j 0
    | _, _ => c
  | _, _ => c

/-- Every held instance that may start does. -/
def Chan.startAllHeld (c : Chan) : Chan :=
  match c.vote.run with
  | some r => r.held.foldl (fun (c : Chan) (h : Nat × Nat × Bool) => c.startHeld h.1) c
  | none => c

/-- Change the running resynchronisation. -/
def Chan.updRun (c : Chan) (f : RsRun → RsRun) : Chan := { c with vote := { c.vote with run := c.vote.run.map f } }

/-- The page-sum list of a task's five areas (R175, R186). -/
def TaskRt.sums (t : TaskRt) : List (Nat × Nat × W64) :=
  [1, 2, 3, 4, 5].flatMap (fun a => (List.range (pageCount (t.area a))).map (fun p => (a, p, t.pageSum a p)))

/-- The sender of the first resynchronisation message that has come to `ch`. -/
def State.strayFrom (s : State) (ch : Ch) : Ch :=
  ((s.wire.find? (fun m => m.rx == ch && m.lastLink && m.body.isResync)).map (·.tx)).getD ch

/-- The source of the running resynchronisation of `ch`, and its partner as a source; once it is over, who still sends. -/
def State.rsPeer (s : State) (ch : Ch) (asSource : Bool) : Ch :=
  let v := (s.chan ch).vote
  if asSource then (v.serving.map (·.1)).getD (s.strayFrom ch)
  else ((v.run.map (·.src)).or (v.tail.map (·.1))).getD (s.strayFrom ch)

/-- Timer entries of 20 octets (R177) in one BODY; an operation takes no more (log entry 94). -/
def timersPerBody : Nat := 51

/-- Page sums of 8 octets in one BODY (log entry 94). -/
def sumsPerBody : Nat := 128

/-- Page numbers of 4 octets in one BODY (log entry 94). -/
def numbersPerBody : Nat := 256

/-- Page numbers asked of the source, in messages of one BODY each. -/
def State.askPages (s : State) (ch src : Ch) (n cc : Nat) (pages : List (Nat × Nat)) : State :=
  if pages.isEmpty then s
  else (runsOf numbersPerBody pages).foldl (fun (s : State) ps => s.send ch src (.pageReq n cc ps)) s

/-- RESYNC_PAGE_SUM_LIST (R186 step 3): pages whose sums differ are requested; the list is in with its last part. -/
def execResyncPageSumList (ch : Ch) (ok : Bool) (s : State) : Out :=
  let src := s.rsPeer ch false
  .next (s.recv ch src ok XBody.isPageSums (fun b s =>
    match b, (s.chan ch).vote.run with
    | .pageSums n cc part sums, some r =>
      match (s.chan ch).sl.task n with
      | none => s
      | some t =>
        if !r.held.any (fun h => h.1 == n && h.2.1 == cc) then s
        else
          let diff := (sums.filter (fun x => x.2.2 != t.pageSum x.1 x.2.1)).map (fun x => (x.1, x.2.1))
          let s := s.upd ch (fun c => c.updRun (fun r => { r with
            held := r.held.map (fun (h : Nat × Nat × Bool) => if h.1 = n then (h.1, h.2.1, part.last) else h)
            want := (if part.first then r.want.filter (fun w => w.1 != n) else r.want) ++ diff.map (fun x => (n, x.1, x.2)) }))
          (s.upd ch (fun c => c.startHeld n)).askPages ch src n cc diff
    | _, _ => s))

/-- RESYNC_PAGE_REQUEST (R186): the source sends the pages as they stand since the release, each in a message of its own. -/
def execResyncPageRequest (ch : Ch) (ok : Bool) (s : State) : Out :=
  let m := s.rsPeer ch true
  .next (s.recv ch m ok XBody.isPageReq (fun b s =>
    match b, (s.chan ch).vote.serving with
    | .pageReq n cc pages, some _ =>
      match (s.chan ch).sl.task n with
      | none => s
      | some t =>
        if (t.inst.map (·.relC)) ≠ some cc then s
        else
          let ds := pages.map (fun x => (⟨x.1, x.2, pageOf (t.area x.1) x.2⟩ : PageData))
          let s := s.upd ch (fun c => { c with vote := { c.vote with serving := c.vote.serving.map (fun x => (x.1, x.2.1, x.2.2 + ds.length)) } })
          ds.foldl (fun (s : State) d => s.send ch m (.pageData n cc d (if d.area = 5 then t.edges.map (·.seeded) else []))) s
    | _, _ => s))

/-- Pages that failed their check are requested again and never installed (R183). -/
def State.rerequest (s : State) (ch src : Ch) : State :=
  match wireTake (fun m => m.rx == ch && m.tx == src && m.lastLink && m.body.isPageData) s.wire with
  | some (m, _) =>
    match m.body with
    | .pageData n cc d _ => s.send ch src (.pageReq n cc [(d.area, d.page)])
    | _ => s
  | none => s

/-- RESYNC_PAGE_DATA (R186): a checked page is installed and the held instance starts with the last one. -/
def execResyncPageData (ch : Ch) (ok : Bool) (s : State) : Out :=
  let src := s.rsPeer ch false
  let s := if ok then s else s.rerequest ch src
  .next (s.recv ch src ok XBody.isPageData (fun b s =>
    match b, (s.chan ch).vote.run with
    | .pageData n cc d seeded, some r =>
      if !r.held.any (fun h => h.1 == n && h.2.1 == cc) then s
      else s.upd ch (fun c =>
        let c := { c with sl := c.sl.updTask n (fun t => t.install seeded d) }
        (c.updRun (fun r => { r with
          want := r.want.filter (fun w => w != (n, d.area, d.page))
          pages := r.pages + 1 })).startHeld n)
    | _, _ => s))

/-- Receive a timer record: one that fails its check is requested again, so it stays on its way (R183). -/
def State.recvTimers (s : State) (ch : Ch) (ok : Bool) (p : XBody → Bool) (f : XBody → State → State) : State :=
  if ok then s.recv ch (s.rsPeer ch false) true p f
  else { (s.recv ch (s.rsPeer ch false) false p f) with wire := s.wire }

/-- RESYNC_TIMER_SNAPSHOT (R186 step 2): the timer table is replaced, part after part. -/
def execResyncTimerSnapshot (ch : Ch) (ok : Bool) (s : State) : Out :=
  .next (s.recvTimers ch ok XBody.isTimerSnap (fun b s =>
    match b, (s.chan ch).vote.run with
    | .timerSnap cc part ts, some _ => s.upd ch (fun c =>
        (({ c with tb := { c.tb with timers := if part.first then ts else c.tb.timers ++ ts } }).updRun
          (fun r => { r with snap := part.last, opsC := cc })).startAllHeld)
    | _, _ => s))

/-- Timer operations of the source applied after the end, up to the ending boundary (R186 step 2). -/
def Chan.applyTail (c : Chan) (cc : Nat) (last : Bool) (ops : List TimerOp) : Chan :=
  match c.vote.tail with
  | some (src, done, b) =>
    if cc ≠ done + 1 || b < cc then c
    else
      { c with
        tb := ops.foldl TimeBlk.applyOp c.tb
        vote := { c.vote with tail := if last && cc = b then none else some (src, if last then cc else done, b) } }
  | none => c

/-- RESYNC_TIMER_OPERATIONS (R186 step 2): applied boundary by boundary behind the snapshot, on which they wait, up to the ending boundary. -/
def execResyncTimerOperations (ch : Ch) (ok : Bool) (s : State) : Out :=
  if (s.chan ch).vote.run.any (fun r => !r.snap) then .next s
  else
    .next (s.recvTimers ch ok XBody.isTimerOps (fun b s =>
      match b, (s.chan ch).vote.run with
      | .timerOps cc part ops, some r =>
        if cc ≠ r.opsC + 1 then s
        else s.upd ch (fun c =>
          (({ c with tb := ops.foldl TimeBlk.applyOp c.tb }).updRun (fun r => { r with opsC := if part.last then cc else r.opsC })).startAllHeld)
      | .timerOps cc part ops, none => s.upd ch (fun c => c.applyTail cc part.last ops)
      | _, _ => s))

/-- A resynchronisation that fails ends with a notice of cause 0x03 by the channel against itself (R187). -/
def Chan.resyncFailed (c : Chan) (ch : Ch) : Chan :=
  match c.vote.run with
  | none => c
  | some r =>
    let c := c.logResync 0 2 r.pages
    ({ c with vote := { c.vote with run := none, state := if c.vote.state = VState.resync then .abstaining else c.vote.state } }).accuse ch 0x03

/-- RESYNC_TIMEOUT (R187). -/
def execResyncTimeout (ch : Ch) (s : State) : Out :=
  onChan s ch (fun c =>
    match c.vote.run with
    | some r => if r.limit ≤ c.tb.c then c.resyncFailed ch else c
    | none => c)

end Sys2Proof.Machine
end

