-- ==== Sys2Proof/Machine/Discipline.lean ====
section
/-! DEFINITION. Time at a boundary: the step, the rate servo, the trim, sample numbering and the source in use (R95 to R101, R165, R502). -/

namespace Sys2Proof.Machine
open Sys2Proof

/-! The step (R99, R165) -/

/-- A stamp moved by `d` ns. -/
def moved (d : Int) (t : Nat) : Nat := (t + d).toNat

/-- A sample set's stamp moved. -/
def SampleSet.moved (d : Int) (x : SampleSet) : SampleSet := { x with stamp := Machine.moved d x.stamp }

/-- An STO channel's times moved. -/
def StoRt.moved (d : Int) (x : StoRt) : StoRt :=
  { x with cmdAt := Machine.moved d x.cmdAt, fbAt := Machine.moved d x.fbAt, since := x.since.map (Machine.moved d) }

/-- The step: time base, boundary stamp, tick number and timer start stamps (R99, R165), and with them every time the channel keeps
to measure an interval of its own by, so that no interval contains the step. -/
def Chan.shift (c : Chan) (d : Int) : Chan :=
  let m := moved d
  { c with
    tb := { c.tb with
      acc := BitVec.ofInt 96 (c.tb.acc.toNat + d * 4294967296)
      bk := m c.tb.bk
      k := (c.tb.k + d / c.period).toNat
      step := d
      valid := true
      timers := c.tb.timers.map (fun (t : Timer) => { t with start := t.start + d }) }
    sl := { c.sl with
      sets := c.sl.sets.map (SampleSet.moved d)
      setsNext := c.sl.setsNext.map (SampleSet.moved d)
      setsPrev := c.sl.setsPrev.map (SampleSet.moved d) }
    field := { c.field with
      nets := c.field.nets.map (fun (n : NetRt) => { n with quenchAt := n.quenchAt.map m, offSince := n.offSince.map m, chgAt := m n.chgAt })
      testChg := c.field.testChg.map (fun x => (x.1, m x.2))
      tested := c.field.tested.map m
      sto0 := c.field.sto0.moved d
      sto1 := c.field.sto1.moved d
      fsupAt := m c.field.fsupAt
      win := c.field.win.map (fun (w : ResetWin) => { w with opened := m w.opened, ends := m w.ends }) }
    sys := { c.sys with kickTime := m c.sys.kickTime }
    bridge := { c.bridge with
      slots := c.bridge.slots.map (fun (x : Slot) => { x with until_ := x.until_.map m })
      queue := c.bridge.queue.map (fun (p : Posted) => { p with at_ := m p.at_ })
      gaps := c.bridge.gaps.map (fun (g : GapHold) => { g with since := m g.since }) }
    pair := { c.pair with copyAt := m c.pair.copyAt }
    upd := { c.upd with
      sends := c.upd.sends.map (fun (x : Send) => { x with since := m x.since })
      quietAt := m c.upd.quietAt }
    ecn := { c.ecn with delays := c.ecn.delays.map (fun x => (x.1, m x.2)) }
    xl := { c.xl with
      l0 := { c.xl.l0 with viol := c.xl.l0.viol.map m }
      l1 := { c.xl.l1 with viol := c.xl.l1.viol.map m } } }

/-- An offset rounded to the nearest whole multiple of the tick period, ties toward zero (R99). -/
def stepOf (o : Int) (p : Nat) : Int :=
  let q := o.tdiv p
  let r := o - q * p
  (if (p : Int) < 2 * r then q + 1 else if 2 * r < -(p : Int) then q - 1 else q) * p

/-! The servo (R100, R101) -/

/-- A value held within ±`m`. -/
def clampTo (m : Int) (v : Int) : Int := max (-m) (min v m)

/-- R100 with offset `o`. DESIGN CHOICE (log entry 85): the offset shown is the one the servo used, after the stepping sample the residual o − s. -/
def TimeBlk.servo (t : TimeBlk) (o : Int) : TimeBlk :=
  let f := clampTo 250000 (t.f + o / 64)
  { t with offset := o, f := f, rate := clampTo 250000 (f + o / 2), lastApplied := some t.bk }

/-- The jump threshold, ns. -/
def TimeBlk.jumpNs (t : TimeBlk) : Int := t.jump * 1000

/-- A sample in a state other than FREE (Table 3-7): refused beyond the limit, else used. -/
def TimeBlk.correct (t : TimeBlk) (o : Int) : TimeBlk :=
  let j := t.jumpNs
  let limit := if t.dstate = .settling then ((periodNs t.period / 2 : Nat) : Int) + j else j
  if limit < o.natAbs then { t with flag := t.flag.raise 0 }
  else { t.servo o with dstate := if t.dstate = .settling && j < o.natAbs then .settling else .locked }

/-- An agreed sample is applied (R98, R99): only the source in use moves the time base. -/
def Chan.applySample (c : Chan) (x : DSample) : Chan :=
  let c := { c with tb := { c.tb with lastValid := modAt (fun _ => some c.tb.c) (x.src - 1) c.tb.lastValid } }
  if x.src ≠ c.tb.used then c
  else if c.tb.dstate = .free then
    let d := stepOf x.o c.period
    let c := c.shift d
    { c with tb := ({ c.tb with dstate := .settling }).correct (x.o - d) }
  else { c with tb := c.tb.correct x.o }

/-! Sample numbering (R98) -/

/-- Sources that a setting of Table 3-6 names. -/
def sourcesOf : Nat → List Nat
  | 1 => [1] | 2 => [2] | 3 => [1, 2] | 4 => [3] | 5 => [4] | 6 => [3, 4] | _ => []

/-- Insert a sample in order of owner stamp, then source; each once. -/
def sampleInsert (x : DSample) : List DSample → List DSample
  | [] => [x]
  | y :: ys =>
    if x = y then y :: ys
    else if x.stamp < y.stamp || (x.stamp == y.stamp && x.src < y.src) then x :: y :: ys
    else y :: sampleInsert x ys

/-- The numbered samples of a capture boundary: those that any reporting channel in reach holds, the first 64 (R98; log entry 79). -/
def State.samplesAt (s : State) (ch : Ch) (cap : Nat) : List DSample :=
  let srcs := sourcesOf (s.chan ch).tb.src
  let all := ((s.members ch).filter (fun p => s.reach p ch 1)).flatMap (fun p => (s.chan p).tb.held.filter (fun (x : DSample) => x.cap == cap && srcs.contains x.src))
  (all.foldl (fun (l : List DSample) x => sampleInsert x l) []).take 64

/-- SAMPLES: bit n for each numbered sample this channel holds. -/
def samplesWord (held : List DSample) (l : List DSample) : W64 :=
  (l.zipIdx).foldl (fun (w : W64) (x : DSample × Nat) => if held.contains x.1 then w ||| (1#64 <<< x.2) else w) 0#64

/-- The modes in which samples are used (Table 3-9): not M3 and M6. -/
def disciplined (m : Mode) : Bool := !(m = .m3 || m = .m6)

/-- Step 2 of R104 and the servo: samples that every reporting channel announced a boundary ago are applied, the others dropped. A channel
that is OUT reports no more and does neither (R98). -/
def State.discipline (s : State) (ch : Ch) : State :=
  let c := s.chan ch
  let peers := (s.members ch).filter (fun p => p ≠ ch)
  let all (n : Nat) : Bool := c.tb.smpOwn.getLsbD n && peers.all (fun p => ((c.prevOf ch p).map (fun m => m.samples.getLsbD n)).getD false)
  s.upd ch (fun c =>
    let c := if disciplined c.sys.mode && c.sys.cstate.present then
        (c.tb.smpList.zipIdx).foldl (fun (c : Chan) (x : DSample × Nat) =>
          if all x.2 then c.applySample x.1 else { c with tb := { c.tb with flag := c.tb.flag.raise 4 } }) c
      else c
    { c with tb := { c.tb with held := c.tb.held.filter (fun (x : DSample) => decide (c.tb.c ≤ x.cap + 4)) } })

/-! The source in use (R502) -/

/-- One interval of a source, ns: the Sync interval of the plane's master as class 2 brings it from the owner (1 s without one), or 1,024
cycles. -/
def State.intervalOf (s : State) (ch : Ch) (src : Nat) : Nat :=
  let sync (own : Ch) : Nat :=
    match (if s.reach own ch 2 then (s.chan own).ecn.sel else none) with
    | some m => if 0 ≤ m.logSync then nsPerSec * 2 ^ m.logSync.toNat else nsPerSec / 2 ^ (-m.logSync).toNat
    | none => nsPerSec
  match src with
  | 1 => sync .A
  | 2 => sync .B
  | _ => 1024 * (s.chan ch).period

/-- After three intervals of the source in use without a valid sample, the other one is taken if it gave one within its own last three (R502). -/
def State.sourceChange (s : State) (ch : Ch) : State :=
  let c := s.chan ch
  let t := c.tb
  if !(t.src = 3 || t.src = 6) || !disciplined c.sys.mode then s
  else
    let other := match t.used with | 1 => 2 | 2 => 1 | 3 => 4 | _ => 3
    let since := max t.usedAt ((atD none (t.used - 1) t.lastValid).getD 0)
    let dead := 3 * s.intervalOf ch t.used ≤ (t.c - since) * c.period
    let alive := match atD none (other - 1) t.lastValid with
      | some v => decide ((t.c - v) * c.period < 3 * s.intervalOf ch other)
      | none => false
    if dead && alive then s.upd ch (fun c => { c with tb := { c.tb with used := other, usedAt := c.tb.c } }) else s

/-! The trim (R95, R96) -/

/-- The trim from the marks of the boundary before; early marks are those of the present one (R95). A mark after the judgement instant is
left out of the trim, and its skew counts for the alarm and for the fault all the same (R96). -/
def TimeBlk.newTrim (t : TimeBlk) : TimeBlk :=
  let m : Option Int := match t.mark0, t.mark1 with
    | some a, some b => some (medianInt [0, a, b])
    | some a, none => some (a / 2)
    | none, some b => some (b / 2)
    | none, none => none
  let alarm (x : Option Int) : Bool := match x with | some v => decide (1000 < v.natAbs) | none => false
  let run (x : Option Int) (n : Nat) : Nat := match x with
    | some v => if 4000 < v.natAbs then n + 1 else 0
    | none => n
  { t with
    trim := match m with | some v => clampTo 50000 (-100 * v) | none => t.trim
    flag := (t.flag.raiseIf (alarm (t.mark0 <|> t.late0)) 3).raiseIf (alarm (t.mark1 <|> t.late1)) 3
    skewRun0 := run (t.mark0 <|> t.late0) t.skewRun0
    skewRun1 := run (t.mark1 <|> t.late1) t.skewRun1
    late0 := none
    late1 := none
    mark0 := t.early0
    mark1 := t.early1
    early0 := none
    early1 := none }

/-- A peer beyond 4 µs at 8 boundaries is noticed (R96). -/
def Chan.skewFaults (c : Chan) (ch : Ch) : Chan :=
  let c := if 8 ≤ c.tb.skewRun0 && c.sys.mode.speaks then c.accuse (chNext ch) 0x07 else c
  if 8 ≤ c.tb.skewRun1 && c.sys.mode.speaks then c.accuse (chPrev ch) 0x07 else c

/-- The sum of rate and trim reached its limit (R93). -/
def TimeBlk.limited (t : TimeBlk) : TimeBlk :=
  if 300000 ≤ (t.rate + t.trim).natAbs then { t with flag := t.flag.raise 1 } else t

/-- Steps 2 and 3 of R104. -/
def State.timeStep (s : State) (ch : Ch) : State :=
  let s := ((s.discipline ch).sourceChange ch)
  s.upd ch (fun c => ({ c with tb := c.tb.newTrim.limited }).skewFaults ch)

/-- DISCIPLINE_HOLDOVER (R99): no sample applied for 4 s in SETTLING or LOCKED. -/
def execDisciplineHoldover (ch : Ch) (s : State) : Out :=
  onChan s ch (fun c =>
    let due := match c.tb.lastApplied with
      | some b => decide (b + 4000000000 ≤ c.now)
      | none => false
    if c.up && due && (c.tb.dstate = .settling || c.tb.dstate = .locked) then
      { c with tb := { c.tb with dstate := .holdover, rate := c.tb.f, flag := c.tb.flag.raise 2 } }
    else c)

end Sys2Proof.Machine
end

