-- ==== Sys2Proof/Machine/Agree.lean ====
section
/-! DEFINITION. The mode at a boundary: take-outs, composition, proposals and commands, and what a mode change does (R48 to R56, R191 to R193, R332, R499). -/

namespace Sys2Proof.Machine
open Sys2Proof

/-! Isolation (R34, R499) -/

/-- Both of a channel's own link ends are down. -/
def Chan.isolated (c : Chan) : Bool := !c.xl.l0.up && !c.xl.l1.up

/-- The channels that agree with `ch` on a mode: an isolated channel stands alone. -/
def State.agreers (s : State) (ch : Ch) : List Ch := if (s.chan ch).isolated then [ch] else s.members ch

/-- A peer that the other two see isolated is noticed with cause 0x06, and an isolated channel gives that notice against itself (Table 6-5). -/
def State.isolation (s : State) (ch : Ch) : State :=
  let s := if (s.chan ch).isolated && (s.chan ch).vote.out.get ch = 0 then s.upd ch (fun c => c.accuse ch 0x06) else s
  [chNext ch, chPrev ch].foldl (fun (s : State) p =>
    let q := third ch p
    if s.linked ch q && !s.linked ch p && !s.linked q p && (s.chan ch).vote.out.get p = 0 && ((s.chan ch).lastOf ch p).isSome then
      s.upd ch (fun c => c.accuse p 0x06)
    else s) s

/-! Take-outs (R191, R192) -/

/-- The notices a channel put in its message of the boundary before. -/
def Chan.noticesOf (c : Chan) (ch x : Ch) : List Notice := if x = ch then c.vote.sentNotices else ((c.prevOf ch x).map (·.notices)).getD []

/-- Causes a channel gave against `p`. -/
def Chan.causesFrom (c : Chan) (ch x p : Ch) : List Nat := ((c.noticesOf ch x).filter (fun (n : Notice) => n.accused == p)).map (·.cause)

/-- The channel was counted in the vote at the boundary before, whose notices act now (R178, R191). -/
def Chan.countedBefore (c : Chan) (ch x : Ch) : Bool :=
  if x = ch then c.vote.sentCounted else ((c.prevOf ch x).map (fun (m : BMsg) => !m.resync && !m.lag)).getD false

/-- The cause for which `p` is taken out at this boundary, 0 for none: its own notice, or one cause that both other counted channels give.
A channel that left VOTING by itself is only recorded. -/
def State.takeCause (s : State) (ch p : Ch) : Nat :=
  let c := s.chan ch
  if c.vote.out.get p ≠ 0 then 0
  else
    let own := c.causesFrom ch p p
    let others := (s.members ch).filter (fun x => x ≠ p && c.countedBefore ch x)
    let left := !(s.view p).present
    match own with
    | n :: _ => n
    | [] =>
      match others with
      | [x, y] =>
        let a := c.causesFrom ch x p
        let b := c.causesFrom ch y p
        match a.find? (fun n => b.contains n) with
        | some n => n
        | none => if left then (if (a ++ b).contains 8 then 8 else ((a ++ b).foldl (fun m n => if m = 0 then n else min m n) 0)) else 0
      | [x] => if left then ((c.causesFrom ch x p).head?).getD 0 else 0
      | _ => 0

/-- The channel is taken out (R39, R49, R192): its transistors are released and it is OUT. -/
def Chan.goOut (c : Chan) : Chan := c.safeShutdown.toOut

/-- Inputs from the ports of a channel that is out are no longer fresh: its items are held no more (R39). -/
def Chan.forgetPorts (c : Chan) (p : Ch) : Chan := { c with sl := { c.sl with items := c.sl.items.filter (fun i => i.owner != p) } }

/-- A channel is taken out in the eyes of `ch` (one that R499 has made SAFE by itself stays SAFE; DEDUCED, log entry 95): recorded, its bridge targets dropped, and a resynchronisation that needs it ended. -/
def Chan.recordOut (c : Chan) (ch p : Ch) (cause : Nat) : Chan :=
  let c := ({ c with vote := { c.vote with out := c.vote.out.set p cause } }).logVote cause (chCode p)
  if p = ch then (if c.isolated && c.sys.cstate = .safe then c else c.goOut)
  else
    let c := (c.bridgeLost p).forgetPorts p
    let c : Chan := if c.vote.run.map (fun (r : RsRun) => r.src) == some p then c.resyncFailed ch else c
    { c with vote := { c.vote with
        serving := c.vote.serving.filter (fun x => x.1 != p)
        other := c.vote.other.filter (fun x => x.1 != p) } }

/-- The take-outs of a boundary, in the modes whose messages carry notices (Table 6-7). -/
def State.takeOuts (s : State) (ch : Ch) : State :=
  if !(s.chan ch).sys.mode.speaks then s
  else
    let causes := allCh.map (fun p => (p, s.takeCause ch p))
    causes.foldl (fun (s : State) x => if x.2 = 0 then s else s.upd ch (fun c => c.recordOut ch x.1 x.2)) s

/-! Proposals (R50 to R52) -/

/-- Order of R52: M11, M10 by a fault, M8 by a channel loss, then commanded modes (M10 by STOP is one) and the rest. -/
def Proposal.rank (p : Proposal) : Nat :=
  match p.mode with
  | .m0 => 0
  | .m11 => 1
  | .m10 => if p.cause = 0x01 then 5 else 2
  | .m8 => if p.cause = 0x03 then 3 else 5
  | _ => 5

/-- The first of two proposals: the better rank, then the lower cause. -/
def Proposal.first (a b : Proposal) : Proposal :=
  if b.rank < a.rank || (b.rank == a.rank && b.mode == a.mode && b.cause < a.cause) then b else a

/-- The proposal of a list of triggers. -/
def bestOf : List Proposal → Option Proposal
  | [] => none
  | p :: ps => some (ps.foldl Proposal.first p)

/-- The transitions of Table 2-3. -/
def transOk (a b : Mode) : Bool :=
  match a, b with
  | .m5, .m7 | .m5, .m8 | .m7, .m5 | .m8, .m5 | .m7, .m8 => true
  | .m5, .m10 | .m6, .m10 | .m7, .m10 | .m8, .m10 => true
  | .m5, .m11 | .m6, .m11 | .m7, .m11 | .m8, .m11 | .m9, .m11 | .m10, .m11 => true
  | .m10, .m1 | .m3, .m1 | .m4, .m1 | .m9, .m1 | .m11, .m1 => true
  | .m10, .m4 | .m4, .m9 | .m10, .m9 => true
  | _, _ => false

/-- Two held commands are the same one. -/
def PendCmd.same (a b : PendCmd) : Bool := a.kind == b.kind && a.value == b.value && a.c == b.c && a.time == b.time && a.origin == b.origin

/-- Mode commands due at boundary `c` that any agreeing channel holds. -/
def State.dueCmds (s : State) (ch : Ch) : List PendCmd :=
  ((s.agreers ch).filter (fun p => s.reach p ch 1)).flatMap (fun p => (s.chan p).sys.cmds.filter (fun (x : PendCmd) => x.kind == 0 && x.c + 2 == (s.chan ch).tb.c))

/-- Of two commands the one received first; ties in the order A, B, C (R55). -/
def PendCmd.earlier (a b : PendCmd) : PendCmd :=
  if b.time < a.time || (b.time == a.time && chCode b.origin < chCode a.origin) then b else a

/-- The command taken at this boundary among those legal in the mode in force. DESIGN CHOICE (log entry 78): a command that is not legal
is rejected before the earliest is chosen, so it does not shut out a later legal one. -/
def State.winner (s : State) (ch : Ch) : Option PendCmd :=
  match (s.dueCmds ch).filter (fun (x : PendCmd) => cmdLegal x.value (s.chan ch).sys.mode) with
  | [] => none
  | x :: xs => some (xs.foldl PendCmd.earlier x)

/-- The proposal of channel `p` as `ch` counts it: a fault first, then the command that `p` holds, then the rest. What `p` holds is
known to `ch` only while class 1 runs between them (log entry 79). -/
def State.propOf (s : State) (ch p : Ch) : Option Proposal :=
  let m := if p = ch then (s.chan ch).sys.myProp else ((s.chan ch).prevOf ch p).bind (·.prop)
  let cmd := (s.winner ch).filter (fun w => s.reach p ch 1 && (s.chan p).sys.cmds.any (fun x => x.same w))
  match m, cmd with
  | some q, some w => some (if q.rank ≤ 3 then q else cmdTarget w.value)
  | none, some w => some (cmdTarget w.value)
  | m, none => m

/-- How many channels must propose a mode (R50). -/
def needed (old new : Mode) (n : Nat) : Nat :=
  if old.runs then
    (if n = 2 && (new = .m10 || new = .m11) then 1 else if n ≤ 1 then 1 else 2)
  else if old = .m10 || old = .m11 then (if n ≤ 1 then 1 else 2)
  else 2

/-- The first in the order of R52 of the proposals that enough channels make (R50, R51). -/
def State.agreed (s : State) (ch : Ch) (ps : List Proposal) : Option Proposal :=
  let old := (s.chan ch).sys.mode
  let n := (s.agreers ch).length
  bestOf (ps.filter (fun p => transOk old p.mode && needed old p.mode n ≤ (ps.filter (fun q => q.mode == p.mode)).length))

/-- A change as the module makes it: with the lowest cause among the proposals of its mode (R50). -/
def Proposal.merged (p : Proposal) (ps : List Proposal) : Proposal :=
  { p with cause := (ps.filter (fun q => q.mode == p.mode)).foldl (fun n q => min n q.cause) p.cause }

/-- The change that the composition of the module makes (R48, R193). -/
def State.composed (s : State) (ch : Ch) : Option Proposal :=
  let n := (s.members ch).length
  match (s.chan ch).sys.mode with
  | .m7 => if n ≤ 1 then some ⟨.m10, 0x03⟩ else if n = 2 then some ⟨.m8, 0x03⟩ else none
  | .m5 | .m6 | .m8 => if n ≤ 1 then some ⟨.m10, 0x03⟩ else none
  | _ => none

/-- The change at a boundary: what the proposals make or what the composition makes, whichever R52 puts first; an isolated channel stands
alone and has no composition. -/
def State.chosen (s : State) (ch : Ch) (ps : List Proposal) : Option Proposal :=
  match s.agreed ch ps, (if (s.chan ch).isolated then none else s.composed ch) with
  | some p, some q => some (if p.first q = p then p.merged ps else q)
  | some p, none => some (p.merged ps)
  | none, q => q

/-! What a mode change does (R54, R162, R332) -/

/-- The channel state of a mode (Table 2-1). -/
def Mode.cstate : Mode → CState
  | .m3 => .loading
  | .m4 => .config
  | .m5 | .m6 | .m7 | .m8 => .voting
  | .m9 => .maint
  | .m10 => .safe
  | .m11 => .locked
  | .m0 => .off
  | .m1 => .held
  | .m2 => .ready

/-- Triggers that outlast a mode change: a fault that compels a safer mode than the new one. -/
def keepTriggers (new : Mode) (l : List Proposal) : List Proposal :=
  l.filter (fun p => (p.mode == .m11 && new != .m11) || (p.mode == .m10 && !new.stopped))

/-- The channel's networks at entry to M9, M10 or M11 (Table 2-1, R179, R332, R333, R499). -/
def Chan.enterSafe (c : Chan) (m : Mode) (off : Bool) : Chan :=
  let c := if off || m = .m11 then c.releaseAll else c.safeStates
  c.mapNets (fun _ n => n.stopTimer)

/-- What a channel that is not OUT does when a mode takes effect. -/
def Chan.enter (c : Chan) (old : Mode) (m : Mode) (off : Bool) : Chan :=
  let frozen := m.stopped && (c.vote.frozenAbstain || (old.runs && c.vote.state != .voting))
  let vstate : VState := if !m.runs then .notVoting else if old.runs then c.vote.state else .voting
  let c := { c with
    sys := { c.sys with cstate := m.cstate, m10At := if m = .m10 then some c.mram.opsec else none }
    vote := { c.vote with
      state := vstate
      frozenAbstain := frozen
      conf := if m.stopped && old.runs then c.vote.confPrev && !frozen else c.vote.conf
      run := if m.runs then c.vote.run else none
      tail := if m.runs then c.vote.tail else none
      serving := if m.runs then c.vote.serving else none
      other := if m.runs then c.vote.other else none } }
  let c := if m.stopped then (c.dropAll.dropGate).enterSafe m (off || frozen) else c
  match m with
  | .m3 => { c.releaseAll with mram := { c.mram with recovery := false }, upd := { c.upd with quietAt := c.now } }
  | .m4 => { c.releaseAll with cells := c.cells.map CellSt.idleLoop }
  | .m9 => { c with dbg := { DebugBlk.init with flag := c.dbg.flag, logged := c.dbg.logged } }
  | _ => c

/-- State writes that no release will apply any more are rejected (R375). -/
def State.dropWrites (s : State) (ch : Ch) : State :=
  let ws := (s.chan ch).dict.writes
  let s := s.upd ch (fun c => { c with dict := { c.dict with writes := [] } })
  ws.foldl (fun (s : State) (w : StateWrite) =>
    if w.origin = ch && w.via.isSome then (s.upd ch Chan.conflict).answer ch w.via w.tag 1 (refusedAt w.n 0 abState) else s) s

/-- A mode takes effect in a channel: registers, state, networks, pair, ring, change function, snapshot. -/
def State.enterMode (s : State) (ch : Ch) (p : Proposal) (off : Bool) : State :=
  let old := (s.chan ch).sys.mode
  let v := s.chanView
  let s := s.upd ch (fun c =>
    let c := c.setMode p.mode p.cause v
    let c := { c with vote := { c.vote with own := 1#3 <<< chCode ch } }
    let c := { c with sys := { c.sys with decided := none, triggers := keepTriggers p.mode c.sys.triggers } }
    let c := if c.sys.cstate = .out then c else c.endTest.enter old p.mode off
    let c := if chgMode old && !chgMode p.mode then c.changeEnds else c
    let c := if fwdMode p.mode then c else { c with upd := { c.upd with recv := [], sends := [] } }
    (c.pairMode old p.mode).ringModeChange ch)
  let s := if p.mode.stopped then s.dropWrites ch else s
  let s := if p.mode = .m4 && s.seqCh = some ch && (s.chan ch).cfgF 0x1040 5 then
      s.enqueue ⟨[addrEntry 0x1040 5 (leB 1 0)], [], ch, none, 0#8, 1⟩
    else s
  s.sendSnapshot ch

/-- The commands that channel `o` received and that boundary `cc` does not answer are rejected: the mode changes before they take effect (R55). -/
def State.rejectLeft (s : State) (o : Ch) (cc : Nat) : State :=
  ((s.chan o).sys.cmds.filter (fun (x : PendCmd) => x.origin == o && !(x.kind == 0 && x.c + 2 == cc))).foldl
    (fun (s : State) (x : PendCmd) => s.refuseOne o x.via x.tag abState) s

/-- M1 at a running tick: commands are answered, what MRAM keeps is stored, and every channel goes through a full start (R55, R56, R500);
an isolated channel beside running ones stays HELD until the next start of the module (R499). -/
def State.toHeld (s : State) (ch : Ch) (cause : Nat) (recover : Bool) : State :=
  let cc := (s.chan ch).tb.c
  let s := allCh.foldl (fun (s : State) o => s.rejectLeft o cc) s
  let alone := (s.chan ch).isolated && allCh.any (fun p => p != ch && s.view p == .voting)
  let keep (c : Chan) : Chan := { c with
    mram := { c.mram with
      restarts := if cause = 0x08 then c.mram.restarts.filter (fun t => decide (c.mram.opsec < t + 3600)) ++ [c.mram.opsec] else c.mram.restarts
      recovery := c.mram.recovery || recover }
    field := if c.sys.mode = .m11 then { c.field with made := satInc c.field.made } else c.field }
  if alone then
    s.upd ch (fun c =>
      let h := (keep c).held
      { h with sys := { h.sys with barred := true, mode := .m1, cause := cause } })
  else (s.updAll (fun _ c => if c.up then keep c else c)).fullStart cause

/-! Commands at a boundary (R55) -/

/-- Answer the commands of a kind that channel `o` received and that are due at boundary `cc`: those of the taken value are acknowledged, the others rejected. -/
def State.answerCmds (s : State) (o : Ch) (kind cc : Nat) (taken : Option Nat) : State :=
  ((s.chan o).sys.cmds.filter (fun (x : PendCmd) => x.origin == o && x.kind == kind && x.c + 2 == cc)).foldl (fun (s : State) (x : PendCmd) =>
    if taken = some x.value then s.answer o x.via x.tag 0 (servedAll 1) else s.refuseOne o x.via x.tag abState) s

/-- The value of the command that takes effect: the change that is made carries its mode and its cause. A fault of the same mode whose
cause the module takes, or a safer mode, rejects it (R52; DEDUCED, log entry 78). -/
def State.takenCmd (s : State) (ch : Ch) (chosen : Option Proposal) : Option Nat :=
  match s.winner ch, chosen with
  | some w, some p => if p = cmdTarget w.value then some w.value else none
  | _, _ => none

/-- Own proposals of M10 or M11 that the module does not follow: the channel cannot follow (R51). -/
def Chan.cannotFollow (c : Chan) (ch : Ch) (chosen : Option Proposal) : Chan :=
  match c.sys.myProp with
  | none => c
  | some p =>
    let safer := (p.mode = .m11 && p.cause ≠ 0x0C) || p.mode = .m10
    let followed := match chosen with
      | some q => q.mode == p.mode || q.mode == .m11
      | none => false
    if !safer || followed || c.sys.mode = p.mode || c.sys.mode = .m11 || c.sys.cstate = .out then c
    else if c.sys.mode.runs then c.accuse ch 0x09
    else c.goOut

/-- The rows of M10 and M11 in Table 2-2 are met: a channel SAFE with none VOTING, or one LOCKED. -/
def State.safeHeld (s : State) : Bool :=
  allCh.any (fun p => s.view p == .locked) || (allCh.any (fun p => s.view p == .safe) && !(allCh.any (fun p => s.view p == .voting)))

/-- Channels lost to HELD (Table 2-3, last row): fewer than two are outside OFF and HELD, and the module is not M10 or M11; two channels
that flushed take it through M1 all the same (R57). -/
def State.channelsLost (s : State) : Bool :=
  decide (s.countSt (fun x => x != .off && x != .held) < 2) &&
    (!s.safeHeld || decide (2 ≤ (allCh.filter (fun p => (s.chan p).sys.flushed)).length))

/-- The last channel goes to HELD with its commands rejected, the module mode follows the states, and a feed that is back starts the
module again (R48, R55, R57, Table 2-3). -/
def State.lostToHeld (s : State) (ch : Ch) : State :=
  let s := (s.answerCmds ch 0 (s.chan ch).tb.c none).rejectLeft ch (s.chan ch).tb.c
  ((s.upd ch (fun c =>
    let h := c.held
    { h with sys := { h.sys with barred := true } })).remode).flushStart

/-- The mode at a boundary: take-outs, then the loss of channels, the isolation of R499, composition and agreement. A channel in the
power-fail flush goes to HELD when its flush ends (R57). -/
def State.modeStep (s : State) (ch : Ch) : State :=
  let s := s.takeOuts ch
  let c := s.chan ch
  let cc := c.tb.c
  if s.channelsLost then (if c.sys.flushing then s else s.lostToHeld ch)
  else if c.sys.mode.runs && c.isolated && c.sys.cstate ≠ .out then
    (s.answerCmds ch 0 cc none).enterMode ch ⟨.m10, 0x04⟩ true
  else
    let ps := (s.agreers ch).filterMap (fun p => s.propOf ch p)
    let chosen := s.chosen ch ps
    let taken := s.takenCmd ch chosen
    match chosen with
    | none => ((s.answerCmds ch 0 cc none).upd ch (fun c => c.cannotFollow ch none))
    | some p =>
      if p.mode = .m1 then (allCh.foldl (fun (s : State) o => s.answerCmds o 0 cc taken) s).toHeld ch p.cause (taken = some 5)
      else
        let s := (s.answerCmds ch 0 cc taken).upd ch (fun c => c.cannotFollow ch (some p))
        s.enterMode ch p false

/-- The first boundary after the start decision: the decided mode takes effect (R105). -/
def State.firstMode (s : State) (ch : Ch) : State :=
  match (s.chan ch).sys.decided with
  | some p => s.enterMode ch p false
  | none => s

/-! Change, reset and sync commands at a boundary (R201, R344, R361) -/

/-- One due command of another kind than a mode command, in one channel: whether it takes effect. -/
def Chan.takeOther (c : Chan) (x : PendCmd) : Chan × Bool :=
  match x.kind with
  | 1 =>
    if chgMode c.sys.mode && c.chg.state.permits x.value then (c.applyChg x.value, true) else (c, false)
  | 2 =>
    if c.sys.mode = .m11 && c.sys.cstate = .locked && c.field.win.isNone then
      ({ c with field := { c.field with win := some ⟨c.tb.bk, c.tb.bk + 5000000000, none, false, false⟩, accepted := satInc c.field.accepted } }, true)
    else (c, false)
  | _ => if sdMode c.sys.mode then ({ c with sd := { c.sd with syncNext := true } }, true) else (c, false)

/-- The due commands of kinds 1 to 3 that channel `ch` holds: of each kind the first received, with later ones of its value (R55). -/
def State.otherCmds (s : State) (ch : Ch) : State :=
  [1, 2, 3].foldl (fun (s : State) k =>
    let due := (s.chan ch).sys.cmds.filter (fun (x : PendCmd) => x.kind == k && x.c + 2 == (s.chan ch).tb.c)
    match due with
    | [] => s
    | x :: xs =>
      let w := xs.foldl PendCmd.earlier x
      let r := (s.chan ch).takeOther w
      (s.upd ch (fun _ => r.1)).answerCmds ch k (s.chan ch).tb.c (if r.2 then some w.value else none)) s

end Sys2Proof.Machine
end

