-- ==== Sys2Proof/Machine/Rv32.lean ====
section
/-! DEFINITION. The instruction set of the cores: RV32IMC with Zicsr, Zifencei and Xtok decoded from its bits, and the cores running their
programs in the clocks in which no command waits (R109, R114, R125, R126). Formats and meanings of the base set: RISC-V unprivileged 2.1. -/

namespace Sys2Proof.Machine
open Sys2Proof

/-! Decoding -/

/-- A decoded instruction. An offset or immediate stands sign-extended. -/
inductive Op where
  | lui (rd : Nat) (v : Word)
  | auipc (rd : Nat) (v : Word)
  | jal (rd : Nat) (ofs : Word)
  | jalr (rd rs1 : Nat) (ofs : Word)
  | branch (f3 rs1 rs2 : Nat) (ofs : Word)
  | load (n : Nat) (signed : Bool) (rd rs1 : Nat) (ofs : Word)
  | store (n rs1 rs2 : Nat) (ofs : Word)
  /-- Register and immediate: funct3, and bit 30 where it selects the arithmetic shift. -/
  | opImm (f3 : Nat) (alt : Bool) (rd rs1 : Nat) (v : Word)
  /-- Register and register: funct3, and bit 30 where it selects SUB or the arithmetic shift. -/
  | op (f3 : Nat) (alt : Bool) (rd rs1 rs2 : Nat)
  /-- The M extension, by funct3. -/
  | mul (f3 rd rs1 rs2 : Nat)
  | fence
  | fenceI
  | ecall
  | ebreak
  | mret
  | wfi
  /-- Zicsr: funct3, destination, source register or immediate, CSR number. -/
  | csr (f3 rd rs1 n : Nat)
  /-- An Xtok instruction: funct3 of custom-0, or funct3 + 8 of custom-1. -/
  | xtok (f : Nat) (f7 rd rs1 rs2 : Nat) (imm : BitVec 12)
deriving DecidableEq, Repr

/-- Bits `hi` to `lo` of a word. -/
def fld (w hi lo : Nat) : Nat := w / 2 ^ lo % 2 ^ (hi + 1 - lo)

/-- An `n`-bit two's complement field as a word. -/
def sx (n v : Nat) : Word := if v < 2 ^ (n - 1) then BitVec.ofNat 32 v else BitVec.ofNat 32 v - BitVec.ofNat 32 (2 ^ n)

/-- The R-format operations of custom-0 (Table 4-10): funct7, and whether rs2, rs1 and rd must be x0. -/
def xtokRows : List (Nat × Bool × Bool × Bool) :=
  [(0x00, false, false, true), (0x01, true, false, true), (0x02, true, false, false), (0x03, true, false, false),
   (0x08, true, true, false), (0x09, true, true, true), (0x0A, true, true, true), (0x0B, true, true, false),
   (0x18, true, true, false), (0x19, true, false, false)]

/-- An Xtok instruction (R125): any other combination of opcode, funct3 and funct7, and a nonzero field marked x0, is illegal. -/
def decodeXtok (w : Nat) : Option Op :=
  let f3 := fld w 14 12
  let rd := fld w 11 7
  let rs1 := fld w 19 15
  let rs2 := fld w 24 20
  let f7 := fld w 31 25
  if fld w 6 0 = 0x0B then
    if f3 ≤ 3 then some (.xtok f3 0 rd rs1 0 (BitVec.ofNat 12 (fld w 31 20)))
    else if f3 = 4 then (if rs1 = 0 then some (.xtok 4 0 rd rs1 0 (BitVec.ofNat 12 (fld w 31 20))) else none)
    else if f3 = 7 then
      match xtokRows.find? (fun r => r.1 == f7) with
      | some (_, z2, z1, zd) => if (z2 && rs2 != 0) || (z1 && rs1 != 0) || (zd && rd != 0) then none else some (.xtok 7 f7 rd rs1 rs2 0#12)
      | none => none
    else none
  else if f3 ≤ 1 then some (.xtok (8 + f3) 0 0 rs1 rs2 (BitVec.ofNat 12 (f7 * 32 + rd)))
  else none

/-- Size and sign of a load by funct3. -/
def loadKind (f3 : Nat) : Option (Nat × Bool) :=
  match f3 with
  | 0 => some (1, true) | 1 => some (2, true) | 2 => some (4, true) | 4 => some (1, false) | 5 => some (2, false) | _ => none

/-- The system instructions: ECALL, EBREAK, MRET, WFI, and the CSR instructions. -/
def decodeSystem (w : Nat) : Option Op :=
  let f3 := fld w 14 12
  if f3 = 0 then
    (match w with
      | 0x00000073 => some .ecall
      | 0x00100073 => some .ebreak
      | 0x30200073 => some .mret
      | 0x10500073 => some .wfi
      | _ => none)
  else if f3 = 4 then none
  else some (.csr f3 (fld w 11 7) (fld w 19 15) (fld w 31 20))

/-- Integer register operations with an immediate. -/
def decodeOpImm (w : Nat) : Option Op :=
  let f3 := fld w 14 12
  let f7 := fld w 31 25
  let go (alt : Bool) (v : Word) : Option Op := some (.opImm f3 alt (fld w 11 7) (fld w 19 15) v)
  if f3 = 1 then (if f7 = 0 then go false (BitVec.ofNat 32 (fld w 24 20)) else none)
  else if f3 = 5 then
    (if f7 = 0 then go false (BitVec.ofNat 32 (fld w 24 20)) else if f7 = 32 then go true (BitVec.ofNat 32 (fld w 24 20)) else none)
  else go false (sx 12 (fld w 31 20))

/-- Register and register operations, M included. -/
def decodeOp (w : Nat) : Option Op :=
  let f3 := fld w 14 12
  let f7 := fld w 31 25
  if f7 = 0 then some (.op f3 false (fld w 11 7) (fld w 19 15) (fld w 24 20))
  else if f7 = 32 && (f3 = 0 || f3 = 5) then some (.op f3 true (fld w 11 7) (fld w 19 15) (fld w 24 20))
  else if f7 = 1 then some (.mul f3 (fld w 11 7) (fld w 19 15) (fld w 24 20))
  else none

/-- A 32-bit instruction; none for an illegal one. -/
def decode32 (w : Nat) : Option Op :=
  let f3 := fld w 14 12
  let rd := fld w 11 7
  let rs1 := fld w 19 15
  let rs2 := fld w 24 20
  match fld w 6 0 with
  | 0x37 => some (.lui rd (BitVec.ofNat 32 (fld w 31 12 * 4096)))
  | 0x17 => some (.auipc rd (BitVec.ofNat 32 (fld w 31 12 * 4096)))
  | 0x6F => some (.jal rd (sx 21 (fld w 31 31 * 1048576 + fld w 19 12 * 4096 + fld w 20 20 * 2048 + fld w 30 21 * 2)))
  | 0x67 => if f3 = 0 then some (.jalr rd rs1 (sx 12 (fld w 31 20))) else none
  | 0x63 =>
    if f3 = 2 || f3 = 3 then none
    else some (.branch f3 rs1 rs2 (sx 13 (fld w 31 31 * 4096 + fld w 7 7 * 2048 + fld w 30 25 * 32 + fld w 11 8 * 2)))
  | 0x03 => (loadKind f3).map (fun x => .load x.1 x.2 rd rs1 (sx 12 (fld w 31 20)))
  | 0x23 => if f3 ≤ 2 then some (.store (2 ^ f3) rs1 rs2 (sx 12 (fld w 31 25 * 32 + rd))) else none
  | 0x13 => decodeOpImm w
  | 0x33 => decodeOp w
  | 0x0F => if f3 = 0 then some .fence else if f3 = 1 then some .fenceI else none
  | 0x73 => decodeSystem w
  | 0x0B => decodeXtok w
  | 0x2B => decodeXtok w
  | _ => none

/-- A register of the three-bit fields of the C extension. -/
def creg (w lo : Nat) : Nat := 8 + fld w (lo + 2) lo

/-- The word offset of C.LW and C.SW. -/
def clwOfs (w : Nat) : Word := BitVec.ofNat 32 (fld w 5 5 * 64 + fld w 12 10 * 8 + fld w 6 6 * 4)

/-- The six-bit immediate of the C extension, as a number. -/
def cimm (w : Nat) : Nat := fld w 12 12 * 32 + fld w 6 2

/-- The jump offset of C.J and C.JAL. -/
def cjOfs (w : Nat) : Word :=
  sx 12 (fld w 12 12 * 2048 + fld w 8 8 * 1024 + fld w 10 9 * 256 + fld w 6 6 * 128 + fld w 7 7 * 64 + fld w 2 2 * 32 + fld w 11 11 * 16 + fld w 5 3 * 2)

/-- Quadrant 0 of the C extension. -/
def decodeC0 (w : Nat) : Option Op :=
  match fld w 15 13 with
  | 0 =>
    let v := fld w 10 7 * 64 + fld w 12 11 * 16 + fld w 5 5 * 8 + fld w 6 6 * 4
    if v = 0 then none else some (.opImm 0 false (creg w 2) 2 (BitVec.ofNat 32 v))
  | 2 => some (.load 4 true (creg w 2) (creg w 7) (clwOfs w))
  | 6 => some (.store 4 (creg w 7) (creg w 2) (clwOfs w))
  | _ => none

/-- Quadrant 1 of the C extension. -/
def decodeC1 (w : Nat) : Option Op :=
  let rd := fld w 11 7
  let r := creg w 7
  match fld w 15 13 with
  | 0 => some (.opImm 0 false rd rd (sx 6 (cimm w)))
  | 1 => some (.jal 1 (cjOfs w))
  | 2 => some (.opImm 0 false rd 0 (sx 6 (cimm w)))
  | 3 =>
    if cimm w = 0 then none
    else if rd = 2 then
      some (.opImm 0 false 2 2 (sx 10 (fld w 12 12 * 512 + fld w 4 3 * 128 + fld w 5 5 * 64 + fld w 2 2 * 32 + fld w 6 6 * 16)))
    else some (.lui rd (sx 6 (cimm w) <<< (12 : Nat)))
  | 4 =>
    (match fld w 11 10 with
      | 0 => if fld w 12 12 = 1 then none else some (.opImm 5 false r r (BitVec.ofNat 32 (fld w 6 2)))
      | 1 => if fld w 12 12 = 1 then none else some (.opImm 5 true r r (BitVec.ofNat 32 (fld w 6 2)))
      | 2 => some (.opImm 7 false r r (sx 6 (cimm w)))
      | _ =>
        if fld w 12 12 = 1 then none
        else match fld w 6 5 with
          | 0 => some (.op 0 true r r (creg w 2))
          | 1 => some (.op 4 false r r (creg w 2))
          | 2 => some (.op 6 false r r (creg w 2))
          | _ => some (.op 7 false r r (creg w 2)))
  | 5 => some (.jal 0 (cjOfs w))
  | f =>
    some (.branch (f - 6) r 0 (sx 9 (fld w 12 12 * 256 + fld w 6 5 * 64 + fld w 2 2 * 32 + fld w 11 10 * 8 + fld w 4 3 * 2)))

/-- Quadrant 2 of the C extension. -/
def decodeC2 (w : Nat) : Option Op :=
  let rd := fld w 11 7
  let rs2 := fld w 6 2
  match fld w 15 13 with
  | 0 => if fld w 12 12 = 1 then none else some (.opImm 1 false rd rd (BitVec.ofNat 32 rs2))
  | 2 => if rd = 0 then none else some (.load 4 true rd 2 (BitVec.ofNat 32 (fld w 3 2 * 64 + fld w 12 12 * 32 + fld w 6 4 * 4)))
  | 4 =>
    if fld w 12 12 = 0 then
      (if rs2 = 0 then (if rd = 0 then none else some (.jalr 0 rd 0#32)) else some (.op 0 false rd 0 rs2))
    else if rs2 = 0 then (if rd = 0 then some .ebreak else some (.jalr 1 rd 0#32))
    else some (.op 0 false rd rd rs2)
  | 6 => some (.store 4 2 rs2 (BitVec.ofNat 32 (fld w 8 7 * 64 + fld w 12 9 * 4)))
  | _ => none

/-- A 16-bit instruction; none for an illegal one. -/
def decode16 (w : Nat) : Option Op :=
  match fld w 1 0 with
  | 0 => decodeC0 w
  | 1 => decodeC1 w
  | _ => decodeC2 w

/-- An instruction of `len` octets. -/
def decodeOf (w len : Nat) : Option Op := if len = 2 then decode16 w else decode32 w

/-! Meanings of the base set -/

/-- Integer operations by funct3: ADD or SUB, SLL, SLT, SLTU, XOR, SRL or SRA, OR, AND. -/
def alu (f3 : Nat) (alt : Bool) (a b : Word) : Word :=
  match f3 with
  | 0 => if alt then a - b else a + b
  | 1 => a <<< (b.toNat % 32)
  | 2 => if a.toInt < b.toInt then 1#32 else 0#32
  | 3 => if a.toNat < b.toNat then 1#32 else 0#32
  | 4 => a ^^^ b
  | 5 => if alt then a.sshiftRight (b.toNat % 32) else a >>> (b.toNat % 32)
  | 6 => a ||| b
  | _ => a &&& b

/-- Multiplication and division by funct3; a division by 0 gives all ones and leaves the dividend, an overflow gives the dividend and 0. -/
def mulDiv (f3 : Nat) (a b : Word) : Word :=
  match f3 with
  | 0 => a * b
  | 1 => BitVec.ofInt 32 (a.toInt * b.toInt / 4294967296)
  | 2 => BitVec.ofInt 32 (a.toInt * b.toNat / 4294967296)
  | 3 => BitVec.ofNat 32 (a.toNat * b.toNat / 4294967296)
  | 4 => if b = 0#32 then 0xFFFFFFFF#32 else BitVec.ofInt 32 (a.toInt.tdiv b.toInt)
  | 5 => if b = 0#32 then 0xFFFFFFFF#32 else BitVec.ofNat 32 (a.toNat / b.toNat)
  | 6 => if b = 0#32 then a else BitVec.ofInt 32 (a.toInt.tmod b.toInt)
  | _ => if b = 0#32 then a else BitVec.ofNat 32 (a.toNat % b.toNat)

/-- A branch by funct3 is taken. -/
def taken (f3 : Nat) (a b : Word) : Bool :=
  match f3 with
  | 0 => a == b
  | 1 => a != b
  | 4 => decide (a.toInt < b.toInt)
  | 5 => decide (b.toInt ≤ a.toInt)
  | 6 => decide (a.toNat < b.toNat)
  | _ => decide (b.toNat ≤ a.toNat)

/-- A jump to an address: the retired instruction's next pc. -/
def CoreSt.jump (k : CoreSt) (dest : Word) : CoreSt := { k with pc := dest &&& 0xFFFFFFFE#32, instret := k.instret + 1#64 }.endStep

/-- The effect of an instruction of `len` octets that acts on its core alone; none for the others. -/
def CoreSt.plain (k : CoreSt) (len : Nat) : Op → Option CoreSt
  | .lui rd v => some ((k.setReg rd v).behind len)
  | .auipc rd v => some ((k.setReg rd (k.pc + v)).behind len)
  | .jal rd ofs => some ((k.setReg rd (k.pc + BitVec.ofNat 32 len)).jump (k.pc + ofs))
  | .jalr rd rs1 ofs => some ((k.setReg rd (k.pc + BitVec.ofNat 32 len)).jump (k.reg rs1 + ofs))
  | .branch f3 rs1 rs2 ofs => some (if taken f3 (k.reg rs1) (k.reg rs2) then k.jump (k.pc + ofs) else k.behind len)
  | .opImm f3 alt rd rs1 v => some ((k.setReg rd (alu f3 alt (k.reg rs1) v)).behind len)
  | .op f3 alt rd rs1 rs2 => some ((k.setReg rd (alu f3 alt (k.reg rs1) (k.reg rs2))).behind len)
  | .mul f3 rd rs1 rs2 => some ((k.setReg rd (mulDiv f3 (k.reg rs1) (k.reg rs2))).behind len)
  | _ => none

/-- MRET (privileged architecture 1.12): back to mepc with the saved privilege and interrupt enable. -/
def CoreSt.mret (k : CoreSt) : CoreSt :=
  { k with
    mie := k.mpie
    mpie := true
    user := !k.mppM
    mprv := k.mprv && k.mppM
    mppM := false }.jump k.mepc

/-- What a CSR instruction writes, by funct3 (RW, RS, RC and their immediate forms): none for a set or clear with source 0. -/
def CoreSt.csrWrite (k : CoreSt) (f3 rs1 : Nat) (old : Word) : Option Word :=
  let src := if 4 ≤ f3 then BitVec.ofNat 32 rs1 else k.reg rs1
  match f3 % 4 with
  | 1 => some src
  | 2 => if rs1 = 0 then none else some (old ||| src)
  | _ => if rs1 = 0 then none else some (old &&& ~~~ src)

/-- The state that an outcome answers, else the one before. -/
def nextOf (o : Out) (s : State) : State :=
  match o with
  | .next t => t
  | _ => s

/-- An Xtok instruction of a core: its command's meaning. -/
def State.runXtok (s : State) (ch : Ch) (h f f7 rd rs1 rs2 : Nat) (imm : BitVec 12) : State :=
  nextOf (match f with
    | 0 => execTkLdin ch h rd rs1 imm s
    | 1 => execTkLdfr ch h rd rs1 imm s
    | 2 => execTkLdrs ch h rd rs1 imm s
    | 3 => execTkLdso ch h rd rs1 imm s
    | 4 => execTkRdrel ch h rd rs1 imm s
    | 8 => execTkStout ch h rs1 rs2 imm s
    | 9 => execTkStrs ch h rs1 rs2 imm s
    | _ =>
      match f7 with
      | 0x00 => execTkTmstart ch h rs1 rs2 s
      | 0x01 => execTkTmstop ch h rs1 s
      | 0x02 => execTkTmel ch h rd rs1 s
      | 0x03 => execTkTmst ch h rd rs1 s
      | 0x08 => execTkNext ch h rd s
      | 0x09 => execTkSdone ch h s
      | 0x0A => execTkWait ch h s
      | 0x0B => execTkSid ch h rd s
      | 0x18 => execTkPtag ch h rd s
      | _ => execTkPchk ch h rd rs1 s) s

/-! Fetching (R112, R114, Table 4-1) -/

/-- The octet that a core fetches: the instruction cache's where it holds the address, else the one at the address. -/
def Chan.fetchByte (c : Chan) (h a : Nat) : Byte := (((c.core h).icache.find? (fun x => x.1 == a)).map (·.2)).getD (c.byteAt a)

/-- The half word that a core fetches at an address; none where the fabric refuses the read. -/
def Chan.fetchHalf (c : Chan) (h a : Nat) : Option Nat :=
  if c.verdict (.core h) false a = .served then some ((c.fetchByte h a).toNat + 256 * (c.fetchByte h (a + 1)).toNat) else none

/-- The instruction at the pc, with its length; on a refused fetch the address at fault. -/
def Chan.fetchInstr (c : Chan) (h : Nat) : Except Word (Nat × Nat) :=
  let pc := (c.core h).pc
  match c.fetchHalf h pc.toNat with
  | none => .error pc
  | some lo =>
    if lo % 4 ≠ 3 then .ok (lo, 2)
    else match c.fetchHalf h (pc + 2#32).toNat with
      | none => .error (pc + 2#32)
      | some hi => .ok (lo + 65536 * hi, 4)

/-- The fetched octets stay in the instruction cache (log entry 91). -/
def Chan.cacheFetch (c : Chan) (h len : Nat) : Chan :=
  let pc := (c.core h).pc.toNat
  let new := ((List.range len).map (fun i => (pc + i, c.fetchByte h (pc + i)))).filter (fun x => cacheable x.1)
  c.updPair h (fun k => { k with icache := cacheFit (k.icache ++ new.filter (fun x => !(k.icache.any (fun y => y.1 == x.1)))) })

/-! The comparator of a bonded cell (R126, Table 4-12) -/

/-- The number of ones is odd. -/
def oddOnes (n : Nat) : Bool := ((List.range 4).filter (fun i => n.testBit i)).length % 2 == 1

/-- What a core sends for an instruction. -/
def CoreSt.sends (k : CoreSt) (o : Op) : CoreOut :=
  match o with
  | .load n _ _ rs1 ofs => ⟨k.pc, k.reg rs1 + ofs, 0#32, BitVec.ofNat 8 (1 + 2 + (n / 2) * 8)⟩
  | .store n rs1 rs2 ofs =>
    let a := k.reg rs1 + ofs
    ⟨k.pc, a, k.reg rs2, BitVec.ofNat 8 (1 + 2 + 4 + (n / 2) * 8 + (oddOnes ((2 ^ n - 1) * 2 ^ (a.toNat % 4))).toNat * 64)⟩
  | .xtok _ _ _ rs1 rs2 _ => ⟨k.pc, k.reg rs1, k.reg rs2, 33#8⟩
  | _ => ⟨k.pc, 0#32, 0#32, 1#8⟩

/-- What a core sends in a cycle: for the instruction it runs, if any. -/
def CoreSt.cycleOut (k : CoreSt) (o : Option Op) : CoreOut :=
  match o with
  | some o => if k.waiting ≠ .none || k.acks then k.fetchOut else k.sends o
  | none => k.fetchOut

/-- The delay registers take in what the main core receives and sends. -/
def DelayReg.shift (d : DelayReg) (i : CoreIn) (o : CoreOut) : DelayReg := ⟨i, d.in1, o, d.out1⟩

/-- What the main core of a bonded cell receives in a cycle with fetch word `w` and instruction `o`: for a served load its data, for a refused
access an error response. -/
def State.cycleIn (s : State) (ch : Ch) (h w : Nat) (o : Option Op) : CoreIn :=
  let c := s.chan ch
  let k := c.core h
  let x := c.cell (h / 2)
  let i : CoreIn := ⟨BitVec.ofNat 32 w, 0#32, false, k.irqP, x.sigReq, k.freed⟩
  match o with
  | some (.load n _ _ rs1 ofs) =>
    let a := (k.reg rs1 + ofs).toNat
    if c.verdict (.core h) false a = .served then { i with load := BitVec.ofNat 32 (s.busValue ch (.core h) a n) } else { i with err := true }
  | some (.store _ rs1 _ ofs) => { i with err := decide (c.verdict (.core h) true (k.reg rs1 + ofs).toNat ≠ .served) }
  | _ => i

/-- A cycle of a bonded cell (R126): a difference in what the copies send halts it, else the delay registers shift and the cycle goes on.
Split cells bypass delay registers and comparator (R130). -/
def State.compared (s : State) (ch : Ch) (h w : Nat) (o : Option Op) (f : State → State) : State :=
  let x := (s.chan ch).cell (h / 2)
  if x.mode ≠ .bonded then f s
  else
    let g := diffGroups (x.core0.cycleOut o) (x.core1.cycleOut o)
    if g ≠ 0#13 then s.upd ch (fun c => c.haltCell ch (h / 2) false g)
    else f (s.upd ch (fun c => c.updCell (h / 2) (fun x => { x with delay := x.delay.shift (s.cycleIn ch h w o) (x.core0.cycleOut o) })))

/-! Running -/

/-- An instruction of `len` octets and bits `w` runs on hart `h`. A served access to a peripheral register stays for the command that performs
it (log entry 24), since its effect reaches beyond the cell. -/
def State.runOp (s : State) (ch : Ch) (h w len : Nat) (o : Op) : State :=
  let c := s.chan ch
  let k := c.core h
  let access (write : Bool) (n a : Nat) (data : Word) (rd : Nat) (signed : Bool) : State :=
    if isReg a && c.verdict (.core h) write a = .served then s else s.memAccess ch h write n a data rd signed len
  match o with
  | .load n signed rd rs1 ofs => access false n (k.reg rs1 + ofs).toNat 0#32 rd signed
  | .store n rs1 rs2 ofs => access true n (k.reg rs1 + ofs).toNat (k.reg rs2) 0 false
  | .fence => nextOf (execFence ch h s) s
  | .fenceI => nextOf (execFenceI ch h s) s
  | .ecall => nextOf (execEcall ch h s) s
  | .ebreak => nextOf (execEbreak ch h s) s
  | .wfi => nextOf (execWfi ch h s) s
  | .mret => s.upd ch (fun c => if k.user then c.exception h 2 (BitVec.ofNat 32 w) else c.updPair h CoreSt.mret)
  | .csr f3 rd rs1 n =>
    s.upd ch (fun c => c.csrExec ch h rd n (k.csrWrite f3 rs1 ((c.csrValue ch h n).getD 0#32)) (BitVec.ofNat 32 w))
  | .xtok f f7 rd rs1 rs2 imm => s.runXtok ch h f f7 rd rs1 rs2 imm
  | o => s.upd ch (fun c => c.updPair h (fun k => (k.plain len o).getD k))

/-- One clock of hart `h`, compared in a bonded cell: a wait goes on or ends, an interrupt is taken, or the instruction at the pc is fetched,
decoded and run. -/
def State.runHart (s : State) (ch : Ch) (h : Nat) : State :=
  let c := s.chan ch
  let k := c.core h
  if !c.coreLive h then s
  else if k.waiting ≠ .none then s.compared ch h 0 none (fun s => if c.waitEnds h then nextOf (execTkWaitResume ch h s) s else s)
  else if k.acks then s.compared ch h 0 none (fun s => nextOf (execExternalInterrupt ch h s) s)
  else match c.hit h 2 k.pc.toNat with
    | some t => s.upd ch (fun c => c.trigFire h t)
    | none =>
      match c.fetchInstr h with
      | .error a => s.compared ch h 0 none (fun s => s.upd ch (fun c => c.exception h 1 a))
      | .ok (w, len) =>
        let s := s.upd ch (fun c => c.cacheFetch h len)
        match decodeOf w len with
        | none => s.compared ch h w none (fun s => s.upd ch (fun c => c.exception h 2 (BitVec.ofNat 32 w)))
        | some o => s.compared ch h w (some o) (fun s => s.runOp ch h w len o)

/-! The program buffer (R131, R133; debug specification 0.13.2) -/

/-- An instruction of the program buffer on a halted hart: its registers, CSRs and accesses, with dpc and the pc kept; none for one that
raises an exception. DESIGN CHOICE (log entry 17): an instruction that takes or changes the pc acts as an illegal one, as the debug
specification allows. -/
def State.bufOp (s : State) (ch : Ch) (h : Nat) (o : Op) : Option State :=
  let c := s.chan ch
  let k := c.core h
  let put (f : CoreSt → CoreSt) : Option State := some (s.upd ch (fun c => c.updPair h f))
  match o with
  | .lui .. | .opImm .. | .op .. | .mul .. => put (fun k => { k with x := ((k.plain 4 o).getD k).x })
  | .load n signed rd rs1 ofs =>
    let a := (k.reg rs1 + ofs).toNat
    if aligned a n && c.verdict (.core h) false a = .served then
      let v := s.busValue ch (.core h) a n
      some ((s.busSide ch (.core h) a).upd ch (fun c => c.updPair h (fun k => k.setReg rd (extend n signed v))))
    else none
  | .store n rs1 rs2 ofs =>
    let a := (k.reg rs1 + ofs).toNat
    if aligned a n && c.verdict (.core h) true a = .served then some (s.busWrite ch a n (k.reg rs2)) else none
  | .fence => some s
  | .fenceI => put (fun k => { k with icache := [] })
  | .csr f3 rd rs1 n =>
    match c.dbgRead ch h (.csr n) with
    | none => none
    | some v =>
      let w := k.csrWrite f3 rs1 v
      if w.isSome && n / 1024 = 3 then none
      else
        let now := c.now
        let split := c.splitCore h
        put (fun k =>
          let k := (k.setReg rd v).latchTime n now
          match w with
          | none => k
          | some x => k.writeCsr split n x)
  | _ => none

/-- The program buffer from a half word on, until its EBREAK; whether it got there. Its end without one (impebreak 0) ends it as an exception does. -/
def State.bufRun (s : State) (ch : Ch) (h : Nat) : List Nat → State × Bool
  | [] => (s, false)
  | lo :: r =>
    if lo % 4 ≠ 3 then
      (match decode16 lo with
      | some .ebreak => (s, true)
      | some o => (match s.bufOp ch h o with | some t => t.bufRun ch h r | none => (s, false))
      | none => (s, false))
    else
      match r with
      | [] => (s, false)
      | hi :: r =>
        match decode32 (lo + 65536 * hi) with
        | some .ebreak => (s, true)
        | some o => (match s.bufOp ch h o with | some t => t.bufRun ch h r | none => (s, false))
        | none => (s, false)

/-- DEBUG_PROGRAM_BUFFER_EXEC: the eight words as the debugger wrote them run on a halted hart, replayed into the checker (R133); an exception
ends them with cmderr 3. -/
def execDebugProgramBufferExec (ch : Ch) (p : BufRun) (s : State) : Out :=
  let c := s.chan ch
  let h := p.hart
  let d := c.abstractCmd h id
  let served := c.sys.mode = .m9 && c.dbg.log.length < 256 && !(c.sys.cstate = .off || c.tapCut) && c.hartExists h && !c.hartUnavail h && (c.core h).halted
  if !served then .next (s.upd ch (fun _ => d))
  else
    let words := fixW 8 p.words
    let pc := (c.core h).dpc
    let s := s.upd ch (fun _ => { d with dbg := { d.dbg with progbuf := words } })
    let r := s.bufRun ch h (words.flatMap (fun w => [w.toNat % 65536, w.toNat / 65536]))
    .next (r.1.upd ch (fun c => ({ c with dbg := { c.dbg with cmderr := if r.2 then c.dbg.cmderr else 3 } }).logAct h 5 pc 0#32))

/-- One time-base clock on a core's cycle counter: four cycles of the 1,000 MHz cell clock (R76, R111). -/
def CoreSt.count (k : CoreSt) : CoreSt := { k with cycle := k.cycle + 4#64 }

/-- The cycle counters of a cell in operation advance. -/
def CellSt.count (x : CellSt) : CellSt :=
  if x.mode = .bonded || x.mode = .split then { x with core0 := x.core0.count, core1 := x.core1.count } else x

/-- The hart asks with tk.next for a slice that its own queue does not give (R153, R154). -/
def Chan.asksToGlean (c : Chan) (h : Nat) : Bool :=
  c.coreRuns h && !(c.core h).acks &&
  (match c.fetchInstr h with
  | .ok (w, len) =>
    (match decodeOf w len with
    | some (.xtok 7 0x08 _ _ _ _) => c.wouldGlean h
    | _ => false)
  | .error _ => false)

/-- One clock of the cells of a channel: the cycle counters of its cores in operation advance, and every hart takes its step, ascending; those
that glean come after all others (R154). -/
def State.runCells (s : State) (ch : Ch) : State :=
  if !((s.chan ch).up && (s.chan ch).clk.divRun) then s
  else
    let s := s.upd ch (fun c => { c with cells := c.cells.map CellSt.count })
    let x := (List.range 16).foldl (fun (x : State × List Nat) h => if (x.1.chan ch).asksToGlean h then (x.1, x.2 ++ [h]) else (x.1.runHart ch h, x.2)) (s, [])
    x.2.foldl (fun (s : State) h => s.runHart ch h) x.1

end Sys2Proof.Machine
end

