-- ==== Sys2Proof/Machine/Tick.lean ====
section
/-! DEFINITION. A tick boundary: commits, state writes, the switch, the time step, releases, what ends the boundary, and its messages (R104, R105, R158 to R162, R174, R186, R375). -/

namespace Sys2Proof.Machine
open Sys2Proof

/-! The boundary begins (R102, R105, R141) -/

/-- A message of the boundary count `c` among the last received. -/
def msgAt (c : Nat) (m : Option BMsg) : Option BMsg := m.filter (fun x => x.c == c)

/-- The time base reaches B_k, the counts advance, and the messages of the boundary before move on. DESIGN CHOICE (log entry 115): a requested
switch of multiplexer 7 (R88, R92) is complete here, unless it hung before. -/
def Chan.beginTick (c : Chan) : Chan :=
  let t := c.tb
  let t1 : TimeBlk := if t.started then { t with c := t.c + 1, k := t.k + 1, bk := t.bk + periodNs t.period } else { t with started := true }
  let v := c.vote
  { c with
    tb := t1.reach t1.bk
    clk := { c.clk with muxReq := c.clk.muxReq &&& 0x7F#8 }
    sys := { c.sys with cmds := c.sys.cmds.filter (fun (x : PendCmd) => decide (t1.c ≤ x.c + 2)) }
    vote := { v with
      prev0 := if t.started then v.msg0 else none
      prev1 := if t.started then v.msg1 else none
      msg0 := msgAt t1.c v.last0
      msg1 := msgAt t1.c v.last1
      peer0 := ((msgAt t1.c v.last0).map (·.odig)).getD v.peer0
      peer1 := ((msgAt t1.c v.last1).map (·.odig)).getD v.peer1
      rsPeer0 := (((msgAt t1.c v.last0).filter (·.rdigP)).map (·.rdig)).getD v.rsPeer0
      rsPeer1 := (((msgAt t1.c v.last1).filter (·.rdigP)).map (·.rdig)).getD v.rsPeer1
      confPrev := if c.sys.mode.runs then v.conf else v.confPrev
      conf := if c.sys.mode.runs then false else v.conf
      lag := false
      committedNow := []
      judged := !c.sys.mode.speaks } }

/-- A resynchronisation decided at the boundary before begins (R186 step 1). -/
def Chan.beginResync (c : Chan) : Chan :=
  match c.vote.run with
  | none => c
  | some r =>
    if r.b + 1 ≠ c.tb.c then c
    else
      let c := (c.sl.tasks.filter (fun (t : TaskRt) => !t.decl.cap)).foldl (fun (c : Chan) (t : TaskRt) => c.dropInst t.decl.num) c
      let c := c.abstain
      ({ c with
        sl := { c.sl with tasks := c.sl.tasks.map (fun (t : TaskRt) => if t.decl.cap then t else { t with unsync := true }) }
        vote := { c.vote with state := .resync } }).logResync 0 0 0

/-- The part of a source and of the third channel: begun, and ended when the channel's messages no longer show FLAGS bit 2 (R186). -/
def Chan.followResync (c : Chan) (ch : Ch) : Chan :=
  let ended (m : Ch) (b : Nat) : Bool := decide (b + 1 < c.tb.c) && (match c.prevOf ch m with | some x => !x.resync | none => false)
  let c := match c.vote.serving with
    | some (m, b, n) =>
      if ended m b then ({ c with vote := { c.vote with serving := none } }).logResync 1 1 n
      else if b + 1 = c.tb.c then c.logResync 1 0 0 else c
    | none => c
  { c with vote := { c.vote with other := c.vote.other.filter (fun x => !ended x.1 x.2) } }

/-! Commits (R158 to R162) -/

/-- The present boundary is a release boundary of the task. -/
def TaskDecl.falls (d : TaskDecl) (c : Nat) : Bool := decide (d.phase ≤ c) && decide ((c - d.phase) % d.period = 0)

/-- One overrun (R160). -/
def Chan.overrun (c : Chan) (t : TaskRt) : Chan :=
  let run := t.ovrRun + 1
  let cap := t.decl.cap
  let c := { c with sl := { c.sl.updTask t.decl.num (fun (x : TaskRt) => { x with ovrRun := run, ovrTotal := x.ovrTotal + 1#32 }) with
    flag := c.sl.flag.raise (if cap then 1 else 0) } }
  if !cap && c.sl.ovrLimit ≤ run then c.trigger .m10 0x11 else c

/-- The commit decision of one integrity task with its instance due or overdue (Table 5-5); a resynchronising channel syncs or discards (R186 step 4). -/
def commitOne (voting : List Ch) (x : CommitRun) (t : TaskRt) (i : Inst) : CommitRun :=
  let c := x.c
  let n := t.decl.num
  let cnt := (i.notices.filter (fun k => voting.contains k)).length
  let complete := i.complete && !i.late && !i.abandoned
  if c.vote.state = .resync then
    let held := (c.vote.run.map (fun r => r.held.any (fun h => h.1 == n))).getD false
    let c := c.updRun (fun r => { r with held := r.held.filter (fun h => h.1 != n), want := r.want.filter (fun w => w.1 != n) })
    if complete && !held && 2 ≤ cnt then
      let c := (c.commitTask n false).1
      { x with c := { c with sl := c.sl.updTask n (fun t => { t with unsync := false }) }, done := x.done ++ [n] }
    else
      let c := c.dropInst n
      { x with c := { c with sl := c.sl.updTask n (fun t => { t with unsync := true }) } }
  else if 2 ≤ cnt then
    if complete then
      let r := c.commitTask n c.vote.run.isNone
      { x with c := r.1, done := x.done ++ [n], ops := x.ops ++ r.2 }
    else
      let c := c.dropInst n
      { x with c := { c with sl := { c.sl with flag := c.sl.flag.raise 6 } }, lag := true }
  else
    let c := if i.due = c.tb.c || t.decl.falls c.tb.c then c.overrun t else c
    { x with c := if i.abandoned then c.dropInst n else c }

/-- The commit of one capacity task (R162). -/
def commitCap (x : CommitRun) (t : TaskRt) (i : Inst) : CommitRun :=
  let c := x.c
  if i.complete then { x with c := (c.commitTask t.decl.num false).1, done := x.done ++ [t.decl.num] }
  else
    let c := if i.due = c.tb.c || t.decl.falls c.tb.c then c.overrun t else c
    { x with c := if i.abandoned then c.dropInst t.decl.num else c }

/-- Step 1 of R104: every due or overdue instance, tasks ascending, after what a standby module adopted at this commit edge (R311). -/
def Chan.commits (c : Chan) (voting : List Ch) : CommitRun :=
  c.sl.tasks.foldl (fun (x : CommitRun) (t : TaskRt) =>
    match t.inst with
    | none => x
    | some i =>
      if c.tb.c < i.due then x
      else if t.decl.cap then commitCap x t i else commitOne voting x t i) ⟨c, c.vote.committedNow, [], false⟩

/-- The channel lags at this boundary (R158). -/
def Chan.lags (c : Chan) : Chan :=
  let c := c.abstain
  { c with vote := { c.vote with lag := true } }

/-! State writes (R375) -/

/-- The declaration a state write reaches in the program that runs. -/
def Chan.writeDecl (c : Chan) (w : StateWrite) : Option ObjDecl :=
  c.sl.prog.bind (fun (p : Program) => p.objs.find? (fun (o : ObjDecl) => o.ident == w.ident))

/-- A state write in the committed retained bank. -/
def Chan.putWrite (c : Chan) (o : ObjDecl) (w : StateWrite) : Chan :=
  { c with sl := c.sl.updTask o.task (fun (t : TaskRt) => { t with rsPub := putWords t.rsPub o.word (octetsElems o.typ w.val) }) }

/-- A state write falls due at a release of its task. -/
def Chan.writeDue (c : Chan) (w : StateWrite) : Bool :=
  decide (w.due ≤ c.tb.c) &&
  (match c.writeDecl w with
  | some o => ((c.sl.task o.task).map (fun t => c.releases t)).getD false
  | none => true)

/-- The state writes of a boundary, in order: applied and acknowledged, with their transaction for class J. -/
def State.applyWrites (s : State) (ch : Ch) : State :=
  let now := (s.chan ch).dict.writes.filter (fun w => (s.chan ch).writeDue w)
  let s := s.upd ch (fun c => { c with dict := { c.dict with writes := c.dict.writes.filter (fun w => !c.writeDue w) } })
  now.foldl (fun (s : State) (w : StateWrite) =>
    match (s.chan ch).writeDecl w with
    | none => if w.origin = ch then s.answer ch w.via w.tag 1 (refusedAt w.n 0 abNoObject) else s
    | some o =>
      let s := s.upd ch (fun c => c.putWrite o w)
      if w.origin ≠ ch then s
      else if w.persist then s.enqueue ⟨[⟨1, w.ident.toNat, w.typ, w.val, 0⟩], [], ch, w.via, w.tag, w.n⟩
      else s.answer ch w.via w.tag 0 (servedAll w.n)) s

/-- Step 1 of R104 in a channel that votes: due commits, the early ones of a switch, digest, drive, writes, the switch (R206, R375). -/
def State.commitStep (s : State) (ch : Ch) (changed : Bool) : State :=
  let voting := s.members ch
  let s := s.changeFails ch voting
  let x := (s.chan ch).commits voting
  let sw := x.c.switches ch voting changed
  let x := if sw then x.early voting else x
  let s := s.upd ch (fun _ =>
    let c := { x.c with vote := { x.c.vote with committedNow := x.done, dig := outDigest x.c.sl.tasks x.c.tb.c } }
    let c := if x.lag then c.lags else c
    if c.vote.confPrev && c.vote.state = .voting && !c.vote.lag then c.driveCommitted x.done c.tb.bk else c)
  let s := s.applyWrites ch
  let s := if sw then
      (let s := s.upd ch (fun c => (c.switchOver x.lag).resubscribe ch)
       match (s.chan ch).chg.swDig with
       | some w => s.sendBoth ch (.switchDigest w.1 w.2 (s.chan ch).tb.c)
       | none => s)
    else s
  match (s.chan ch).vote.serving with
  | some (m, b, _) =>
    if b + 1 < (s.chan ch).tb.c then
      (parts timersPerBody x.ops).foldl (fun (s : State) p => s.send ch m (.timerOps (s.chan ch).tb.c p.1 p.2)) s
    else s
  | none => s

/-! Releases (step 4 of R104, R186) -/

/-- Instances held by a resynchronisation: those released now of unsynced tasks join; those without a page-sum list are discarded. -/
def Chan.holdReleased (c : Chan) : Chan :=
  match c.vote.run with
  | none => c
  | some r =>
    if c.vote.state ≠ .resync then c
    else
      let stale := r.held.filter (fun h => !h.2.2 && decide (h.2.1 < c.tb.c))
      let c := stale.foldl (fun (c : Chan) h => c.dropInst h.1) c
      let new := (c.sl.tasks.filter (fun (t : TaskRt) => !t.decl.cap && t.unsync && (t.inst.map (·.relC)) == some c.tb.c)).map (fun t => (t.decl.num, c.tb.c, false))
      c.updRun (fun r => { r with held := r.held.filter (fun h => !stale.contains h) ++ new })

/-- The source sends the timer snapshot at b + 1 and the page-sum list of every task that it releases (R186). -/
def State.sourceSends (s : State) (ch : Ch) : State :=
  let c := s.chan ch
  match c.vote.serving with
  | none => s
  | some (m, b, _) =>
    let s := if b + 1 = c.tb.c then
        (parts timersPerBody c.tb.timers).foldl (fun (s : State) p => s.send ch m (.timerSnap c.tb.c p.1 p.2)) s
      else s
    (c.sl.tasks.filter (fun (t : TaskRt) => !t.decl.cap && (t.inst.map (·.relC)) == some c.tb.c)).foldl (fun (s : State) t =>
      if b < c.tb.c then
        (parts sumsPerBody t.sums).foldl (fun (s : State) p => s.send ch m (.pageSums t.decl.num c.tb.c p.1 p.2)) s
      else s) s

/-- Releases, and the retained digest of every 64th boundary (R177). -/
def State.releaseStep (s : State) (ch : Ch) : State :=
  let coming := ((s.wire.filter (fun m => m.rx == ch)).flatMap (fun m => (s.chan ch).itemsIn m.body))
  let s := s.upd ch (fun c => (c.releaseDue coming).holdReleased)
  let s := s.sourceSends ch
  s.upd ch (fun c => if c.tb.c % 64 = 0 then { c with vote := { c.vote with rs := retDigest c.sl.tasks c.tb.timers c.tb.c c.tb.bk } } else c)

/-! The message (step 5 of R104, R174) -/

/-- Own commands received in the tick that ended, legal in the mode in force; the others are rejected (R55). -/
def State.distribute (s : State) (ch : Ch) : State × List PendCmd :=
  let c := s.chan ch
  let mine := c.sys.cmds.filter (fun (x : PendCmd) => x.origin == ch && x.c + 1 == c.tb.c)
  let legal (x : PendCmd) : Bool := x.kind != 0 || cmdLegal x.value c.sys.mode
  let bad := mine.filter (fun x => !legal x)
  let s := s.upd ch (fun c => { c with sys := { c.sys with cmds := c.sys.cmds.filter (fun x => !bad.contains x) } })
  (bad.foldl (fun (s : State) x => s.refuseOne ch x.via x.tag abState) s, mine.filter legal)

/-- The boundary message. -/
def Chan.message (c : Chan) (ch : Ch) (prop : Option Proposal) (samples : W64) (cmds : List PendCmd) : BMsg :=
  let runs := c.sys.mode.runs
  { sender := ch
    prop := prop
    confirmed := c.vote.confPrev
    abstaining := c.vote.state == .abstaining
    resync := c.vote.state == .resync
    rdigP := runs && c.tb.c % 64 == 0
    lag := c.vote.lag
    leaving := c.sys.leaving
    c := c.tb.c
    k := c.tb.k
    odig := if runs then c.vote.dig else 0#64
    rdig := if runs && c.tb.c % 64 == 0 then c.vote.rs else 0#64
    samples := samples
    notices := c.vote.notices
    cmds := cmds
    writes := c.dict.writes.filter (fun (w : StateWrite) => w.origin == ch && w.due == c.tb.c + 1)
    cstate := c.sys.cstate }

/-- Notices of tasks that completed too late for the boundary (R157). -/
def State.lateNotices (s : State) (ch : Ch) : State :=
  (s.chan ch).sl.tasks.foldl (fun (s : State) (t : TaskRt) =>
    match t.inst with
    | none => s
    | some i =>
      if !i.late then s
      else
        let s := s.upd ch (fun c => { c with sl := c.sl.updTask t.decl.num (fun (x : TaskRt) => x.updInst (fun (j : Inst) => { j with late := false })) })
        if (s.chan ch).vote.state = .resync then s
        else (s.upd ch (fun c => { c with sl := c.sl.addNotice t.decl.num i.due ch })).sendBoth ch (.notice t.decl.num i.due)) s

/-- Triggers that stay proposed until they are followed: faults that compel M10 or M11, and the automatic restart (R51, R56). -/
def stickyTrigger (p : Proposal) : Bool := p.mode == .m11 || p.mode == .m10 || (p.mode == .m1 && p.cause == 0x08)

/-- Step 5 of R104: proposal, digests, samples, notices, commands and writes go out. A channel that is OUT sends nothing, unless it is
on its way to HELD: then LEAVING goes out in the messages it still sends (R57, R479). -/
def State.sendMessage (s : State) (ch : Ch) : State :=
  let s := if (s.chan ch).sys.mode.speaks && (s.chan ch).sys.cstate.present then s.isolation ch else s
  let c := s.chan ch
  if !c.sys.cstate.present then
    let s := s.upd ch (fun c => { c with
      sys := { c.sys with triggers := [], myProp := none }
      tb := { c.tb with smpOwn := 0#64, smpList := [] }
      vote := { c.vote with notices := [], sentNotices := [], sentCounted := false } })
    if c.sys.leaving && c.vote.out.get ch = 0 then s.sendBoth ch (.boundary ((s.chan ch).message ch none 0#64 [])) else s
  else
    let x := s.distribute ch
    let prop := bestOf (c.sys.triggers.filter (fun p => transOk c.sys.mode p.mode))
    let nums := x.1.samplesAt ch (c.tb.c - 1)
    let word := if c.tb.c = 0 then 0#64 else samplesWord c.tb.held nums
    let s := x.1
    let s := s.sendBoth ch (.boundary ((s.chan ch).message ch prop word x.2))
    let s := s.upd ch (fun c => { c with
      sys := { c.sys with myProp := prop, triggers := c.sys.triggers.filter stickyTrigger }
      tb := { c.tb with smpOwn := word, smpList := if c.tb.c = 0 then [] else nums }
      vote := { c.vote with
        sentNotices := c.vote.notices
        sentCounted := c.vote.state != .resync && !c.vote.lag
        notices := [] } })
    s.lateNotices ch

/-! The whole boundary (R104) -/

/-- Gated frames and reads that still wait at the boundary end there (R181, R182, R266). -/
def State.endOfCommit (s : State) (ch : Ch) : State :=
  if !((s.chan ch).sys.mode.runs) then s
  else
    let s := if (s.chan ch).vote.reads.isEmpty && (s.chan ch).host.outst.isEmpty then s else s.refuseReads ch
    let s := if ch = Ch.C && !(s.chan ch).vote.gate then s.upd ch (fun c => { c with mvb := { c.mvb with stale := true } }) else s
    s.upd ch (fun c =>
      let c := c.dropGate
      { c with vote := { c.vote with gate := false, shut := false } })

/-- BOUND_P in the running cells (Table 4-5). -/
def Chan.boundIrq (c : Chan) : Chan :=
  { c with cells := c.cells.map (fun (x : CellSt) =>
      if x.mode = .bonded || x.mode = .split then
        { x with core0 := { x.core0 with irqP := x.core0.irqP ||| 4#11 }, core1 := { x.core1 with irqP := x.core1.irqP ||| 4#11 } }
      else x) }

/-- What else a boundary does: fields, signal chain, rings, bridge events, legacy cycle, MVB buffers, snapshot. -/
def State.closeStep (s : State) (ch : Ch) : State :=
  let was := (s.chan ch).field.win.isSome
  let s := (s.upd ch (fun c => c.fieldBoundary c.tb.bk)).shareWindow ch was
  let s := s.sdBoundary ch
  let s := match ch with
    | .A => s.upd ch (fun c => c.ringBoundary .r1)
    | .B => s.upd ch (fun c => c.ringBoundary .r2)
    | .C => s
  let s := s.upd ch (fun c => ({ c with bridge := c.bridge.publish }.boundIrq).requestSigs)
  let s := s.legacyBoundary ch
  let s := if ch = Ch.C then s.mvbWrite [1, 2] else s
  let c := s.chan ch
  if c.sys.mode.num < 5 || c.sys.reeveState ≠ 0 then s
  else
    let x := s.snapshotOf ch
    let s := s.upd ch (fun c => { c with dict := { c.dict with snapOwn := some x } })
    if c.tb.c % 64 = 0 then s.sendBoth ch (.snapshot x) else s

/-- A boundary of channel `ch` whose tick generator runs. -/
def State.boundary (s : State) (ch : Ch) : State :=
  let first := !(s.chan ch).tb.started
  let s := if first || (s.chan ch).vote.judged then s else s.judge ch
  let s := s.endOfCommit ch
  let before := (s.chan ch).sl.tasks
  let s := s.upd ch (fun c => c.beginTick)
  let old := (s.chan ch).sys.mode
  let s := if first then s.firstMode ch else (s.pairGrant ch).modeStep ch
  let c := s.chan ch
  if !c.tb.tickRun then s
  else
    let changed := decide (old ≠ c.sys.mode) && !(chgMode old && chgMode c.sys.mode)
    let s := s.upd ch (fun c => { c with vote := { c.vote with judged := !c.sys.mode.speaks || !c.sys.cstate.present } })
    let s := if first then s else s.otherCmds ch
    let votes := c.sys.cstate = .voting
    let s := if votes then
        (let s := s.upd ch (fun c => (c.beginResync).followResync ch)
         let s := if c.chg.state = .verifying then s.judgeLoad ch else s
         (((s.upd ch Chan.pairEdge).commitStep ch changed).pairAfter ch before).matchEarly ch)
      else s
    let s := s.pairTick ch
    let s := s.timeStep ch
    let s := if votes then s.releaseStep ch else s
    (((s.closeStep ch).runCalls ch).txnStep ch).sendMessage ch

/-- TICK_BOUNDARY: the time base of a channel has reached its next boundary. -/
def execTickBoundary (ch : Ch) (s : State) : Out :=
  let c := s.chan ch
  guardC (c.up && c.tb.tickRun) s (s.boundary ch)

/-! The time base between commands -/

/-- One 4 ns clock of a channel whose dividers run (R77, R93, R106): the alignment counter counts, and once the channel is released the
time base counts and each egress port of its switch takes a frame (R254). -/
def Chan.clockTick (c : Chan) : Chan :=
  if !c.clk.divRun then c
  else if c.up then ({ c with tb := c.tb.clocks 1 }).drain
  else { c with tb := { c.tb with align := c.tb.align + 1 } }

/-- What the block does when no command waits: one clock of every channel and of its cells (log entries 3 and 24). -/
def State.idle (s : State) : State := allCh.foldl State.runCells (s.updAll (fun _ c => c.clockTick))

end Sys2Proof.Machine
end

