-- ==== Sys2Proof/Machine/Xlink.lean ====
section
/-! DEFINITION. The cross links: forwarded inputs, relay, loss and return of a link (R32 to R38, R97, R143 to R145, R257, R299, R334). -/

namespace Sys2Proof.Machine
open Sys2Proof

/-! Forwarded inputs (R37, R38, R143, R144) -/

/-- Traffic that FORWARDED_INPUT_RECEIVE takes. -/
def XBody.forwarded : XBody → Bool
  | .item _ | .telegram _ _ | .samples _ | .dsample _ | .grant _ => true
  | _ => false

/-- A forwarded item is held; one that a freeze in progress should have had sets LATE_IN (R38, R144). An item from a port of a channel
that is recorded out is no fresh input any more (R39). -/
def Chan.takeItem (c : Chan) (i : Item) : Chan :=
  if !i.good || c.vote.out.get i.owner ≠ 0 then c
  else { c.pushItem i with sl := { (c.pushItem i).sl with flag := c.sl.flag.raiseIf (c.lateItem i) 7 } }

/-- A good item that came damaged into this channel: an image that was frozen without it, or will be, lacks it (R144). -/
def Chan.missItem (c : Chan) (i : Item) : Chan :=
  if !i.good || c.vote.out.get i.owner ≠ 0 then c
  else
    let late := c.lateItem i
    let c := { c with sl := { c.sl with missed := i :: c.sl.missed, flag := c.sl.flag.raiseIf late 7 } }
    if late then c.passMissed i else c

/-- A telegram forwarded by the channel that owns the plane, judged by this channel (R37, R257, R259); nothing is left of one whose owner is
recorded out (R39). -/
def Chan.takeForward (c : Chan) (p : Plane) (t : Telegram) : Chan :=
  if c.vote.out.get (planeOwner p) ≠ 0 then c
  else
    let d := c.telegram p t
    match c.newItems d with
    | i :: _ => { d with sl := { d.sl with flag := d.sl.flag.raiseIf (c.lateItem i) 7 } }
    | [] => d

/-- What a damaged message leaves besides its count: its items are missing here. -/
def missBody (b : XBody) (c : Chan) : Chan :=
  (c.itemsIn b).foldl (fun (c : Chan) i => c.missItem i) c

/-- A peer's sample set, newest first (R145). -/
def Chan.takeSet (c : Chan) (l : Link) (x : SampleSet) : Chan :=
  match l with
  | .next => { c with sl := { c.sl with setsNext := (x :: c.sl.setsNext).take setsKept } }
  | .prev => { c with sl := { c.sl with setsPrev := (x :: c.sl.setsPrev).take setsKept } }

/-- A discipline sample held from then on (R98); before the first boundary it is discarded (R99). -/
def Chan.takeSample (c : Chan) (d : DSample) : Chan :=
  if c.tb.started then { c with tb := { c.tb with held := c.tb.held ++ [d] } } else c

/-- A grant item (R299). -/
def Chan.takeGrant (c : Chan) (g : Grant) : Chan := c.pr (fun p => { p with grants := g :: p.grants.filter (fun x => x.ring != g.ring || x.wcyc != g.wcyc) })

/-- FORWARDED_INPUT_RECEIVE. Sample sets also second the findings of this channel (R336). -/
def execForwardedInputReceive (rx tx : Ch) (ok : Bool) (s : State) : Out :=
  .next (s.recvOr rx tx ok XBody.forwarded missBody (fun b s =>
    match b, linkTo rx tx with
    | .item i, _ => s.upd rx (fun c => c.takeItem i)
    | .telegram p t, _ => s.upd rx (fun c => c.takeForward p t)
    | .samples x, some l =>
      let was := (s.chan rx).field.win.isSome
      (s.upd rx (fun c => let c := c.takeSet l x; if c.judgesField then c.actFinds else c)).shareWindow rx was
    | .dsample d, _ => s.upd rx (fun c => c.takeSample d)
    | .grant g, _ => s.upd rx (fun c => c.takeGrant g)
    | _, _ => s))

/-! Relay (R34, R35) -/

/-- The message that a channel relays next: the first that no message of a higher class on its link is ahead of (R32). -/
def relayNext (relay : Ch) (w : List XMsg) : Option (XMsg × List XMsg) :=
  wireTake (fun m => m.way == .toRelay relay && !aheadOf w m) w

/-- XLINK_SEGMENT_RELAY: the relaying channel passes the next message for it on unchanged; over a link that is down, or that carries nothing
of its class in the mode (Table 1-11), it is lost. A segment damaged on the way fails the receiver's check, which discards and counts it. -/
def execXlinkSegmentRelay (relay : Ch) (ok : Bool) (s : State) : Out :=
  match relayNext relay s.wire with
  | none => .next s
  | some (m, w) =>
    let s1 := { s with wire := w }
    if !s.direct relay m.rx m.body.cls then .next s1
    else if ok then .next { s1 with wire := w ++ [{ m with way := .relayed relay }] }
    else .next (s1.upd m.rx (fun c => missBody m.body c.discard))

/-! Link states (R33) -/

/-- A link end goes down. DESIGN CHOICE (log entry 77): PEER goes back to 3 (none); the spec gives no value for PEER after a loss. -/
def LinkEnd.lose (e : LinkEnd) : LinkEnd := { e with up := false, peer := 3, loss := true, lossCnt := satInc e.lossCnt, viol := [] }

/-- LINK_LOST: no valid code group for 2 µs. -/
def execLinkLost (ch : Ch) (link : Link) (s : State) : Out :=
  onChan s ch (fun c => if c.up && (c.lend link).up then c.setEnd link LinkEnd.lose else c)

/-- LINK_UP: after 10 ms of valid code groups and the exchange of identities: PEER shows the letter received, and an unexpected letter
keeps the link lost (R33, Table 1-20). The latency is the halved round trip (R95). -/
def execLinkUp (ch : Ch) (link : Link) (peer latency : Nat) (s : State) : Out :=
  onChan s ch (fun c =>
    if !(c.up && !(c.lend link).up) then c
    else if peer = chCode (peerOf ch link) then
      c.setEnd link (fun e => { e with up := true, peer := peer, lat := latency, viol := [] })
    else c.setEnd link (fun e => { e with peer := min peer 3 }))

/-- XLINK_CODE_VIOLATION: counted; the sixteenth within 1 ms loses the link. -/
def execXlinkCodeViolation (ch : Ch) (link : Link) (s : State) : Out :=
  onChan s ch (fun c =>
    if !c.up then c
    else c.setEnd link (fun e =>
      let v := e.viol.filter (fun t => decide (c.now < t + 1000000)) ++ [c.now]
      let e := { e with codeErr := true, codeCnt := satInc e.codeCnt, viol := v }
      if e.up && 16 ≤ v.length then e.lose else e))

end Sys2Proof.Machine
end

