-- ==== Sys2Proof/Machine/Dispatch.lean ====
section
/-! DEFINITION. The meaning of every command: one arm per constructor of Instr. -/

namespace Sys2Proof.Machine
open Sys2Proof

/-- The effect of a command on everything but the queue. -/
def exec (i : Instr) (s : State) : Host.Outcome State Fault Refusal :=
  match i with
  | .feedStartThreshold mv1 mv2 => Sys2Proof.Machine.execFeedStartThreshold mv1 mv2 s
  | .keepInRegulation ch => Sys2Proof.Machine.execKeepInRegulation ch s
  | .domainsInRegulation ch => Sys2Proof.Machine.execDomainsInRegulation ch s
  | .powerFailFlush ch mv1 mv2 => Sys2Proof.Machine.execPowerFailFlush ch mv1 mv2 s
  | .flushComplete ch mv1 mv2 => Sys2Proof.Machine.execFlushComplete ch mv1 mv2 s
  | .keepLeavesRegulation ch => Sys2Proof.Machine.execKeepLeavesRegulation ch s
  | .feedLowWarning ch feed mv => Sys2Proof.Machine.execFeedLowWarning ch feed mv s
  | .feedOver ch feed mv => Sys2Proof.Machine.execFeedOver ch feed mv s
  | .feedCurrentLimit ch feed => Sys2Proof.Machine.execFeedCurrentLimit ch feed s
  | .domainOutOfRegulation ch d => Sys2Proof.Machine.execDomainOutOfRegulation ch d s
  | .domainShutdownDone ch => Sys2Proof.Machine.execDomainShutdownDone ch s
  | .dieHot ch temp => Sys2Proof.Machine.execDieHot ch temp s
  | .overtemperature ch temp => Sys2Proof.Machine.execOvertemperature ch temp s
  | .laneLock ch => Sys2Proof.Machine.execLaneLock ch s
  | .laneLoss ch => Sys2Proof.Machine.execLaneLoss ch s
  | .holdoverExpiry ch => Sys2Proof.Machine.execHoldoverExpiry ch s
  | .rootPllLock ch => Sys2Proof.Machine.execRootPllLock ch s
  | .rootPllLossOfLock ch => Sys2Proof.Machine.execRootPllLossOfLock ch s
  | .dividerStart ch => Sys2Proof.Machine.execDividerStart ch s
  | .watchQualification ch groups => Sys2Proof.Machine.execWatchQualification ch groups s
  | .watchRecalibration ch count => Sys2Proof.Machine.execWatchRecalibration ch count s
  | .monitorWindow ch counts => Sys2Proof.Machine.execMonitorWindow ch counts s
  | .keepClockSwitched ch => Sys2Proof.Machine.execKeepClockSwitched ch s
  | .multiplexerHang ch n => Sys2Proof.Machine.execMultiplexerHang ch n s
  | .fallbackShutdownDone ch => Sys2Proof.Machine.execFallbackShutdownDone ch s
  | .clockStartRetry ch => Sys2Proof.Machine.execClockStartRetry ch s
  | .reeveRelease ch ga late => Sys2Proof.Machine.execReeveRelease ch ga late s
  | .assayStepComplete ch r => Sys2Proof.Machine.execAssayStepComplete ch r s
  | .assayStepAbandon ch => Sys2Proof.Machine.execAssayStepAbandon ch s
  | .assayStepRetry ch => Sys2Proof.Machine.execAssayStepRetry ch s
  | .s7WaitLimit => Sys2Proof.Machine.execS7WaitLimit s
  | .startImageVerification ch => Sys2Proof.Machine.execStartImageVerification ch s
  | .legacyTranslation ch => Sys2Proof.Machine.execLegacyTranslation ch s
  | .journalScan ch => Sys2Proof.Machine.execJournalScan ch s
  | .startDecision => Sys2Proof.Machine.execStartDecision s
  | .tickBoundary ch => Sys2Proof.Machine.execTickBoundary ch s
  | .judgementInstant ch => Sys2Proof.Machine.execJudgementInstant ch s
  | .boundaryMessageReceive rx tx ok arrival => Sys2Proof.Machine.execBoundaryMessageReceive rx tx ok arrival s
  | .completionNoticeReceive rx tx ok => Sys2Proof.Machine.execCompletionNoticeReceive rx tx ok s
  | .resyncPageSumList ch ok => Sys2Proof.Machine.execResyncPageSumList ch ok s
  | .resyncPageRequest ch ok => Sys2Proof.Machine.execResyncPageRequest ch ok s
  | .resyncPageData ch ok => Sys2Proof.Machine.execResyncPageData ch ok s
  | .resyncTimerSnapshot ch ok => Sys2Proof.Machine.execResyncTimerSnapshot ch ok s
  | .resyncTimerOperations ch ok => Sys2Proof.Machine.execResyncTimerOperations ch ok s
  | .resyncTimeout ch => Sys2Proof.Machine.execResyncTimeout ch s
  | .forwardedInputReceive rx tx ok => Sys2Proof.Machine.execForwardedInputReceive rx tx ok s
  | .xlinkSegmentRelay relay ok => Sys2Proof.Machine.execXlinkSegmentRelay relay ok s
  | .linkLost ch link => Sys2Proof.Machine.execLinkLost ch link s
  | .linkUp ch link peer latency => Sys2Proof.Machine.execLinkUp ch link peer latency s
  | .tkLdin ch hart rd rs1 imm => Sys2Proof.Machine.execTkLdin ch hart rd rs1 imm s
  | .tkLdfr ch hart rd rs1 imm => Sys2Proof.Machine.execTkLdfr ch hart rd rs1 imm s
  | .tkLdrs ch hart rd rs1 imm => Sys2Proof.Machine.execTkLdrs ch hart rd rs1 imm s
  | .tkLdso ch hart rd rs1 imm => Sys2Proof.Machine.execTkLdso ch hart rd rs1 imm s
  | .tkStout ch hart rs1 rs2 imm => Sys2Proof.Machine.execTkStout ch hart rs1 rs2 imm s
  | .tkStrs ch hart rs1 rs2 imm => Sys2Proof.Machine.execTkStrs ch hart rs1 rs2 imm s
  | .tkRdrel ch hart rd rs1 imm => Sys2Proof.Machine.execTkRdrel ch hart rd rs1 imm s
  | .tkTmstart ch hart rs1 rs2 => Sys2Proof.Machine.execTkTmstart ch hart rs1 rs2 s
  | .tkTmstop ch hart rs1 => Sys2Proof.Machine.execTkTmstop ch hart rs1 s
  | .tkTmel ch hart rd rs1 => Sys2Proof.Machine.execTkTmel ch hart rd rs1 s
  | .tkTmst ch hart rd rs1 => Sys2Proof.Machine.execTkTmst ch hart rd rs1 s
  | .tkNext ch hart rd => Sys2Proof.Machine.execTkNext ch hart rd s
  | .tkSdone ch hart => Sys2Proof.Machine.execTkSdone ch hart s
  | .sliceCompleteReport ch hart => Sys2Proof.Machine.execSliceCompleteReport ch hart s
  | .tkWait ch hart => Sys2Proof.Machine.execTkWait ch hart s
  | .tkWaitResume ch hart => Sys2Proof.Machine.execTkWaitResume ch hart s
  | .tkSid ch hart rd => Sys2Proof.Machine.execTkSid ch hart rd s
  | .tkPtag ch hart rd => Sys2Proof.Machine.execTkPtag ch hart rd s
  | .tkPchk ch hart rd rs1 => Sys2Proof.Machine.execTkPchk ch hart rd rs1 s
  | .inputFreezeComplete ch task => Sys2Proof.Machine.execInputFreezeComplete ch task s
  | .coreLoadStore ch ini write size addr data rd signed => Sys2Proof.Machine.execCoreLoadStore ch ini write size addr data rd signed s
  | .fence ch hart => Sys2Proof.Machine.execFence ch hart s
  | .fenceI ch hart => Sys2Proof.Machine.execFenceI ch hart s
  | .wfi ch hart => Sys2Proof.Machine.execWfi ch hart s
  | .csrTimeRead ch hart rd csr => Sys2Proof.Machine.execCsrTimeRead ch hart rd csr s
  | .customCsrAccess ch hart rd csr write value => Sys2Proof.Machine.execCustomCsrAccess ch hart rd csr write value s
  | .externalInterrupt ch hart => Sys2Proof.Machine.execExternalInterrupt ch hart s
  | .comparatorMismatch ch cell groups => Sys2Proof.Machine.execComparatorMismatch ch cell groups s
  | .signatureCompare ch cell => Sys2Proof.Machine.execSignatureCompare ch cell s
  | .debugHaltRequest ch hart => Sys2Proof.Machine.execDebugHaltRequest ch hart s
  | .debugResumeRequest ch hart => Sys2Proof.Machine.execDebugResumeRequest ch hart s
  | .debugStep ch hart => Sys2Proof.Machine.execDebugStep ch hart s
  | .debugRegisterRead ch hart r => Sys2Proof.Machine.execDebugRegisterRead ch hart r s
  | .debugRegisterWrite ch hart r value => Sys2Proof.Machine.execDebugRegisterWrite ch hart r value s
  | .debugProgramBufferExec ch p => Sys2Proof.Machine.execDebugProgramBufferExec ch p s
  | .debugSystemBusRead ch size addr => Sys2Proof.Machine.execDebugSystemBusRead ch size addr s
  | .debugSystemBusWrite ch size addr value => Sys2Proof.Machine.execDebugSystemBusWrite ch size addr value s
  | .debugTriggerWrite ch hart trig tdata1 tdata2 => Sys2Proof.Machine.execDebugTriggerWrite ch hart trig tdata1 tdata2 s
  | .debugLogPop ch ini => Sys2Proof.Machine.execDebugLogPop ch ini s
  | .tapIdcode ch => Sys2Proof.Machine.execTapIdcode ch s
  | .tapBypass ch => Sys2Proof.Machine.execTapBypass ch s
  | .cmdStop ch => Sys2Proof.Machine.execCmdStop ch s
  | .cmdRestart ch => Sys2Proof.Machine.execCmdRestart ch s
  | .cmdCommission ch => Sys2Proof.Machine.execCmdCommission ch s
  | .cmdMaintain ch => Sys2Proof.Machine.execCmdMaintain ch s
  | .cmdRecover ch => Sys2Proof.Machine.execCmdRecover ch s
  | .automaticRestart ch => Sys2Proof.Machine.execAutomaticRestart ch s
  | .proofTestDue ch => Sys2Proof.Machine.execProofTestDue ch s
  | .resetRequest ch value => Sys2Proof.Machine.execResetRequest ch value s
  | .resetWindowExpiry ch => Sys2Proof.Machine.execResetWindowExpiry ch s
  | .chgLoad ch => Sys2Proof.Machine.execChgLoad ch s
  | .chgArm ch => Sys2Proof.Machine.execChgArm ch s
  | .chgCancel ch => Sys2Proof.Machine.execChgCancel ch s
  | .chgRollback ch => Sys2Proof.Machine.execChgRollback ch s
  | .changeVerification ch => Sys2Proof.Machine.execChangeVerification ch s
  | .loadDigestReceive rx tx ok => Sys2Proof.Machine.execLoadDigestReceive rx tx ok s
  | .loadDigestTimeout ch => Sys2Proof.Machine.execLoadDigestTimeout ch s
  | .changeConfirmation ch value => Sys2Proof.Machine.execChangeConfirmation ch value s
  | .armWindowExpiry ch => Sys2Proof.Machine.execArmWindowExpiry ch s
  | .trialLimitExpiry ch => Sys2Proof.Machine.execTrialLimitExpiry ch s
  | .portUp r p => Sys2Proof.Machine.execPortUp r p s
  | .portUsable r p => Sys2Proof.Machine.execPortUsable r p s
  | .portDown r d => Sys2Proof.Machine.execPortDown r d s
  | .loopChange r => Sys2Proof.Machine.execLoopChange r s
  | .bypassRelaySwitched r => Sys2Proof.Machine.execBypassRelaySwitched r s
  | .probeSend r p t1 => Sys2Proof.Machine.execProbeSend r p t1 s
  | .probeRequestReceive r p seq turn ok => Sys2Proof.Machine.execProbeRequestReceive r p seq turn ok s
  | .probeResponseReceive r p seq turn t4 ok => Sys2Proof.Machine.execProbeResponseReceive r p seq turn t4 ok s
  | .framePassage r f => Sys2Proof.Machine.execFramePassage r f s
  | .ringSampleBlockDiscard r => Sys2Proof.Machine.execRingSampleBlockDiscard r s
  | .windowFetch r binding late => Sys2Proof.Machine.execWindowFetch r binding late s
  | .windowReturnDeadline r => Sys2Proof.Machine.execWindowReturnDeadline r s
  | .withdrawHoldExpiry r => Sys2Proof.Machine.execWithdrawHoldExpiry r s
  | .backoffExpiry r => Sys2Proof.Machine.execBackoffExpiry r s
  | .mailboxTimeout r => Sys2Proof.Machine.execMailboxTimeout r s
  | .timeMark ch r mark => Sys2Proof.Machine.execTimeMark ch r mark s
  | .pdTelegramDue p n => Sys2Proof.Machine.execPdTelegramDue p n s
  | .pdTelegramReceive p t => Sys2Proof.Machine.execPdTelegramReceive p t s
  | .pdPullRequest p hd replyComId replyIp => Sys2Proof.Machine.execPdPullRequest p hd replyComId replyIp s
  | .mdRequest p hd session svc req => Sys2Proof.Machine.execMdRequest p hd session svc req s
  | .mdNotify p hd session svc req => Sys2Proof.Machine.execMdNotify p hd session svc req s
  | .ptpSync p hd seq twoStep t1 corr t2 => Sys2Proof.Machine.execPtpSync p hd seq twoStep t1 corr t2 s
  | .ptpFollowUp p hd seq t1 corr => Sys2Proof.Machine.execPtpFollowUp p hd seq t1 corr s
  | .ptpAnnounce p m => Sys2Proof.Machine.execPtpAnnounce p m s
  | .announceTimeout p gm => Sys2Proof.Machine.execAnnounceTimeout p gm s
  | .ptpDelayResp p hd delay now => Sys2Proof.Machine.execPtpDelayResp p hd delay now s
  | .switchForward p ingress hd ptpEvent residence => Sys2Proof.Machine.execSwitchForward p ingress hd ptpEvent residence s
  | .arpRequest p hd => Sys2Proof.Machine.execArpRequest p hd s
  | .icmpEcho p ip hd => Sys2Proof.Machine.execIcmpEcho p ip hd s
  | .mvbMasterFrame fcode addr => Sys2Proof.Machine.execMvbMasterFrame fcode addr s
  | .mvbSlaveFrame addr okA okB data stamp => Sys2Proof.Machine.execMvbSlaveFrame addr okA okB data stamp s
  | .bridgeForwardReceive rx tx ok => Sys2Proof.Machine.execBridgeForwardReceive rx tx ok s
  | .sequenceGapTimeout ch entry => Sys2Proof.Machine.execSequenceGapTimeout ch entry s
  | .postedWriteDelivery ch qid dport => Sys2Proof.Machine.execPostedWriteDelivery ch qid dport s
  | .writeLifetimeExpiry ch qid dport => Sys2Proof.Machine.execWriteLifetimeExpiry ch qid dport s
  | .proxyReadRequest ch via tag index sub => Sys2Proof.Machine.execProxyReadRequest ch via tag index sub s
  | .downstreamAccessStart ch slot => Sys2Proof.Machine.execDownstreamAccessStart ch slot s
  | .downstreamReadComplete ch slot data token => Sys2Proof.Machine.execDownstreamReadComplete ch slot data token s
  | .downstreamAccessFail ch slot abort => Sys2Proof.Machine.execDownstreamAccessFail ch slot abort s
  | .requestHoldExpiry ch slot => Sys2Proof.Machine.execRequestHoldExpiry ch slot s
  | .collectTimerExpiry ch slot => Sys2Proof.Machine.execCollectTimerExpiry ch slot s
  | .commitAcknowledge ch slot => Sys2Proof.Machine.execCommitAcknowledge ch slot s
  | .commitRefused ch slot => Sys2Proof.Machine.execCommitRefused ch slot s
  | .commitResend ch slot => Sys2Proof.Machine.execCommitResend ch slot s
  | .readYield ch slot => Sys2Proof.Machine.execReadYield ch slot s
  | .sidebandPulseEnd ch e => Sys2Proof.Machine.execSidebandPulseEnd ch e s
  | .hostMessageAnswer ch m => Sys2Proof.Machine.execHostMessageAnswer ch m s
  | .pairStatusReceive rx r wcyc ps ok => Sys2Proof.Machine.execPairStatusReceive rx r wcyc ps ok s
  | .pairRecordReceive rx r wcyc rec ok => Sys2Proof.Machine.execPairRecordReceive rx r wcyc rec ok s
  | .trackTimeout ch => Sys2Proof.Machine.execTrackTimeout ch s
  | .standbyTest ch t => Sys2Proof.Machine.execStandbyTest ch t s
  | .quenchExpiry ch net => Sys2Proof.Machine.execQuenchExpiry ch net s
  | .outputFinding ch net f => Sys2Proof.Machine.execOutputFinding ch net f s
  | .transistorTestStart ch => Sys2Proof.Machine.execTransistorTestStart ch s
  | .transistorTestEnd ch changed restored => Sys2Proof.Machine.execTransistorTestEnd ch changed restored s
  | .transistorUntested ch net idx => Sys2Proof.Machine.execTransistorUntested ch net idx s
  | .fieldSupplyLow ch => Sys2Proof.Machine.execFieldSupplyLow ch s
  | .fieldSupplyRestored ch => Sys2Proof.Machine.execFieldSupplyRestored ch s
  | .permitInputFall ch net => Sys2Proof.Machine.execPermitInputFall ch net s
  | .sdFramePulse ch => Sys2Proof.Machine.execSdFramePulse ch s
  | .sdFrameBit ch k => Sys2Proof.Machine.execSdFrameBit ch k s
  | .sdCheckReceive rx tx ok => Sys2Proof.Machine.execSdCheckReceive rx tx ok s
  | .noclkDetect ch => Sys2Proof.Machine.execNoclkDetect ch s
  | .syncPinEdge ch rising wide early => Sys2Proof.Machine.execSyncPinEdge ch rising wide early s
  | .syncCommand ch value => Sys2Proof.Machine.execSyncCommand ch value s
  | .dictRead ch via req => Sys2Proof.Machine.execDictRead ch via req s
  | .dictWrite ch via req => Sys2Proof.Machine.execDictWrite ch via req s
  | .dictInfo ch via req => Sys2Proof.Machine.execDictInfo ch via req s
  | .dictNext ch via req => Sys2Proof.Machine.execDictNext ch via req s
  | .dictPeek ch via req => Sys2Proof.Machine.execDictPeek ch via req s
  | .dictCommit ch via req => Sys2Proof.Machine.execDictCommit ch via req s
  | .hallmarkConfirmation ch via tag value => Sys2Proof.Machine.execHallmarkConfirmation ch via tag value s
  | .journalTransactionDistribute => Sys2Proof.Machine.execJournalTransactionDistribute s
  | .journalRecordDurable ch ok => Sys2Proof.Machine.execJournalRecordDurable ch ok s
  | .prepareReportReceive tx => Sys2Proof.Machine.execPrepareReportReceive tx s
  | .journalCommitReceive ch => Sys2Proof.Machine.execJournalCommitReceive ch s
  | .participantTimeout ch => Sys2Proof.Machine.execParticipantTimeout ch s
  | .partialAckTimeout => Sys2Proof.Machine.execPartialAckTimeout s
  | .sequencingReeveTakeover ch => Sys2Proof.Machine.execSequencingReeveTakeover ch s
  | .journalCompaction ch => Sys2Proof.Machine.execJournalCompaction ch s
  | .snapshotReceive rx tx ok => Sys2Proof.Machine.execSnapshotReceive rx tx ok s
  | .snapshotTimer ch => Sys2Proof.Machine.execSnapshotTimer ch s
  | .reeveKick ch ini => Sys2Proof.Machine.execReeveKick ch ini s
  | .reeveWatchdogTimeout ch => Sys2Proof.Machine.execReeveWatchdogTimeout ch s
  | .reeveRestart ch => Sys2Proof.Machine.execReeveRestart ch s
  | .brigadeOffer ch peer h m => Sys2Proof.Machine.execBrigadeOffer ch peer h m s
  | .brigadePiece ch peer h data => Sys2Proof.Machine.execBrigadePiece ch peer h data s
  | .brigadeStatus ch peer h => Sys2Proof.Machine.execBrigadeStatus ch peer h s
  | .brigadeEnd ch peer h => Sys2Proof.Machine.execBrigadeEnd ch peer h s
  | .brigadeRefuse ch peer h => Sys2Proof.Machine.execBrigadeRefuse ch peer h s
  | .brigadeStatusTimer ch => Sys2Proof.Machine.execBrigadeStatusTimer ch s
  | .brigadeResend ch peer => Sys2Proof.Machine.execBrigadeResend ch peer s
  | .brigadeGiveUp ch peer => Sys2Proof.Machine.execBrigadeGiveUp ch peer s
  | .blockForwardReceive rx tx ok => Sys2Proof.Machine.execBlockForwardReceive rx tx ok s
  | .imageVerification ch slot => Sys2Proof.Machine.execImageVerification ch slot s
  | .updActivate ch => Sys2Proof.Machine.execUpdActivate ch s
  | .updStore ch => Sys2Proof.Machine.execUpdStore ch s
  | .updFallback ch => Sys2Proof.Machine.execUpdFallback ch s
  | .updErase ch => Sys2Proof.Machine.execUpdErase ch s
  | .updAbort ch => Sys2Proof.Machine.execUpdAbort ch s
  | .updInstallKey ch fuseOk => Sys2Proof.Machine.execUpdInstallKey ch fuseOk s
  | .firmwareConfirmation ch value => Sys2Proof.Machine.execFirmwareConfirmation ch value s
  | .fuseAdvance ch ini target fuseOk => Sys2Proof.Machine.execFuseAdvance ch ini target fuseOk s
  | .secHashStart ch ini len => Sys2Proof.Machine.execSecHashStart ch ini len s
  | .secHashDone ch => Sys2Proof.Machine.execSecHashDone ch s
  | .recoveryComplete => Sys2Proof.Machine.execRecoveryComplete s
  | .chronPost ch ini n value => Sys2Proof.Machine.execChronPost ch ini n value s
  | .recordWrite ch => Sys2Proof.Machine.execRecordWrite ch s
  | .chronStartScan ch => Sys2Proof.Machine.execChronStartScan ch s
  | .operatingSecond ch => Sys2Proof.Machine.execOperatingSecond ch s
  | .lcmdStop ch => Sys2Proof.Machine.execLcmdStop ch s
  | .lcmdRestart ch => Sys2Proof.Machine.execLcmdRestart ch s
  | .lcmdClearHistory ch => Sys2Proof.Machine.execLcmdClearHistory ch s
  | .legacyMessage ch via msg => Sys2Proof.Machine.execLegacyMessage ch via msg s
  | .laneRead ch p => Sys2Proof.Machine.execLaneRead ch p s
  | .laneWrite ch p => Sys2Proof.Machine.execLaneWrite ch p s
  | .hMbxDoor ch len => Sys2Proof.Machine.execHMbxDoor ch len s
  | .hMbxAck ch => Sys2Proof.Machine.execHMbxAck ch s
  | .hMsgDoor ch => Sys2Proof.Machine.execHMsgDoor ch s
  | .hMsgAck ch => Sys2Proof.Machine.execHMsgAck ch s
  | .hrstAssert ch => Sys2Proof.Machine.execHrstAssert ch s
  | .hrstRelease ch => Sys2Proof.Machine.execHrstRelease ch s
  | .shadowLoRead ch ini r => Sys2Proof.Machine.execShadowLoRead ch ini r s
  | .registerWrite ch ini addr value => Sys2Proof.Machine.execRegisterWrite ch ini addr value s
  | .alignmentInstant ch raw nets => Sys2Proof.Machine.execAlignmentInstant ch raw nets s
  | .capturedBit ch bits frame sync => Sys2Proof.Machine.execCapturedBit ch bits frame sync s
  | .disciplineHoldover ch => Sys2Proof.Machine.execDisciplineHoldover ch s
  | .ecnPortLinkChange ch port up => Sys2Proof.Machine.execEcnPortLinkChange ch port up s
  | .mvbSinkTimeout => Sys2Proof.Machine.execMvbSinkTimeout s
  | .switchDigestReceive rx tx ok => Sys2Proof.Machine.execSwitchDigestReceive rx tx ok s
  | .xlinkCodeViolation ch link => Sys2Proof.Machine.execXlinkCodeViolation ch link s
  | .journalBlockErased ch block => Sys2Proof.Machine.execJournalBlockErased ch block s
  | .ecall ch hart => Sys2Proof.Machine.execEcall ch hart s
  | .ebreak ch hart => Sys2Proof.Machine.execEbreak ch hart s
  | .illegalInstruction ch hart bits => Sys2Proof.Machine.execIllegalInstruction ch hart bits s
  | .instructionAccessFault ch hart addr => Sys2Proof.Machine.execInstructionAccessFault ch hart addr s

end Sys2Proof.Machine
end

