-- ==== Sys2Proof/Safety.lean ====
section
/-! DEFINITION. What the statements are said in: the part of the machine a command is confined to, soundness of the messages in flight, and when a core goes on. -/

namespace Sys2Proof.Safety
open Sys2Proof Sys2Proof.Machine

/-- Nothing outside channel `ch` changed, but for the model's own free-value counter: the other channels, the messages in flight, the queue. -/
def OnlyChan (ch : Ch) (s t : State) : Prop :=
  (∀ x, x ≠ ch → t.chan x = s.chan x) ∧ t.wire = s.wire ∧ t.pending = s.pending

/-- Only the cell of hart `h` changed. -/
def OnlyCell (ch : Ch) (h : Nat) (s t : State) : Prop :=
  OnlyChan ch s t ∧ ({ t.chan ch with cells := (s.chan ch).cells } : Chan) = s.chan ch ∧
  ∀ m, m ≠ h / 2 → (t.chan ch).cell m = (s.chan ch).cell m

/-- A message runs between two different channels, and one that is relayed is of class 1 or 2 and goes by the third channel (R34). -/
def msgSound (m : XMsg) : Bool :=
  decide (m.tx ≠ m.rx) && (match m.way with | .direct => true | .toRelay r | .relayed r => r == third m.tx m.rx && decide (m.body.cls ≤ 2))

/-- Every message in flight is sound. -/
def WireSound (s : State) : Prop := s.wire.all msgSound = true

/-- Hart `h` executes its next instruction: it runs, in a bonded cell both copies send the same, and no trigger stands on its address. -/
def CoreGoes (s : State) (ch : Ch) (h : Nat) : Prop :=
  (s.chan ch).coreRuns h = true ∧ (s.chan ch).copies h = 0#13 ∧ (s.chan ch).hit h 2 ((s.chan ch).core h).pc.toNat = none

/-- The state of a core behind an instruction of 4 octets: pc and instret have advanced. -/
def stepped (k : CoreSt) : CoreSt := { k with pc := k.pc + 4#32, instret := k.instret + 1#64 }.endStep

/-- Hart `h` of a bonded cell holds a slice of task `t` with instance `i`. -/
def InSlice (s : State) (ch : Ch) (h : Nat) (t : TaskRt) (i : Inst) : Prop :=
  (s.chan ch).splitCore h = false ∧ ((s.chan ch).core h).slice ≠ 0#32 ∧ (s.chan ch).ctx ((s.chan ch).core h).slice = some (t, i)

/-- The first message of `tx` for `rx` that needs no relay and whose body satisfies `p` is `m`, with none of a higher class ahead of it on
its way (R32); `w` is what else is in flight. -/
def Arrives (s : State) (rx tx : Ch) (p : XBody → Bool) (m : XMsg) (w : List XMsg) : Prop :=
  wireTake (fun x => x.rx == rx && x.tx == tx && x.lastLink && p x.body) s.wire = some (m, w) ∧ aheadOf s.wire m = false

/-- An address of SRAM or of dynamic memory, whose octets live in memory alone (Table 1-8). -/
def plainAddr (a : Nat) : Prop := (0x10000000 ≤ a ∧ a ≤ 0x10FFFFFF) ∨ (0x80000000 ≤ a ∧ a ≤ 0xBFFFFFFF)

/-- A channel in M9 whose debug module serves an action on hart `h`: the port is connected, the log has room, the cell runs. -/
def DebugServes (s : State) (ch : Ch) (h : Nat) : Prop :=
  (s.chan ch).sys.cstate ≠ .off ∧ (s.chan ch).tapCut = false ∧ (s.chan ch).sys.mode = .m9 ∧ (s.chan ch).dbg.log.length < 256 ∧
  h < 16 ∧ (((s.chan ch).cell (h / 2)).mode = .split ∨ (((s.chan ch).cell (h / 2)).mode = .bonded ∧ h % 2 = 0))

/-- The channel that a command is confined to; `none` for a command that receives from, sends to, judges with or restarts other channels. -/
def home (i : Instr) : Option Ch :=
  match i with
  | .feedStartThreshold _ _ => none
  | .keepInRegulation _ => none
  | .domainsInRegulation ch => some ch
  | .powerFailFlush ch _ _ => some ch
  | .flushComplete _ _ _ => none
  | .keepLeavesRegulation _ => none
  | .feedLowWarning ch _ _ => some ch
  | .feedOver ch _ _ => some ch
  | .feedCurrentLimit ch _ => some ch
  | .domainOutOfRegulation ch _ => some ch
  | .domainShutdownDone _ => none
  | .dieHot ch _ => some ch
  | .overtemperature ch _ => some ch
  | .laneLock ch => some ch
  | .laneLoss _ => none
  | .holdoverExpiry _ => none
  | .rootPllLock ch => some ch
  | .rootPllLossOfLock _ => none
  | .dividerStart ch => some ch
  | .watchQualification ch _ => some ch
  | .watchRecalibration ch _ => some ch
  | .monitorWindow _ _ => none
  | .keepClockSwitched ch => some ch
  | .multiplexerHang ch _ => some ch
  | .fallbackShutdownDone _ => none
  | .clockStartRetry ch => some ch
  | .reeveRelease _ _ _ => none
  | .assayStepComplete _ _ => none
  | .assayStepAbandon ch => some ch
  | .assayStepRetry ch => some ch
  | .s7WaitLimit => none
  | .startImageVerification _ => none
  | .legacyTranslation ch => some ch
  | .journalScan _ => none
  | .startDecision => none
  | .tickBoundary _ => none
  | .judgementInstant _ => none
  | .boundaryMessageReceive _ _ _ _ => none
  | .completionNoticeReceive _ _ _ => none
  | .resyncPageSumList _ _ => none
  | .resyncPageRequest _ _ => none
  | .resyncPageData _ _ => none
  | .resyncTimerSnapshot _ _ => none
  | .resyncTimerOperations _ _ => none
  | .resyncTimeout ch => some ch
  | .forwardedInputReceive _ _ _ => none
  | .xlinkSegmentRelay _ _ => none
  | .linkLost ch _ => some ch
  | .linkUp ch _ _ _ => some ch
  | .tkLdin ch _ _ _ _ => some ch
  | .tkLdfr ch _ _ _ _ => some ch
  | .tkLdrs ch _ _ _ _ => some ch
  | .tkLdso ch _ _ _ _ => some ch
  | .tkStout ch _ _ _ _ => some ch
  | .tkStrs ch _ _ _ _ => some ch
  | .tkRdrel ch _ _ _ _ => some ch
  | .tkTmstart ch _ _ _ => some ch
  | .tkTmstop ch _ _ => some ch
  | .tkTmel ch _ _ _ => some ch
  | .tkTmst ch _ _ _ => some ch
  | .tkNext ch _ _ => some ch
  | .tkSdone ch _ => some ch
  | .sliceCompleteReport _ _ => none
  | .tkWait ch _ => some ch
  | .tkWaitResume ch _ => some ch
  | .tkSid ch _ _ => some ch
  | .tkPtag ch _ _ => some ch
  | .tkPchk ch _ _ _ => some ch
  | .inputFreezeComplete ch _ => some ch
  | .coreLoadStore ch _ _ _ _ _ _ _ => some ch
  | .fence ch _ => some ch
  | .fenceI ch _ => some ch
  | .wfi ch _ => some ch
  | .csrTimeRead ch _ _ _ => some ch
  | .customCsrAccess ch _ _ _ _ _ => some ch
  | .externalInterrupt ch _ => some ch
  | .comparatorMismatch ch _ _ => some ch
  | .signatureCompare ch _ => some ch
  | .debugHaltRequest ch _ => some ch
  | .debugResumeRequest ch _ => some ch
  | .debugStep ch _ => some ch
  | .debugRegisterRead ch _ _ => some ch
  | .debugRegisterWrite ch _ _ _ => some ch
  | .debugProgramBufferExec ch _ => some ch
  | .debugSystemBusRead ch _ _ => some ch
  | .debugSystemBusWrite ch _ _ _ => some ch
  | .debugTriggerWrite ch _ _ _ _ => some ch
  | .debugLogPop ch _ => some ch
  | .tapIdcode ch => some ch
  | .tapBypass ch => some ch
  | .cmdStop ch => some ch
  | .cmdRestart ch => some ch
  | .cmdCommission ch => some ch
  | .cmdMaintain ch => some ch
  | .cmdRecover ch => some ch
  | .automaticRestart ch => some ch
  | .proofTestDue ch => some ch
  | .resetRequest ch _ => some ch
  | .resetWindowExpiry _ => none
  | .chgLoad ch => some ch
  | .chgArm ch => some ch
  | .chgCancel ch => some ch
  | .chgRollback ch => some ch
  | .changeVerification _ => none
  | .loadDigestReceive _ _ _ => none
  | .loadDigestTimeout ch => some ch
  | .changeConfirmation _ _ => none
  | .armWindowExpiry ch => some ch
  | .trialLimitExpiry ch => some ch
  | .portUp r _ => some (ringOwner r)
  | .portUsable r _ => some (ringOwner r)
  | .portDown _ _ => none
  | .loopChange r => some (ringOwner r)
  | .bypassRelaySwitched r => some (ringOwner r)
  | .probeSend r _ _ => some (ringOwner r)
  | .probeRequestReceive r _ _ _ _ => some (ringOwner r)
  | .probeResponseReceive r _ _ _ _ _ => some (ringOwner r)
  | .framePassage _ _ => none
  | .ringSampleBlockDiscard r => some (ringOwner r)
  | .windowFetch _ _ _ => none
  | .windowReturnDeadline r => some (ringOwner r)
  | .withdrawHoldExpiry r => some (ringOwner r)
  | .backoffExpiry r => some (ringOwner r)
  | .mailboxTimeout _ => none
  | .timeMark ch _ _ => some ch
  | .pdTelegramDue _ _ => none
  | .pdTelegramReceive _ _ => none
  | .pdPullRequest _ _ _ _ => none
  | .mdRequest _ _ _ _ _ => none
  | .mdNotify _ _ _ _ _ => none
  | .ptpSync _ _ _ _ _ _ _ => none
  | .ptpFollowUp _ _ _ _ _ => none
  | .ptpAnnounce p _ => some (planeOwner p)
  | .announceTimeout p _ => some (planeOwner p)
  | .ptpDelayResp p _ _ _ => some (planeOwner p)
  | .switchForward p _ _ _ _ => some (planeOwner p)
  | .arpRequest p _ => some (portOwner p)
  | .icmpEcho p _ _ => some (portOwner p)
  | .mvbMasterFrame _ _ => some .C
  | .mvbSlaveFrame _ _ _ _ _ => none
  | .bridgeForwardReceive _ _ _ => none
  | .sequenceGapTimeout ch _ => some ch
  | .postedWriteDelivery ch _ _ => some ch
  | .writeLifetimeExpiry ch _ _ => some ch
  | .proxyReadRequest _ _ _ _ _ => none
  | .downstreamAccessStart _ _ => none
  | .downstreamReadComplete _ _ _ _ => none
  | .downstreamAccessFail _ _ _ => none
  | .requestHoldExpiry ch _ => some ch
  | .collectTimerExpiry _ _ => none
  | .commitAcknowledge _ _ => none
  | .commitRefused _ _ => none
  | .commitResend _ _ => none
  | .readYield ch _ => some ch
  | .sidebandPulseEnd ch _ => some ch
  | .hostMessageAnswer _ _ => none
  | .pairStatusReceive _ _ _ _ _ => none
  | .pairRecordReceive _ _ _ _ _ => none
  | .trackTimeout ch => some ch
  | .standbyTest ch _ => some ch
  | .quenchExpiry ch _ => some ch
  | .outputFinding _ _ _ => none
  | .transistorTestStart ch => some ch
  | .transistorTestEnd ch _ _ => some ch
  | .transistorUntested ch _ _ => some ch
  | .fieldSupplyLow ch => some ch
  | .fieldSupplyRestored ch => some ch
  | .permitInputFall ch _ => some ch
  | .sdFramePulse ch => some ch
  | .sdFrameBit _ _ => none
  | .sdCheckReceive _ _ _ => none
  | .noclkDetect ch => some ch
  | .syncPinEdge ch _ _ _ => some ch
  | .syncCommand ch _ => some ch
  | .dictRead _ _ _ => none
  | .dictWrite _ _ _ => none
  | .dictInfo _ _ _ => none
  | .dictNext _ _ _ => none
  | .dictPeek _ _ _ => none
  | .dictCommit _ _ _ => none
  | .hallmarkConfirmation _ _ _ _ => none
  | .journalTransactionDistribute => none
  | .journalRecordDurable _ _ => none
  | .prepareReportReceive _ => none
  | .journalCommitReceive _ => none
  | .participantTimeout _ => none
  | .partialAckTimeout => none
  | .sequencingReeveTakeover _ => none
  | .journalCompaction ch => some ch
  | .snapshotReceive _ _ _ => none
  | .snapshotTimer _ => none
  | .reeveKick ch _ => some ch
  | .reeveWatchdogTimeout _ => none
  | .reeveRestart _ => none
  | .brigadeOffer _ _ _ _ => none
  | .brigadePiece _ _ _ _ => none
  | .brigadeStatus ch _ _ => some ch
  | .brigadeEnd _ _ _ => none
  | .brigadeRefuse ch _ _ => some ch
  | .brigadeStatusTimer ch => some ch
  | .brigadeResend ch _ => some ch
  | .brigadeGiveUp ch _ => some ch
  | .blockForwardReceive _ _ _ => none
  | .imageVerification _ _ => none
  | .updActivate _ => none
  | .updStore _ => none
  | .updFallback _ => none
  | .updErase _ => none
  | .updAbort _ => none
  | .updInstallKey _ _ => none
  | .firmwareConfirmation _ _ => none
  | .fuseAdvance ch _ _ _ => some ch
  | .secHashStart ch _ _ => some ch
  | .secHashDone ch => some ch
  | .recoveryComplete => none
  | .chronPost ch _ _ _ => some ch
  | .recordWrite ch => some ch
  | .chronStartScan ch => some ch
  | .operatingSecond ch => some ch
  | .lcmdStop _ => none
  | .lcmdRestart _ => none
  | .lcmdClearHistory _ => none
  | .legacyMessage _ _ _ => none
  | .laneRead ch _ => some ch
  | .laneWrite _ _ => none
  | .hMbxDoor _ _ => none
  | .hMbxAck ch => some ch
  | .hMsgDoor _ => none
  | .hMsgAck ch => some ch
  | .hrstAssert _ => none
  | .hrstRelease _ => none
  | .shadowLoRead ch _ _ => some ch
  | .registerWrite ch _ _ _ => some ch
  | .alignmentInstant _ _ _ => none
  | .capturedBit ch _ _ _ => some ch
  | .disciplineHoldover ch => some ch
  | .ecnPortLinkChange ch _ _ => some ch
  | .mvbSinkTimeout => some .C
  | .switchDigestReceive _ _ _ => none
  | .xlinkCodeViolation ch _ => some ch
  | .journalBlockErased ch _ => some ch
  | .ecall ch _ => some ch
  | .ebreak ch _ => some ch
  | .illegalInstruction ch _ _ => some ch
  | .instructionAccessFault ch _ _ => some ch

end Sys2Proof.Safety
end

