-- ==== Sys2Proof/Certificates/Slice0/Obligations.lean ====
section
/-! DEFINITION. The statements for the provers. -/

open Sys2Proof Sys2Proof.Machine

/-- For every command i, every queue r and every state s, a step of s with the queue i :: r is exec of i on s with the queue r. -/
def Obligations.StepRunsFrontCommand : Prop :=
  ∀ (i : Instr) (r : List Instr) (s : State), step { s with pending := i :: r } = exec i { s with pending := r }

/-- With an empty queue a step answers a next state with the same messages in flight and an empty queue. In it a channel in which no core is live is as before if its dividers stand still; if they run and it is OFF or HELD, its alignment counter alone has counted one clock; if they run and it is up, the accumulator of its time base has advanced by the increment INC modulo 2^96 and its alignment counter by one, each front port of its switch has sent a frame that waited, the cycle counter of both cores of every bonded or split cell has advanced by the 4 cycles of the 1,000 MHz cell clock, and nothing else has changed. That an idle step is one clock is the model's choice (log entry 3). -/
def Obligations.EmptyQueuePassesOneClock : Prop :=
  ∀ s : State, s.pending = [] → ∃ t, step s = .next t ∧ t.wire = s.wire ∧ t.pending = [] ∧
    ∀ ch, (∀ h, h < 16 → (s.chan ch).coreLive h = false) →
      t.chan ch =
        if (s.chan ch).clk.divRun = false then s.chan ch
        else if (s.chan ch).up = false then { s.chan ch with tb := { (s.chan ch).tb with align := (s.chan ch).tb.align + 1 } }
        else { ({ s.chan ch with tb := { (s.chan ch).tb with acc := (s.chan ch).tb.acc + BitVec.ofNat 96 (s.chan ch).tb.inc, align := (s.chan ch).tb.align + 1 } } : Chan).drain with
          cells := (s.chan ch).cells.map (fun x => if x.mode = .bonded ∨ x.mode = .split then
            { x with core0 := { x.core0 with cycle := x.core0.cycle + 4#64 }, core1 := { x.core1 with cycle := x.core1.cycle + 4#64 } } else x) }

/-- After reset each channel is HELD and the mode is M1; each of its eight cells is in reset with both cores at address 0, in machine mode, mtvec 0x40 and MIE 0; the lane is not locked and no domain but KEEP is in regulation; the dividers and the tick generator stand still; nothing has left the ports; memory lists nothing and has its canonical form; no message is in flight, every message in flight is sound, and no command waits. -/
def Obligations.ResetLeaves : Prop :=
  State.reset.pending = [] ∧ State.reset.wire = [] ∧ Safety.WireSound State.reset ∧
  ∀ ch, (State.reset.chan ch).sys.cstate = .held ∧ (State.reset.chan ch).sys.mode = .m1 ∧ (State.reset.chan ch).pwr.dom = 1#5 ∧
    (State.reset.chan ch).clk.laneLock = false ∧ (State.reset.chan ch).clk.divRun = false ∧ (State.reset.chan ch).tb.tickRun = false ∧
    (State.reset.chan ch).sent = [] ∧ (State.reset.chan ch).mem = [] ∧ Memory.wf (State.reset.chan ch).mem = true ∧ (State.reset.chan ch).cells.length = 8 ∧
    ∀ h, ((State.reset.chan ch).cell (h / 2)).mode = .unusable ∧ ((State.reset.chan ch).core h).pc = 0#32 ∧
      ((State.reset.chan ch).core h).user = false ∧ ((State.reset.chan ch).core h).mtvec = 0x40#32 ∧ ((State.reset.chan ch).core h).mie = false

/-- For every command and every state, if exec answers a next state, its queue of waiting commands is the queue before. Hence a step with a command in front leaves exactly the queue's rest, and a step on an empty queue leaves it empty. -/
def Obligations.EveryCommandKeepsTheQueue : Prop :=
  (∀ (i : Instr) (s t : State), exec i s = .next t → t.pending = s.pending) ∧
  (∀ s t : State, step s = .next t → t.pending = s.pending.tail)

/-- From every state, whatever command stands in front of the queue and whatever its operands, a step answers a next state. In particular no ordinary data ends a run. -/
def Obligations.NoCommandStopsTheModule : Prop :=
  ∀ s : State, ∃ t, step s = .next t

/-- If every message in flight runs between two different channels, and every message that still needs a relay is of traffic class 1 or 2 and waits at the third channel, then the same holds after every step. -/
def Obligations.EveryStepKeepsMessagesSound : Prop :=
  ∀ s t : State, Safety.WireSound s → step s = .next t → Safety.WireSound t

/-- For every command that the list Instr.home gives a channel (all commands but those that receive from, send to, judge with or restart other channels), if exec answers a next state, then the other two channels are exactly as before, and so are the messages in flight and the queue. -/
def Obligations.ChannelCommandsStayInTheirChannel : Prop :=
  ∀ (i : Instr) (s t : State) (ch : Ch), Safety.home i = some ch → exec i s = .next t → Safety.OnlyChan ch s t

/-- With KEEP in regulation: FEED_LOW_WARNING below 16.8 V stores the feed's measurement and raises its low flag; FEED_OVER above 30 V stores it and raises flag 2; FEED_CURRENT_LIMIT raises flag 7; DIE_HOT at 120 °C or more stores the temperature and raises flag 5. Each leaves every other part of the machine as it was. -/
def Obligations.FeedAndHeatWarnings : Prop :=
  ∀ (s : State) (ch : Ch) (f : Feed) (mv : Nat) (x : BitVec 16), (s.chan ch).pwr.dom.getLsbD 0 = true →
    (mv < 16800 → exec (.feedLowWarning ch f mv) s = .next (s.upd ch fun c =>
      { c with pwr := { c.pwr.feed f mv with flag := c.pwr.flag.raise (match f with | .f1 => 0 | .f2 => 1) } })) ∧
    (30000 < mv → exec (.feedOver ch f mv) s = .next (s.upd ch fun c =>
      { c with pwr := { c.pwr.feed f mv with flag := c.pwr.flag.raise 2 } })) ∧
    (exec (.feedCurrentLimit ch f) s = .next (s.upd ch fun c => { c with pwr := { c.pwr with flag := c.pwr.flag.raise 7 } })) ∧
    (1200 ≤ x.toInt → exec (.dieHot ch x) s = .next (s.upd ch fun c =>
      { c with pwr := { c.pwr.temp x with flag := c.pwr.flag.raise 5 } }))

/-- With a feed at 16.8 V or more every OFF channel becomes HELD. KEEP coming into regulation leaves the channel HELD with KEEP alone in regulation, its watch oscillator running and its power-cycle count advanced (saturating). The other domains reaching regulation in HELD, with the host reset pin high, enables the CDR. KEEP leaving regulation makes the channel OFF with no domain in regulation and its memory content, but for flash and MRAM, back at what an unlisted address reads as. -/
def Obligations.PowerUpAndDown : Prop :=
  ∀ (s : State) (ch : Ch),
    (∀ mv1 mv2, (16800 ≤ mv1 ∨ 16800 ≤ mv2) → (s.chan ch).sys.cstate = .off →
      ∃ t, exec (.feedStartThreshold mv1 mv2) s = .next t ∧ (t.chan ch).sys.cstate = .held) ∧
    ((s.chan ch).pwr.dom.getLsbD 0 = false → ∃ t, exec (.keepInRegulation ch) s = .next t ∧ (t.chan ch).sys.cstate = .held ∧
      (t.chan ch).pwr.dom = 1#5 ∧ (t.chan ch).clk.watchRun = true ∧ (t.chan ch).mram.pcyc = min ((s.chan ch).mram.pcyc + 1) 0xFFFFFFFF) ∧
    ((s.chan ch).pwr.dom = 1#5 → (s.chan ch).sys.cstate = .held → (s.chan ch).sys.hrst = false →
      exec (.domainsInRegulation ch) s = .next (s.upd ch fun c =>
        { c with pwr := { c.pwr with dom := 0x1F#5 }, clk := { c.clk with cdrEn := true, retryDue := false } })) ∧
    ((s.chan ch).pwr.dom.getLsbD 0 = true → ∃ t, exec (.keepLeavesRegulation ch) s = .next t ∧ (t.chan ch).sys.cstate = .off ∧
      (t.chan ch).pwr.dom = 0#5 ∧ (t.chan ch).mem = (s.chan ch).mem.filter (fun x => decide (0xC0000000 ≤ x.1)))

/-- A channel that is up and not flushing enters the flush on POWER_FAIL_FLUSH: the feed measurements are stored and flag 3 of PWR_FLAG is raised, it is flushing and leaving, and if it was VOTING it is OUT, else in the state it was in. A domain other than KEEP out of regulation is no longer in regulation and raises flag 4; a die above 135 °C stores the temperature and raises flag 6: either begins the shutdown of a channel that is up, which is leaving and no longer VOTING but OUT. None of these three changes another channel. The end of a flush leaves the channel HELD and no longer flushing, the end of a domain shutdown leaves it HELD. -/
def Obligations.FlushAndDomainLoss : Prop :=
  ∀ (s : State) (ch : Ch) (mv1 mv2 : Nat) (d : Domain) (x : BitVec 16),
    ((s.chan ch).up = true → (s.chan ch).sys.flushing = false → ∃ t, exec (.powerFailFlush ch mv1 mv2) s = .next t ∧
      (t.chan ch).pwr = { (s.chan ch).pwr.feeds mv1 mv2 with flag := (s.chan ch).pwr.flag.raise 3 } ∧
      (t.chan ch).sys.flushing = true ∧ (t.chan ch).sys.leaving = true ∧
      (t.chan ch).sys.cstate = (if (s.chan ch).sys.cstate = .voting then .out else (s.chan ch).sys.cstate) ∧ Safety.OnlyChan ch s t) ∧
    ((s.chan ch).sys.flushing = true → ∃ t, exec (.flushComplete ch mv1 mv2) s = .next t ∧ (t.chan ch).sys.cstate = .held ∧
      (t.chan ch).sys.flushing = false) ∧
    ((s.chan ch).up = true → d ≠ .keep → (s.chan ch).pwr.dom.getLsbD (domBit d) = true →
      ∃ t, exec (.domainOutOfRegulation ch d) s = .next t ∧
        (t.chan ch).pwr = { (s.chan ch).pwr with dom := (s.chan ch).pwr.dom &&& ~~~ (1#5 <<< domBit d), flag := (s.chan ch).pwr.flag.raise 4 } ∧
        (t.chan ch).sys.shutting = true ∧ (t.chan ch).sys.leaving = true ∧
        (t.chan ch).sys.cstate = (if (s.chan ch).sys.cstate = .voting then .out else (s.chan ch).sys.cstate) ∧ Safety.OnlyChan ch s t) ∧
    ((s.chan ch).sys.shutting = true → ∃ t, exec (.domainShutdownDone ch) s = .next t ∧ (t.chan ch).sys.cstate = .held) ∧
    (1350 < x.toInt → (s.chan ch).up = true → ∃ t, exec (.overtemperature ch x) s = .next t ∧
      (t.chan ch).pwr = { (s.chan ch).pwr.temp x with flag := (s.chan ch).pwr.flag.raise 6 } ∧
      (t.chan ch).sys.shutting = true ∧ (t.chan ch).sys.leaving = true ∧
      (t.chan ch).sys.cstate = (if (s.chan ch).sys.cstate = .voting then .out else (s.chan ch).sys.cstate) ∧ Safety.OnlyChan ch s t)

/-- LANE_LOCK with the CDR enabled locks the lane, ends holdover and enables the PLL. ROOT_PLL_LOCK records the lock. DIVIDER_START starts the dividers and the alignment counter from 0, returns the keep clock to root and begins a qualification attempt. A passing WATCH_QUALIFICATION qualifies the oscillator with the derived frequency and forgets which monitors were out (log entry 84), a failing one counts an attempt. A recalibration within 1 % replaces the frequency. CLOCK_START_RETRY enables the CDR again in a HELD channel whose domains are in regulation and whose reset pin is high. Each leaves everything else as it was. -/
def Obligations.ClockStartSequence : Prop :=
  ∀ (s : State) (ch : Ch),
    ((s.chan ch).clk.cdrEn = true → (s.chan ch).clk.laneLock = false → exec (.laneLock ch) s = .next (s.upd ch fun c =>
      { c with clk := { c.clk with laneLock := true, holdover := false, pllEn := true } })) ∧
    ((s.chan ch).clk.pllEn = true → (s.chan ch).clk.laneLock = true → exec (.rootPllLock ch) s = .next (s.upd ch fun c =>
      { c with clk := { c.clk with pllLock := true } })) ∧
    ((s.chan ch).clk.pllLock = true → (s.chan ch).clk.divRun = false → exec (.dividerStart ch) s = .next (s.upd ch fun c =>
      { c with clk := { c.clk with divRun := true, keepSrc := false, muxSel := c.clk.muxSel &&& 191#8, prevOut := [], qatt := min (c.clk.qatt + 1) 255 }, tb := { c.tb with align := 0, alignSeen := 0 } })) ∧
    (∀ g : List Nat, (s.chan ch).clk.divRun = true → (s.chan ch).clk.watchRun = true → (s.chan ch).clk.qual = false → g.length = 64 →
      (watchPasses g = true → exec (.watchQualification ch g) s = .next (s.upd ch fun c =>
        { c with clk := { c.clk with qual := true, cal := 125000000 * 1024 / g.foldl (· + ·) 0, prevOut := [] } })) ∧
      (watchPasses g = false → exec (.watchQualification ch g) s = .next (s.upd ch fun c =>
        { c with clk := { c.clk with qatt := min (c.clk.qatt + 1) 255 } }))) ∧
    (∀ n, (s.chan ch).clk.qual = true → (s.chan ch).clk.laneLock = true → (s.chan ch).clk.holdover = false → watchInRange n = true →
      100 * watchHz n ≤ 101 * (s.chan ch).clk.cal → 99 * (s.chan ch).clk.cal ≤ 100 * watchHz n →
      exec (.watchRecalibration ch n) s = .next (s.upd ch fun c => { c with clk := { c.clk with cal := watchHz n } })) ∧
    ((s.chan ch).clk.retryDue = true → (s.chan ch).sys.cstate = .held → (s.chan ch).pwr.dom = 0x1F#5 → (s.chan ch).sys.hrst = false →
      exec (.clockStartRetry ch) s = .next (s.upd ch fun c => { c with clk := { c.clk with cdrEn := true, retryDue := false } }))

/-- A qualified channel that loses its lane goes to holdover, and requests outstanding on the lane are gone. Holdover expiry and the lane loss of an unqualified channel trip REF (source 0), loss of PLL lock outside holdover trips ROOT (source 1): the trip count advances, saturating at 255, and the source is recorded; a qualified channel begins the fallback and votes no more, an unqualified one is HELD. A monitor window of a qualified channel whose eight counts lie within tolerance and are not zero changes of the clock system only which monitors were out. The keep clock switching over selects the watch oscillator. A hung multiplexer raises its flag, its request is cleared unless an assay step is abandoned for it, and of every multiplexer but the keep clock's the domain's loss is recorded. The end of the fallback leaves the channel HELD. -/
def Obligations.ClockLossAndFallback : Prop :=
  ∀ (s : State) (ch : Ch),
    ((s.chan ch).clk.laneLock = true → (s.chan ch).clk.qual = true → ∃ t, exec (.laneLoss ch) s = .next t ∧
      (t.chan ch).clk = { (s.chan ch).clk with laneLock := false, holdover := true, mon := (s.chan ch).clk.mon.raise 10 } ∧ (t.chan ch).host.outst = []) ∧
    ((s.chan ch).clk.laneLock = true → (s.chan ch).clk.qual = false → ∃ t, exec (.laneLoss ch) s = .next t ∧ (t.chan ch).clk.tripSrc = 0 ∧
      (t.chan ch).clk.tripCount = min ((s.chan ch).clk.tripCount + 1) 255 ∧ (t.chan ch).sys.cstate = .held) ∧
    ((s.chan ch).clk.holdover = true → (s.chan ch).clk.laneLock = false → (s.chan ch).clk.falling = false →
      ∃ t, exec (.holdoverExpiry ch) s = .next t ∧ (t.chan ch).clk.tripSrc = 0 ∧ (t.chan ch).clk.tripCount = min ((s.chan ch).clk.tripCount + 1) 255 ∧
        ((s.chan ch).clk.qual = true → (t.chan ch).clk.falling = true ∧ (t.chan ch).sys.cstate ≠ .voting) ∧
        ((s.chan ch).clk.qual = false → (t.chan ch).sys.cstate = .held)) ∧
    ((s.chan ch).clk.pllLock = true → (s.chan ch).clk.holdover = false →
      ∃ t, exec (.rootPllLossOfLock ch) s = .next t ∧ (t.chan ch).clk.pllLock = false ∧ (t.chan ch).clk.tripSrc = 1 ∧
        (t.chan ch).clk.tripCount = min ((s.chan ch).clk.tripCount + 1) 255 ∧
        ((s.chan ch).clk.qual = true → (t.chan ch).clk.falling = true ∧ (t.chan ch).sys.cstate ≠ .voting) ∧
        ((s.chan ch).clk.qual = false → (t.chan ch).sys.cstate = .held)) ∧
    (∀ g : List Nat, (s.chan ch).clk.divRun = true → (s.chan ch).clk.falling = false → g.length = 8 → (s.chan ch).clk.qual = true →
      (∀ x ∈ g.zip monitors, monWithin x.1 x.2.2.1 (s.chan ch).clk.cal x.2.2.2 = true ∧ x.1 ≠ 0) →
      ∃ t, exec (.monitorWindow ch g) s = .next t ∧ (t.chan ch).clk = { (s.chan ch).clk with prevOut := [] }) ∧
    ((s.chan ch).clk.muxReq.getLsbD 6 = true → ∃ t, exec (.keepClockSwitched ch) s = .next t ∧ (t.chan ch).clk.keepSrc = true ∧
      (t.chan ch).clk.muxReq = (s.chan ch).clk.muxReq &&& 191#8 ∧ (t.chan ch).clk.muxSel = (s.chan ch).clk.muxSel ||| 64#8 ∧ Safety.OnlyChan ch s t) ∧
    (∀ n, n < 8 → (s.chan ch).clk.muxReq.getLsbD n = true → ∃ t, exec (.multiplexerHang ch n) s = .next t ∧
      (t.chan ch).clk.forced = (s.chan ch).clk.forced.raise n ∧ Safety.OnlyChan ch s t ∧
      (6 ≤ n ∨ (s.chan ch).assay.result ≠ 3 → (t.chan ch).clk.muxReq = (s.chan ch).clk.muxReq &&& ~~~ (1#8 <<< n)) ∧
      (n ≠ 6 → (t.chan ch).clk.lostDom = (s.chan ch).clk.lostDom ||| (1#8 <<< n))) ∧
    ((s.chan ch).clk.falling = true → (s.chan ch).clk.keepSrc = true → ∃ t, exec (.fallbackShutdownDone ch) s = .next t ∧ (t.chan ch).sys.cstate = .held)

/-- A channel that meets the release conditions in time enters TESTING at step S1 with its reeve running; one that is late stays HELD, is barred and raises LATE. A judged step 1 to 5 leads a channel that takes part (R194) to the next step, running; with a judged step 6 the channel has finished S6; after a judged S7 it is READY if nothing failed, and has the result FAILED and stays TESTING if this step did. An abandoned step is counted as not judged; after the first three attempts it waits, and the retry starts it again. At the S7 wait limit, S7 begins in every participating channel that finished S6, and every other one is marked as having missed it. -/
def Obligations.ReleaseAndAssaySteps : Prop :=
  ∀ (s : State) (ch : Ch) (ga : Nat) (r : AssayFind),
    ((s.chan ch).releasable = true → ∃ t, exec (.reeveRelease ch ga false) s = .next t ∧ (t.chan ch).sys.cstate = .testing ∧
      (t.chan ch).assay.step = 1 ∧ (t.chan ch).assay.result = 3 ∧ (t.chan ch).assay.ga = ga % 64 ∧ (t.chan ch).sys.reeveState = 0) ∧
    ((s.chan ch).releasable = true → exec (.reeveRelease ch ga true) s = .next (s.upd ch fun c =>
      { c with sys := { c.sys with modeFlag := c.sys.modeFlag.raise 2, barred := true } })) ∧
    ((s.chan ch).sys.cstate = .testing → (s.chan ch).assay.result = 3 → (s.chan ch).assay.waiting = false → (s.chan ch).sys.released = true →
      1 ≤ (s.chan ch).assay.step → (s.chan ch).assay.step < 6 → (s.chan ch).assay.s6done = false → s.starters.contains ch = true →
      ∃ t, exec (.assayStepComplete ch r) s = .next t ∧ (t.chan ch).assay.step = (s.chan ch).assay.step + 1 ∧ (t.chan ch).assay.result = 3 ∧ Safety.OnlyChan ch s t) ∧
    ((s.chan ch).sys.cstate = .testing → (s.chan ch).assay.result = 3 → (s.chan ch).assay.waiting = false → (s.chan ch).assay.step = 6 →
      ∃ t, exec (.assayStepComplete ch r) s = .next t ∧ (t.chan ch).assay.s6done = true) ∧
    ((s.chan ch).sys.cstate = .testing → (s.chan ch).assay.result = 3 → (s.chan ch).assay.waiting = false → (s.chan ch).assay.step = 7 →
      ∃ t, exec (.assayStepComplete ch r) s = .next t ∧ Safety.OnlyChan ch s t ∧
        (r.pass = true → r.stuckOn = false → (s.chan ch).assay.failed = false → (t.chan ch).sys.cstate = .ready) ∧
        (r.pass = false → (t.chan ch).assay.result = 1 ∧ (t.chan ch).sys.cstate = .testing)) ∧
    ((s.chan ch).sys.cstate = .testing → (s.chan ch).assay.result = 3 → (s.chan ch).assay.waiting = false → 1 ≤ (s.chan ch).assay.step →
      ∃ t, exec (.assayStepAbandon ch) s = .next t ∧ (t.chan ch).assay.njCnt = min ((s.chan ch).assay.njCnt + 1) 255 ∧
        ((t.chan ch).assay.waiting = true ↔ (s.chan ch).assay.attempts < 3) ∧ Safety.OnlyChan ch s t) ∧
    ((s.chan ch).sys.cstate = .testing → (s.chan ch).assay.waiting = true → ∃ t, exec (.assayStepRetry ch) s = .next t ∧
      (t.chan ch).assay = { (s.chan ch).assay with waiting := false, result := 3 } ∧ Safety.OnlyChan ch s t) ∧
    (s.s7Begun = false → s.starters.any (fun p => (s.chan p).assay.s6done) = true → ∃ t, exec .s7WaitLimit s = .next t ∧
      ∀ p ∈ s.starters, ((s.chan p).assay.s6done = true → (t.chan p).assay.step = 7) ∧ ((s.chan p).assay.s6done = false → (t.chan p).assay.missedS7 = true))

/-- START_IMAGE_VERIFICATION marks the participating channel verified once its journal is scanned; LEGACY_TRANSLATION gives the translation a state; JOURNAL_SCAN makes the dictionary ready. Once at least two channels take part and each has finished all of these in M2, START_DECISION records the same decided mode in every one of them and starts its tick generator with boundary count 0. -/
def Obligations.ImagesJournalAndStartDecision : Prop :=
  ∀ (s : State) (ch : Ch),
    (s.starters.contains ch = true → (s.chan ch).assayOver = true → (s.chan ch).dict.ready = true → (s.chan ch).assay.verified = false → (s.chan ch).sys.decided = none →
      (s.chan ch).tb.tickRun = false → ∃ t, exec (.startImageVerification ch) s = .next t ∧ (t.chan ch).assay.verified = true) ∧
    (s.starters.contains ch = true → (s.chan ch).assay.verified = true → (s.chan ch).assay.pgSha.isSome = true → (s.chan ch).compat.tstate = 0 →
      ((s.chan ch).upd.storedSlot.bind (fun n => ((s.chan ch).upd.slot n).man)).map (·.kind) = some 3 →
      (s.chan ch).cfgN 0x1001 1 = 1 → (s.chan ch).sys.decided = none → (s.chan ch).tb.tickRun = false →
      ∃ t, exec (.legacyTranslation ch) s = .next t ∧ (t.chan ch).compat.tstate ≠ 0 ∧ Safety.OnlyChan ch s t) ∧
    ((s.chan ch).up = true → (s.chan ch).sys.cstate ≠ .out → (s.chan ch).dict.ready = false →
      ∃ t, exec (.journalScan ch) s = .next t ∧ (t.chan ch).dict.ready = true) ∧
    (2 ≤ s.starters.length → s.mode = .m2 → (∀ p ∈ s.starters, (s.chan p).assayOver = true ∧ (s.chan p).assay.verified = true ∧
        (s.chan p).dict.ready = true ∧ (s.chan p).sys.decided = none ∧ (s.chan p).tb.tickRun = false) →
      ∃ t, exec .startDecision s = .next t ∧ t.wire = s.wire ∧ ∀ p ∈ s.starters, (t.chan p).sys.decided = some s.decision ∧
        (t.chan p).tb.tickRun = true ∧ (t.chan p).tb.started = false ∧ (t.chan p).tb.c = 0)

/-- A channel that is up with its tick running takes its boundary: exec answers the state that State.boundary gives. What that begins with, Chan.beginTick, advances c, k and the stamp by one tick behind the first boundary, marks the first one and keeps its stamp, and touches neither memory nor cells nor dictionary. A judgement instant of an unjudged boundary leaves it judged. A channel alone is alone; with one counted peer it is confirmed by an equal digest and has no majority otherwise; with two it is confirmed by either, in the minority when they agree against it, and without majority otherwise. -/
def Obligations.BoundaryAndJudgement : Prop :=
  ∀ (s : State) (ch : Ch),
    ((s.chan ch).up = true → (s.chan ch).tb.tickRun = true → exec (.tickBoundary ch) s = .next (s.boundary ch) ∧
      ((s.chan ch).tb.started = true → (s.chan ch).beginTick.tb.c = (s.chan ch).tb.c + 1 ∧ (s.chan ch).beginTick.tb.k = (s.chan ch).tb.k + 1 ∧
        (s.chan ch).beginTick.tb.bk = (s.chan ch).tb.bk + periodNs (s.chan ch).tb.period) ∧
      ((s.chan ch).tb.started = false → (s.chan ch).beginTick.tb.started = true ∧ (s.chan ch).beginTick.tb.bk = (s.chan ch).tb.bk) ∧
      (s.chan ch).beginTick.mem = (s.chan ch).mem ∧ (s.chan ch).beginTick.cells = (s.chan ch).cells ∧ (s.chan ch).beginTick.dict = (s.chan ch).dict) ∧
    ((s.chan ch).up = true → (s.chan ch).tb.started = true → (s.chan ch).vote.judged = false →
      ∃ t, exec (.judgementInstant ch) s = .next t ∧ (t.chan ch).vote.judged = true) ∧
    (∀ own a b : W64, outcome own [] = .alone ∧ outcome own [own] = .confirmed ∧ (own ≠ a → outcome own [a] = .noMajority) ∧
      outcome own [own, a] = .confirmed ∧ outcome own [a, own] = .confirmed ∧ (own ≠ a → outcome own [a, a] = .minority) ∧
      (own ≠ a → own ≠ b → a ≠ b → outcome own [a, b] = .noMajority))

/-- A relaying channel whose onward link works passes the next message for it on with nothing changed but the mark that it has been relayed; one damaged on its way is discarded and counted at its receiver. For each receiving command that names its receiver and sender, an arriving message of its kind whose check fails leaves the wire, advances the receiver's count of discarded messages, saturating, and changes nothing else but what the loss leaves of a forwarded input: an item that an image lacks is remembered for LATE_IN (missBody). -/
def Obligations.DamagedMessagesAreDiscardedAndCounted : Prop :=
  ∀ (s : State) (rx tx : Ch) (m : XMsg) (w : List XMsg) (at_ : Nat),
    let count (c : Chan) : Chan := { c with xl := { c.xl with discarded := satInc c.xl.discarded } }
    let lost : State := { s with wire := w }.upd rx count
    (Safety.Arrives s rx tx XBody.isBoundary m w → exec (.boundaryMessageReceive rx tx false at_) s = .next lost) ∧
    (Safety.Arrives s rx tx XBody.isNotice m w → exec (.completionNoticeReceive rx tx false) s = .next lost) ∧
    (Safety.Arrives s rx tx XBody.forwarded m w → exec (.forwardedInputReceive rx tx false) s =
      .next ({ s with wire := w }.upd rx fun c => missBody m.body (count c))) ∧
    (Safety.Arrives s rx tx XBody.isLoadDigest m w → exec (.loadDigestReceive rx tx false) s = .next lost) ∧
    (Safety.Arrives s rx tx XBody.isSwitchDigest m w → exec (.switchDigestReceive rx tx false) s = .next lost) ∧
    (Safety.Arrives s rx tx XBody.isBridge m w → exec (.bridgeForwardReceive rx tx false) s = .next lost) ∧
    (Safety.Arrives s rx tx XBody.isSnapshot m w → exec (.snapshotReceive rx tx false) s = .next lost) ∧
    (Safety.Arrives s rx tx XBody.isBlock m w → exec (.blockForwardReceive rx tx false) s = .next lost) ∧
    (Safety.Arrives s rx tx XBody.isSdCheck m w → exec (.sdCheckReceive rx tx false) s = .next lost) ∧
    (∀ k, relayNext k s.wire = some (m, w) → s.direct k m.rx m.body.cls = true →
      exec (.xlinkSegmentRelay k true) s = .next { s with wire := w ++ [{ m with way := .relayed k }] } ∧
      exec (.xlinkSegmentRelay k false) s = .next ({ s with wire := w }.upd m.rx fun c => missBody m.body (count c)))

/-- A boundary message is kept as the last one of its sender with its commands appended; one of the present boundary also as the message of this boundary (for a digest that does not match the own one, where nothing else follows). A completion notice is entered at the instance that is due then. A snapshot is kept under its sender. A load digest is kept under its sender, and so is a switch digest with its bank and boundary count, where it is not that of an own switch. Each message leaves the wire, and no other channel changes. -/
def Obligations.PeerMessagesAreTaken : Prop :=
  ∀ (s : State) (rx tx : Ch) (w : List XMsg) (v : Way) (at_ : Nat), rx ≠ tx →
    (∀ m : BMsg, Safety.Arrives s rx tx XBody.isBoundary ⟨tx, rx, v, .boundary m⟩ w →
      m.odig ≠ (s.chan rx).vote.dig → ∃ t, exec (.boundaryMessageReceive rx tx true at_) s = .next t ∧ t.wire = w ∧ t.pending = s.pending ∧
        (∀ x, x ≠ rx → t.chan x = s.chan x) ∧ (t.chan rx).lastOf rx tx = some m ∧
        (t.chan rx).sys.cmds = (s.chan rx).sys.cmds ++ m.cmds.map (fun (x : PendCmd) => { x with via := none }) ∧
        (m.c = (s.chan rx).tb.c → (s.chan rx).tb.started = true → (t.chan rx).msgOf rx tx = some m)) ∧
    (∀ n d, Safety.Arrives s rx tx XBody.isNotice ⟨tx, rx, v, .notice n d⟩ w →
      exec (.completionNoticeReceive rx tx true) s = .next ({ s with wire := w }.upd rx fun c => { c with sl := c.sl.addNotice n d tx })) ∧
    (∀ x, Safety.Arrives s rx tx XBody.isSnapshot ⟨tx, rx, v, .snapshot x⟩ w →
      exec (.snapshotReceive rx tx true) s = .next ({ s with wire := w }.upd rx fun c =>
        if tx = chNext rx then { c with dict := { c.dict with snap0 := some x } } else { c with dict := { c.dict with snap1 := some x } })) ∧
    (∀ d cc b, Safety.Arrives s rx tx XBody.isLoadDigest ⟨tx, rx, v, .loadDigest d cc b⟩ w →
      ∃ t, exec (.loadDigestReceive rx tx true) s = .next t ∧ t.wire = w ∧ (∀ x, x ≠ rx → t.chan x = s.chan x) ∧
        (if tx = chNext rx then (t.chan rx).chg.ldig0 else (t.chan rx).chg.ldig1) = some d) ∧
    (∀ k d cc, Safety.Arrives s rx tx XBody.isSwitchDigest ⟨tx, rx, v, .switchDigest k d cc⟩ w →
      (s.chan rx).switchNow ≠ some (k, d) → exec (.switchDigestReceive rx tx true) s = .next ({ s with wire := w }.upd rx fun c =>
        if tx = chNext rx then { c with chg := { c.chg with sw0 := some (k, d, cc) } } else { c with chg := { c.chg with sw1 := some (k, d, cc) } }))

/-- A forwarded network item whose own check held, of a channel that the receiver has not recorded OUT, joins the receiver's items, any other leaves every channel as it was; a grant joins its grants. A check message of the signal chain is kept under its sender with the tick number it names. A good shared block is stored in the first slot that receives its image, a bad one is flagged, and without such a slot no channel changes. In a channel that is not OUT, the bridged item next in sequence is put behind the posted writes with its destinations, and a bridge that is off drops it. Each message leaves the wire, and no other channel changes. -/
def Obligations.ForwardedInputsAreTaken : Prop :=
  ∀ (s : State) (rx tx : Ch) (w : List XMsg) (v : Way), rx ≠ tx →
    (∀ i, Safety.Arrives s rx tx XBody.forwarded ⟨tx, rx, v, .item i⟩ w → ∃ t, exec (.forwardedInputReceive rx tx true) s = .next t ∧ t.wire = w ∧
      (∀ x, x ≠ rx → t.chan x = s.chan x) ∧ (i.good = true → (s.chan rx).vote.out.get i.owner = 0 → (t.chan rx).sl.items = i :: (s.chan rx).sl.items) ∧
      (i.good = false ∨ (s.chan rx).vote.out.get i.owner ≠ 0 → t.chan rx = s.chan rx)) ∧
    (∀ g, Safety.Arrives s rx tx XBody.forwarded ⟨tx, rx, v, .grant g⟩ w → ∃ t, exec (.forwardedInputReceive rx tx true) s = .next t ∧ t.wire = w ∧
      (∀ x, x ≠ rx → t.chan x = s.chan x) ∧ g ∈ (t.chan rx).pair.grants) ∧
    (∀ k crc nc, Safety.Arrives s rx tx XBody.isSdCheck ⟨tx, rx, v, .sdCheck k crc nc⟩ w →
      ∃ t, exec (.sdCheckReceive rx tx true) s = .next t ∧ t.wire = w ∧ (∀ x, x ≠ rx → t.chan x = s.chan x) ∧
        (if tx = chNext rx then (t.chan rx).sd.peer0 = crc ∧ (t.chan rx).sd.got0 = some k else (t.chan rx).sd.peer1 = crc ∧ (t.chan rx).sd.got1 = some k)) ∧
    (∀ img n d, Safety.Arrives s rx tx XBody.isBlock ⟨tx, rx, v, .block img n d⟩ w →
      (∀ q < 12, ((s.chan rx).upd.slot q).st ≠ .partial_) → ∃ t, exec (.blockForwardReceive rx tx true) s = .next t ∧ t.wire = w ∧ ∀ x, t.chan x = s.chan x) ∧
    (∀ img n d q, Safety.Arrives s rx tx XBody.isBlock ⟨tx, rx, v, .block img n d⟩ w →
      (List.range 12).find? (fun q => (((s.chan rx).upd.slot q).man.map manImgid) == some img && ((s.chan rx).upd.slot q).st == .partial_) = some q →
      ∃ t, exec (.blockForwardReceive rx tx true) s = .next t ∧ t.wire = w ∧ (∀ x, x ≠ rx → t.chan x = s.chan x) ∧
        (blockOk n img d = true → ((t.chan rx).upd.slot q).block n = some d) ∧
        (blockOk n img d = false → (t.chan rx).upd.flag = (s.chan rx).upd.flag.raise 2)) ∧
    (∀ e q ds x y, Safety.Arrives s rx tx XBody.isBridge ⟨tx, rx, v, .bridge e q ds x y⟩ w → (s.chan rx).sys.cstate ≠ .out →
      ((s.chan rx).bridgeOn = false → ∃ t, exec (.bridgeForwardReceive rx tx true) s = .next t ∧ t.wire = w ∧ ∀ x, t.chan x = s.chan x) ∧
      ((s.chan rx).bridgeOn = true → ds ≠ [] → (s.chan rx).bridge.gaps = [] → (s.chan rx).bridge.queue.length < 256 → assocD 0 e (s.chan rx).bridge.expSeq = q →
        ∃ t, exec (.bridgeForwardReceive rx tx true) s = .next t ∧ t.wire = w ∧ (∀ x, x ≠ rx → t.chan x = s.chan x) ∧ (t.chan rx).bridge.gaps = [] ∧
          (t.chan rx).bridge.queue = (s.chan rx).bridge.queue ++ [⟨(s.chan rx).bridge.nextQid, e, x, ds, y⟩]))

/-- With a run in progress and no held instance, the first part of a timer snapshot from its source replaces the timer table and a later part joins it; with the last part the snapshot is in at its boundary count. The operations of the boundary count that follows are applied in order. A page sum list for a held instance adds the pages whose sums differ to what the task still wants. A page of a held instance that still wants another one is installed, counted and no longer wanted. A run past its limit ends, and no other channel changes. -/
def Obligations.ResynchronisationMessages : Prop :=
  ∀ (s : State) (ch src : Ch) (w : List XMsg) (v : Way) (r : RsRun), (s.chan ch).vote.run = some r → r.src = src → ch ≠ src →
    (∀ cc p ts, r.held = [] → Safety.Arrives s ch src XBody.isTimerSnap ⟨src, ch, v, .timerSnap cc p ts⟩ w →
      ∃ t, exec (.resyncTimerSnapshot ch true) s = .next t ∧ t.wire = w ∧
        (t.chan ch).tb.timers = (if p.first then ts else (s.chan ch).tb.timers ++ ts) ∧
        (t.chan ch).vote.run = some { r with snap := p.last, opsC := cc }) ∧
    (∀ p ops, r.held = [] → r.snap = true → Safety.Arrives s ch src XBody.isTimerOps ⟨src, ch, v, .timerOps (r.opsC + 1) p ops⟩ w →
      ∃ t, exec (.resyncTimerOperations ch true) s = .next t ∧ t.wire = w ∧ (t.chan ch).tb = ops.foldl TimeBlk.applyOp (s.chan ch).tb ∧
        (t.chan ch).vote.run = some { r with opsC := if p.last then r.opsC + 1 else r.opsC }) ∧
    (∀ n cc p sums x y z, Safety.Arrives s ch src XBody.isPageSums ⟨src, ch, v, .pageSums n cc p sums⟩ w →
      (s.chan ch).sl.task n = some x → (n, cc, y) ∈ r.held → z ∈ sums → z.2.2 ≠ x.pageSum z.1 z.2.1 →
      ∃ t q, exec (.resyncPageSumList ch true) s = .next t ∧ (t.chan ch).vote.run = some q ∧ (n, z.1, z.2.1) ∈ q.want) ∧
    (∀ n cc d sd x y a p, Safety.Arrives s ch src XBody.isPageData ⟨src, ch, v, .pageData n cc d sd⟩ w →
      (s.chan ch).sl.task n = some x → (n, cc, y) ∈ r.held → (n, a, p) ∈ r.want → (d.area, d.page) ≠ (a, p) →
      ∃ t q, exec (.resyncPageData ch true) s = .next t ∧ t.wire = w ∧ (t.chan ch).vote.run = some q ∧ q.pages = r.pages + 1 ∧ (n, a, p) ∈ q.want ∧
        (n, d.area, d.page) ∉ q.want ∧ (t.chan ch).sl.task n = some (x.install sd d)) ∧
    (r.limit ≤ (s.chan ch).tb.c → ∃ t, exec (.resyncTimeout ch) s = .next t ∧ (t.chan ch).vote.run = none ∧ Safety.OnlyChan ch s t)

/-- While a channel serves a resynchronising channel m over a working direct link that carries class 3, a page request for the running instance of a task leaves the wire and, for each requested page in the order of the request, one page-data message for m joins it with that page of the task as it stands, the page of area 5 with the seeded marks; the count of pages sent advances by their number. Memory and the other channels are as before. -/
def Obligations.ResynchronisationSourceAnswers : Prop :=
  ∀ (s : State) (ch m : Ch) (w : List XMsg) (v : Way) (k p n cc : Nat) (pages : List (Nat × Nat)) (t : TaskRt),
    (s.chan ch).vote.serving = some (m, k, p) → ch ≠ m → s.direct ch m 3 = true →
    Safety.Arrives s ch m XBody.isPageReq ⟨m, ch, v, .pageReq n cc pages⟩ w →
    (s.chan ch).sl.task n = some t → (t.inst.map (·.relC)) = some cc →
    ∃ u, exec (.resyncPageRequest ch true) s = .next u ∧
      u.wire = w ++ pages.map (fun x => ⟨ch, m, .direct, .pageData n cc ⟨x.1, x.2, pageOf (t.area x.1) x.2⟩ (if x.1 = 5 then t.edges.map (·.seeded) else [])⟩) ∧
      (u.chan ch).vote.serving = some (m, k, p + pages.length) ∧ (∀ x, x ≠ ch → u.chan x = s.chan x) ∧ (u.chan ch).mem = (s.chan ch).mem

/-- A link end that is up and loses its link is down, with the loss flagged and counted; its PEER field going back to 3 then is the model's choice (log entry 77). An end that is down comes up with the expected peer letter, and takes the latency; with another letter it stays down and its PEER field shows the letter. A code violation is flagged and counted; with fewer than 16 within 1 ms the end stays up or down as it was. A relay over a working link passes the next message on with nothing changed but the mark that it has been relayed; over a link that is down, or that does not carry its class, the message is lost. -/
def Obligations.LinkEndsAndRelay : Prop :=
  ∀ (s : State) (ch : Ch) (l : Link),
    ((s.chan ch).up = true → ((s.chan ch).lend l).up = true → exec (.linkLost ch l) s = .next (s.upd ch fun c => c.setEnd l fun e =>
      { e with up := false, peer := 3, loss := true, lossCnt := satInc e.lossCnt, viol := [] })) ∧
    (∀ n, (s.chan ch).up = true → ((s.chan ch).lend l).up = false → exec (.linkUp ch l (chCode (peerOf ch l)) n) s =
      .next (s.upd ch fun c => c.setEnd l fun e => { e with up := true, peer := chCode (peerOf ch l), lat := n, viol := [] })) ∧
    (∀ p n, (s.chan ch).up = true → ((s.chan ch).lend l).up = false → p < 3 → p ≠ chCode (peerOf ch l) →
      exec (.linkUp ch l p n) s = .next (s.upd ch fun c => c.setEnd l fun e => { e with peer := p })) ∧
    ((s.chan ch).up = true → ((s.chan ch).lend l).viol.length < 15 → ∃ t, exec (.xlinkCodeViolation ch l) s = .next t ∧ Safety.OnlyChan ch s t ∧
      ((t.chan ch).lend l).codeErr = true ∧ ((t.chan ch).lend l).codeCnt = satInc ((s.chan ch).lend l).codeCnt ∧ ((t.chan ch).lend l).up = ((s.chan ch).lend l).up) ∧
    (∀ m w, relayNext ch s.wire = some (m, w) → s.direct ch m.rx m.body.cls = true →
      exec (.xlinkSegmentRelay ch true) s = .next { s with wire := w ++ [{ m with way := .relayed ch }] }) ∧
    (∀ m w ok, relayNext ch s.wire = some (m, w) → s.direct ch m.rx m.body.cls = false →
      exec (.xlinkSegmentRelay ch ok) s = .next { s with wire := w })

/-- In a slice of a bonded cell, with the index (x[rs1] plus the sign-extended immediate) inside the area, tk.ldin loads the input image word, tk.ldfr its zero-extended freshness qualifier, tk.ldrs the word of the slice's committed retained state, and tk.ldso the stage-output word of an earlier stage. Register x0 discards the value. The core steps behind the instruction; every other cell, all memory and every other part of the machine is unchanged. -/
def Obligations.ImageLoads : Prop :=
  ∀ (s : State) (ch : Ch) (h rd rs1 : Nat) (imm : BitVec 12) (k : TaskRt) (i : Inst), Safety.CoreGoes s ch h → Safety.InSlice s ch h k i →
    let c := (s.chan ch).core h
    let ix := c.index rs1 imm
    (idxOk ix k.inImg.length = true → ∃ t, exec (.tkLdin ch h rd rs1 imm) s = .next t ∧ Safety.OnlyCell ch h s t ∧
      (t.chan ch).core h = Safety.stepped (c.setReg rd (atD 0#32 ix.toNat k.inImg))) ∧
    (idxOk ix k.qual.length = true → ∃ t, exec (.tkLdfr ch h rd rs1 imm) s = .next t ∧ Safety.OnlyCell ch h s t ∧
      (t.chan ch).core h = Safety.stepped (c.setReg rd (atD 0#32 ix.toNat (k.qual.map (fun b => BitVec.setWidth 32 b))))) ∧
    (idxOk ix (k.ownRs c.slice).length = true → ∃ t, exec (.tkLdrs ch h rd rs1 imm) s = .next t ∧ Safety.OnlyCell ch h s t ∧
      (t.chan ch).core h = Safety.stepped (c.setReg rd (atD 0#32 ix.toNat (k.ownRs c.slice)))) ∧
    (idxOk ix k.stageOut.length = true → k.decl.stageOf ix.toNat < hStage c.slice → ∃ t, exec (.tkLdso ch h rd rs1 imm) s = .next t ∧
      Safety.OnlyCell ch h s t ∧ (t.chan ch).core h = Safety.stepped (c.setReg rd (atD 0#32 ix.toNat k.stageOut)))

/-- In a slice of a bonded cell, with the index inside the slice's part, tk.stout writes x[rs2] to the slice's output word (the working output bank in the last stage, the stage outputs before it) and tk.strs to its retained-state word of the working bank. The core steps behind the instruction with its registers unchanged. The task's input image, qualifiers and both committed banks, every other task, all memory, every other cell and every other part of the machine are unchanged. -/
def Obligations.ImageStores : Prop :=
  ∀ (s : State) (ch : Ch) (h rs1 rs2 : Nat) (imm : BitVec 12) (k : TaskRt) (i : Inst), Safety.CoreGoes s ch h → Safety.InSlice s ch h k i →
    let c := (s.chan ch).core h
    let ix := c.index rs1 imm
    (idxOk ix (k.decl.stage (hStage c.slice)).outW = true → ∃ t, exec (.tkStout ch h rs1 rs2 imm) s = .next t ∧ Safety.OnlyChan ch s t ∧
      (t.chan ch).core h = Safety.stepped c ∧ ({ t.chan ch with cells := (s.chan ch).cells, sl := (s.chan ch).sl } : Chan) = s.chan ch ∧
      (t.chan ch).sl = (s.chan ch).sl.updTask (hTask c.slice) (fun (x : TaskRt) => x.storeOut c.slice ix.toNat (c.reg rs2)) ∧
      ∀ x : TaskRt, (x.storeOut c.slice ix.toNat (c.reg rs2)).inImg = x.inImg ∧ (x.storeOut c.slice ix.toNat (c.reg rs2)).qual = x.qual ∧
        (x.storeOut c.slice ix.toNat (c.reg rs2)).outPub = x.outPub ∧ (x.storeOut c.slice ix.toNat (c.reg rs2)).rsPub = x.rsPub ∧
        (x.storeOut c.slice ix.toNat (c.reg rs2)).rsWork = x.rsWork) ∧
    (idxOk ix (k.decl.stage (hStage c.slice)).rsW = true → ∃ t, exec (.tkStrs ch h rs1 rs2 imm) s = .next t ∧ Safety.OnlyChan ch s t ∧
      (t.chan ch).core h = Safety.stepped c ∧ ({ t.chan ch with cells := (s.chan ch).cells, sl := (s.chan ch).sl } : Chan) = s.chan ch ∧
      (t.chan ch).sl = (s.chan ch).sl.updTask (hTask c.slice) (fun (x : TaskRt) => { x with
        rsWork := modAt (fun _ => c.reg rs2) (x.decl.rsBase (hStage c.slice) + hSlice c.slice * (x.decl.stage (hStage c.slice)).rsW + ix.toNat) x.rsWork }))

/-- In a slice of a bonded cell: tk.rdrel with a selector 0 to 6 and rs1 0 reads stamp, tick number, task, period or the count of the releases before this one (log entry 108); tk.tmstart with identity and duration not 0 and tk.tmstop with identity not 0 append one operation to the slice's posts and change no register; tk.tmel reads the elapsed microseconds and tk.tmst the state of a timer as it stood at the release, 0 when no such timer ran. No other cell and nothing else of the machine but the model's free-value counter changes. -/
def Obligations.ReleaseValuesAndTimers : Prop :=
  ∀ (s : State) (ch : Ch) (h rd rs1 rs2 : Nat) (imm : BitVec 12) (k : TaskRt) (i : Inst), Safety.CoreGoes s ch h → Safety.InSlice s ch h k i →
    let c := (s.chan ch).core h
    (imm.toNat ≤ 6 → ∃ t, exec (.tkRdrel ch h rd 0 imm) s = .next t ∧ Safety.OnlyCell ch h s t ∧
      (t.chan ch).core h = Safety.stepped (c.setReg rd (relValue imm.toNat i.stamp i.relK (some k)))) ∧
    (c.reg rs1 ≠ 0#32 → c.reg rs2 ≠ 0#32 → ∃ t, exec (.tkTmstart ch h rs1 rs2) s = .next t ∧ Safety.OnlyCell ch h s t ∧
      (t.chan ch).core h = Safety.stepped { c with posts := c.posts ++ [.start (c.reg rs1) (c.reg rs2) i.stamp] }) ∧
    (c.reg rs1 ≠ 0#32 → ∃ t, exec (.tkTmstop ch h rs1) s = .next t ∧ Safety.OnlyCell ch h s t ∧
      (t.chan ch).core h = Safety.stepped { c with posts := c.posts ++ [.stop (c.reg rs1)] }) ∧
    (∃ t, exec (.tkTmel ch h rd rs1) s = .next t ∧ Safety.OnlyCell ch h s t ∧ (t.chan ch).core h = Safety.stepped (c.setReg rd
      (match i.timers.find? (fun x => x.id == c.reg rs1) with | some x => BitVec.ofNat 32 (min (((i.stamp : Int) - x.start) / 1000).toNat 0xFFFFFFFF) | none => 0#32))) ∧
    (∃ t, exec (.tkTmst ch h rd rs1) s = .next t ∧ Safety.OnlyCell ch h s t ∧ (t.chan ch).core h = Safety.stepped (c.setReg rd
      (match i.timers.find? (fun x => x.id == c.reg rs1) with
       | some x => if x.dur.toNat ≤ min (((i.stamp : Int) - x.start) / 1000).toNat 0xFFFFFFFF then 2#32 else 1#32 | none => 0#32)))

/-- A core without a slice takes one by tk.next: the handle (0 when none is left) becomes the register's value and the current slice. A core with one waits at tk.sdone, and the completion report of a live core clears its slice and lets it go on. tk.wait goes on at once when its condition holds and waits otherwise; the resumption of a live core whose condition holds steps behind it. tk.sid reads the current slice, tk.ptag the partition tag and tk.pchk the rights at an address, with no flag and no count set. The end of an input freeze makes the released instance available. -/
def Obligations.SliceQueueAndWaits : Prop :=
  ∀ (s : State) (ch : Ch) (h rd rs1 n : Nat),
    (Safety.CoreGoes s ch h → ((s.chan ch).core h).slice = 0#32 → ∃ t, exec (.tkNext ch h rd) s = .next t ∧ Safety.OnlyChan ch s t ∧
      (t.chan ch).core h = Safety.stepped { (((s.chan ch).core h).setReg rd ((s.chan ch).takeSlice h).2) with slice := ((s.chan ch).takeSlice h).2, posts := [] } ∧
      (t.chan ch).mem = (s.chan ch).mem) ∧
    (Safety.CoreGoes s ch h → ((s.chan ch).core h).slice ≠ 0#32 → ∃ t, exec (.tkSdone ch h) s = .next t ∧ Safety.OnlyCell ch h s t ∧
      (t.chan ch).core h = { (s.chan ch).core h with waiting := .sdone }) ∧
    ((s.chan ch).coreLive h = true → ((s.chan ch).core h).waiting = .sdone → ((s.chan ch).core h).slice ≠ 0#32 →
      ∃ t, exec (.sliceCompleteReport ch h) s = .next t ∧ ((t.chan ch).core h).slice = 0#32 ∧ ((t.chan ch).core h).waiting = .none ∧
        ((t.chan ch).core h).pc = ((s.chan ch).core h).pc + 4#32 ∧ (t.chan ch).mem = (s.chan ch).mem) ∧
    (Safety.CoreGoes s ch h → ((s.chan ch).core h).waitOver = true → ∃ t, exec (.tkWait ch h) s = .next t ∧ Safety.OnlyCell ch h s t ∧
      (t.chan ch).core h = Safety.stepped ((s.chan ch).core h)) ∧
    (Safety.CoreGoes s ch h → ((s.chan ch).core h).waitOver = false → ∃ t, exec (.tkWait ch h) s = .next t ∧ Safety.OnlyCell ch h s t ∧
      (t.chan ch).core h = { (s.chan ch).core h with waiting := .tkWait }) ∧
    ((s.chan ch).coreLive h = true → ((s.chan ch).core h).waiting = .tkWait → ((s.chan ch).core h).waitOver = true → ∃ t, exec (.tkWaitResume ch h) s = .next t ∧ Safety.OnlyCell ch h s t ∧
        (t.chan ch).core h = Safety.stepped { (s.chan ch).core h with waiting := .none }) ∧
    (Safety.CoreGoes s ch h → ∃ t, exec (.tkSid ch h rd) s = .next t ∧ Safety.OnlyCell ch h s t ∧
      (t.chan ch).core h = Safety.stepped (((s.chan ch).core h).setReg rd ((s.chan ch).core h).slice)) ∧
    (Safety.CoreGoes s ch h → ∃ t, exec (.tkPtag ch h rd) s = .next t ∧ Safety.OnlyCell ch h s t ∧
      (t.chan ch).core h = Safety.stepped (((s.chan ch).core h).setReg rd (if ((s.chan ch).cell (h / 2)).mode = .split then 1#32 else 0#32))) ∧
    (Safety.CoreGoes s ch h → ∃ t, exec (.tkPchk ch h rd rs1) s = .next t ∧ Safety.OnlyCell ch h s t ∧
      (t.chan ch).core h = Safety.stepped (((s.chan ch).core h).setReg rd ((s.chan ch).rightsAt h (((s.chan ch).core h).reg rs1).toNat))) ∧
    (∀ k i, (s.chan ch).sl.task n = some k → k.inst = some i → i.avail = false → i.abandoned = false → (s.chan ch).vote.run = none →
      ∃ t k' i', exec (.inputFreezeComplete ch n) s = .next t ∧ Safety.OnlyChan ch s t ∧ (t.chan ch).sl.task n = some k' ∧ k'.inst = some i' ∧ i'.avail = true)

/-- ECALL traps with cause 8 from user mode and 11 from machine mode, EBREAK outside debug with cause 3 and its address as the value, an illegal instruction with cause 2 and its bits, an instruction access fault with cause 1 and its address. Each saves the pc of the instruction and the interrupt enable, enters machine mode with interrupts off and goes to mtvec. ECALL, which is no slice fault, keeps the current slice; the others end it in a bonded cell. With ebreakm or ebreaku set EBREAK enters debug mode instead. No general register and no memory changes. -/
def Obligations.CoreTraps : Prop :=
  ∀ (s : State) (ch : Ch) (h : Nat) (b : Word), Safety.CoreGoes s ch h →
    let c := (s.chan ch).core h
    let trapped (t : State) (cause v : Word) : Prop :=
      Safety.OnlyChan ch s t ∧ (t.chan ch).mem = (s.chan ch).mem ∧ ((t.chan ch).core h).x = c.x ∧ ((t.chan ch).core h).mepc = c.pc ∧
      ((t.chan ch).core h).mcause = cause ∧ ((t.chan ch).core h).mtval = v ∧ ((t.chan ch).core h).mpie = c.mie ∧ ((t.chan ch).core h).mie = false ∧
      ((t.chan ch).core h).user = false ∧ ((t.chan ch).core h).mppM = !c.user ∧ ((t.chan ch).core h).pc = c.mtvec &&& 0xFFFFFFFC#32
    (∃ t, exec (.ecall ch h) s = .next t ∧ trapped t (if c.user then 8#32 else 11#32) 0#32 ∧ ((t.chan ch).core h).slice = c.slice) ∧
    ((if c.user then c.ebreaku else c.ebreakm) = false → ∃ t, exec (.ebreak ch h) s = .next t ∧ trapped t 3#32 c.pc ∧
      (((s.chan ch).cell (h / 2)).mode = .bonded → ((t.chan ch).core h).slice = 0#32)) ∧
    ((if c.user then c.ebreaku else c.ebreakm) = true → ∃ t, exec (.ebreak ch h) s = .next t ∧ Safety.OnlyCell ch h s t ∧
      (t.chan ch).core h = { c with halted := true, dcause := 1, dpc := c.pc, stepping := false }) ∧
    (∃ t, exec (.illegalInstruction ch h b) s = .next t ∧ trapped t 2#32 b ∧ (((s.chan ch).cell (h / 2)).mode = .bonded → ((t.chan ch).core h).slice = 0#32)) ∧
    (∃ t, exec (.instructionAccessFault ch h b) s = .next t ∧ trapped t 1#32 b ∧ (((s.chan ch).cell (h / 2)).mode = .bonded → ((t.chan ch).core h).slice = 0#32))

/-- FENCE only steps; FENCE.I also empties the instruction cache. WFI steps when an enabled interrupt is pending and waits otherwise; in user mode with TW it traps. A machine-mode read of time gives the low word of the time base and latches the high one, which timeh then gives. A read of a CSR that exists and that the core may access gives its value; one of a machine-mode CSR in user mode is an illegal instruction that changes no general register; a machine-mode write of tkirq clears pending bits and sets enables. Where both copies of a bonded cell send the same, an external interrupt that is pending, enabled and not masked traps with cause 0x8000000B. -/
def Obligations.FencesWaitsAndCsrs : Prop :=
  ∀ (s : State) (ch : Ch) (h rd csr : Nat) (v w : Word),
    (Safety.CoreGoes s ch h → ∃ t, exec (.fence ch h) s = .next t ∧ Safety.OnlyCell ch h s t ∧ (t.chan ch).core h = Safety.stepped ((s.chan ch).core h)) ∧
    (Safety.CoreGoes s ch h → ∃ t, exec (.fenceI ch h) s = .next t ∧ Safety.OnlyCell ch h s t ∧ (t.chan ch).core h = Safety.stepped { ((s.chan ch).core h) with icache := [] }) ∧
    (Safety.CoreGoes s ch h → (((s.chan ch).core h).user && ((s.chan ch).core h).tw) = false → ∃ t, exec (.wfi ch h) s = .next t ∧ Safety.OnlyCell ch h s t ∧
      (t.chan ch).core h = if ((s.chan ch).core h).meip && ((s.chan ch).core h).meie then Safety.stepped ((s.chan ch).core h) else { (s.chan ch).core h with waiting := .wfi }) ∧
    (Safety.CoreGoes s ch h → (((s.chan ch).core h).user && ((s.chan ch).core h).tw) = true → ∃ t, exec (.wfi ch h) s = .next t ∧
      ((t.chan ch).core h).mcause = 2#32 ∧ ((t.chan ch).core h).mepc = ((s.chan ch).core h).pc) ∧
    (Safety.CoreGoes s ch h → ((s.chan ch).core h).user = false → ∃ t, exec (.csrTimeRead ch h rd 0xC01) s = .next t ∧ Safety.OnlyCell ch h s t ∧
      (t.chan ch).core h = Safety.stepped { (((s.chan ch).core h).setReg rd (BitVec.ofNat 32 (s.chan ch).now)) with timeh := BitVec.ofNat 32 ((s.chan ch).now / 4294967296) }) ∧
    (Safety.CoreGoes s ch h → ((s.chan ch).core h).user = false → ∃ t, exec (.csrTimeRead ch h rd 0xC81) s = .next t ∧ Safety.OnlyCell ch h s t ∧
      (t.chan ch).core h = Safety.stepped (((s.chan ch).core h).setReg rd ((s.chan ch).core h).timeh)) ∧
    (Safety.CoreGoes s ch h → (s.chan ch).csrAllowed h csr false = true → (s.chan ch).csrValue ch h csr = some v →
      ∃ t, exec (.customCsrAccess ch h rd csr false w) s = .next t ∧ Safety.OnlyCell ch h s t ∧
        (t.chan ch).core h = Safety.stepped ((((s.chan ch).core h).setReg rd v).latchTime csr (s.chan ch).now)) ∧
    (Safety.CoreGoes s ch h → ((s.chan ch).core h).user = true → csr / 256 % 4 ≠ 0 →
      ∃ t, exec (.customCsrAccess ch h rd csr false w) s = .next t ∧ ((t.chan ch).core h).mcause = 2#32 ∧ ((t.chan ch).core h).mepc = ((s.chan ch).core h).pc ∧
        ((t.chan ch).core h).x = ((s.chan ch).core h).x) ∧
    (Safety.CoreGoes s ch h → ((s.chan ch).core h).user = false → ∃ t, exec (.customCsrAccess ch h 0 0x7C2 true w) s = .next t ∧ Safety.OnlyCell ch h s t ∧
      ((t.chan ch).core h).irqP = ((s.chan ch).core h).irqP &&& ~~~ (BitVec.ofNat 11 (w.toNat / 65536)) ∧ ((t.chan ch).core h).irqE = BitVec.ofNat 11 w.toNat &&& 0x7FD#11) ∧
    ((s.chan ch).coreRuns h = true → (s.chan ch).copies h = 0#13 → (((s.chan ch).core h).meip && ((s.chan ch).core h).meie && (((s.chan ch).core h).mie || ((s.chan ch).core h).user)) = true →
      ∃ t, exec (.externalInterrupt ch h) s = .next t ∧ Safety.OnlyCell ch h s t ∧ ((t.chan ch).core h).mcause = 0x8000000B#32 ∧
        ((t.chan ch).core h).mepc = ((s.chan ch).core h).pc ∧ ((t.chan ch).core h).slice = ((s.chan ch).core h).slice)

/-- For an access of 1, 2 or 4 octets, aligned, by a running core under no trigger, that the rights of the channel serve at an address of SRAM or dynamic memory: a store leaves octet i of the data at address a + i, every octet outside the stored ones reads as before, and canonical memory stays canonical; a load writes the octets, little-endian, sign- or zero-extended, to the register and changes no octet. Nothing else of the machine changes but the cell and the model's free-value counter. -/
def Obligations.StoresThenLoadsOfPlainMemory : Prop :=
  ∀ (s : State) (ch : Ch) (h n a rd : Nat) (data : Word) (sg : Bool), Safety.CoreGoes s ch h → (n = 1 ∨ n = 2 ∨ n = 4) → a % n = 0 → Safety.plainAddr a →
    (s.chan ch).verdict (.core h) true a = .served → (s.chan ch).verdict (.core h) false a = .served →
    (s.chan ch).hit h 1 a = none → (s.chan ch).hit h 0 a = none →
    (∃ t, exec (.coreLoadStore ch (.core h) true n a data rd sg) s = .next t ∧ Safety.OnlyChan ch s t ∧
      (∀ i < n, (t.chan ch).byteAt (a + i) = BitVec.ofNat 8 (data.toNat / 256 ^ i)) ∧
      (∀ x, (x < a ∨ a + n ≤ x) → (t.chan ch).byteAt x = (s.chan ch).byteAt x) ∧
      (Memory.wf (s.chan ch).mem = true → Memory.wf (t.chan ch).mem = true) ∧
      ({ t.chan ch with mem := (s.chan ch).mem, cells := (s.chan ch).cells } : Chan) = s.chan ch ∧
      ((t.chan ch).core h).x = ((s.chan ch).core h).x) ∧
    (∃ t, exec (.coreLoadStore ch (.core h) false n a data rd sg) s = .next t ∧ Safety.OnlyCell ch h s t ∧
      ((t.chan ch).core h).x = (((s.chan ch).core h).setReg rd (extend n sg (leN ((List.range n).map (fun i => (s.chan ch).byteAt (a + i)))))).x)

/-- A load or store of a running core, under no trigger, at an aligned address that the rights refuse with flag f traps with cause 5 or 7 and the address as the value; flag f of the violation register is raised, and with no violation flag set before, the address is captured. A misaligned access traps with cause 4 or 6. In both cases memory and general registers are unchanged and no other channel changes. -/
def Obligations.RefusedAccessesTrap : Prop :=
  ∀ (s : State) (ch : Ch) (h n rd f : Nat) (a data : Word) (wr sg : Bool), Safety.CoreGoes s ch h → (n = 1 ∨ n = 2 ∨ n = 4) →
    (s.chan ch).hit h (if wr then 1 else 0) a.toNat = none →
    (a.toNat % n = 0 → (s.chan ch).verdict (.core h) wr a.toNat = .refused (some f) →
      ∃ t, exec (.coreLoadStore ch (.core h) wr n a.toNat data rd sg) s = .next t ∧ Safety.OnlyChan ch s t ∧ (t.chan ch).mem = (s.chan ch).mem ∧
        ((t.chan ch).core h).x = ((s.chan ch).core h).x ∧ ((t.chan ch).core h).mcause = (if wr then 7#32 else 5#32) ∧ ((t.chan ch).core h).mtval = a ∧
        (t.chan ch).sys.viol = (s.chan ch).sys.viol.raise f ∧ ((s.chan ch).sys.viol.bits = 0#32 → (t.chan ch).sys.vaddr = a) ∧
        ((s.chan ch).sys.viol.bits ≠ 0#32 → (t.chan ch).sys.vaddr = (s.chan ch).sys.vaddr)) ∧
    (a.toNat % n ≠ 0 → ∃ t, exec (.coreLoadStore ch (.core h) wr n a.toNat data rd sg) s = .next t ∧ Safety.OnlyChan ch s t ∧ (t.chan ch).mem = (s.chan ch).mem ∧
        ((t.chan ch).core h).x = ((s.chan ch).core h).x ∧ ((t.chan ch).core h).mcause = (if wr then 6#32 else 4#32) ∧ ((t.chan ch).core h).mtval = a)

/-- A comparator mismatch with any group in a bonded cell halts it: its core is back in reset, its capture register holds the first capture (kind, groups, pc), the cell's mismatch flag is raised and the halt is kept in MRAM. At the signature instant of a bonded cell with a request both cores' signatures are the CRC-64 of the samples taken at the request; when they are equal the request ends and the cell goes on, and when they differ it halts. -/
def Obligations.LockStepHaltsTheCell : Prop :=
  ∀ (s : State) (ch : Ch) (n : Nat) (g : BitVec 13), ((s.chan ch).cell n).mode = .bonded →
    (g ≠ 0#13 → ∃ t, exec (.comparatorMismatch ch n g) s = .next t ∧ Safety.OnlyChan ch s t ∧ ((t.chan ch).cell n).mode = .halted ∧
      ((t.chan ch).cell n).core0 = CoreSt.init ∧
      ((t.chan ch).cell n).cap = some ((((s.chan ch).cell n).cap).getD ⟨false, g, ((s.chan ch).cell n).core0.pc⟩) ∧
      (t.chan ch).sys.cmp = (s.chan ch).sys.cmp.raise n ∧ (t.chan ch).mram.halts = (s.chan ch).mram.halts ++ [(n, (s.chan ch).mram.opsec)]) ∧
    (((s.chan ch).cell n).sigReq = true → crc64 (wordBytes ((s.chan ch).cell n).snap0) = crc64 (wordBytes ((s.chan ch).cell n).snap1) →
      ∃ t, exec (.signatureCompare ch n) s = .next t ∧ Safety.OnlyCell ch (2 * n) s t ∧
        (t.chan ch).cell n = { (s.chan ch).cell n with
          sigReq := false, core0 := { ((s.chan ch).cell n).core0 with sig := crc64 (wordBytes ((s.chan ch).cell n).snap0) }, core1 := { ((s.chan ch).cell n).core1 with sig := crc64 (wordBytes ((s.chan ch).cell n).snap0) } }) ∧
    (((s.chan ch).cell n).sigReq = true → crc64 (wordBytes ((s.chan ch).cell n).snap0) ≠ crc64 (wordBytes ((s.chan ch).cell n).snap1) →
      ∃ t, exec (.signatureCompare ch n) s = .next t ∧ Safety.OnlyChan ch s t ∧ ((t.chan ch).cell n).mode = .halted ∧
        (t.chan ch).sys.cmp = (s.chan ch).sys.cmp.raise (8 + n))

/-- No debug action and no pop makes a log of at most 256 entries longer than 256. With 256 unread entries a debug action in M9, on any hart or on the system bus, performs nothing: cmderr is 7, LOG_FULL is raised, the log is as before, and so is everything of the channel but the debug registers, and all other channels. A pop by the reeve, where the rights serve it, removes the oldest entry and gives its words, and posts a record with it to the chronicle when the queue has room and no flush has begun (a full queue loses a record: the chronicle's own rule). -/
def Obligations.DebugLogIsBounded : Prop :=
  ∀ (s : State) (ch : Ch) (h trig : Nat) (r : DbgReg) (v w : Word) (ws : List Word) (i : Instr),
    (i ∈ [.debugHaltRequest ch h, .debugResumeRequest ch h, .debugStep ch h, .debugRegisterRead ch h r, .debugRegisterWrite ch h r v,
         .debugProgramBufferExec ch ⟨h, ws⟩, .debugTriggerWrite ch h trig v w, .debugSystemBusRead ch 4 v.toNat, .debugSystemBusWrite ch 4 v.toNat w] →
      (∀ t, (s.chan ch).dbg.log.length ≤ 256 → exec i s = .next t → (t.chan ch).dbg.log.length ≤ 256) ∧
      ((s.chan ch).sys.cstate ≠ .off → (s.chan ch).tapCut = false → (s.chan ch).sys.mode = .m9 → 256 ≤ (s.chan ch).dbg.log.length →
        ∃ t, exec i s = .next t ∧ Safety.OnlyChan ch s t ∧ ({ t.chan ch with dbg := (s.chan ch).dbg } : Chan) = s.chan ch ∧ (t.chan ch).dbg.cmderr = 7 ∧
          (t.chan ch).dbg.flag = (s.chan ch).dbg.flag.raise 0 ∧ (t.chan ch).dbg.log = (s.chan ch).dbg.log)) ∧
    (∀ e l, (s.chan ch).dbg.log = e :: l → (s.chan ch).verdict .reeve false 0x40110010 = .served → ∃ t, exec (.debugLogPop ch .reeve) s = .next t ∧ Safety.OnlyChan ch s t ∧
      (t.chan ch).dbg = { (s.chan ch).dbg with log := l, log1 := e.whereW, log2 := e.data } ∧
      ((s.chan ch).chron.flush = false → (s.chan ch).chron.queue.length < 16 → (t.chan ch).chron.queue = (s.chan ch).chron.queue ++
        [(s.chan ch).recordBytes 0x0B 16 (payW [e.word0, e.whereW, e.data])]) ∧ (t.chan ch).mem = (s.chan ch).mem ∧ (t.chan ch).cells = (s.chan ch).cells)

/-- With the debug module serving a hart: a halt request halts it with cause 3 and its pc kept, a resume request and a step let a halted hart go on from dpc, a register read and write of a halted hart transfer a general register, a program buffer runs its instructions up to its EBREAK (an EBREAK alone leaves the hart as it is, an ADDI x5, x5, 10 before it adds 10 to x5) with no error, a trigger write sets the trigger's data. Each enters one action of its kind in the log.  The identification and bypass registers shift out of a connected port. -/
def Obligations.DebugActionsInMaintenance : Prop :=
  ∀ (s : State) (ch : Ch) (h n : Nat) (v w : Word), n < 32 → Safety.DebugServes s ch h →
    let c := (s.chan ch).core h
    let logged (t : State) (kind : Nat) : Prop := Safety.OnlyChan ch s t ∧ (t.chan ch).mem = (s.chan ch).mem ∧
      ∃ e, (t.chan ch).dbg.log = (s.chan ch).dbg.log ++ [e] ∧ e.kind = kind ∧ e.hart = h
    (c.halted = false → ∃ t, exec (.debugHaltRequest ch h) s = .next t ∧ logged t 0 ∧ (t.chan ch).core h = { c with halted := true, dcause := 3, dpc := c.pc }) ∧
    (c.halted = true → ∃ t, exec (.debugResumeRequest ch h) s = .next t ∧ logged t 1 ∧
      (t.chan ch).core h = { c with halted := false, freed := true, stepping := false, pc := c.dpc }) ∧
    (c.halted = true → ∃ t, exec (.debugStep ch h) s = .next t ∧ logged t 2 ∧
      (t.chan ch).core h = { c with halted := false, freed := true, stepping := true, pc := c.dpc }) ∧
    (c.halted = true → ∃ t, exec (.debugRegisterRead ch h (.gpr n)) s = .next t ∧ logged t 3 ∧ (t.chan ch).core h = c ∧ (t.chan ch).dbg.data0 = c.reg n) ∧
    (c.halted = true → ∃ t, exec (.debugRegisterWrite ch h (.gpr n) v) s = .next t ∧ logged t 4 ∧ (t.chan ch).core h = c.setReg n v) ∧
    (c.halted = true → ∀ ws, ∃ t, exec (.debugProgramBufferExec ch ⟨h, 0x00100073#32 :: ws⟩) s = .next t ∧ logged t 5 ∧ (t.chan ch).core h = c ∧
      (t.chan ch).dbg.cmderr = (s.chan ch).dbg.cmderr) ∧
    (c.halted = true → ∀ ws, ∃ t, exec (.debugProgramBufferExec ch ⟨h, 0x00A28293#32 :: 0x00100073#32 :: ws⟩) s = .next t ∧ logged t 5 ∧
      (t.chan ch).core h = c.setReg 5 (c.reg 5 + 10#32) ∧ (t.chan ch).dbg.cmderr = (s.chan ch).dbg.cmderr) ∧
    (∀ k < 4, ∃ t, exec (.debugTriggerWrite ch h k v w) s = .next t ∧ logged t 8 ∧
      (t.chan ch).core h = { c with trig := modAt (fun _ => ⟨v, w⟩) k c.trig }) ∧
    (∃ t, exec (.tapIdcode ch) s = .next t ∧ (t.chan ch).dbg.tapId = true ∧ (t.chan ch).sent = (s.chan ch).sent ++ [.tapShift 0x12410B47#32 32] ∧ Safety.OnlyChan ch s t) ∧
    (∃ t, exec (.tapBypass ch) s = .next t ∧ (t.chan ch).dbg.tapId = false ∧ (t.chan ch).sent = (s.chan ch).sent ++ [.tapShift 0#32 1] ∧ Safety.OnlyChan ch s t)

/-- For a served, aligned access of 1, 2 or 4 octets at an address of SRAM or dynamic memory: a system bus write stores its octets and keeps every other octet and the cells; a read returns the octets, little-endian, and changes no memory and no cell. Each makes one log entry. Outside M9, in a powered channel whose test port is connected, every debug action on a hart or on the system bus leaves the channel exactly as it was but for the DMI status (failed) and the mode-refused flag. -/
def Obligations.DebugBusAccesses : Prop :=
  ∀ (s : State) (ch : Ch) (h n a trig : Nat) (r : DbgReg) (v w : Word) (ws : List Word),
    (∀ i ∈ [Instr.debugHaltRequest ch h, .debugResumeRequest ch h, .debugStep ch h, .debugRegisterRead ch h r, .debugRegisterWrite ch h r v,
         .debugProgramBufferExec ch ⟨h, ws⟩, .debugTriggerWrite ch h trig v w, .debugSystemBusRead ch 4 v.toNat, .debugSystemBusWrite ch 4 v.toNat w],
      (s.chan ch).sys.cstate ≠ .off → (s.chan ch).tapCut = false → (s.chan ch).sys.mode ≠ .m9 → ∃ t, exec i s = .next t ∧ Safety.OnlyChan ch s t ∧
        t.chan ch = { s.chan ch with dbg := { (s.chan ch).dbg with dmiOp := 2, flag := (s.chan ch).dbg.flag.raise 1 } }) ∧
    (Safety.DebugServes s ch h → (n = 1 ∨ n = 2 ∨ n = 4) → a % n = 0 → Safety.plainAddr a →
    (s.chan ch).verdict .debug true a = .served → (s.chan ch).verdict .debug false a = .served →
    (∃ t, exec (.debugSystemBusWrite ch n a v) s = .next t ∧ Safety.OnlyChan ch s t ∧ (∀ i < n, (t.chan ch).byteAt (a + i) = BitVec.ofNat 8 (v.toNat / 256 ^ i)) ∧
      (∀ x, (x < a ∨ a + n ≤ x) → (t.chan ch).byteAt x = (s.chan ch).byteAt x) ∧ (t.chan ch).cells = (s.chan ch).cells ∧
      (Memory.wf (s.chan ch).mem = true → Memory.wf (t.chan ch).mem = true) ∧ (t.chan ch).dbg.log.length = (s.chan ch).dbg.log.length + 1) ∧
    (∃ t, exec (.debugSystemBusRead ch n a) s = .next t ∧ Safety.OnlyChan ch s t ∧ (t.chan ch).mem = (s.chan ch).mem ∧ (t.chan ch).cells = (s.chan ch).cells ∧
      (t.chan ch).dbg.sbdata = BitVec.ofNat 32 (leN ((List.range n).map (fun i => (s.chan ch).byteAt (a + i)))) ∧ (t.chan ch).dbg.log.length = (s.chan ch).dbg.log.length + 1))

/-- In a channel that is up and whose reeve runs: with its tick running each mode command joins the waiting commands with its value, boundary count, time and channel; without a running tick it raises the state-conflict flag and nothing else happens. A change command the change state permits in M7 or M8 (LOAD with capacity memory to spare) joins them likewise, and one that is not permitted raises the flag. A sync command of value 1 joins them where the signal chain is served, a reset command of value 1 in M11 with no reset under way. -/
def Obligations.ModeAndChangeCommandsAreQueued : Prop :=
  ∀ (s : State) (ch : Ch), (s.chan ch).up = true → (s.chan ch).sys.reeveState = 0 →
    let wait (kind v : Nat) : State := s.upd ch fun c => { c with sys := { c.sys with cmds := c.sys.cmds ++ [⟨kind, v, c.tb.c, c.now, ch, none, 0#8⟩] } }
    let conflict : State := s.upd ch fun c => { c with sys := { c.sys with modeFlag := c.sys.modeFlag.raise 0 } }
    (∀ x ∈ [(Instr.cmdStop ch, 1), (.cmdRestart ch, 2), (.cmdCommission ch, 3), (.cmdMaintain ch, 4), (.cmdRecover ch, 5)],
      ((s.chan ch).tb.tickRun = true → exec x.1 s = .next (wait 0 x.2)) ∧ ((s.chan ch).tb.tickRun = false → exec x.1 s = .next conflict)) ∧
    (∀ x ∈ [(Instr.chgLoad ch, 1), (.chgArm ch, 2), (.chgCancel ch, 3), (.chgRollback ch, 4)],
      (((s.chan ch).sys.mode = .m7 ∨ (s.chan ch).sys.mode = .m8) → (s.chan ch).chg.state.permits x.2 = true → (x.2 = 1 → 8 ≤ (s.chan ch).sys.dramSplit) →
        exec x.1 s = .next (wait 1 x.2)) ∧
      (((s.chan ch).sys.mode ≠ .m7 ∧ (s.chan ch).sys.mode ≠ .m8 ∨ (s.chan ch).chg.state.permits x.2 = false) → exec x.1 s = .next conflict)) ∧
    (sdMode (s.chan ch).sys.mode = true → exec (.syncCommand ch 1#8) s = .next (wait 3 1)) ∧
    ((s.chan ch).sys.mode = .m11 → (∀ k, (s.chan k).field.win = none ∧ ∀ x ∈ (s.chan k).sys.cmds, x.kind ≠ 2) → exec (.resetRequest ch 1#8) s = .next (wait 2 1)) ∧
    ((s.chan ch).sys.mode ≠ .m11 → exec (.resetRequest ch 1#8) s = .next conflict)

/-- In M10 with the automatic restart enabled, a listed cause and the dwell elapsed, the restart adds one proposal: M1 with cause 0x08, or M11 with cause 0x0C when the hour's budget is spent. A proof test whose interval is exceeded raises flag 8 of the vote. A reset window at its end closes with a reason (2 while it waited for or held a grant, else 1) and counts a refusal. -/
def Obligations.ModeTimers : Prop :=
  ∀ (s : State) (ch : Ch) (m : Nat),
    ((s.chan ch).sys.m10At = some m → (s.chan ch).up = true → (s.chan ch).sys.mode = .m10 → (s.chan ch).cfgF 0x1012 1 = true →
      (s.chan ch).sys.cause ∈ [0x03, 0x04, 0x06, 0x07, 0x11, 0x12] → m + (s.chan ch).cfgN 0x1012 2 ≤ (s.chan ch).mram.opsec → (s.chan ch).sys.triggers = [] →
      exec (.automaticRestart ch) s = .next (s.upd ch fun c => { c with sys := { c.sys with
        triggers := [if c.cfgN 0x1012 3 ≤ c.hourOf c.mram.restarts then ⟨.m11, 0x0C⟩ else ⟨.m1, 0x08⟩] } })) ∧
    ((s.chan ch).up = true → (s.chan ch).vote.proofH * 3600 < (s.chan ch).mram.opsec - (s.chan ch).mram.proofAt →
      ∃ t, exec (.proofTestDue ch) s = .next t ∧ Safety.OnlyChan ch s t ∧ (t.chan ch).vote = { (s.chan ch).vote with flag := (s.chan ch).vote.flag.raise 8 }) ∧
    (∀ w, (s.chan ch).field.win = some w → (s.chan ch).up = true → w.ends ≤ (s.chan ch).now →
      ∃ t, exec (.resetWindowExpiry ch) s = .next t ∧ (t.chan ch).field.win = none ∧ (t.chan ch).field.refused = satInc (s.chan ch).field.refused ∧
        (t.chan ch).field.rreason = (if w.waiting || w.granted then 2 else 1) ∧ (t.chan ch).mem = (s.chan ch).mem)

/-- In a voting channel that verifies a load: a failed check leaves the change FAILED with its reason and counts it; a passed one keeps the digest and marks it sent. A digest of a voting peer missing at the timeout fails the load with reason 7. An arm window that runs out returns to READY with its flag; a trial past its limit goes to ROLLBACK. A confirmation with the trial's hallmark waits at the sequencing channel, if class 4 reaches that, as a transaction of the two confirmation objects with its own action. -/
def Obligations.OnlineChangeProgress : Prop :=
  ∀ (s : State) (ch : Ch),
    ((s.chan ch).chg.state = .verifying → (s.chan ch).chg.ldigSent = false → (s.chan ch).sys.cstate = .voting →
      ((s.chan ch).chgCheck (s.secFloor ch) ≠ 0 → ∃ t, exec (.changeVerification ch) s = .next t ∧ Safety.OnlyChan ch s t ∧ (t.chan ch).chg.state = .failed ∧
        (t.chan ch).chg.reason = (s.chan ch).chgCheck (s.secFloor ch) ∧ (t.chan ch).chg.failed = satInc (s.chan ch).chg.failed) ∧
      ((s.chan ch).chgCheck (s.secFloor ch) = 0 → ∃ t, exec (.changeVerification ch) s = .next t ∧ (t.chan ch).chg.ldigSent = true ∧
        (t.chan ch).chg.newProg.isSome = true)) ∧
    ((s.chan ch).chg.state = .verifying → (s.chan ch).chg.ldigSent = true → s.view (chNext ch) = .voting → (s.chan ch).chg.ldig0 = none →
      exec (.loadDigestTimeout ch) s = .next (s.upd ch fun c => { c with chg := { c.chg with
        state := .failed, reason := 7, lastReason := 7, failed := satInc c.chg.failed, flag := c.chg.flag.raise 0 } })) ∧
    ((s.chan ch).chg.state = .armed → (s.chan ch).chg.armC + (s.chan ch).cfgN 0x2040 5 ≤ (s.chan ch).tb.c →
      exec (.armWindowExpiry ch) s = .next (s.upd ch fun c => { c with chg := { c.chg with state := .ready, flag := c.chg.flag.raise 1 } })) ∧
    ((s.chan ch).chg.state = .trial → (s.chan ch).cfgN 0x2040 6 ≤ (s.chan ch).chg.trialS →
      exec (.trialLimitExpiry ch) s = .next (s.upd ch fun c => { c with chg := { c.chg with state := .rollback } })) ∧
    (∀ q, (s.chan ch).up = true → (s.chan ch).sys.reeveState = 0 → (s.chan ch).chg.state = .trial → 2 ≤ s.participants.length →
      s.seqCh = some q → s.reach ch q 4 = true →
      ∃ t w, exec (.changeConfirmation ch (s.chan ch).chg.hallmark) s = .next t ∧
        (t.chan q).dict.waiting = (s.chan q).dict.waiting ++ [w] ∧ w.acts = [(8, (s.chan ch).chg.hallmark.toNat)] ∧ w.origin = ch ∧
        w.entries = [addrEntry 0x1040 2 (leB 4 (s.chan ch).chg.hallmark.toNat), addrEntry 0x1040 3 (leB 1 1)])

/-- With no transaction in progress the sequencing channel takes the first waiting one off its queue. A record whose programming ends well leaves the queue of the channel. A program error repeats the record once. A prepared participant's report that reaches the sequencing channel, while another is still missing, is kept; a participant that is silent before COMMIT ends the transaction. A participant that the COMMIT reaches programs it. The partial acknowledgement timeout marks a committed transaction late or ends it. -/
def Obligations.JournalTransactions : Prop :=
  ∀ (s : State) (ch q : Ch) (j : JJob) (rest : List JJob) (x : Txn),
    (∀ w ws, s.seqCh = some q → (s.chan q).dict.txn = none → (s.chan q).dict.waiting = w :: ws → w.via = none → w.acts = [] →
      ∃ t, exec .journalTransactionDistribute s = .next t ∧ (t.chan q).dict.waiting = ws) ∧
    ((s.chan ch).dict.jobs = j :: rest → j.entry.kind ≠ 2 → ∃ t, exec (.journalRecordDurable ch true) s = .next t ∧ Safety.OnlyChan ch s t ∧
      (t.chan ch).dict.jobs = rest ∧ (t.chan ch).sys = (s.chan ch).sys) ∧
    ((s.chan ch).dict.jobs = j :: rest → j.repeated = false → ∃ t, exec (.journalRecordDurable ch false) s = .next t ∧
      (t.chan ch).dict.jobs = { j with repeated := true } :: rest ∧ (t.chan ch).dict.prep = (s.chan ch).dict.prep) ∧
    (s.seqCh = some q → (s.chan q).dict.txn = some x → x.committed = false → x.participants = [ch, chNext ch] → s.participates ch = true → s.participates (chNext ch) = true →
      ch ∈ x.got → s.reach ch q 4 = true → x.prepared = [] →
      (s.chan ch).dict.holds x.num = true → (s.chan ch).dict.jobs = [] →
      ∃ t y, exec (.prepareReportReceive ch) s = .next t ∧ (t.chan q).dict.txn = some y ∧ y.prepared.map (·.1) = [ch] ∧ y.num = x.num) ∧
    (s.seqCh = some q → (s.chan q).dict.txn = some x → x.committed = true → ch ≠ q → s.reach q ch 4 = true → (s.chan ch).dict.holds x.num = true → (s.chan ch).dict.jobs = [] →
      (s.chan ch).sys.flushing = false → exec (.journalCommitReceive ch) s = .next (s.upd ch fun c =>
        { c with dict := { c.dict with jobs := [⟨⟨2, x.num, [], 0, true, []⟩, false⟩] } })) ∧
    (s.seqCh = some q → (s.chan q).dict.txn = some x → x.committed = false → ch ∈ x.participants → s.participates ch = true → (∀ p ∈ x.prepared, p.1 ≠ ch) → x.via = none →
      ∃ t, exec (.participantTimeout ch) s = .next t ∧ (t.chan q).dict.txn = none ∧ (t.chan q).dict.flag = (s.chan q).dict.flag.raise 7) ∧
    (s.seqCh = some q → (s.chan q).dict.txn = some x → x.committed = true → x.durable.length < 2 →
      ∃ t, exec .partialAckTimeout s = .next t ∧ (t.chan q).dict.txn = some { x with late := true } ∧ t.wire = s.wire)

/-- A new sequencing channel that a participant tells of an open PREPARE of another sequencing reeve, with no COMMIT in any journal, ends that transaction: every participant that it reaches drops the PREPARE and programs ABORT, and no live entry changes. Compaction of a ready journal with fewer than 8 free blocks, no transaction, nothing prepared and nothing being programmed marks itself and queues SNAPSHOT records of at most 128 entries. The end of the erase of the compacted block, with its SNAPSHOT records all programmed, frees it, raises its erase count, drops its records and changes nothing else. -/
def Obligations.JournalUpkeep : Prop :=
  ∀ (s : State) (ch : Ch) (b : Nat) (x : Prep),
    (s.seqCh = some ch → (s.chan ch).dict.txn = none → s.heldTxn ch = some x → x.txn.via = none →
      (∀ p, ∀ r ∈ (s.chan p).dict.recs, r.kind = 2 → r.txn ≠ x.num) →
      ∃ t, exec (.sequencingReeveTakeover ch) s = .next t ∧ (t.chan ch).dict.txn = none ∧ (∀ k, (t.chan k).dict.live = (s.chan k).dict.live) ∧
        ∀ k, s.participates k = true → s.reach ch k 4 = true → (s.chan k).dict.holds x.num = true → (s.chan k).sys.flushing = false →
          (t.chan k).dict.prep = none ∧ (t.chan k).dict.jobs = (s.chan k).dict.jobs ++ [⟨⟨3, x.num, [], 0, true, []⟩, false⟩]) ∧
    ((s.chan ch).dict.oldest = some b → (s.chan ch).dict.freeBlocks.length < 8 → (s.chan ch).dict.compact = false → (s.chan ch).dict.ready = true →
      (s.chan ch).dict.prep = none → (s.chan ch).dict.txn = none → (s.chan ch).dict.jobs = [] → b ≠ (s.chan ch).dict.active → (s.chan ch).sys.flushing = false →
      ∃ t, exec (.journalCompaction ch) s = .next t ∧ Safety.OnlyChan ch s t ∧ (t.chan ch).dict.compact = true ∧
        (t.chan ch).dict.live = (s.chan ch).dict.live ∧ ∀ j ∈ (t.chan ch).dict.jobs, j.entry.kind = 4 ∧ j.entry.entries.length ≤ 128) ∧
    ((s.chan ch).dict.compact = true → (s.chan ch).dict.oldest = some b → (∀ j ∈ (s.chan ch).dict.jobs, j.entry.kind ≠ 4) →
      exec (.journalBlockErased ch b) s = .next (s.upd ch fun c => { c with dict := { c.dict with
        compact := false, recs := c.dict.recs.filter (fun r => r.block != b), blocks := modAt (fun z => (z.1 + 1, 0)) b c.dict.blocks } }))

/-- A kick by the reeve itself stores the present time. A reeve that has run 50 ms or more without one goes down, its restart is counted and reads held for the vote are dropped; the restart of a reeve that is down, with no slot committing and no message waiting, runs it again from a fresh kick. An operating second advances the count, saturating, and the trial seconds in TRIAL. In M2 to M4 the snapshot timer sends the channel's snapshot to both other channels over working links. -/
def Obligations.ReeveSupervision : Prop :=
  ∀ (s : State) (ch : Ch),
    ((s.chan ch).verdict .reeve true 0x40000074 = .served → exec (.reeveKick ch .reeve) s = .next (s.upd ch fun c => { c with sys := { c.sys with kickTime := c.now } })) ∧
    ((s.chan ch).up = true → (s.chan ch).sys.reeveState = 0 → (s.chan ch).sys.kickTime + 50000000 ≤ (s.chan ch).now →
      ∃ t, exec (.reeveWatchdogTimeout ch) s = .next t ∧ (t.chan ch).sys.reeveState ≠ 0 ∧ (t.chan ch).sys.mode = (s.chan ch).sys.mode ∧ (t.chan ch).sys.cstate = (s.chan ch).sys.cstate ∧
        (t.chan ch).sys.reeveRestarts = min ((s.chan ch).sys.reeveRestarts + 1) 65535 ∧ (t.chan ch).vote.reads = [] ∧ (t.chan ch).cells = (s.chan ch).cells ∧ (t.chan ch).mem = (s.chan ch).mem) ∧
    ((s.chan ch).up = true → (s.chan ch).sys.reeveState = 1 → (∀ n < 32, ((s.chan ch).bridge.slot n).state ≠ .committing) → (s.chan ch).host.inBusy = false →
      ∃ t, exec (.reeveRestart ch) s = .next t ∧ (t.chan ch).sys.reeveState = 0 ∧ (t.chan ch).sys.kickTime = (s.chan ch).now ∧ (t.chan ch).mem = (s.chan ch).mem) ∧
    ((s.chan ch).up = true → ∃ t, exec (.operatingSecond ch) s = .next t ∧ Safety.OnlyChan ch s t ∧
      (t.chan ch).mram = { (s.chan ch).mram with opsec := min ((s.chan ch).mram.opsec + 1) 0xFFFFFFFF } ∧
      (t.chan ch).chg.trialS = (s.chan ch).chg.trialS + (if (s.chan ch).chg.state = .trial then 1 else 0) ∧
      ({ t.chan ch with mram := (s.chan ch).mram, chg := (s.chan ch).chg } : Chan) = s.chan ch) ∧
    ((s.chan ch).up = true → (s.chan ch).sys.reeveState = 0 → (s.chan ch).sys.mode = .m4 → s.direct ch (chNext ch) 4 = true → s.direct ch (chPrev ch) 4 = true →
      ∃ t, exec (.snapshotTimer ch) s = .next t ∧ (∀ x, t.chan x = s.chan x) ∧
        t.wire = s.wire ++ [⟨ch, chNext ch, .direct, .snapshot (s.snapshotOf ch)⟩, ⟨ch, chPrev ch, .direct, .snapshot (s.snapshotOf ch)⟩])

/-- For ring r and its node. Open: link status OK marks the port and drops its old probe results; 100 ms later the port is usable and a node in LINKING enters LISTEN. A port that was up goes down with flag 17; the frame that was passing is first handled as one that ends there with an error. The loop takes the state the usable ports call for, with flag 13. The bypass relay follows its coil. A port with link sends a probe with the next sequence number; an intact request on an open node with link leaves by the port it came in by. An intact response to an own probe gives ((t4 - t1) - TURN) / 2: below 0 or above 600 ns it is refused with flag 18, else, once 8 results stand, it becomes the delay of the port (a half nanosecond is dropped: the model's choice, log entry 98). Each changes that one ring block (a probe also leaves the port) and nothing else. -/
def Obligations.RingPortsAndProbes : Prop :=
  ∀ (s : State) (r : Ring) (seq turn t1 t4 : Nat),
    let c := s.chan (ringOwner r)
    let m := c.mill
    let onRing (m' : MillBlk) (out : List Emission) : State := s.upd (ringOwner r) fun c => { c with mill := m', sent := c.sent ++ out }
    (m.open_ = true → exec (.portUp r .p0) s = .next (onRing { m with link0 := true, pres0 := [] } []) ∧
      exec (.portUp r .p1) s = .next (onRing { m with link1 := true, pres1 := [] } [])) ∧
    (m.open_ = true → m.link0 = true → exec (.portUsable r .p0) s = .next (onRing
      (if m.nstate = .linking then { m with up0 := true, nstate := .listen, silent := 0 } else { m with up0 := true }) [])) ∧
    (m.open_ = true → m.link1 = true → exec (.portUsable r .p1) s = .next (onRing
      (if m.nstate = .linking then { m with up1 := true, nstate := .listen, silent := 0 } else { m with up1 := true }) [])) ∧
    (m.link0 = true ∨ m.up0 = true → exec (.portDown r ⟨.p0, none⟩) s = .next (onRing { m with link0 := false, up0 := false, flag := m.flag.raise 17 } [])) ∧
    (m.link1 = true ∨ m.up1 = true → exec (.portDown r ⟨.p1, none⟩) s = .next (onRing { m with link1 := false, up1 := false, flag := m.flag.raise 17 } [])) ∧
    (∀ p f n, m.wasUp p = true → ∃ u, exec (.framePassage r (frameCut f m n)) s = .next u ∧ exec (.portDown r ⟨p, some (f, n)⟩) s = .next (u.updMill r (fun m => m.portLost p))) ∧
    (∀ k, (m.up0 = true ∧ m.up1 = false ∧ k = 1 ∨ m.up0 = false ∧ m.up1 = true ∧ k = 2 ∨ m.up0 = m.up1 ∧ k = 0) → m.loop ≠ k →
      exec (.loopChange r) s = .next (onRing { m with loop := k, flag := m.flag.raise 13 } [])) ∧
    exec (.bypassRelaySwitched r) s = .next (onRing { m with relayOpen := m.coil } []) ∧
    (∀ p, (if p = .p0 then m.link0 else m.link1) = true → exec (.probeSend r p t1) s = .next (onRing
      { m with probes := m.probes ++ [(p, m.probeSeq, t1)], probeSeq := (m.probeSeq + 1) % 65536 } [.probe r p false m.probeSeq 0])) ∧
    (∀ p, m.open_ = true → (if p = .p0 then m.link0 else m.link1) = true →
      exec (.probeRequestReceive r p seq turn true) s = .next (onRing m [.probe r p true seq turn])) ∧
    (∀ p q, m.probes.find? (fun x => x.1 == p && x.2.1 == seq) = some (p, q, t1) →
      let d := (t4 : Int) - t1 - turn
      let m1 := { m with probes := m.probes.filter (fun x => !(x.1 == p && x.2.1 == seq)) }
      (d < 0 ∨ 1200 < d → exec (.probeResponseReceive r p seq turn t4 true) s = .next (onRing { m1 with flag := m.flag.raise 18 } [])) ∧
      (0 ≤ d → d ≤ 1200 → 8 ≤ (if p = .p0 then m.pres0 else m.pres1).length → exec (.probeResponseReceive r p seq turn t4 true) s =
        .next (onRing (if p = .p0 then { m1 with delay0 := d.toNat / 2 } else { m1 with delay1 := d.toNat / 2 }) [])))

/-- For a frame that arrives at a usable port of a node that is open and does not originate, with a usable port to leave by, below 130 hops, with no mailbox message waiting and no octet that the node asked to substitute. Where the shepherd enables octets 28 to 35 it leaves with DELAY, HOPS and LINE updated, else with them as they came; its windows are unchanged. In LISTEN a valid frame of the node's schedule, new to it, not passed over in this period and of the bellringer of this period, makes the node JOINED. A frame that fails its header check leaves in every such state, with flag 0. A second passage of a frame is not read: no item appears. Memory, items, tasks and the other channels stay as they are, and the messages in flight too. -/
def Obligations.RingFramesPass : Prop :=
  ∀ (s : State) (r : Ring) (f : MFrame),
    let c := s.chan (ringOwner r)
    let m := c.mill
    let run := if m.shepValid then frameRun (f.delay + m.inDelay f + f.res) (f.hops + 1) (f.line || decide (m.loop ≠ 0)) else frameRun f.delay f.hops f.line
    let gone (t : State) : Prop := Safety.OnlyChan (ringOwner r) s t ∧
      (t.chan (ringOwner r)).sent = c.sent ++ [.frame r (m.outPort f.inPort) (sentOn f run (if m.shepValid || f.rcrcOk then some (crc16 run) else none) f.wins)]
    m.nstate ≠ .bypass → m.nstate ≠ .linking → m.nstate ≠ .originating → m.upAt f.inPort = true → m.upAt (m.outPort f.inPort) = true → f.hops < 130 → m.mbDone = [] → m.mbSent = [] → f.reqs = [] →
    (m.nstate = .listen → f.hcrcOk = true → f.rcrcOk = true → f.bodyOk = true → f.txErr = false → f.sched = m.sched → m.lastFrame ≠ some (f.bell, f.cycle) →
      m.seen.contains (f.bell, f.cycle) = false → (m.periodBell = none ∨ m.periodBell = some f.bell) → c.ringSource r = false →
      ∃ t, exec (.framePassage r f) s = .next t ∧ gone t ∧ ({ t.chan (ringOwner r) with mill := m, sent := c.sent, cells := c.cells } : Chan) = c ∧
        (t.chan (ringOwner r)).mill.nstate = .joined ∧ (t.chan (ringOwner r)).mill.heard = true ∧
        (t.chan (ringOwner r)).mill.lastFrame = some (f.bell, f.cycle) ∧ (t.chan (ringOwner r)).mill.cycle = f.cycle) ∧
    (f.hcrcOk = false → ∃ t, exec (.framePassage r f) s = .next t ∧ gone t ∧ ({ t.chan (ringOwner r) with mill := m, sent := c.sent } : Chan) = c ∧
      (t.chan (ringOwner r)).mill = { m with flag := m.flag.raise 0, badHcrc := true }) ∧
    (m.lastFrame = some (f.bell, f.cycle) → f.hcrcOk = true → ∃ t, exec (.framePassage r f) s = .next t ∧ gone t ∧
      ({ t.chan (ringOwner r) with mill := m, sent := c.sent } : Chan) = c ∧
      (t.chan (ringOwner r)).mill = (if frameOk f then { m with validAt := some f.stamp, heard := true } else { m with flag := m.flag.raise 0, heard := true }))

/-- For ring r. The fetch of a STATUS window by a joined node in a mode with ring content fills its buffer with the status octets, or, late, with those octets that were written, zeros behind them, and flag 15; an originating node sends the window out, late with its check sequence inverted. One microsecond before the boundary an originating bellringer raises flag 12 when a window of its schedule has not returned. A withdrawn node whose hold is 0 listens anew; a node whose back-off periods have passed joins if it received a valid cycle, another originates at the next boundary. A sample block of 1,100 cycles is discarded. With no read of a mapped object under way, a mailbox transfer without acknowledgement after 64 cycles ends with flag 16, its messages go and leave the bridge's work. An enabled time mark sets its bit in every running cell of any channel. Nothing else changes but what is named. -/
def Obligations.RingWindowsAndTimers : Prop :=
  ∀ (s : State) (r : Ring) (n k : Nat),
    let o := ringOwner r
    let c := s.chan o
    let m := c.mill
    let onRing (m' : MillBlk) : State := s.upd o fun c => { c with mill := m' }
    (∀ b w, m.binds[n]? = some b → m.win b.win = some w → b.kind = 2 → ringMode c.sys.mode = true → c.speaks = true →
      let body := padTo w.len (wordBytes (fixW (w.len / 4) (c.statusWords (s.view .A) (s.view .B) (s.view .C))))
      (m.nstate = .joined → exec (.windowFetch r n none) s = .next (onRing { m with bufs := m.bufs.filter (fun (z : WinBuf) => z.win != w.num) ++ [⟨w.num, false, body, false⟩] }) ∧
        exec (.windowFetch r n (some k)) s = .next (onRing { m with flag := m.flag.raise 15, bufs := m.bufs.filter (fun (z : WinBuf) => z.win != w.num) ++
          [⟨w.num, false, padTo w.len (body.take k), true⟩] })) ∧
      (m.nstate = .originating → exec (.windowFetch r n none) s = .next (s.upd o fun c => { c with sent := c.sent ++ [.window r ⟨w.num, false, false, m.addr, m.origCycle.getD 0#32, body, true⟩] }) ∧
        exec (.windowFetch r n (some k)) s = .next (s.upd o fun c => { c with
          mill := { m with flag := m.flag.raise 15 }, sent := c.sent ++ [.window r ⟨w.num, false, false, m.addr, m.origCycle.getD 0#32, padTo w.len (body.take k), false⟩] }))) ∧
    (m.nstate = .originating → m.origCycle.isSome = true → ∃ t, exec (.windowReturnDeadline r) s = .next t ∧ Safety.OnlyChan o s t ∧
      (t.chan o).mill = { m with flag := m.flag.raiseIf (m.wins.any (fun (w : SWin) => !m.back.contains w.num)) 12 } ∧
      ({ t.chan o with mill := m, tb := c.tb } : Chan) = c) ∧
    (m.nstate = .withdrawn → m.hold = 0 → exec (.withdrawHoldExpiry r) s = .next (onRing { m with nstate := .listen, cuts := [] })) ∧
    (m.nstate = .backoff → m.backLeft = 0 → exec (.backoffExpiry r) s = .next (onRing
      (if m.backValid then { m with nstate := .joined, backValid := false } else { m with originNext := true }))) ∧
    (1100 ≤ m.blkCycles → exec (.ringSampleBlockDiscard r) s = .next (onRing { m with blkSum := 0, blkN := 0, blkCycles := 0 })) ∧
    (∀ g, m.mbOut = some g → 64 ≤ m.mbRetry → (∀ x, ∀ j < 32, ((s.chan x).bridge.slot j).running = false) →
      ∃ t, exec (.mailboxTimeout r) s = .next t ∧ (∀ x, x ≠ o → t.chan x = s.chan x) ∧ t.wire = s.wire ∧ t.pending = s.pending ∧
        (t.chan o).bridge = { c.bridge with work := c.bridge.work.filter fun w => !((g :: m.mbQueue).any fun (x : MbSeg) => x.dest == g.dest && x.work == some w) } ∧
        (t.chan o).mill = { m with mbOut := none, mbRetry := 0, flag := m.flag.raise 16, mbSeq := (g.seq + 1) % 256, mbQueue := m.mbQueue.filter (fun (x : MbSeg) => x.dest != g.dest) } ∧
        ({ t.chan o with mill := m, bridge := c.bridge, dict := c.dict } : Chan) = c) ∧
    (∀ ch w, (s.chan ch).tb.started = true →
      ((s.chan ch).mill.tmarks r)[k]? = some w → w.getLsbD 31 = true → w.getLsbD 30 = true →
      ∃ t, exec (.timeMark ch r k) s = .next t ∧ Safety.OnlyChan ch s t ∧ ({ t.chan ch with tb := (s.chan ch).tb, cells := (s.chan ch).cells } : Chan) = s.chan ch ∧
        ∀ h < 16, (((s.chan ch).cell (h / 2)).mode = .bonded ∨ ((s.chan ch).cell (h / 2)).mode = .split) →
          (t.chan ch).core h = { (s.chan ch).core h with irqP := ((s.chan ch).core h).irqP ||| (1#11 <<< (3 + w.toNat / 134217728 % 8)) })

/-- For a publication of a plane's owner that the mode lets out. Due at its cycle and phase, or asked for by a pull request, its content (with SDTv2 the count and safety code behind it) enters the queue of its class at each front port by which its receiver is reached, with its sequence counter, which advances with the send count, when it is no VOTED one or the gate is open; a VOTED one waits at a closed gate, and is dropped with all that wait there once J_c has shut it. A pull request with an option that is not supported only raises flag 1. A received telegram with a bad FCS, for no subscription, only raises flag 0, one with a bad header or type flag 1. A good one for the only subscription of its ComId on that plane, without SDTv2, of the right length, new, with no filter, no source set and no route of the bridge, becomes the newest item, is counted, and is forwarded to both other channels. -/
def Obligations.ProcessDataTelegrams : Prop :=
  ∀ (s : State) (p : Plane) (n : Nat) (q : Pub) (id dst : Word) (x : Telegram) (u : ESub),
    let o := planeOwner p
    let c := s.chan o
    let port : NetPort := if p = .a then .planeA else .planeB
    let ssc := BitVec.ofNat 32 ((c.tb.c - q.phase) / q.cycle + 1)
    let data := s.content o q.kind q.task q.ofs q.words
    let full := if q.sdt then data ++ [ssc, Config.sdtCode c.ecn.consist q.smi ssc data] else data
    let k := if q.sdt then 1 else 2
    let frame (b : EthBody) (g : RPort) : RPort × Emission := (g, .eth port [g] c.ecn.vlan (if c.ecn.vlan = 0 then none else some (if q.sdt then 6 else 5)) (some 17224) b)
    let seen (t : State) (b : EthBody) : Prop := Safety.OnlyChan o s t ∧ ({ t.chan o with ecn := c.ecn, tb := c.tb } : Chan) = c ∧
      (t.chan o).ecn = ({ c.ecn with pubSeq := assocSet q.num (assocD 0#32 q.num c.ecn.pubSeq + 1#32) c.ecn.pubSeq, pubTx := modAt satInc (q.num - 1) c.ecn.pubTx } : EcnBlk).enter k ((c.ecn.leaves port b).map (frame b))
    let waits (t : State) (g : GateItem) : Prop := Safety.OnlyChan o s t ∧ ({ t.chan o with vote := c.vote, tb := c.tb } : Chan) = c ∧
      (t.chan o).vote = if c.vote.shut then { c.vote with gateQ := [], flag := (c.vote.gateQ ++ [g]).foldl (fun (f : FlagReg) _ => f.raise 5) c.vote.flag }
        else { c.vote with gateQ := c.vote.gateQ ++ [g] }
    (c.ecn.pub n = some q → c.pubOn q = true → c.tb.started = true → q.phase ≤ c.tb.c → (c.tb.c - q.phase) % q.cycle = 0 →
      (q.kind ≠ 0 ∨ c.vote.gate = true → ∃ t, exec (.pdTelegramDue p n) s = .next t ∧ seen t (.pd q.comId q.dst (c.pubCount q) full (if q.sdt then some ssc else none))) ∧
      (q.kind = 0 → c.vote.gate = false → ∃ t, exec (.pdTelegramDue p n) s = .next t ∧ waits t (.pub n))) ∧
    (c.ecn.pubs.find? (fun y => y.comId == x.comId) = some q → c.pubOn q = true →
      (q.kind ≠ 0 ∨ c.vote.gate = true → ∃ t, exec (.pdPullRequest p ⟨x.comId, true⟩ id dst) s = .next t ∧ seen t (.pp id dst (c.pubCount q) full)) ∧
      (q.kind = 0 → c.vote.gate = false → ∃ t, exec (.pdPullRequest p ⟨x.comId, true⟩ id dst) s = .next t ∧ waits t (.pp q.num id dst))) ∧
    (c.speaks = true → pdMode c.sys.mode = true →
      exec (.pdPullRequest p ⟨x.comId, false⟩ id dst) s = .next (s.upd o fun c => { c with ecn := { c.ecn with flag := c.ecn.flag.raise 1 } })) ∧
    (c.speaks = true → pdMode c.sys.mode = true → c.ecn.subs.any (fun y => y.comId == x.comId) = false →
      (x.fcsOk = false → exec (.pdTelegramReceive p x) s = .next (s.upd o fun c => { c with ecn := { c.ecn with flag := c.ecn.flag.raise 0 } })) ∧
      (x.fcsOk = true → (x.hdrOk = false ∨ x.typeOk = false) →
        exec (.pdTelegramReceive p x) s = .next (s.upd o fun c => { c with ecn := { c.ecn with flag := c.ecn.flag.raise 1 } }))) ∧
    (c.speaks = true → pdMode c.sys.mode = true → x.fcsOk = true → x.hdrOk = true → x.typeOk = true → c.bridge.routes = [] → c.ecn.subs = [u] → u.comId = x.comId →
      (if p = .a then u.planeA else u.planeB) = true → u.filter = 0#32 → u.sdt = false → x.data.length = u.words → c.pair.cfg.on = false → c.pair.cfg.srcSets = [] →
      c.ecn.lastSeq.find? (fun y => y.1 == u.num && y.2.1 == x.src) = none →
      ∃ t, exec (.pdTelegramReceive p x) s = .next t ∧ (∀ k, k ≠ o → t.chan k = s.chan k) ∧ t.pending = s.pending ∧ t.wire = (s.sendBoth o (.telegram p x)).wire ∧
        (t.chan o).sl.items = ⟨1, if p = .a then 0 else 1, u.num, x.stamp, x.data, 0#32, false, true⟩ :: c.sl.items ∧
        ({ (t.chan o).ecn with bridged := c.ecn.bridged } : EcnBlk) = { c.ecn with subRx := modAt satInc (u.num - 1) c.ecn.subRx, lastSeq := (u.num, x.src, x.seq) :: c.ecn.lastSeq.filter (fun y => !(y.1 == u.num && y.2.1 == x.src)) } ∧
        ({ t.chan o with sl := { (t.chan o).sl with items := c.sl.items }, ecn := c.ecn } : Chan) = c)

/-- For a plane whose mode follows PTP. A first Announce in the module's domain with an allowed rate selects its master, with flag 9 when another one was selected before; the end of its announcements leaves no master. A delay measurement of the selected master joins the last eight, and the mean path delay becomes their median (of an even number the floor of the mean of the middle two: the model's choice, log entry 46). A two-step Sync of the selected master waits for its Follow_Up. With a recent measurement of a median from 0 to 50 us, a one-step Sync, or the Follow_Up of the waiting Sync, gives the sample t1 + corrections + median - t2, marked for the boundary after the Sync, held and sent to both other channels once ticks have started, and counted. With a Sync a Delay_Req enters the first queue of each front port with link (one for each Sync: the model's choice, log entry 125). A PTP message with an option that is not supported only raises flag 1. -/
def Obligations.NetworkTime : Prop :=
  ∀ (s : State) (p : Plane) (a : Announce) (gm : W64) (delay t1 corr sc : Int) (now t2 seq cap : Nat),
    let o := planeOwner p
    let c := s.chan o
    let onEcn (e : EcnBlk) : State := s.upd o fun c => { c with ecn := e }
    let mid := medianInt (c.ecn.delays.map (·.1))
    let port : NetPort := if p = .a then .planeA else .planeB
    let ask (e : EcnBlk) : EcnBlk := e.enter 0 ((e.fronts port).map fun x => (x, .eth port [x] e.vlan (if e.vlan = 0 then none else some 7) (some 319) (.delayReq e.gm)))
    let sample (t : State) (corr : Int) (cap : Nat) (f : EcnBlk → EcnBlk) : Prop := (∀ k, k ≠ o → t.chan k = s.chan k) ∧ t.pending = s.pending ∧
      t.wire = (s.sendBoth o (.dsample ⟨if p = .a then 1 else 2, t1 + corr + mid - t2, cap, t2⟩)).wire ∧
      (t.chan o).tb = { c.tb with held := c.tb.held ++ [⟨if p = .a then 1 else 2, t1 + corr + mid - t2, cap, t2⟩] } ∧
      (t.chan o).ecn = f { c.ecn with sync := none, sampled := true, samples := satInc c.ecn.samples } ∧
      ({ t.chan o with tb := c.tb, ecn := c.ecn } : Chan) = c
    (c.ptpOn = true → ∀ two, let bad := State.upd s o fun c => { c with ecn := { c.ecn with flag := c.ecn.flag.raise 1 } }
      (a.plain = false → exec (.ptpAnnounce p a) s = .next bad) ∧ exec (.ptpSync p ⟨gm, false⟩ seq two t1 corr t2) s = .next bad ∧
      exec (.ptpFollowUp p ⟨gm, false⟩ seq t1 corr) s = .next bad ∧ exec (.ptpDelayResp p ⟨gm, false⟩ delay now) s = .next bad) ∧
    (c.ptpOn = true → a.plain = true → a.domain = c.ecn.domain → -3 ≤ a.logSync → a.logSync ≤ 0 → c.ecn.masters = [] → c.ecn.sel = none →
      exec (.ptpAnnounce p a) s = .next (onEcn { c.ecn with
        masters := [⟨a.gm, a.rank, a.logSync, a.utc⟩], sel := some ⟨a.gm, a.rank, a.logSync, a.utc⟩, gm := a.gm, sync := none, sampled := false, delays := [], lastGm := some a.gm, flag := if c.ecn.lastGm = none ∨ c.ecn.lastGm = some a.gm then c.ecn.flag else c.ecn.flag.raise 9 })) ∧
    (∀ m, c.ecn.masters = [m] → m.gm = gm → c.ecn.sel = some m →
      exec (.announceTimeout p gm) s = .next (onEcn { c.ecn with masters := [], sel := none, gm := 0#64, sync := none, sampled := false, delays := [] })) ∧
    (c.ptpOn = true → c.ecn.sel.isSome = true → c.ecn.gm = gm →
      exec (.ptpDelayResp p ⟨gm, true⟩ delay now) s = .next (onEcn { c.ecn with delays := ((delay, now) :: c.ecn.delays).take 8, mpd := (medianInt ((((delay, now) :: c.ecn.delays).take 8).map (·.1))).toNat }) ∧
      exec (.ptpSync p ⟨gm, true⟩ seq true t1 corr t2) s = .next (onEcn (ask { c.ecn with sync := some (gm, seq, corr, t2, c.tb.c + 1), sampled := c.ecn.sampled && c.ecn.sync.isNone })) ∧
      (c.tb.started = true → 0 ≤ mid → mid ≤ 50000 → c.ecn.delays.any (fun d => decide (t2 ≤ d.2 + 16000000000)) = true →
        (∃ t, exec (.ptpSync p ⟨gm, true⟩ seq false t1 corr t2) s = .next t ∧ sample t corr (c.tb.c + 1) ask) ∧
        (c.ecn.sync = some (gm, seq, sc, t2, cap) → ∃ t, exec (.ptpFollowUp p ⟨gm, true⟩ seq t1 corr) s = .next t ∧ sample t (sc + corr) cap id)))

/-- In a channel whose plane ports may transmit in the mode in force: a frame that came in by a front port has its source address learned there; where it goes on (a group, an unknown address or one learned at the other port, with link there) it enters the queue of its priority there, a PTP event with its residence time added and its UDP checksum 0; at a full queue of 64 frames it is dropped with flag 7. A port that works in the mode learns the sender of a plain ARP request and answers one for its own address, as it does a plain ICMP echo: on a plane through the queues of the ports by which the sender is reached, on the service port at once. It counts a malformed request as a header error and answers nothing else. A link that comes up, or goes down, is shown in UP0 or UP1; with it up in a mode with process data, reports of joined groups alone may enter the queues. Nothing else changes. -/
def Obligations.PlanePortsAndSwitch : Prop :=
  ∀ (s : State) (p : Plane) (n : NetPort) (g : RPort) (src dst q res mac : Nat) (ip from_ : Word),
    let o := planeOwner p
    let c := s.chan o
    let d := s.chan (portOwner n)
    (c.speaks = true → planeMode c.sys.mode = true → q < 4 → ∀ ev : Bool,
      let z : RPort := if g = .p0 then .p1 else .p0
      let e : EcnBlk := { c.ecn with macs := if src.testBit 40 then c.ecn.macs else ((src, g) :: c.ecn.macs.filter (fun m => m.1 != src)).take 1024, sw := true, tc := true }
      (e.goesOn dst g = false → exec (.switchForward p g ⟨src, dst, q⟩ ev res) s = .next (s.upd o fun c => { c with ecn := e })) ∧
      (e.goesOn dst g = true → (atD [] (portNum z * 4 + q) c.ecn.queues).length < 64 → exec (.switchForward p g ⟨src, dst, q⟩ ev res) s = .next (s.upd o fun c => { c with
        ecn := { e with queues := modAt (· ++ [if ev then .ptpEvent p z res 0 else .planeFrame p z q]) (portNum z * 4 + q) e.queues } })) ∧
      (e.goesOn dst g = true → 64 ≤ (atD [] (portNum z * 4 + q) c.ecn.queues).length →
        exec (.switchForward p g ⟨src, dst, q⟩ ev res) s = .next (s.upd o fun c => { c with ecn := { e with flag := c.ecn.flag.raise 7 } }))) ∧
    (d.portOn n = true →
      let e1 : EcnBlk := { d.ecn with neigh := (from_, mac) :: d.ecn.neigh.filter (fun x => x.1 != from_) }
      let e2 : EcnBlk := if n = .service then e1 else { e1 with macs := if mac.testBit 40 then e1.macs else ((mac, g) :: e1.macs.filter (fun m => m.1 != mac)).take 1024 }
      let bad : State := s.upd (portOwner n) fun c => { c with ecn := { c.ecn with flag := c.ecn.flag.raise 1 } }
      let answered (t : State) (e : EcnBlk) (b : EthBody) : Prop := Safety.OnlyChan (portOwner n) s t ∧ ({ t.chan (portOwner n) with ecn := d.ecn, sent := d.sent } : Chan) = d ∧
        (t.chan (portOwner n)).sent = d.sent ++ (if n = .service ∧ d.ecn.up1 = true then [.eth n [.p1] 0 none none b] else []) ∧
        (t.chan (portOwner n)).ecn = (if n = .service then e else e.enter 3 ((e.leaves n b).map fun x => (x, .eth n [x] d.ecn.vlan none none b)))
      (ip = d.ecn.ip → (∃ t, exec (.arpRequest n ⟨ip, from_, mac, g, true⟩) s = .next t ∧ answered t e2 (.arp ip from_)) ∧
        (∃ t, exec (.icmpEcho n ip ⟨true, from_⟩) s = .next t ∧ answered t d.ecn (.icmp from_))) ∧
      (ip ≠ d.ecn.ip → exec (.arpRequest n ⟨ip, from_, mac, g, true⟩) s = .next (s.upd (portOwner n) fun c => { c with ecn := e2 }) ∧
        ∃ t, exec (.icmpEcho n ip ⟨true, from_⟩) s = .next t ∧ (∀ k, t.chan k = s.chan k) ∧ t.wire = s.wire) ∧
      exec (.icmpEcho n ip ⟨false, from_⟩) s = .next bad ∧ exec (.arpRequest n ⟨ip, from_, mac, g, false⟩) s = .next bad) ∧
    (∀ ch up, (up = true → (s.chan ch).speaks = true ∧ (if ch = .C then serviceMode (s.chan ch).sys.mode else planeMode (s.chan ch).sys.mode) = true) →
      let linked (t : State) (e : EcnBlk) : Prop := Safety.OnlyChan ch s t ∧ ({ t.chan ch with ecn := (s.chan ch).ecn } : Chan) = s.chan ch ∧
        (t.chan ch).ecn.up0 = e.up0 ∧ (t.chan ch).ecn.up1 = e.up1 ∧ (up = false → t.chan ch = { s.chan ch with ecn := e }) ∧
        ∀ j, ∀ y ∈ atD [] j (t.chan ch).ecn.queues, y ∈ atD [] j (s.chan ch).ecn.queues ∨ ∃ n xs v m, y = .eth n xs v none none (.igmp m) ∧ m ∈ (s.chan ch).ecn.subs.map (·.group)
      (∃ t, exec (.ecnPortLinkChange ch .p1 up) s = .next t ∧ linked t { (s.chan ch).ecn with up1 := up }) ∧
      (ch ≠ .C → ∃ t, exec (.ecnPortLinkChange ch .p0 up) s = .next t ∧ linked t { (s.chan ch).ecn with up0 := up }))

/-- In channel C while the device drives the bus. A device status poll of its own address is answered. A source port that may be sent and has a buffer is answered with it unless it is VOTED and stale, abstaining or resynchronising, when flag 4 is raised and nothing sent. A master frame of a sink port lets its slave frame be awaited; that frame, good on the trusted line and of the port's length, becomes the port's buffer and the newest item and is forwarded to both other channels; a frame bad on the trusted line gives no item in channel C and is forwarded as it came, with its check failing. Without a slave frame in time flag 2 is raised. Nothing else changes. -/
def Obligations.MvbDevice : Prop :=
  ∀ (s : State) (p : MvbPort) (b data : List Byte) (okA okB : Bool) (stamp : Nat),
    let c := s.chan .C
    let onC (f : Chan → Chan) : State := s.upd .C f
    let quiet : Bool := p.kind = 0 && (c.vote.state == .abstaining || c.vote.state == .resync || c.mvb.stale)
    (c.mvbOn = true → exec (.mvbMasterFrame 15 c.mvb.dev) s = .next (onC fun c => { c with sent := c.sent ++ [.mvbSlave c.mvb.dev (c.mvbStatus c.compat.ldiag)] })) ∧
    (c.mvbOn = true → p.fcode ≠ 15 → c.mvb.ports.find? (fun y => y.addr == p.addr && y.fcode == p.fcode) = some p →
      (p.source = true → c.mvbMay p.kind = true → p.buf = some b → exec (.mvbMasterFrame p.fcode p.addr) s =
        .next (onC fun c => if quiet then { c with mvb := { c.mvb with flag := c.mvb.flag.raise 4 } } else { c with sent := c.sent ++ [.mvbSlave p.addr b] })) ∧
      (p.source = false → exec (.mvbMasterFrame p.fcode p.addr) s = .next (onC fun c => { c with mvb := { c.mvb with await := some p.addr } }))) ∧
    (c.mvbOn = true → c.mvb.await = some p.addr → c.mvb.ports.find? (fun y => y.addr == p.addr && !y.source) = some p →
      ((if c.mvb.trustB then okB else okA) = true → data.length = fcodeLen p.fcode → c.bridge.routes = [] →
        ∃ t, exec (.mvbSlaveFrame p.addr okA okB data stamp) s = .next t ∧ (∀ k, k ≠ .C → t.chan k = s.chan k) ∧ t.wire = (s.sendBoth .C (.item (mvbItem p.addr stamp data))).wire ∧
          (t.chan .C).sl.items = mvbItem p.addr stamp data :: c.sl.items ∧ (t.chan .C).mvb.await = none ∧
          (∀ y ∈ (t.chan .C).mvb.ports, y.addr = p.addr → y.buf = some data) ∧
          ({ t.chan .C with mvb := c.mvb, sl := { (t.chan .C).sl with items := c.sl.items } } : Chan) = c) ∧
      ((if c.mvb.trustB then okB else okA) = false → ∃ t, exec (.mvbSlaveFrame p.addr okA okB data stamp) s = .next t ∧ (∀ k, k ≠ .C → t.chan k = s.chan k) ∧
          t.wire = (s.sendBoth .C (.item { mvbItem p.addr stamp data with good := false })).wire ∧ (t.chan .C).sl = c.sl ∧ (t.chan .C).mvb.ports = c.mvb.ports ∧ (t.chan .C).mvb.await = none ∧ ({ t.chan .C with mvb := c.mvb } : Chan) = c)) ∧
    (∀ a, c.mvb.await = some a → exec .mvbSinkTimeout s = .next (onC fun c => { c with mvb := { c.mvb with await := none, flag := c.mvb.flag.raise 2 } }))

/-- For the oldest queued write of its entry towards a port, in a channel whose bridge works. To a plane it enters the queues as a telegram with the entry's own sequence counter, at each front port by which its receiver is reached; to a lane with an empty outgoing buffer it becomes the waiting host message; it is counted as delivered then and leaves the queue with its last destination. To a ring, where the reeve runs, its list has room and the node has a mailbox window, a write of the object that its identifier names begins, as work of the reeve, and stays queued; with 64 entries of work it stays with flag 8. At the end of its lifetime a destination is dropped with flag 1 and counted, a ring one also as work. 100 us after a gap the one held item of the entry is queued, the next number expected, and flag 10 raised. A side-band pulse ends on its pin. No other channel changes. -/
def Obligations.PostedWritesLeave : Prop :=
  ∀ (s : State) (ch : Ch) (qid d e : Nat) (p : Posted) (r : Route),
    let c := s.chan ch
    let b := c.bridge
    let rest : List Posted := (b.queue.map fun (x : Posted) => if x.qid = qid then { x with dests := x.dests.filter (· ≠ d) } else x).filter fun (x : Posted) => !x.dests.isEmpty
    (b.queue.find? (fun (x : Posted) => x.qid == qid && x.dests.contains d) = some p → b.routes.find? (fun (x : Route) => x.num == p.entry) = some r →
      (b.queue.find? (fun (x : Posted) => x.entry == p.entry && x.dests.contains d)).map (·.qid) = some qid → c.bridgeOn = true →
      ((d = 2 ∨ d = 3) →
        let port : NetPort := if d = 2 then .planeA else .planeB
        let body : EthBody := .pd r.did r.daddr (assocD 0#32 r.num b.pdSeq) (bytesWords (p.data.length / 4) p.data) none
        exec (.postedWriteDelivery ch qid d) s = .next (s.upd ch fun c => { c with
          bridge := { b with queue := rest, delivered := satInc b.delivered, pdSeq := assocSet r.num (assocD 0#32 r.num b.pdSeq + 1#32) b.pdSeq }, ecn := c.ecn.enter 2 ((c.ecn.leaves port body).map fun x => (x, .eth port [x] c.ecn.vlan (if c.ecn.vlan = 0 then none else some 5) (some 17224) body)) })) ∧
      (d ≤ 1 → c.sys.reeveState = 0 → b.work.contains (.write qid) = false → 0 < c.mill.mbSize →
        (b.work.length < 64 → ∃ t, exec (.postedWriteDelivery ch qid d) s = .next t ∧ Safety.OnlyChan ch s t ∧
          (t.chan ch).sent = c.sent ++ [.ringWrite (if d = 0 then .r1 else .r2) (ringNode r.did) (ringIndex r.did) (ringSub r.did) p.data] ∧
          (t.chan ch).bridge = { b with work := b.work ++ [.write qid] } ∧
          (t.chan ch).mill = c.mill.mbWork (.write qid) (ringNode r.did) (requestOctets 2 0 r.did (leB 2 p.data.length ++ leB 2 0 ++ pad4 p.data)) ∧
          ({ t.chan ch with bridge := b, mill := c.mill, sent := c.sent } : Chan) = c) ∧
        (64 ≤ b.work.length → exec (.postedWriteDelivery ch qid d) s = .next (s.upd ch fun c => { c with bridge := { b with flag := b.flag.raise 8 } }))) ∧
      (4 ≤ d → c.host.hout = none → ∃ t, exec (.postedWriteDelivery ch qid d) s = .next t ∧ Safety.OnlyChan ch s t ∧
        (t.chan ch).host.hout = some ⟨r.did, 0, 0#8, 0, p.data⟩ ∧ (t.chan ch).bridge = { b with queue := rest, delivered := satInc b.delivered } ∧
        ({ t.chan ch with bridge := b, host := c.host, sent := c.sent } : Chan) = c)) ∧
    (b.queue.find? (fun (x : Posted) => x.qid == qid && x.dests.contains d) = some p →
      ∃ t, exec (.writeLifetimeExpiry ch qid d) s = .next t ∧ Safety.OnlyChan ch s t ∧
        (t.chan ch).bridge = { b with queue := rest, flag := b.flag.raise 1, dropped := satInc b.dropped, work := if d ≤ 1 then b.work.filter (fun w => w != .write qid) else b.work } ∧
        ({ t.chan ch with bridge := b, tb := c.tb, mill := c.mill } : Chan) = c ∧ (2 ≤ d → (t.chan ch).mill = c.mill)) ∧
    (∀ g : GapHold, b.gaps = [g] → b.queue.length < 256 → g.entry = e → g.dports ≠ [] → ∃ t, exec (.sequenceGapTimeout ch e) s = .next t ∧ Safety.OnlyChan ch s t ∧
        (t.chan ch).bridge = { b with gaps := [], queue := b.queue ++ [⟨b.nextQid, e, g.data, g.dports, g.at_⟩], nextQid := b.nextQid + 1, flag := b.flag.raise 10, expSeq := (t.chan ch).bridge.expSeq } ∧ assocD 0 e (t.chan ch).bridge.expSeq = (g.seq + 1) % 65536 ∧ ({ t.chan ch with bridge := b, tb := c.tb } : Chan) = c) ∧
    (e < 8 → b.pins.getLsbD e = true → exec (.sidebandPulseEnd ch e) s = .next (s.upd ch fun c => { c with
      bridge := { b with pins := b.pins &&& ~~~(1#8 <<< e) }, sent := c.sent ++ [.sideband e false] }))

/-- For slot n of a channel (n below 32) and a requester v, with the target's owner in reach. A proxy read that meets no slot of its requester and object takes the first FREE one, PENDING, with its request held and the writes of its port that wait for the target. Its access starts once no earlier write waits: the ring target receives a READ (PEEK for a SIDE entry). The completion makes the slot READY with data and token and starts the collect time; a held request is then answered and the slot freed for an entry without SIDE, and committed for one with SIDE to a ring. A failure frees the slot, raises flag 11 and keeps the code for the next repeat. The end of the hold answers every request held with read-pending. The collect time frees a READY slot with flag 4, a HANDOVER one with flag 5. -/
def Obligations.DelayedReadsProceed : Prop :=
  ∀ (s : State) (ch : Ch) (n idx sub tok : Nat) (v : Transport) (tag : Byte) (r : Route) (data : List Byte) (ab : Word), n < 32 → (s.chan ch).bridge.slots.length = 32 →
    let c := s.chan ch
    let b := c.bridge
    let x := b.slot n
    let o := bportOwner r.target
    let s1 : State := if o = ch then s else s.upd o fun c => { c with bridge := { c.bridge with work := c.bridge.work.filter (fun w => w != .away ch n) } }
    let replies (t : State) (rst : Nat) (e : REntry) : Prop := (t.chan ch).sent = (c.reply v tag 1 rst [e]).sent ∧
      ((v = .host ∨ ∃ q k, v = .ring q k) → ∃ l, (t.chan ch).sent = c.sent ++ .dictReply v tag 1 rst [e] :: l)
    (c.up = true → c.bridgeOn = true → c.sys.reeveState = 0 → c.readRoute ch v idx sub = some r → b.failed = [] → b.work.length < 64 →
      (∀ m < 32, (b.slot m).state = .free ∨ (b.slot m).via ≠ some v ∨ (b.slot m).index ≠ idx ∨ (b.slot m).sub ≠ sub) → (∀ m < n, (b.slot m).state ≠ .free) → x.state = .free →
      exec (.proxyReadRequest ch v tag idx sub) s = .next (s.upd ch fun c => { c with bridge := { b with work := b.work ++ [.slot n], slots := modAt (fun _ => ⟨.pending, r.num, some v, idx, sub, [(v, tag)], none, [], 0, false,
          ((s.chan o).bridge.queue.filter (fun (p : Posted) => p.dests.contains r.target && b.routes.any (fun (z : Route) => z.num == p.entry && z.sport == r.sport))).map (·.qid), c.now⟩) n b.slots } })) ∧
    (c.slotRoute n = some r → x.state = .pending → x.started = false → s.slotWaits ch x r = false → r.target ≤ 1 → c.bridgeOn = true → s.slotReach ch o r.target = true → (s.chan o).bridge.work.length < 64 →
      ∃ t, exec (.downstreamAccessStart ch n) s = .next t ∧ (t.chan ch).bridge.slot n = { x with started := true } ∧
        (t.chan o).sent = (s.chan o).sent ++ [.ringRead (if r.target = 0 then .r1 else .r2) (ringNode r.did) (ringIndex r.did) (ringSub r.did) r.side n] ∧
        t.wire = s.wire ∧ ∀ k, k ≠ ch → k ≠ o → t.chan k = s.chan k) ∧
    (c.slotRoute n = some r → r.event = false → x.state = .pending → x.started = true → s.reach o ch 4 = true →
      (x.held = [] → ∃ t, exec (.downstreamReadComplete ch n data tok) s = .next t ∧ Safety.OnlyChan ch s1 t ∧
        (t.chan ch).bridge = { b with work := b.work.filter (fun w => w != .slot n), slots := modAt (fun (y : Slot) => { y with state := .ready, data := data, token := tok, until_ := some (c.now + b.collect * 10000) }) n b.slots } ∧
        ({ t.chan ch with bridge := b } : Chan) = c) ∧
      (x.held = [(v, tag)] → r.side = false → ∃ t, exec (.downstreamReadComplete ch n data tok) s = .next t ∧ Safety.OnlyChan ch s1 t ∧
        replies t 0 ⟨0#32, 0, data⟩ ∧ (t.chan ch).bridge.slot n = Slot.init ∧ (t.chan ch).bridge.completed = satInc b.completed ∧ (t.chan ch).mem = c.mem) ∧
      (x.held = [(v, tag)] → r.side = true → r.target ≤ 1 → s.slotReach ch o r.target = true → (s.chan o).bridge.work.length < 64 → ∃ t, exec (.downstreamReadComplete ch n data tok) s = .next t ∧
        ((t.chan ch).bridge.slot n).state = .committing ∧ ((t.chan ch).bridge.slot n).data = data ∧
        (t.chan o).sent = (s.chan o).sent ++ [.ringCommit (if r.target = 0 then .r1 else .r2) (ringNode r.did) (ringIndex r.did) (ringSub r.did) tok n]) ∧
      (x.via = some v → x.held = [(v, tag)] → ∃ t, exec (.downstreamAccessFail ch n ab) s = .next t ∧ Safety.OnlyChan ch s1 t ∧ replies t 1 ⟨abPending, 0, []⟩ ∧
        (t.chan ch).bridge.slot n = Slot.init ∧ (t.chan ch).bridge.failed = b.failed ++ [(v, x.index, x.sub, ab)] ∧ (t.chan ch).bridge.flag = b.flag.raise 11)) ∧
    (∃ t, exec (.requestHoldExpiry ch n) s = .next t ∧ Safety.OnlyChan ch s t ∧
      (t.chan ch).sent = (x.held.foldl (fun (c : Chan) h => c.reply h.1 h.2 1 1 [⟨abPending, 0, []⟩]) c).sent ∧
      (t.chan ch).bridge = { b with slots := modAt (fun (y : Slot) => { y with held := [] }) n b.slots }) ∧
    (∀ k, c.slotRoute n = some r → x.until_ = some k → x.held = [] → (x.state = .ready ∨ x.state = .handover) → ∃ t, exec (.collectTimerExpiry ch n) s = .next t ∧ Safety.OnlyChan ch s1 t ∧
      (t.chan ch).bridge = { b with flag := b.flag.raise (if x.state = .ready then 4 else 5), slots := modAt (fun _ => Slot.init) n b.slots, work := b.work.filter (fun w => w != .slot n) } ∧ ({ t.chan ch with bridge := b, tb := c.tb } : Chan) = c)

/-- For slot n below 32, with the channels concerned in reach of each other. COMMITTING: an acknowledgement makes it HANDOVER with a new collect time when nobody waits; a refusal frees it with flag 6; a resend gives the ring target the same commit with its token. A ring-bound read held for the host yields, with flag 7 and a read-pending reply, while a host-bound read waits for the lane. A host message of kind DATA that names a started slot makes it READY with its data and token; one that names no slot is a packet error, flag 0 of the host port. Nothing else changes. -/
def Obligations.CommitsAndHostAnswers : Prop :=
  ∀ (s : State) (ch : Ch) (n : Nat) (tag : Byte) (r : Route) (m : HostMsg), n < 32 → (s.chan ch).bridge.slots.length = 32 →
    let c := s.chan ch
    let b := c.bridge
    let x := b.slot n
    let o := bportOwner r.target
    let s1 : State := if o = ch then s else s.upd o fun c => { c with bridge := { c.bridge with work := c.bridge.work.filter (fun w => w != .away ch n) } }
    (x.state = .committing → x.held = [] → c.slotRoute n = some r → s.reach o ch 4 = true →
      exec (.commitAcknowledge ch n) s = .next (s1.upd ch fun c => { c with bridge := { b with
        work := b.work.filter (fun w => w != .slot n), slots := modAt (fun (y : Slot) => { y with state := .handover, until_ := some (c.now + b.collect * 10000) }) n b.slots } }) ∧
      exec (.commitRefused ch n) s = .next (s1.upd ch fun c => { c with bridge := { b with flag := b.flag.raise 6, slots := modAt (fun _ => Slot.init) n b.slots, work := b.work.filter (fun w => w != .slot n) } })) ∧
    (x.state = .committing → c.slotRoute n = some r → r.target ≤ 1 → s.slotReach ch o r.target = true → (s.chan o).bridge.work.length < 64 → ∃ t, exec (.commitResend ch n) s = .next t ∧ Safety.OnlyChan o s t ∧
      (let w : Work := if o = ch then .slot n else .away ch n
       (t.chan o).bridge = { (s.chan o).bridge with work := if (s.chan o).bridge.work.contains w then (s.chan o).bridge.work else (s.chan o).bridge.work ++ [w] }) ∧
      (t.chan o).sent = (s.chan o).sent ++
        [.ringCommit (if r.target = 0 then .r1 else .r2) (ringNode r.did) (ringIndex r.did) (ringSub r.did) x.token n]) ∧
    (x.via = some .host → x.held = [(.host, tag)] → c.slotRoute n = some r → r.target ≤ 1 → s.laneWaited ch = true →
      ∃ t l, exec (.readYield ch n) s = .next t ∧ Safety.OnlyChan ch s t ∧ (t.chan ch).sent = c.sent ++ .dictReply .host tag 1 1 [⟨abPending, 0, []⟩] :: l ∧
        (t.chan ch).bridge = { b with flag := b.flag.raise 7, slots := modAt (fun (y : Slot) => { y with held := [] }) n b.slots }) ∧
    (∀ lane, (s.chan lane).bridgeOn = true → s.reach lane ch 4 = true → m.kind = 4 → m.tag.toNat = chCode ch * 32 + n → c.slotRoute n = some r → r.did = m.id → r.target = laneBport lane → r.event = false →
      x.state = .pending → x.started = true → x.held = [] → exec (.hostMessageAnswer lane m) s = .next (s1.upd ch fun c => { c with bridge := { b with
        work := b.work.filter (fun w => w != .slot n), slots := modAt (fun (y : Slot) => { y with state := .ready, data := m.data, token := m.token, until_ := some (c.now + b.collect * 10000) }) n b.slots } })) ∧
    (c.bridgeOn = true → 96 ≤ m.tag.toNat → exec (.hostMessageAnswer ch m) s = .next (s.upd ch fun c => { c with host := { c.host with flag := c.host.flag.raise 0 } }))

/-- For every channel that is up with its divider running, every raw sample word and every input below 32: the filtered level after the instant is the raw bit if the raw sample has now differed from the level at as many instants in a row as the filter time says, this one included, and the old level otherwise; a rise (a fall) adds one to the input's rise (fall) count modulo 2^32 while the tick counter runs, and nothing else changes a count; the count of differing instants starts again at 0 where sample and level agree or the level flipped. A sample set with the new levels is kept as the newest. No other channel changes, and of this one only the field block, the counts and sets and the time base. -/
def Obligations.AlignmentFiltersInputs : Prop :=
  ∀ (s : State) (ch : Ch) (raw : Word) (nets : List NetReading) (i : Nat), i < 32 → (s.chan ch).up = true → (s.chan ch).clk.divRun = true →
    (s.chan ch).sl.rise.length = 32 → (s.chan ch).sl.fall.length = 32 →
    let f := (s.chan ch).field
    let n := if raw.getLsbD i = f.lvl.getLsbD i then 0 else atD 0 i f.filt + 1
    let flip : Bool := decide (0 < n) && decide ((atD (0, 100) i f.inCfg).2 ≤ n)
    ∃ t, exec (.alignmentInstant ch raw nets) s = .next t ∧ (∀ k, k ≠ ch → t.chan k = s.chan k) ∧ t.pending = s.pending ∧
      (t.chan ch).field.lvl.getLsbD i = (if flip then raw.getLsbD i else f.lvl.getLsbD i) ∧ atD 0 i (t.chan ch).field.filt = (if flip then 0 else n) ∧
      atD 0#32 i (t.chan ch).sl.rise = atD 0#32 i (s.chan ch).sl.rise + (if flip && (s.chan ch).tb.tickRun && raw.getLsbD i then 1#32 else 0#32) ∧
      atD 0#32 i (t.chan ch).sl.fall = atD 0#32 i (s.chan ch).sl.fall + (if flip && (s.chan ch).tb.tickRun && !raw.getLsbD i then 1#32 else 0#32) ∧
      (t.chan ch).sl.sets.head?.map (·.levels) = some (t.chan ch).field.lvl ∧
      ({ t.chan ch with field := f, sl := (s.chan ch).sl, tb := (s.chan ch).tb } : Chan) = s.chan ch

/-- For a channel with its 18 networks. A quench timer that expires in M5 to M8 puts an OFF output into its programmed safe state, off, in quench, with flag 8. A finding that the readings bear out, with no reset window open, is listed for its network and flagged; an overcurrent trips the network off. A due transistor test of a voting channel takes the next testable transistor; an end with change and restoration ends it without a finding and keeps its time, from which the blanking runs anew. A transistor of a network with tests, left untested, is marked with flag 12. Loss of the field supply clears FSUP with flag 11 and stops the feedback timers; its return counts from the next boundary. The fall of the permit input of a network held ON-IF-PERMITTED switches that network off. -/
def Obligations.FieldEvents : Prop :=
  ∀ (s : State) (ch : Ch) (i x : Nat) (fd : Finding),
    let c := s.chan ch
    let f := c.field
    f.nets.length = 18 →
    (∀ q, c.sys.mode.runs = true → i < 16 → (c.net i).quenchAt = some q → (c.net i).cfg.safe = 0 → ∃ t, exec (.quenchExpiry ch i) s = .next t ∧ Safety.OnlyChan ch s t ∧
      ((t.chan ch).net i).cmd = false ∧ ((t.chan ch).net i).drv = false ∧ ((t.chan ch).net i).quench = true ∧ ((t.chan ch).net i).quenchAt = none ∧
      (t.chan ch).field.flag = f.flag.raise 8 ∧ (∀ j, j ≠ i → (t.chan ch).net j = c.net j) ∧ ({ t.chan ch with field := f, tb := c.tb } : Chan) = c) ∧
    (c.judgesField = true → s.findCond ch i fd = true → f.win = none → ∃ t, exec (.outputFinding ch i fd) s = .next t ∧ Safety.OnlyChan ch s t ∧
      fd ∈ ((t.chan ch).net i).finds ∧ (t.chan ch).field.flag.has (findBit fd) = true ∧
      ((fd = .over ∨ fd = .short) → ((t.chan ch).net i).cmd = false ∧ ((t.chan ch).net i).state = .tripped) ∧ (t.chan ch).mem = c.mem ∧ (t.chan ch).cells = c.cells) ∧
    (∀ p, c.sys.mode.runs = true → f.fsup = true → f.test = none → c.sys.cstate = .voting → f.released = false → c.tb.c % (3 * c.testM) = chCode ch * c.testM →
      (testOrder f.nextTest).find? (fun q => c.testable ch q) = some p → ∃ t, exec (.transistorTestStart ch) s = .next t ∧ Safety.OnlyChan ch s t ∧
      (t.chan ch).field = { f with test := some (p.1, atD 0 p.2 (ownedBy ch)), testChg := assocSet (12 * p.1 + atD 0 p.2 (ownedBy ch)) (max c.now (c.tb.bk + 25000)) f.testChg, nextTest := slotAfter p } ∧ ({ t.chan ch with field := f, tb := c.tb } : Chan) = c) ∧
    (∀ n y, f.test = some (n, y) → exec (.transistorTestEnd ch true true) s = .next (s.upd ch fun c => { c with field := { c.field with test := none, testChg := assocSet (12 * n + y) c.now c.field.testChg, tested := modAt (fun _ => c.now) (4 * n + (ownedBy ch).idxOf y) c.field.tested } })) ∧
    (c.sys.mode.runs = true → i < 18 → x ∈ ownedBy ch → c.netTested i = true → ∃ t, exec (.transistorUntested ch i x) s = .next t ∧ Safety.OnlyChan ch s t ∧
      (t.chan ch).net i = { c.net i with nj := true } ∧ (t.chan ch).field.flag = f.flag.raise 12 ∧ ({ t.chan ch with field := f, tb := c.tb } : Chan) = c) ∧
    (c.up = true → f.fsup = true → exec (.fieldSupplyLow ch) s = .next (s.upd ch fun c => { c with field := { c.field with
      fsup := false, flag := c.field.flag.raise 11, sto0 := { c.field.sto0 with since := none }, sto1 := { c.field.sto1 with since := none } } })) ∧
    (c.up = true → f.fsup = false → exec (.fieldSupplyRestored ch) s = .next (s.upd ch fun c => { c with field := { c.field with
      fsup := true, fsupAt := if c.tb.started then c.tb.bk + c.period else c.tb.bk } })) ∧
    (i < 18 → (c.net i).state = .safe → (c.net i).cfg.safe = 1 → (c.net i).cmd = true → (c.net i).cfg.permit < 32 → f.lvl.getLsbD (c.net i).cfg.permit = true →
      ∃ t, exec (.permitInputFall ch i) s = .next t ∧ Safety.OnlyChan ch s t ∧ ((t.chan ch).net i).cmd = false ∧ ((t.chan ch).net i).permitLost = true ∧
        (t.chan ch).field.lvl = f.lvl &&& ~~~(1#32 <<< (c.net i).cfg.permit) ∧ ({ t.chan ch with field := f, sl := c.sl } : Chan) = c)

/-- For a channel of a configured pair with a pair window on the ring. What is received comes from the own window in the ring's owner, which passes it on to both other channels, and from the owner's link message elsewhere. A first or later intact status becomes the newest of its ring, and PROGDIFF compares the partner's program; while TRACKING, a differing digest of the same instant returns to WAITING with flag 6. In M5 a standby that WAITS with REQ set starts COPYING at the record of number 0, and the quench timers of its availability-wired networks stand (log entry 127); a page record with the next number enters the working retained bank; one received already changes nothing; one ahead of the next returns it to WAITING with flag 5, and so does the time limit with flag 8. A memory test without uncorrectable words passes and gives its counts; a lock-step injection that is caught is listed for its cell, and once every bonded cell is, the cycle's result shows. No other channel changes. -/
def Obligations.ModulePair : Prop :=
  ∀ (s : State) (ch : Ch) (r : Ring) (cyc : Word) (ps : PairStatus) (rec : PairRecord) (cor : Nat) (w : List XMsg),
    let c := s.chan ch
    let p := c.pair
    let own : Bool := decide (ch = ringOwner r)
    let got (q : XBody → Bool) (b : XBody) : Prop := if own then c.speaks = true ∧ w = s.wire else ∃ m, Safety.Arrives s ch (ringOwner r) q m w ∧ m.body = b
    let after (g : Chan → Chan) (b : XBody) : State := if own then (s.upd ch g).sendBoth ch b else ({ s with wire := w } : State).upd ch g
    let sta := XBody.pairStatus r cyc ps
    let rcd := XBody.pairRecord r cyc rec
    let mine : W64 := match c.sl.prog with | some q => BitVec.ofNat 64 (leAt q.sha 0 8) | none => 0#64
    p.cfg.on = true → p.cfg.pwin r ≠ 0 →
    (c.up = true → got XBody.isPairStatus sta → (p.partner.find? (fun x => x.1 == r) = none ∨ ∃ v y, p.partner.find? (fun x => x.1 == r) = some (r, v, y) ∧ laterW cyc v = true) →
      (p.track ≠ .tracking → exec (.pairStatusReceive ch r cyc ps true) s = .next (after (fun c => { c with pair := { c.pair with
        partner := (r, cyc, ps) :: p.partner.filter (fun x => x.1 != r), progdiff := decide (ps.prog ≠ mine) } }) sta)) ∧
      (p.track = .tracking → ps.prog = mine → ps.pdk = p.pdk → ps.pdig ≠ p.pdig → ∃ t, exec (.pairStatusReceive ch r cyc ps true) s = .next t ∧
        (∀ x, x ≠ ch → t.chan x = s.chan x) ∧ (t.chan ch).pair.track = .waiting ∧ (t.chan ch).pair.flag = p.flag.raise 6 ∧ ({ t.chan ch with pair := p } : Chan) = c)) ∧
    (c.sys.mode = .m5 → rec.status.recP = true → got XBody.isPairRecord rcd →
      (p.track = .waiting → p.req = true → rec.status.xseq = 0 → rec.status.xkind = 1 → ∃ t, exec (.pairRecordReceive ch r cyc rec true) s = .next t ∧
        (∀ x, x ≠ ch → t.chan x = s.chan x) ∧ ({ t.chan ch with pair := p, sl := c.sl, cells := c.cells, field := c.field } : Chan) = c ∧
        (∀ i < c.field.nets.length, (t.chan ch).net i = if c.wiring i = 1 then { c.net i with quenchAt := none } else c.net i) ∧
        (t.chan ch).pair = { p with track := .copying, copyK := rec.status.klo, stTimers := [], stItems := [], endRec := none, xseq := 0, xcount := 1, copyAt := c.now }) ∧
      (p.track = .copying → rec.status.xseq = nextXseq p.xseq → rec.status.xkind = 1 → rec.status.xarea = 2 →
        exec (.pairRecordReceive ch r cyc rec true) s = .next (after (fun c => { c with pair := { c.pair with xseq := nextXseq p.xseq, xcount := min (p.xcount + 1) 65535 }, sl := c.sl.updTask rec.status.xtask fun (k : TaskRt) => { k with rsWork := putWords k.rsWork (256 * rec.status.xpage) rec.words } }) rcd)) ∧
      (p.track = .copying → (rec.status.xseq = 0 ∧ rec.status.klo = p.copyK ∨ rec.status.xseq ≠ 0 ∧ rec.status.xseq = p.xseq) →
        exec (.pairRecordReceive ch r cyc rec true) s = .next (after id rcd)) ∧
      (p.track = .copying → p.xseq + 1 < rec.status.xseq → rec.status.xseq < p.xseq + 32768 → rec.status.xseq ≤ 65535 → ∃ t, exec (.pairRecordReceive ch r cyc rec true) s = .next t ∧
        (∀ x, x ≠ ch → t.chan x = s.chan x) ∧ (t.chan ch).pair.track = .waiting ∧ (t.chan ch).pair.flag = p.flag.raise 5 ∧ (t.chan ch).pair.req = false ∧
        (t.chan ch).pair.endRec = none ∧ ({ t.chan ch with pair := p } : Chan) = c)) ∧
    (p.track = .copying → ∃ t, exec (.trackTimeout ch) s = .next t ∧ Safety.OnlyChan ch s t ∧ (t.chan ch).pair.track = .waiting ∧
      (t.chan ch).pair.flag = p.flag.raise 8 ∧ (t.chan ch).pair.req = false ∧ ({ t.chan ch with pair := p, tb := c.tb } : Chan) = c) ∧
    (c.sys.mode = .m5 → c.up = true → exec (.standbyTest ch (.h2 cor 0)) s = .next (s.upd ch fun c => { c with pair := { c.pair with
        h2 := true, corrected := BitVec.ofNat 32 cor, uncorr := 0#32 } }) ∧
      ∀ n < 8, (c.cell n).mode = .bonded → (c.core (2 * n)).slice = 0#32 → ∃ t, exec (.standbyTest ch (.h1 n true)) s = .next t ∧ Safety.OnlyChan ch s t ∧
        ({ t.chan ch with pair := p } : Chan) = c ∧ ((∀ m ∈ c.bondedCells, m = n ∨ ∃ x ∈ p.cycle1, x.1 = m) →
          (t.chan ch).pair = { p with h1 := (p.cycle1.filter (fun x => x.1 != n)).all (fun x => x.2), cycle1 := [] }) ∧
        ((∃ m ∈ c.bondedCells, m ≠ n ∧ ∀ x ∈ p.cycle1, x.1 ≠ m) → (t.chan ch).pair = { p with cycle1 := (n, true) :: p.cycle1.filter (fun x => x.1 != n) }))

/-- In a channel whose chain runs. The clock channel drives a frame pulse for its next boundary, once, with sync when one is due. A captured bit without a frame bit, once framed, advances the bit count and enters every enabled input; an input's bit that does not complete a decimation changes no sample, and each decimated value that saturates sets OVER. In a mode with delivery the end of a tick delivers the samples and the status of each enabled input, keeps those of the others, and sends the CRC to both other channels; with no check of that tick there yet, nothing else changes; a tick without clock and without its frame bit closes with the bits it has. Without clock edges NOCLK is marked with flag 3. A wide edge of the configured polarity makes the next frame, or, late, the one after, one with sync. -/
def Obligations.SignalChain : Prop :=
  ∀ (s : State) (ch : Ch) (bits : BitVec 12) (k : Word) (i : Nat), (s.chan ch).sdRuns = true →
    let c := s.chan ch
    let d := c.sd
    let nb : Nat := if c.tb.started then c.tb.c + 1 else c.tb.c
    let onSd (d' : SdBlk) : State := s.upd ch fun c => { c with sd := d' }
    (d.drv = true → d.clkCh = some ch → d.pulsed ≠ some nb → ∃ t, exec (.sdFramePulse ch) s = .next t ∧ Safety.OnlyChan ch s t ∧
      (t.chan ch).sd = { d with pulseSync := d.syncNext, syncNext := d.syncLater, syncLater := false, pulsed := some nb } ∧
      (t.chan ch).sent = c.sent ++ [.framePulse d.syncNext] ∧ ({ t.chan ch with sd := d, sent := c.sent, tb := c.tb } : Chan) = c) ∧
    (d.framed = true → i < d.ins.length → ∃ t, exec (.capturedBit ch bits false false) s = .next t ∧ Safety.OnlyChan ch s t ∧ ({ t.chan ch with sd := d } : Chan) = c ∧
      (t.chan ch).sd.since = d.since + 1 ∧ ({ (t.chan ch).sd with since := d.since, ins := d.ins, flag := d.flag } : SdBlk) = d ∧
      (t.chan ch).sd.flag = d.flag.raiseN (oversBetween d.ins (t.chan ch).sd.ins) 5 ∧
      atD SdIn.init i (t.chan ch).sd.ins = (if (atD SdIn.init i d.ins).cfg.en then (atD SdIn.init i d.ins).take (bits.getLsbD i) else atD SdIn.init i d.ins) ∧
      ((atD SdIn.init i d.ins).cfg.en = true → ((atD SdIn.init i d.ins).b + 1) % (16 * 2 ^ (atD SdIn.init i d.ins).cfg.rcode) ≠ 0 →
        (atD SdIn.init i (t.chan ch).sd.ins).ys = (atD SdIn.init i d.ins).ys ∧ (atD SdIn.init i (t.chan ch).sd.ins).b = (atD SdIn.init i d.ins).b + 1)) ∧
    (sdMode c.sys.mode = true → d.got0 ≠ some k → d.got1 ≠ some k → i < d.ins.length → (∀ n, d.closed = some n → ∃ t, exec (.sdFrameBit ch k) s = .next t ∧ (∀ x, x ≠ ch → t.chan x = s.chan x) ∧ t.pending = s.pending ∧
      ({ t.chan ch with sd := d } : Chan) = c ∧ (t.chan ch).sd.closed = none ∧ (t.chan ch).sd.k = k ∧ (t.chan ch).sd.flag = d.flag ∧
      t.wire = (s.sendBoth ch (.sdCheck k (t.chan ch).sd.chk (t.chan ch).sd.allNoclk)).wire ∧
      ((atD SdIn.init i d.ins).cfg.en = true → (atD SdIn.init i (t.chan ch).sd.ins).out = (atD SdIn.init i d.ins).cur ∧
        (atD SdIn.init i (t.chan ch).sd.ins).status = (atD SdIn.init i d.ins).curStat) ∧
      ((atD SdIn.init i d.ins).cfg.en = false → atD SdIn.init i (t.chan ch).sd.ins = atD SdIn.init i d.ins)) ∧
      (d.closed = none → d.noclk = true → (atD SdIn.init i d.ins).cfg.en = true → ∃ t, exec (.sdFrameBit ch k) s = .next t ∧ (∀ x, x ≠ ch → t.chan x = s.chan x) ∧ t.pending = s.pending ∧
        (t.chan ch).sd.lastL = min d.since 65535 ∧ (t.chan ch).sd.noclk = false ∧ (atD SdIn.init i (t.chan ch).sd.ins).out.length = (atD SdIn.init i d.ins).cfg.nsamp)) ∧
    exec (.noclkDetect ch) s = .next (onSd { d with noclk := true, flag := d.flag.raise 3 }) ∧
    (d.pinEn = true → exec (.syncPinEdge ch (!d.pinFall) true true) s = .next (onSd { d with syncNext := true }) ∧
      exec (.syncPinEdge ch (!d.pinFall) true false) s = .next (onSd { d with syncNext := d.syncNext || decide (d.pulsed = some nb), syncLater := d.syncLater || decide (d.pulsed ≠ some nb), flag := d.flag.raise 8 }))

/-- For the discipline of one channel in SETTLING or LOCKED. A sample whose offset is within the limit (the jump threshold, and half a tick period more while SETTLING) sets f to f + offset/64, within plus or minus 250,000, and the rate to f + offset/2, within the same bounds; the state is LOCKED unless the offset is beyond the threshold in SETTLING; the offset and the boundary's stamp are kept. A sample beyond the limit only sets the JUMP flag and is counted. Four seconds after the last applied sample the state is HOLDOVER, the rate f, with flag 2, and nothing else of the machine changes. -/
def Obligations.DisciplineServo : Prop :=
  ∀ (t : TimeBlk) (o : Int) (s : State) (ch : Ch) (b : Nat), (t.dstate = .settling ∨ t.dstate = .locked) →
    let lim : Int := t.jump * 1000 + (if t.dstate = .settling then ((periodNs t.period / 2 : Nat) : Int) else 0)
    let f1 : Int := max (-250000) (min (t.f + o / 64) 250000)
    ((o.natAbs : Int) ≤ lim → t.correct o = { t with offset := o, f := f1, rate := max (-250000) (min (f1 + o / 2) 250000), lastApplied := some t.bk, dstate := if t.dstate = .settling ∧ (t.jump * 1000 : Int) < o.natAbs then .settling else .locked }) ∧
    (lim < o.natAbs → t.correct o = { t with flag := t.flag.raise 0 }) ∧
    ((s.chan ch).tb = t → (s.chan ch).up = true → t.lastApplied = some b → b + 4000000000 ≤ (s.chan ch).now →
      exec (.disciplineHoldover ch) s = .next (s.upd ch fun c => { c with tb := { t with dstate := .holdover, rate := t.f, flag := t.flag.raise 2 } }))

/-- For an address outside every region of Table 1-8, and for a core also one in the reeve SRAM. A running core traps with cause 5 or 7 and the address, its general registers are unchanged, and in a bonded cell its slice ends, faulted. The reeve gets its bus error, a port engine 0 to 7 its error count, the debug module its bus error 2 and a log entry. In every case no violation flag, no captured address and no octet of memory changes, no other channel changes, and the unmapped count advances by one, saturating. -/
def Obligations.AccessesOutsideEveryRegion : Prop :=
  ∀ (s : State) (ch : Ch) (wr sg : Bool) (n a h rd k : Nat) (v : Word), (n = 1 ∨ n = 2 ∨ n = 4) → a % n = 0 → a < 4294967296 →
    let c := s.chan ch
    let inside (lo hi : Nat) : Prop := lo ≤ a ∧ a ≤ hi
    let sram := inside 0x08000000 0x081FFFFF
    let known := inside 0 0xFFFF ∨ inside 0x10000000 0x10FFFFFF ∨ inside 0x20000000 0x203FFFFF ∨ inside 0x40000000 0x4012FFFF ∨
      inside 0x80000000 0xBFFFFFFF ∨ inside 0xC0000000 0xCFFFFFFF ∨ inside 0xD0000000 0xD07FFFFF
    let same (t : State) : Prop := Safety.OnlyChan ch s t ∧ (t.chan ch).mem = c.mem ∧ (t.chan ch).sys.viol = c.sys.viol ∧ (t.chan ch).sys.vaddr = c.sys.vaddr ∧
      (t.chan ch).sys.unmap = satInc c.sys.unmap
    ¬ known →
    (Safety.CoreGoes s ch h → c.hit h (if wr then 1 else 0) a = none → ∃ t, exec (.coreLoadStore ch (.core h) wr n a v rd sg) s = .next t ∧ same t ∧
      ((t.chan ch).core h).x = (c.core h).x ∧ ((t.chan ch).core h).mcause = (if wr then 7#32 else 5#32) ∧ ((t.chan ch).core h).mtval = BitVec.ofNat 32 a ∧
      ((t.chan ch).core h).mepc = (c.core h).pc ∧ ((c.cell (h / 2)).mode = .bonded → ((t.chan ch).core h).slice = 0#32)) ∧
    (¬ sram → c.up = true → c.sys.reeveState = 0 → ∃ t, exec (.coreLoadStore ch .reeve wr n a v rd sg) s = .next t ∧ same t ∧
      (t.chan ch).sys.reeveBusErr = true ∧ (t.chan ch).cells = c.cells) ∧
    (¬ sram → c.up = true → k < 8 → ∃ t, exec (.coreLoadStore ch (.engine k) wr n a v rd sg) s = .next t ∧ same t ∧
      (t.chan ch).sys.engErr = modAt satInc k c.sys.engErr ∧ (t.chan ch).cells = c.cells) ∧
    (¬ sram → c.sys.cstate ≠ .off → c.tapCut = false → c.sys.mode = .m9 → c.dbg.log.length < 256 →
      ∀ i ∈ [Instr.debugSystemBusWrite ch n a v, .debugSystemBusRead ch n a], ∃ t, exec i s = .next t ∧ same t ∧ (t.chan ch).dbg.sberror = 2 ∧
        (t.chan ch).cells = c.cells ∧ (t.chan ch).dbg.log.length = c.dbg.log.length + 1)

/-- For a request of one entry that the channel serves (it is up, the transport is offered and below its limit, the reeve runs, the message is well formed), by a transport with replies. A READ or PEEK of a declared object of a running task answers the object's words, as message data in one Mp of at most 8,192 octets to the caller; a voted one that no confirmation backs yet waits as a whole. INFO answers the 16 octets of the descriptor, NEXT the next present object, COMMIT of an own object success for token 0 and a stale token else. A notification is served without an answer; message data of another ComId, or in a frame that is not supported, a header error, is not served. In M7 a host's WRITE of its chronicle cursor takes effect at once; a WRITE of an object that is never written is refused as read-only. A confirmation with the hallmark that all checks pass waits as one transaction at a sequencing channel that class 4 reaches. No task state and no memory changes. -/
def Obligations.DictionaryServices : Prop :=
  ∀ (s : State) (ch : Ch) (via : Transport) (tag : Byte) (len : Nat) (e : DEntry) (d : Desc) (o : ObjDecl) (k : TaskRt) (v : Word),
    let c := s.chan ch
    let req : DReq := ⟨tag, true, len, [e]⟩
    let asks (via : Transport) (svc : Nat) (r : DReq) : Prop := c.up = true ∧ c.ringBusy via = false ∧ viaOffered c.sys.mode via = true ∧ c.sys.reeveState = 0 ∧
      c.overLimit via = false ∧ r.len ≤ 8192 ∧ reqOk svc r = true ∧ (svc = 2 → c.sys.mode ≠ .m2)
    let kept (t : State) : Prop := (∀ x, x ≠ ch → t.chan x = s.chan x) ∧ t.wire = s.wire ∧ (t.chan ch).sl = c.sl ∧ (t.chan ch).mem = c.mem ∧ (t.chan ch).cells = c.cells
    let replies (t : State) (via : Transport) (svc rst : Nat) (y : REntry) : Prop := kept t ∧ ∃ l, (t.chan ch).sent = c.sent ++ .dictReply via tag svc rst [y] :: l
    let here (via : Transport) : Prop := readRange c.sys.mode e.index = true ∧ c.desc ch via e.index e.sub = .ok d ∧ d.proxy = false
    let words : List Byte := elemsOctets o.typ o.count ((k.declWords o.area).drop o.word)
    let shown (via : Transport) : Prop := here via ∧ isProxyIndex e.index = false ∧ d.top = false ∧ d.decl = some o ∧ c.readBar d = 0#32 ∧ c.sys.mode ≠ .m4 ∧ c.sl.task o.task = some k
    let voted := c.votedEntry e.index e.sub
    (((∀ p a, via ≠ .notify p a) ∧ (∀ n, via ≠ .legacy n) ∧ ∀ p a b, via ≠ .md p a b) →
      (shown via → (voted = false ∨ c.votedRead = 0) →
        (asks via 1 req → ∃ t, exec (.dictRead ch via req) s = .next t ∧ replies t via 1 0 ⟨0#32, 0, words⟩) ∧
        (asks via 5 req → ∃ t, exec (.dictPeek ch via req) s = .next t ∧ replies t via 5 0 ⟨0#32, 0, words⟩)) ∧
      (shown via → voted = true → c.votedRead = 1 → asks via 1 req → ∃ t, exec (.dictRead ch via req) s = .next t ∧ kept t ∧ (t.chan ch).sent = c.sent ∧
        (t.chan ch).vote = { c.vote with reads := c.vote.reads ++ [(via, 1, req)] }) ∧
      (here via → asks via 3 req → ∃ t, exec (.dictInfo ch via req) s = .next t ∧ replies t via 3 0 ⟨0#32, 0, c.infoOctets e.index e.sub d⟩) ∧
      (asks via 4 req → ∃ t, exec (.dictNext ch via req) s = .next t ∧ replies t via 4 0 (c.nextEntry ch via e)) ∧
      (here via → asks via 6 req → ∃ t, exec (.dictCommit ch via req) s = .next t ∧ replies t via 6 0 ⟨if e.token = 0 then 0#32 else 0x06040002#32, 0, []⟩) ∧
      (here via → d.wmask = 0 → asks via 2 req → ∃ t, exec (.dictWrite ch via req) s = .next t ∧ replies t via 2 1 ⟨0x06020001#32, 0, []⟩)) ∧
    (∀ p src ses, ch = portCh p → c.portOn p = true →
      (∀ due, shown (.md p src ses) → (voted = false ∨ c.votedRead = 0) → asks (.md p src ses) 1 req → words.length ≤ 4096 → (∀ x ∈ c.ecn.mdDue, ¬ (x.1 = src ∧ x.2.1 = ses ∧ x.2.2.1 = tag)) →
        ∃ t, exec (.mdRequest p ⟨c.ecn.mdCom, true, due, src⟩ ses 1 req) s = .next t ∧ kept t ∧
          (t.chan ch).sent = (c.sendEth p 3 (some 3) (some 17225) (.mp src ses tag 1 0 [⟨0#32, 0, words⟩])).sent ∧
          (t.chan ch).ecn.queues = (c.sendEth p 3 (some 3) (some 17225) (.mp src ses tag 1 0 [⟨0#32, 0, words⟩])).ecn.queues) ∧
      (∀ due, here (.notify p src) → asks (.notify p src) 3 req → ∃ t, exec (.mdNotify p ⟨c.ecn.mdCom, true, due, src⟩ ses 3 req) s = .next t ∧ kept t ∧
        (t.chan ch).sent = c.sent ∧ (t.chan ch).dict.served = satInc c.dict.served) ∧
      (∀ com plain due, com ≠ c.ecn.mdCom ∨ plain = false → ∀ i ∈ [Instr.mdRequest p ⟨com, plain, due, src⟩ ses 1 req, .mdNotify p ⟨com, plain, due, src⟩ ses 1 req],
        exec i s = .next (if plain then s else s.upd ch fun c => c.ecnFlag true 1))) ∧
    (∀ n < 3, let r : DReq := ⟨tag, true, 16, [⟨0x1410, n + 1, leB 4 v.toNat, 0⟩]⟩
      asks .host 2 r → c.sys.mode = .m7 → ∃ t, exec (.dictWrite ch .host r) s = .next t ∧ replies t .host 2 0 ⟨0#32, 0, []⟩ ∧
        (t.chan ch).dict.cursors = c.dict.cursors.set (atD Ch.A n allCh) v) ∧
    (∀ q, let es : List DEntry := [⟨0x1040, 4, leB 4 v.toNat, 0⟩]
      asks .host 2 ⟨tag, true, 16, es⟩ → firstFailure (s.writeChecks ch .host es) es = none → c.upd.find [0, 1] .trial = none → 2 ≤ s.participants.length → s.seqCh = some q → s.reach ch q 4 = true →
      ∃ t, exec (.hallmarkConfirmation ch .host tag v) s = .next t ∧ (t.chan q).dict.waiting = (s.chan q).dict.waiting ++
        [⟨[addrEntry 0x1040 2 (padTo 4 (leB 4 v.toNat)), addrEntry 0x1040 3 (leB 1 1), addrEntry 0x1040 5 (leB 1 0)], [(10, v.toNat)], ch, some .host, tag, 1⟩] ∧
        (t.chan ch).sent = c.sent ∧ (t.chan ch).mem = c.mem)

/-- For a channel whose brigade works towards the neighbour, with messages that came by no dictionary write; what is sent leaves as the neighbour's port carries it. A message that fails its check is only counted. An OFFER to which no reason of Table 15-7 applies opens its transfer: a slot that may take the image takes its manifest, as PARTIAL, here and in every participant that class 4 reaches, object 0x5831 shows the transfer open, and a STATUS answers; one to which a reason applies is answered by REFUSE with the first of them. A PIECE inside the window that does not complete its block is kept; one of no open transfer is refused with reason 10. The STATUS that names the count of blocks ends a sending transfer with END; END closes a receiving one and the image is to be verified; REFUSE with reason 10 makes the sending one offer again, with another it ends. The status timer sends the STATUS of the open transfer; after 200 ms without STATUS every piece of the last block that the receiver lacks goes out again; after 30 s the transfer ends. Verification of an image that lacks no block makes it VERIFIED or FAILED. -/
def Obligations.ImageTransfers : Prop :=
  ∀ (s : State) (ch : Ch) (p : Peer) (h : BrigadeHdr) (m : Manifest) (data : List Byte) (r : Recv) (x : Send) (n : Nat), h.dict = none →
    let c := s.chan ch
    let u := c.upd
    let onUpd (u' : UpdBlk) (f : Chan → Chan) : State := s.upd ch fun c => f { c with upd := u' }
    let tell (d : Chan) (k block piece reason : Nat) (map : W64) (b : List Byte) : Chan := d.brigade p k h.imgid block piece reason map b
    (c.brigadeOn ch p = true →
    (h.ok = false → ∀ i ∈ [Instr.brigadeOffer ch p h m, .brigadePiece ch p h data, .brigadeStatus ch p h, .brigadeEnd ch p h, .brigadeRefuse ch p h],
      exec i s = .next (onUpd { u with stats := modAt satInc 2 u.stats } id)) ∧
    (h.ok = true →
      (s.offerReason ch p m = 0 → (∀ k, (s.chan k).upd.slots.length = 12) → ∃ t n l, exec (.brigadeOffer ch p h m) s = .next t ∧ t.wire = s.wire ∧ t.pending = s.pending ∧
        c.takeSlot (s.slotTaken ch m) m = some n ∧
        (t.chan ch).upd.recv = u.recv.filter (fun y => !(y.peer == p || y.slot == n)) ++ [⟨p, n, m, []⟩] ∧
        (t.chan ch).upd.xState = 1 ∧ (t.chan ch).upd.xImg = manImgid m ∧ (t.chan ch).upd.xNblk = m.nblk ∧ (t.chan ch).mem = c.mem ∧ (t.chan ch).sl = c.sl ∧
        (t.chan ch).sent = (c.brigade p 3 (manImgid m) (((t.chan ch).upd.slot n).next m.nblk) 0 0 0#64 []).sent ++ l ∧
        (∀ k, k = ch ∨ (s.participates k = true ∧ s.reach ch k 4 = true) → ((t.chan k).upd.slot n).st = .partial_ ∧ ((t.chan k).upd.slot n).man.map manImgid = some (manImgid m) ∧
          ∀ j, j ≠ n → (t.chan k).upd.slot j = (s.chan k).upd.slot j) ∧
        (∀ k, k ≠ ch → ¬(s.participates k = true ∧ s.reach ch k 4 = true) → t.chan k = s.chan k)) ∧
      (s.offerReason ch p m ≠ 0 → ∃ t, exec (.brigadeOffer ch p h m) s = .next t ∧ Safety.OnlyChan ch s t ∧ (t.chan ch).upd.xReason = s.offerReason ch p m ∧
        (t.chan ch).sent = (tell c 5 0 0 (s.offerReason ch p m) 0#64 []).sent ∧ (t.chan ch).upd.slots = u.slots ∧ (t.chan ch).upd.recv = u.recv) ∧
      (u.recv.find? (fun y => y.peer == p && manImgid y.man == h.imgid) = none → ∃ t, exec (.brigadePiece ch p h data) s = .next t ∧ Safety.OnlyChan ch s t ∧
        (t.chan ch).sent = (tell c 5 0 0 10 0#64 []).sent ∧ (t.chan ch).upd.slots = u.slots) ∧
      (u.recv = [r] → r.peer = p → manImgid r.man = h.imgid → c.recvNext r ≤ h.block → h.block ≤ c.recvNext r + 3 → h.block < r.man.nblk → h.piece < 64 → data.length = 1024 →
        (u.slot r.slot).block h.block = none → r.pieces = [] → exec (.brigadePiece ch p h data) s = .next (onUpd { u with recv := [{ r with pieces := [(h.block, h.piece, data)] }] } id)) ∧
      (u.sends = [x] → x.peer = p → x.imgid = h.imgid →
        (h.block = x.nblk → exec (.brigadeStatus ch p h) s = .next (onUpd { u with sends := [], stats := u.forwardedTo x.next h.block } fun d => tell d 4 0 0 0 0#64 [])) ∧
        (h.reason ≠ 10 → exec (.brigadeRefuse ch p h) s = .next (onUpd { u with sends := [] } id)) ∧
        (h.reason = 10 → (u.slot x.slot).man = some m → exec (.brigadeRefuse ch p h) s = .next (onUpd { u with sends := [{ x with started := false, sent := [], since := c.now }] }
          fun d => tell d 1 0 0 0 0#64 (m.raw ++ m.sig)))) ∧
      (u.recv = [r] → r.peer = p → manImgid r.man = h.imgid → ∃ t, exec (.brigadeEnd ch p h) s = .next t ∧ (t.chan ch).upd.recv = [] ∧
        r.slot ∈ (t.chan ch).upd.verify ∧ (t.chan ch).upd.slots = u.slots ∧ (t.chan ch).mem = c.mem))) ∧
    (u.recv = [r] → c.up = true → c.sys.reeveState = 0 → exec (.brigadeStatusTimer ch) s =
      .next (s.upd ch fun c => c.brigade r.peer 3 (manImgid r.man) (c.recvNext r) 0 0 (r.mapOf (c.recvNext r)) [])) ∧
    (∀ b, u.sends = [x] → x.peer = p → x.started = true → x.nblk = x.next + 1 → (u.slot x.slot).block x.next = some b → c.brigadePort p = true →
      ∃ t, exec (.brigadeResend ch p) s = .next t ∧ Safety.OnlyChan ch s t ∧ ({ t.chan ch with upd := u, sent := c.sent, tb := c.tb, mill := c.mill } : Chan) = c ∧
      (t.chan ch).upd.slots = u.slots ∧
      (t.chan ch).sent = c.sent ++ ((List.range 64).filter fun k => !x.map.getLsbD k).map fun k => .brigade p 2 x.imgid x.next k 0 0#64 ((b.drop (1024 * k)).take 1024)) ∧
    (u.sends = [x] → x.peer = p → ∃ t, exec (.brigadeGiveUp ch p) s = .next t ∧ Safety.OnlyChan ch s t ∧ (t.chan ch).upd = { u with sends := [] } ∧ (t.chan ch).mem = c.mem) ∧
    (u.slots.length = 12 → n < 12 → n ∈ u.verify → (u.slot n).st = .partial_ → (u.slot n).lacks = [] → c.up = true → c.sys.reeveState = 0 → c.sys.mode ≠ .m3 →
      ∃ t, exec (.imageVerification ch n) s = .next t ∧ Safety.OnlyChan ch s t ∧
      ({ t.chan ch with upd := u } : Chan) = c ∧ (t.chan ch).upd.verify = u.verify.filter (· ≠ n) ∧
      ((t.chan ch).upd.slot n).st = (if c.verifyCode (u.slot n) (s.secFloor ch) = 0 then .verified else .failed) ∧ ∀ k, k ≠ n → (t.chan ch).upd.slot k = u.slot k)

/-- With a running reeve, and for transactions a sequencing channel q of at least two participants that class 4 reaches. In M4, with what each needs, ACTIVATE, STORE, FALLBACK, ERASE, ABORT, INSTALL_KEY and the confirmation of the firmware in trial each join the transactions waiting at q with their directory act, STORE with the cleared confirmation and the last with a raised floor; where the mode does not permit one it only counts a state conflict. In M4 to M10 a served advance of the fuses burns them up to its target. A served hash start shows the unit busy with its length, the end of the hash gives SHA-256 of the octets named. Once two channels have recovered firmware in M3 and no transfer was open for 10 s, every channel that is up there proposes M1 with cause 0x02, once, and nothing else changes. -/
def Obligations.UpdateCommands : Prop :=
  ∀ (s : State) (ch q : Ch) (n k : Nat) (v : Word) (b : Bool),
    let c := s.chan ch
    let u := c.upd
    let waits (i : Instr) (es : List JEntry) (act : Nat × Nat) : Prop :=
      exec i s = .next (s.upd q fun c => { c with dict := { c.dict with waiting := c.dict.waiting ++ [⟨es, [act], ch, none, 0#8, 1⟩] } })
    let conflict : State := s.upd ch fun c => { c with sys := { c.sys with modeFlag := c.sys.modeFlag.raise 0 } }
    (c.up = true → c.sys.reeveState = 0 → 2 ≤ s.participants.length → s.seqCh = some q → s.reach ch q 4 = true → c.sys.mode = .m4 →
      (u.fwVerified = some n → u.find [0, 1] .trial = none → (((u.slot n).man.map (·.mincfmt)).getD 0) ≤ c.runCfmt → waits (.updActivate ch) [] (1, n)) ∧
      (∀ m, u.find [2, 3] .verified = some n → (u.slot n).man = some m → m.fwver ≤ c.runFw → c.programOk n = true →
        waits (.updStore ch) clearConfirm (2, 0)) ∧
      (u.find [0, 1] .trial = some n → waits (.updFallback ch) [] (3, 0)) ∧ waits (.updErase ch) [] (4, 0) ∧ waits (.updAbort ch) [] (5, 0) ∧
      (∀ m, 4 ≤ n → n ≤ 11 → (u.slot n).st = .verified → (u.slot n).man = some m → m.kind = 4 → u.custFuse = none → waits (.updInstallKey ch b) [] (6, chCode ch * 2 + b.toNat)) ∧
      (∀ m, u.find [0, 1] .trial = some n → (u.slot n).man = some m → manImgid m = v → waits (.firmwareConfirmation ch v) c.floorEntries (7, 0))) ∧
    (c.up = true → c.sys.reeveState = 0 → c.sys.mode = .m6 → ∀ i ∈ [Instr.updActivate ch, .updStore ch, .updFallback ch, .updErase ch, .updAbort ch, .updInstallKey ch b, .firmwareConfirmation ch v],
      exec i s = .next conflict) ∧
    (c.verdict .reeve true 0x400E0040 = .served → 4 ≤ c.sys.mode.num → c.sys.mode.num ≤ 10 → u.fuses < k → k ≤ 256 →
      exec (.fuseAdvance ch .reeve k true) s = .next (s.upd ch fun c => { c with upd := { c.upd with fuses := k } })) ∧
    (c.verdict .reeve true 0x400E0054 = .served → exec (.secHashStart ch .reeve v) s = .next (s.upd ch fun c => { c with upd := { c.upd with hashLen := v, busy := true } })) ∧
    (u.busy = true → exec (.secHashDone ch) s = .next (s.upd ch fun c => { c with upd := { c.upd with
      busy := false, hashOut := bytesWords 8 (sha256 (c.bytesFrom c.upd.hashAddr.toNat c.upd.hashLen.toNat)) } })) ∧
    (s.mode = .m3 → 2 ≤ (allCh.filter fun x => (s.chan x).upd.recovered).length → (∀ x, (s.chan x).upd.recv = [] ∧ (s.chan x).upd.quietAt + 10000000000 ≤ (s.chan x).now) →
      ∃ t, exec .recoveryComplete s = .next t ∧ t.wire = s.wire ∧ t.pending = s.pending ∧ ∀ x, ({ t.chan x with sys := (s.chan x).sys } : Chan) = s.chan x ∧
        (t.chan x).sys = { (s.chan x).sys with triggers := (s.chan x).sys.triggers ++
          (if (s.chan x).up = true ∧ (s.chan x).sys.mode = .m3 ∧ (⟨.m1, 0x02⟩ : Proposal) ∉ (s.chan x).sys.triggers then [⟨.m1, 0x02⟩] else []) })

/-- A core's post of its own type, within 488 octets, in M5 to M8 of a voting channel or in M9, queues one record of its staged octets; a type below 0x80 raises flag 1. The writer moves the oldest queued record into the ring and advances the sequence number. It stores both copies of the control. The start scan repairs a bad first copy from the second, adopts a torn record only when it is whole and next, and makes the ring ready. In legacy personality STOP and RESTART wait as mode commands, in M6 both as STOP with the restart due after it, and CLEAR HISTORY empties the history; there a legacy read of a present legacy object is answered with its octets on the port it came by, one of an absent object with its abort code. A served read of a low register by an initiator with a shadow latches the high word. A served register write stores the timer query identity, and clears exactly the violation flags written 1. -/
def Obligations.ChronicleLegacyAndRegisters : Prop :=
  ∀ (s : State) (ch : Ch) (h : Nat) (v : Word) (r : List Byte) (rs : List (List Byte)),
    let c := s.chan ch
    (h < 16 → c.verdict (.core h) true (0x400C0100 + 4 * h) = .served → (c.sys.mode.runs = true ∧ c.sys.cstate = .voting ∨ c.sys.mode = .m9) → c.chron.flush = false → c.chron.queue.length < 16 →
      (128 ≤ v.toNat / 16777216 → v.toNat % 65536 ≤ 488 → ∃ t, exec (.chronPost ch (.core h) h v) s = .next t ∧ Safety.OnlyChan ch s t ∧ (t.chan ch).mem = c.mem ∧
        (t.chan ch).chron.queue = c.chron.queue ++ [c.recordBytes (v.toNat / 16777216) h (wBytes ((c.chron.stage[h]?).getD []) (v.toNat % 65536))]) ∧
      (v.toNat / 16777216 < 128 → ∃ t, exec (.chronPost ch (.core h) h v) s = .next t ∧ Safety.OnlyChan ch s t ∧ (t.chan ch).chron = { c.chron with flag := c.chron.flag.raise 1 })) ∧
    (c.chron.ready = true → c.chron.queue = r :: rs → c.chron.head + r.length < 0x400000 → r.length ≤ ringFree c.chron.head c.chron.ring →
      ∃ t, exec (.recordWrite ch) s = .next t ∧ Safety.OnlyChan ch s t ∧ ({ t.chan ch with chron := c.chron } : Chan) = c ∧ (t.chan ch).chron.queue = rs ∧
        (t.chan ch).chron.ring = c.chron.ring ++ [⟨c.chron.head, false, r⟩] ∧ (t.chan ch).chron.seq = c.chron.seq + 1#32 ∧ (t.chan ch).chron.head = c.chron.head + r.length ∧
        (t.chan ch).chron.ctl0 = (t.chan ch).chron.ctl ∧ (t.chan ch).chron.ctl1 = (t.chan ch).chron.ctl) ∧
    (c.sys.cstate ≠ .off → c.sys.cstate ≠ .held → c.chron.ready = false → let k := c.chron.scanCtl
      ∃ t, exec (.chronStartScan ch) s = .next t ∧ Safety.OnlyChan ch s t ∧ ({ t.chan ch with chron := c.chron } : Chan) = c ∧
      (t.chan ch).chron.ready = true ∧ (t.chan ch).chron.torn = none ∧
      (ctlOk c.chron.ctl0 = false → ctlOk c.chron.ctl1 = true → k.flag = c.chron.flag.raise 5 ∧ k.ctl0 = c.chron.ctl1 ∧ k.ctl1 = c.chron.ctl1 ∧ k.head = leAt c.chron.ctl1 0 4) ∧
      (c.chron.torn = none → (t.chan ch).chron = { k with ready := true }) ∧
      (∀ x, c.chron.torn = some x → x.crcOk = true → x.seq = k.seq →
        (t.chan ch).chron.ring = c.chron.ring ++ [⟨k.head, false, x.bytes⟩] ∧ (t.chan ch).chron.seq = k.seq + 1#32) ∧
      (∀ x, c.chron.torn = some x → x.crcOk = false → (t.chan ch).chron.ring = c.chron.ring ∧ (t.chan ch).chron.flag = k.flag.raiseIf x.headOk 2)) ∧
    (c.host.legacy = true → c.up = true → c.sys.reeveState = 0 → c.tb.tickRun = true →
      (∀ x ∈ [(Instr.lcmdStop ch, 1), (.lcmdRestart ch, 2)], exec x.1 s = .next (s.upd ch fun c => { c with sys := { c.sys with cmds := c.sys.cmds ++ [⟨0, if c.sys.mode = .m6 then 1 else x.2, c.tb.c, c.now, ch, none, 0#8⟩] }, compat := { c.compat with restartDue := c.compat.restartDue || (decide (x.2 = 2) && decide (c.sys.mode = .m6)) } })) ∧
      exec (.lcmdClearHistory ch) s = .next (s.upd ch fun c => { c with compat := { c.compat with history := [] } })) ∧
    (∀ n i sub (y : Byte) d, (n = 0 ∨ ch = .C ∧ n ≤ 2) → 0x3000 ≤ i → i ≤ 0x3FFF → sub < 256 → c.up = true → c.sys.mode = .m6 → c.sys.reeveState = 0 →
      c.desc ch (.legacy n) i sub = .ok d → d.top = false → d.decl = none → d.proxy = false → d.rmask.testBit 6 = true → (c.votedEntry i sub = false ∨ c.votedRead = 0) →
      let val := s.legacyVal ch i sub
      let ans := [0x81#8, y] ++ leB 2 val.length ++ [0#8, 0#8, 0#8, 0#8] ++ val
      ∃ t, exec (.legacyMessage ch n ([1#8, y, 0#8, 0#8] ++ leB 2 i ++ leB 1 sub ++ [0#8])) s = .next t ∧ Safety.OnlyChan ch s t ∧ (t.chan ch).mem = c.mem ∧
        (t.chan ch).sl = c.sl ∧ (t.chan ch).sent = c.sent ++ [.legacyReply n ans] ∧ (t.chan ch).compat.rx = (if n = 0 then ans else c.compat.rx)) ∧
    (∀ msg : List Byte, c.up = true → c.sys.mode = .m6 → c.sys.reeveState = 0 → msg = [1#8, 7#8, 0#8, 0#8, 0xFF#8, 0x3F#8, 1#8, 0#8] → c.desc ch (.legacy 0) 0x3FFF 1 = .error abNoObject →
      ∃ t, exec (.legacyMessage ch 0 msg) s = .next t ∧ Safety.OnlyChan ch s t ∧ (t.chan ch).mem = c.mem ∧
        (t.chan ch).compat.rx = [0x81#8, 7#8, 0#8, 0#8, 1#8, 6#8, 0#8, 0#8] ∧ (t.chan ch).sl = c.sl) ∧
    (c.up = true → c.verdict (.core h) false 0x40020000 = .served → hasShadow (.core h) = true → exec (.shadowLoRead ch (.core h) .now) s = .next (s.upd ch fun c => { c with tb := { c.tb with
      shadows := (c.tb.shadows.filter fun x => !(x.1 == .core h && x.2.1 == .now)) ++ [(.core h, .now, hiW (c.wide .now))] } })) ∧
    (c.up = true → c.sys.reeveState = 0 → c.verdict .reeve true 0x40020100 = .served → exec (.registerWrite ch .reeve 0x40020100 v) s =
      .next (s.upd ch fun c => { c with tb := { c.tb with qid := v } })) ∧
    (c.up = true → c.sys.reeveState = 0 → c.verdict .reeve true 0x40000030 = .served → exec (.registerWrite ch .reeve 0x40000030 v) s =
      .next (s.upd ch fun c => { c with sys := { c.sys with viol := { c.sys.viol with bits := c.sys.viol.bits &&& ~~~ v } } }))

/-- For a channel whose lane carries packets. A good READ of one word of MBX_REQ with nothing outstanding is answered at once with the word; a good WRITE of it stores the word and is answered. A packet with a failed check, or a ninth outstanding, is a packet error, flag 0, and nothing else. A doorbell at a mailbox that is busy or holds a response only raises flag 1; at a free one an unreadable message is served as malformed. The mailbox acknowledgement clears READY and the response; the message acknowledgement frees HMSG_OUT. A message doorbell at a busy HMSG_IN only raises flag 2. HRST_n held low puts a powered channel into HELD and marks it; its release clears the pin state and, while no channel ticks, starts the clocks anew. -/
def Obligations.HostPort : Prop :=
  ∀ (s : State) (ch : Ch) (tag : Byte) (a : Nat) (w : Word) (p : LanePkt),
    let c := s.chan ch
    let onHost (b : HostBlk) (out : List Emission) : State := s.upd ch fun c => { c with host := b, sent := c.sent ++ out }
    (c.laneOn = true → c.host.outst = [] → 0x1000 ≤ a → a < 0x3000 → a % 4 = 0 →
      (∃ t, exec (.laneRead ch ⟨true, tag, a, 1, []⟩) s = .next t ∧ Safety.OnlyChan ch s t ∧
        t.chan ch = { c with host := { c.host with rx := satInc c.host.rx, tx := satInc c.host.tx }, sent := c.sent ++ [.laneResp tag 0x81 0 [wGet c.host.req ((a - 0x1000) / 4)]] }) ∧
      exec (.laneWrite ch ⟨true, tag, a, 1, [w]⟩) s = .next (onHost { c.host with req := wPut c.host.req ((a - 0x1000) / 4) w, rx := satInc c.host.rx, tx := satInc c.host.tx }
        [.laneResp tag 0x82 0 []])) ∧
    (c.laneOn = true → (p.ok = false ∨ 8 ≤ c.host.outst.length) → ∀ i ∈ [Instr.laneRead ch p, .laneWrite ch p], exec i s = .next (onHost { c.host with flag := c.host.flag.raise 0 } [])) ∧
    (c.laneOn = true → (c.host.busy = true ∨ c.host.ready = true) → exec (.hMbxDoor ch a) s = .next (onHost { c.host with flag := c.host.flag.raise 1 } [])) ∧
    (c.laneOn = true → c.host.busy = false → c.host.ready = false → c.host.req = [] → c.sys.reeveState = 0 → c.sys.mode ≠ .m2 → viaOffered c.sys.mode .host = true → a ≤ 8192 →
      ∃ t l, exec (.hMbxDoor ch a) s = .next t ∧ Safety.OnlyChan ch s t ∧ (t.chan ch).host.ready = true ∧ (t.chan ch).host.busy = false ∧ (t.chan ch).mem = c.mem ∧
        (t.chan ch).sent = c.sent ++ .dictReply .host 0#8 0 1 [] :: l) ∧
    (c.laneOn = true → ∃ t, exec (.hMbxAck ch) s = .next t ∧ Safety.OnlyChan ch s t ∧ (t.chan ch).host = { c.host with ready := false, rsp := [] } ∧
      ({ t.chan ch with host := c.host, sent := c.sent } : Chan) = c) ∧
    (c.laneOn = true → hostMsgMode c.sys.mode = true →
      (c.host.inBusy = true → exec (.hMsgDoor ch) s = .next (onHost { c.host with flag := c.host.flag.raise 2 } [])) ∧
      (∀ m, c.host.inBusy = false → c.host.inMsg = some m → m.kind = 0 → c.bridgeOn = true → c.bridge.queue.length < 256 →
        (∀ r, c.bridge.routes = [r] → r.read = false → r.sport = laneBport ch → r.sid = m.id → r.nmove = 0 → r.event = false → c.dportsOf r = [laneBport ch] →
          ∃ t, exec (.hMsgDoor ch) s = .next t ∧ Safety.OnlyChan ch s t ∧ (t.chan ch).bridge.queue = c.bridge.queue ++
            [⟨c.bridge.nextQid, r.num, padTo r.dlen (m.data.take r.dlen), [laneBport ch], c.now⟩] ∧ ({ t.chan ch with bridge := c.bridge } : Chan) = c)) ∧
      (c.host.houtQ = [] → ∃ t, exec (.hMsgAck ch) s = .next t ∧ Safety.OnlyChan ch s t ∧ (t.chan ch).host = { c.host with hout := none } ∧
        ({ t.chan ch with host := c.host, sent := c.sent } : Chan) = c)) ∧
    (c.sys.hrst = false → c.sys.cstate ≠ .off → s.ticking = true → (∀ k, k ≠ ch → (s.chan k).tb.tickRun = true ∧ (s.chan k).sys.cstate ≠ .off ∧ (s.chan k).sys.cstate ≠ .held) →
      ∃ t, exec (.hrstAssert ch) s = .next t ∧ Safety.OnlyChan ch s t ∧ (t.chan ch).sys.cstate = .held ∧ (t.chan ch).sys.hrst = true ∧ (t.chan ch).sys.hrstSeen = true ∧
        (t.chan ch).sys.barred = true ∧ (t.chan ch).tb.tickRun = false) ∧
    (c.sys.hrst = true → exec (.hrstRelease ch) s = .next (s.upd ch fun c => if s.ticking then { c with sys := { c.sys with hrst := false } }
      else ({ c with sys := { c.sys with hrst := false } } : Chan).startClocks))
end

