-- ==== Sys2Proof/Laws/State.lean ====
section
/-! SUPPORT. What reading a field gives after each named update of the state, so that no proof unfolds a record update. -/

namespace Sys2Proof.Machine
open Sys2Proof

/-! The three channels -/

@[simp] theorem Tri.get_set_self {α : Type} (t : Tri α) (ch : Ch) (v : α) : (t.set ch v).get ch = v := by cases ch <;> rfl
theorem Tri.get_set_other {α : Type} (t : Tri α) {ch x : Ch} (v : α) (h : x ≠ ch) : (t.set ch v).get x = t.get x := by
  cases ch <;> cases x <;> first | rfl | exact absurd rfl h
@[simp] theorem Tri.set_get_self {α : Type} (t : Tri α) (ch : Ch) : t.set ch (t.get ch) = t := by cases ch <;> rfl
@[simp] theorem Tri.set_set {α : Type} (t : Tri α) (ch : Ch) (v w : α) : (t.set ch v).set ch w = t.set ch w := by cases ch <;> rfl

/-! State.upd -/

@[simp] theorem State.upd_chan_self (s : State) (ch : Ch) (f : Chan → Chan) : (s.upd ch f).chan ch = f (s.chan ch) := Tri.get_set_self _ _ _
theorem State.upd_chan_other (s : State) {ch x : Ch} (f : Chan → Chan) (h : x ≠ ch) : (s.upd ch f).chan x = s.chan x := Tri.get_set_other _ _ h
theorem State.upd_chan (s : State) (ch x : Ch) (f : Chan → Chan) : (s.upd ch f).chan x = if x = ch then f (s.chan x) else s.chan x := by
  by_cases h : x = ch
  · subst h; simp
  · simp [State.upd_chan_other s f h, h]
@[simp] theorem State.upd_wire (s : State) (ch : Ch) (f : Chan → Chan) : (s.upd ch f).wire = s.wire := rfl
@[simp] theorem State.upd_free (s : State) (ch : Ch) (f : Chan → Chan) : (s.upd ch f).free = s.free := rfl
@[simp] theorem State.upd_pending (s : State) (ch : Ch) (f : Chan → Chan) : (s.upd ch f).pending = s.pending := rfl
@[simp] theorem State.upd_upd (s : State) (ch : Ch) (f g : Chan → Chan) : (s.upd ch f).upd ch g = s.upd ch (fun c => g (f c)) := by
  cases ch <;> rfl
@[simp] theorem State.upd_self (s : State) (ch : Ch) : s.upd ch (fun c => c) = s := by cases ch <;> rfl

/-! State.updAll, State.tick and plain changes of the wire and the queue -/

@[simp] theorem State.updAll_chan (s : State) (f : Ch → Chan → Chan) (x : Ch) : (s.updAll f).chan x = f x (s.chan x) := by cases x <;> rfl
@[simp] theorem State.updAll_wire (s : State) (f : Ch → Chan → Chan) : (s.updAll f).wire = s.wire := rfl
@[simp] theorem State.updAll_free (s : State) (f : Ch → Chan → Chan) : (s.updAll f).free = s.free := rfl
@[simp] theorem State.updAll_pending (s : State) (f : Ch → Chan → Chan) : (s.updAll f).pending = s.pending := rfl
@[simp] theorem State.tick_chan (s : State) (x : Ch) : s.tick.chan x = s.chan x := rfl
@[simp] theorem State.tick_wire (s : State) : s.tick.wire = s.wire := rfl
@[simp] theorem State.tick_free (s : State) : s.tick.free = s.free + 1 := rfl
@[simp] theorem State.tick_pending (s : State) : s.tick.pending = s.pending := rfl
@[simp] theorem State.withWire_chan (s : State) (w : List XMsg) (x : Ch) : ({ s with wire := w } : State).chan x = s.chan x := rfl
@[simp] theorem State.withPending_chan (s : State) (q : List Instr) (x : Ch) : ({ s with pending := q } : State).chan x = s.chan x := rfl
@[simp] theorem State.updMill_wire (s : State) (r : Ring) (f : MillBlk → MillBlk) : (s.updMill r f).wire = s.wire := rfl
@[simp] theorem State.updMill_pending (s : State) (r : Ring) (f : MillBlk → MillBlk) : (s.updMill r f).pending = s.pending := rfl
@[simp] theorem State.updMill_chan_self (s : State) (r : Ring) (f : MillBlk → MillBlk) :
    (s.updMill r f).chan (ringOwner r) = { s.chan (ringOwner r) with mill := f (s.chan (ringOwner r)).mill } := State.upd_chan_self _ _ _

/-! Chan.emit -/

@[simp] theorem Chan.emit_sys (c : Chan) (e : Emission) : (c.emit e).sys = c.sys := rfl
@[simp] theorem Chan.emit_pwr (c : Chan) (e : Emission) : (c.emit e).pwr = c.pwr := rfl
@[simp] theorem Chan.emit_clk (c : Chan) (e : Emission) : (c.emit e).clk = c.clk := rfl
@[simp] theorem Chan.emit_tb (c : Chan) (e : Emission) : (c.emit e).tb = c.tb := rfl
@[simp] theorem Chan.emit_assay (c : Chan) (e : Emission) : (c.emit e).assay = c.assay := rfl
@[simp] theorem Chan.emit_mram (c : Chan) (e : Emission) : (c.emit e).mram = c.mram := rfl
@[simp] theorem Chan.emit_xl (c : Chan) (e : Emission) : (c.emit e).xl = c.xl := rfl
@[simp] theorem Chan.emit_cells (c : Chan) (e : Emission) : (c.emit e).cells = c.cells := rfl
@[simp] theorem Chan.emit_dbg (c : Chan) (e : Emission) : (c.emit e).dbg = c.dbg := rfl
@[simp] theorem Chan.emit_sl (c : Chan) (e : Emission) : (c.emit e).sl = c.sl := rfl
@[simp] theorem Chan.emit_vote (c : Chan) (e : Emission) : (c.emit e).vote = c.vote := rfl
@[simp] theorem Chan.emit_chg (c : Chan) (e : Emission) : (c.emit e).chg = c.chg := rfl
@[simp] theorem Chan.emit_mill (c : Chan) (e : Emission) : (c.emit e).mill = c.mill := rfl
@[simp] theorem Chan.emit_ecn (c : Chan) (e : Emission) : (c.emit e).ecn = c.ecn := rfl
@[simp] theorem Chan.emit_mvb (c : Chan) (e : Emission) : (c.emit e).mvb = c.mvb := rfl
@[simp] theorem Chan.emit_bridge (c : Chan) (e : Emission) : (c.emit e).bridge = c.bridge := rfl
@[simp] theorem Chan.emit_pair (c : Chan) (e : Emission) : (c.emit e).pair = c.pair := rfl
@[simp] theorem Chan.emit_field (c : Chan) (e : Emission) : (c.emit e).field = c.field := rfl
@[simp] theorem Chan.emit_sd (c : Chan) (e : Emission) : (c.emit e).sd = c.sd := rfl
@[simp] theorem Chan.emit_dict (c : Chan) (e : Emission) : (c.emit e).dict = c.dict := rfl
@[simp] theorem Chan.emit_upd (c : Chan) (e : Emission) : (c.emit e).upd = c.upd := rfl
@[simp] theorem Chan.emit_chron (c : Chan) (e : Emission) : (c.emit e).chron = c.chron := rfl
@[simp] theorem Chan.emit_compat (c : Chan) (e : Emission) : (c.emit e).compat = c.compat := rfl
@[simp] theorem Chan.emit_host (c : Chan) (e : Emission) : (c.emit e).host = c.host := rfl
@[simp] theorem Chan.emit_mem (c : Chan) (e : Emission) : (c.emit e).mem = c.mem := rfl
@[simp] theorem Chan.emit_sent (c : Chan) (e : Emission) : (c.emit e).sent = c.sent ++ [e] := rfl

/-! Chan.br -/

@[simp] theorem Chan.br_sys (c : Chan) (f : BridgeBlk → BridgeBlk) : (c.br f).sys = c.sys := rfl
@[simp] theorem Chan.br_pwr (c : Chan) (f : BridgeBlk → BridgeBlk) : (c.br f).pwr = c.pwr := rfl
@[simp] theorem Chan.br_clk (c : Chan) (f : BridgeBlk → BridgeBlk) : (c.br f).clk = c.clk := rfl
@[simp] theorem Chan.br_tb (c : Chan) (f : BridgeBlk → BridgeBlk) : (c.br f).tb = c.tb := rfl
@[simp] theorem Chan.br_assay (c : Chan) (f : BridgeBlk → BridgeBlk) : (c.br f).assay = c.assay := rfl
@[simp] theorem Chan.br_mram (c : Chan) (f : BridgeBlk → BridgeBlk) : (c.br f).mram = c.mram := rfl
@[simp] theorem Chan.br_xl (c : Chan) (f : BridgeBlk → BridgeBlk) : (c.br f).xl = c.xl := rfl
@[simp] theorem Chan.br_cells (c : Chan) (f : BridgeBlk → BridgeBlk) : (c.br f).cells = c.cells := rfl
@[simp] theorem Chan.br_dbg (c : Chan) (f : BridgeBlk → BridgeBlk) : (c.br f).dbg = c.dbg := rfl
@[simp] theorem Chan.br_sl (c : Chan) (f : BridgeBlk → BridgeBlk) : (c.br f).sl = c.sl := rfl
@[simp] theorem Chan.br_vote (c : Chan) (f : BridgeBlk → BridgeBlk) : (c.br f).vote = c.vote := rfl
@[simp] theorem Chan.br_chg (c : Chan) (f : BridgeBlk → BridgeBlk) : (c.br f).chg = c.chg := rfl
@[simp] theorem Chan.br_mill (c : Chan) (f : BridgeBlk → BridgeBlk) : (c.br f).mill = c.mill := rfl
@[simp] theorem Chan.br_ecn (c : Chan) (f : BridgeBlk → BridgeBlk) : (c.br f).ecn = c.ecn := rfl
@[simp] theorem Chan.br_mvb (c : Chan) (f : BridgeBlk → BridgeBlk) : (c.br f).mvb = c.mvb := rfl
@[simp] theorem Chan.br_bridge (c : Chan) (f : BridgeBlk → BridgeBlk) : (c.br f).bridge = f c.bridge := rfl
@[simp] theorem Chan.br_pair (c : Chan) (f : BridgeBlk → BridgeBlk) : (c.br f).pair = c.pair := rfl
@[simp] theorem Chan.br_field (c : Chan) (f : BridgeBlk → BridgeBlk) : (c.br f).field = c.field := rfl
@[simp] theorem Chan.br_sd (c : Chan) (f : BridgeBlk → BridgeBlk) : (c.br f).sd = c.sd := rfl
@[simp] theorem Chan.br_dict (c : Chan) (f : BridgeBlk → BridgeBlk) : (c.br f).dict = c.dict := rfl
@[simp] theorem Chan.br_upd (c : Chan) (f : BridgeBlk → BridgeBlk) : (c.br f).upd = c.upd := rfl
@[simp] theorem Chan.br_chron (c : Chan) (f : BridgeBlk → BridgeBlk) : (c.br f).chron = c.chron := rfl
@[simp] theorem Chan.br_compat (c : Chan) (f : BridgeBlk → BridgeBlk) : (c.br f).compat = c.compat := rfl
@[simp] theorem Chan.br_host (c : Chan) (f : BridgeBlk → BridgeBlk) : (c.br f).host = c.host := rfl
@[simp] theorem Chan.br_mem (c : Chan) (f : BridgeBlk → BridgeBlk) : (c.br f).mem = c.mem := rfl
@[simp] theorem Chan.br_sent (c : Chan) (f : BridgeBlk → BridgeBlk) : (c.br f).sent = c.sent := rfl

/-! Chan.pr -/

@[simp] theorem Chan.pr_sys (c : Chan) (f : PairBlk → PairBlk) : (c.pr f).sys = c.sys := rfl
@[simp] theorem Chan.pr_pwr (c : Chan) (f : PairBlk → PairBlk) : (c.pr f).pwr = c.pwr := rfl
@[simp] theorem Chan.pr_clk (c : Chan) (f : PairBlk → PairBlk) : (c.pr f).clk = c.clk := rfl
@[simp] theorem Chan.pr_tb (c : Chan) (f : PairBlk → PairBlk) : (c.pr f).tb = c.tb := rfl
@[simp] theorem Chan.pr_assay (c : Chan) (f : PairBlk → PairBlk) : (c.pr f).assay = c.assay := rfl
@[simp] theorem Chan.pr_mram (c : Chan) (f : PairBlk → PairBlk) : (c.pr f).mram = c.mram := rfl
@[simp] theorem Chan.pr_xl (c : Chan) (f : PairBlk → PairBlk) : (c.pr f).xl = c.xl := rfl
@[simp] theorem Chan.pr_cells (c : Chan) (f : PairBlk → PairBlk) : (c.pr f).cells = c.cells := rfl
@[simp] theorem Chan.pr_dbg (c : Chan) (f : PairBlk → PairBlk) : (c.pr f).dbg = c.dbg := rfl
@[simp] theorem Chan.pr_sl (c : Chan) (f : PairBlk → PairBlk) : (c.pr f).sl = c.sl := rfl
@[simp] theorem Chan.pr_vote (c : Chan) (f : PairBlk → PairBlk) : (c.pr f).vote = c.vote := rfl
@[simp] theorem Chan.pr_chg (c : Chan) (f : PairBlk → PairBlk) : (c.pr f).chg = c.chg := rfl
@[simp] theorem Chan.pr_mill (c : Chan) (f : PairBlk → PairBlk) : (c.pr f).mill = c.mill := rfl
@[simp] theorem Chan.pr_ecn (c : Chan) (f : PairBlk → PairBlk) : (c.pr f).ecn = c.ecn := rfl
@[simp] theorem Chan.pr_mvb (c : Chan) (f : PairBlk → PairBlk) : (c.pr f).mvb = c.mvb := rfl
@[simp] theorem Chan.pr_bridge (c : Chan) (f : PairBlk → PairBlk) : (c.pr f).bridge = c.bridge := rfl
@[simp] theorem Chan.pr_pair (c : Chan) (f : PairBlk → PairBlk) : (c.pr f).pair = f c.pair := rfl
@[simp] theorem Chan.pr_field (c : Chan) (f : PairBlk → PairBlk) : (c.pr f).field = c.field := rfl
@[simp] theorem Chan.pr_sd (c : Chan) (f : PairBlk → PairBlk) : (c.pr f).sd = c.sd := rfl
@[simp] theorem Chan.pr_dict (c : Chan) (f : PairBlk → PairBlk) : (c.pr f).dict = c.dict := rfl
@[simp] theorem Chan.pr_upd (c : Chan) (f : PairBlk → PairBlk) : (c.pr f).upd = c.upd := rfl
@[simp] theorem Chan.pr_chron (c : Chan) (f : PairBlk → PairBlk) : (c.pr f).chron = c.chron := rfl
@[simp] theorem Chan.pr_compat (c : Chan) (f : PairBlk → PairBlk) : (c.pr f).compat = c.compat := rfl
@[simp] theorem Chan.pr_host (c : Chan) (f : PairBlk → PairBlk) : (c.pr f).host = c.host := rfl
@[simp] theorem Chan.pr_mem (c : Chan) (f : PairBlk → PairBlk) : (c.pr f).mem = c.mem := rfl
@[simp] theorem Chan.pr_sent (c : Chan) (f : PairBlk → PairBlk) : (c.pr f).sent = c.sent := rfl

/-! Chan.updCell -/

@[simp] theorem Chan.updCell_sys (c : Chan) (n : Nat) (f : CellSt → CellSt) : (c.updCell n f).sys = c.sys := rfl
@[simp] theorem Chan.updCell_pwr (c : Chan) (n : Nat) (f : CellSt → CellSt) : (c.updCell n f).pwr = c.pwr := rfl
@[simp] theorem Chan.updCell_clk (c : Chan) (n : Nat) (f : CellSt → CellSt) : (c.updCell n f).clk = c.clk := rfl
@[simp] theorem Chan.updCell_tb (c : Chan) (n : Nat) (f : CellSt → CellSt) : (c.updCell n f).tb = c.tb := rfl
@[simp] theorem Chan.updCell_assay (c : Chan) (n : Nat) (f : CellSt → CellSt) : (c.updCell n f).assay = c.assay := rfl
@[simp] theorem Chan.updCell_mram (c : Chan) (n : Nat) (f : CellSt → CellSt) : (c.updCell n f).mram = c.mram := rfl
@[simp] theorem Chan.updCell_xl (c : Chan) (n : Nat) (f : CellSt → CellSt) : (c.updCell n f).xl = c.xl := rfl
@[simp] theorem Chan.updCell_cells (c : Chan) (n : Nat) (f : CellSt → CellSt) : (c.updCell n f).cells = modAt f n c.cells := rfl
@[simp] theorem Chan.updCell_dbg (c : Chan) (n : Nat) (f : CellSt → CellSt) : (c.updCell n f).dbg = c.dbg := rfl
@[simp] theorem Chan.updCell_sl (c : Chan) (n : Nat) (f : CellSt → CellSt) : (c.updCell n f).sl = c.sl := rfl
@[simp] theorem Chan.updCell_vote (c : Chan) (n : Nat) (f : CellSt → CellSt) : (c.updCell n f).vote = c.vote := rfl
@[simp] theorem Chan.updCell_chg (c : Chan) (n : Nat) (f : CellSt → CellSt) : (c.updCell n f).chg = c.chg := rfl
@[simp] theorem Chan.updCell_mill (c : Chan) (n : Nat) (f : CellSt → CellSt) : (c.updCell n f).mill = c.mill := rfl
@[simp] theorem Chan.updCell_ecn (c : Chan) (n : Nat) (f : CellSt → CellSt) : (c.updCell n f).ecn = c.ecn := rfl
@[simp] theorem Chan.updCell_mvb (c : Chan) (n : Nat) (f : CellSt → CellSt) : (c.updCell n f).mvb = c.mvb := rfl
@[simp] theorem Chan.updCell_bridge (c : Chan) (n : Nat) (f : CellSt → CellSt) : (c.updCell n f).bridge = c.bridge := rfl
@[simp] theorem Chan.updCell_pair (c : Chan) (n : Nat) (f : CellSt → CellSt) : (c.updCell n f).pair = c.pair := rfl
@[simp] theorem Chan.updCell_field (c : Chan) (n : Nat) (f : CellSt → CellSt) : (c.updCell n f).field = c.field := rfl
@[simp] theorem Chan.updCell_sd (c : Chan) (n : Nat) (f : CellSt → CellSt) : (c.updCell n f).sd = c.sd := rfl
@[simp] theorem Chan.updCell_dict (c : Chan) (n : Nat) (f : CellSt → CellSt) : (c.updCell n f).dict = c.dict := rfl
@[simp] theorem Chan.updCell_upd (c : Chan) (n : Nat) (f : CellSt → CellSt) : (c.updCell n f).upd = c.upd := rfl
@[simp] theorem Chan.updCell_chron (c : Chan) (n : Nat) (f : CellSt → CellSt) : (c.updCell n f).chron = c.chron := rfl
@[simp] theorem Chan.updCell_compat (c : Chan) (n : Nat) (f : CellSt → CellSt) : (c.updCell n f).compat = c.compat := rfl
@[simp] theorem Chan.updCell_host (c : Chan) (n : Nat) (f : CellSt → CellSt) : (c.updCell n f).host = c.host := rfl
@[simp] theorem Chan.updCell_mem (c : Chan) (n : Nat) (f : CellSt → CellSt) : (c.updCell n f).mem = c.mem := rfl
@[simp] theorem Chan.updCell_sent (c : Chan) (n : Nat) (f : CellSt → CellSt) : (c.updCell n f).sent = c.sent := rfl

/-! Chan.updNet -/

@[simp] theorem Chan.updNet_sys (c : Chan) (n : Nat) (f : NetRt → NetRt) : (c.updNet n f).sys = c.sys := rfl
@[simp] theorem Chan.updNet_pwr (c : Chan) (n : Nat) (f : NetRt → NetRt) : (c.updNet n f).pwr = c.pwr := rfl
@[simp] theorem Chan.updNet_clk (c : Chan) (n : Nat) (f : NetRt → NetRt) : (c.updNet n f).clk = c.clk := rfl
@[simp] theorem Chan.updNet_tb (c : Chan) (n : Nat) (f : NetRt → NetRt) : (c.updNet n f).tb = c.tb := rfl
@[simp] theorem Chan.updNet_assay (c : Chan) (n : Nat) (f : NetRt → NetRt) : (c.updNet n f).assay = c.assay := rfl
@[simp] theorem Chan.updNet_mram (c : Chan) (n : Nat) (f : NetRt → NetRt) : (c.updNet n f).mram = c.mram := rfl
@[simp] theorem Chan.updNet_xl (c : Chan) (n : Nat) (f : NetRt → NetRt) : (c.updNet n f).xl = c.xl := rfl
@[simp] theorem Chan.updNet_cells (c : Chan) (n : Nat) (f : NetRt → NetRt) : (c.updNet n f).cells = c.cells := rfl
@[simp] theorem Chan.updNet_dbg (c : Chan) (n : Nat) (f : NetRt → NetRt) : (c.updNet n f).dbg = c.dbg := rfl
@[simp] theorem Chan.updNet_sl (c : Chan) (n : Nat) (f : NetRt → NetRt) : (c.updNet n f).sl = c.sl := rfl
@[simp] theorem Chan.updNet_vote (c : Chan) (n : Nat) (f : NetRt → NetRt) : (c.updNet n f).vote = c.vote := rfl
@[simp] theorem Chan.updNet_chg (c : Chan) (n : Nat) (f : NetRt → NetRt) : (c.updNet n f).chg = c.chg := rfl
@[simp] theorem Chan.updNet_mill (c : Chan) (n : Nat) (f : NetRt → NetRt) : (c.updNet n f).mill = c.mill := rfl
@[simp] theorem Chan.updNet_ecn (c : Chan) (n : Nat) (f : NetRt → NetRt) : (c.updNet n f).ecn = c.ecn := rfl
@[simp] theorem Chan.updNet_mvb (c : Chan) (n : Nat) (f : NetRt → NetRt) : (c.updNet n f).mvb = c.mvb := rfl
@[simp] theorem Chan.updNet_bridge (c : Chan) (n : Nat) (f : NetRt → NetRt) : (c.updNet n f).bridge = c.bridge := rfl
@[simp] theorem Chan.updNet_pair (c : Chan) (n : Nat) (f : NetRt → NetRt) : (c.updNet n f).pair = c.pair := rfl
theorem Chan.updNet_field (c : Chan) (n : Nat) (f : NetRt → NetRt) : (c.updNet n f).field = (c.mapNets (fun i x => if i = n then f x else x)).field := rfl
@[simp] theorem Chan.updNet_sd (c : Chan) (n : Nat) (f : NetRt → NetRt) : (c.updNet n f).sd = c.sd := rfl
@[simp] theorem Chan.updNet_dict (c : Chan) (n : Nat) (f : NetRt → NetRt) : (c.updNet n f).dict = c.dict := rfl
@[simp] theorem Chan.updNet_upd (c : Chan) (n : Nat) (f : NetRt → NetRt) : (c.updNet n f).upd = c.upd := rfl
@[simp] theorem Chan.updNet_chron (c : Chan) (n : Nat) (f : NetRt → NetRt) : (c.updNet n f).chron = c.chron := rfl
@[simp] theorem Chan.updNet_compat (c : Chan) (n : Nat) (f : NetRt → NetRt) : (c.updNet n f).compat = c.compat := rfl
@[simp] theorem Chan.updNet_host (c : Chan) (n : Nat) (f : NetRt → NetRt) : (c.updNet n f).host = c.host := rfl
@[simp] theorem Chan.updNet_mem (c : Chan) (n : Nat) (f : NetRt → NetRt) : (c.updNet n f).mem = c.mem := rfl
@[simp] theorem Chan.updNet_sent (c : Chan) (n : Nat) (f : NetRt → NetRt) : (c.updNet n f).sent = c.sent := rfl

/-! Chan.mapNets -/

@[simp] theorem Chan.mapNets_sys (c : Chan) (f : Nat → NetRt → NetRt) : (c.mapNets f).sys = c.sys := rfl
@[simp] theorem Chan.mapNets_pwr (c : Chan) (f : Nat → NetRt → NetRt) : (c.mapNets f).pwr = c.pwr := rfl
@[simp] theorem Chan.mapNets_clk (c : Chan) (f : Nat → NetRt → NetRt) : (c.mapNets f).clk = c.clk := rfl
@[simp] theorem Chan.mapNets_tb (c : Chan) (f : Nat → NetRt → NetRt) : (c.mapNets f).tb = c.tb := rfl
@[simp] theorem Chan.mapNets_assay (c : Chan) (f : Nat → NetRt → NetRt) : (c.mapNets f).assay = c.assay := rfl
@[simp] theorem Chan.mapNets_mram (c : Chan) (f : Nat → NetRt → NetRt) : (c.mapNets f).mram = c.mram := rfl
@[simp] theorem Chan.mapNets_xl (c : Chan) (f : Nat → NetRt → NetRt) : (c.mapNets f).xl = c.xl := rfl
@[simp] theorem Chan.mapNets_cells (c : Chan) (f : Nat → NetRt → NetRt) : (c.mapNets f).cells = c.cells := rfl
@[simp] theorem Chan.mapNets_dbg (c : Chan) (f : Nat → NetRt → NetRt) : (c.mapNets f).dbg = c.dbg := rfl
@[simp] theorem Chan.mapNets_sl (c : Chan) (f : Nat → NetRt → NetRt) : (c.mapNets f).sl = c.sl := rfl
@[simp] theorem Chan.mapNets_vote (c : Chan) (f : Nat → NetRt → NetRt) : (c.mapNets f).vote = c.vote := rfl
@[simp] theorem Chan.mapNets_chg (c : Chan) (f : Nat → NetRt → NetRt) : (c.mapNets f).chg = c.chg := rfl
@[simp] theorem Chan.mapNets_mill (c : Chan) (f : Nat → NetRt → NetRt) : (c.mapNets f).mill = c.mill := rfl
@[simp] theorem Chan.mapNets_ecn (c : Chan) (f : Nat → NetRt → NetRt) : (c.mapNets f).ecn = c.ecn := rfl
@[simp] theorem Chan.mapNets_mvb (c : Chan) (f : Nat → NetRt → NetRt) : (c.mapNets f).mvb = c.mvb := rfl
@[simp] theorem Chan.mapNets_bridge (c : Chan) (f : Nat → NetRt → NetRt) : (c.mapNets f).bridge = c.bridge := rfl
@[simp] theorem Chan.mapNets_pair (c : Chan) (f : Nat → NetRt → NetRt) : (c.mapNets f).pair = c.pair := rfl
@[simp] theorem Chan.mapNets_field (c : Chan) (f : Nat → NetRt → NetRt) : (c.mapNets f).field = { c.field with nets := (c.field.nets.zipIdx).map (fun x => x.1.stamped c.now (f x.2 x.1)), test := c.field.test.filter (fun t => (f t.1 (c.net t.1)).cmd == (c.net t.1).cmd) } := rfl
@[simp] theorem Chan.mapNets_sd (c : Chan) (f : Nat → NetRt → NetRt) : (c.mapNets f).sd = c.sd := rfl
@[simp] theorem Chan.mapNets_dict (c : Chan) (f : Nat → NetRt → NetRt) : (c.mapNets f).dict = c.dict := rfl
@[simp] theorem Chan.mapNets_upd (c : Chan) (f : Nat → NetRt → NetRt) : (c.mapNets f).upd = c.upd := rfl
@[simp] theorem Chan.mapNets_chron (c : Chan) (f : Nat → NetRt → NetRt) : (c.mapNets f).chron = c.chron := rfl
@[simp] theorem Chan.mapNets_compat (c : Chan) (f : Nat → NetRt → NetRt) : (c.mapNets f).compat = c.compat := rfl
@[simp] theorem Chan.mapNets_host (c : Chan) (f : Nat → NetRt → NetRt) : (c.mapNets f).host = c.host := rfl
@[simp] theorem Chan.mapNets_mem (c : Chan) (f : Nat → NetRt → NetRt) : (c.mapNets f).mem = c.mem := rfl
@[simp] theorem Chan.mapNets_sent (c : Chan) (f : Nat → NetRt → NetRt) : (c.mapNets f).sent = c.sent := rfl

/-! Chan.trigger -/

@[simp] theorem Chan.trigger_sys (c : Chan) (m : Mode) (n : Nat) : (c.trigger m n).sys = { c.sys with triggers := c.sys.triggers ++ [⟨m, n⟩] } := rfl
@[simp] theorem Chan.trigger_pwr (c : Chan) (m : Mode) (n : Nat) : (c.trigger m n).pwr = c.pwr := rfl
@[simp] theorem Chan.trigger_clk (c : Chan) (m : Mode) (n : Nat) : (c.trigger m n).clk = c.clk := rfl
@[simp] theorem Chan.trigger_tb (c : Chan) (m : Mode) (n : Nat) : (c.trigger m n).tb = c.tb := rfl
@[simp] theorem Chan.trigger_assay (c : Chan) (m : Mode) (n : Nat) : (c.trigger m n).assay = c.assay := rfl
@[simp] theorem Chan.trigger_mram (c : Chan) (m : Mode) (n : Nat) : (c.trigger m n).mram = c.mram := rfl
@[simp] theorem Chan.trigger_xl (c : Chan) (m : Mode) (n : Nat) : (c.trigger m n).xl = c.xl := rfl
@[simp] theorem Chan.trigger_cells (c : Chan) (m : Mode) (n : Nat) : (c.trigger m n).cells = c.cells := rfl
@[simp] theorem Chan.trigger_dbg (c : Chan) (m : Mode) (n : Nat) : (c.trigger m n).dbg = c.dbg := rfl
@[simp] theorem Chan.trigger_sl (c : Chan) (m : Mode) (n : Nat) : (c.trigger m n).sl = c.sl := rfl
@[simp] theorem Chan.trigger_vote (c : Chan) (m : Mode) (n : Nat) : (c.trigger m n).vote = c.vote := rfl
@[simp] theorem Chan.trigger_chg (c : Chan) (m : Mode) (n : Nat) : (c.trigger m n).chg = c.chg := rfl
@[simp] theorem Chan.trigger_mill (c : Chan) (m : Mode) (n : Nat) : (c.trigger m n).mill = c.mill := rfl
@[simp] theorem Chan.trigger_ecn (c : Chan) (m : Mode) (n : Nat) : (c.trigger m n).ecn = c.ecn := rfl
@[simp] theorem Chan.trigger_mvb (c : Chan) (m : Mode) (n : Nat) : (c.trigger m n).mvb = c.mvb := rfl
@[simp] theorem Chan.trigger_bridge (c : Chan) (m : Mode) (n : Nat) : (c.trigger m n).bridge = c.bridge := rfl
@[simp] theorem Chan.trigger_pair (c : Chan) (m : Mode) (n : Nat) : (c.trigger m n).pair = c.pair := rfl
@[simp] theorem Chan.trigger_field (c : Chan) (m : Mode) (n : Nat) : (c.trigger m n).field = c.field := rfl
@[simp] theorem Chan.trigger_sd (c : Chan) (m : Mode) (n : Nat) : (c.trigger m n).sd = c.sd := rfl
@[simp] theorem Chan.trigger_dict (c : Chan) (m : Mode) (n : Nat) : (c.trigger m n).dict = c.dict := rfl
@[simp] theorem Chan.trigger_upd (c : Chan) (m : Mode) (n : Nat) : (c.trigger m n).upd = c.upd := rfl
@[simp] theorem Chan.trigger_chron (c : Chan) (m : Mode) (n : Nat) : (c.trigger m n).chron = c.chron := rfl
@[simp] theorem Chan.trigger_compat (c : Chan) (m : Mode) (n : Nat) : (c.trigger m n).compat = c.compat := rfl
@[simp] theorem Chan.trigger_host (c : Chan) (m : Mode) (n : Nat) : (c.trigger m n).host = c.host := rfl
@[simp] theorem Chan.trigger_mem (c : Chan) (m : Mode) (n : Nat) : (c.trigger m n).mem = c.mem := rfl
@[simp] theorem Chan.trigger_sent (c : Chan) (m : Mode) (n : Nat) : (c.trigger m n).sent = c.sent := rfl

/-! Chan.conflict -/

@[simp] theorem Chan.conflict_sys (c : Chan) : (c.conflict).sys = { c.sys with modeFlag := c.sys.modeFlag.raise 0 } := rfl
@[simp] theorem Chan.conflict_pwr (c : Chan) : (c.conflict).pwr = c.pwr := rfl
@[simp] theorem Chan.conflict_clk (c : Chan) : (c.conflict).clk = c.clk := rfl
@[simp] theorem Chan.conflict_tb (c : Chan) : (c.conflict).tb = c.tb := rfl
@[simp] theorem Chan.conflict_assay (c : Chan) : (c.conflict).assay = c.assay := rfl
@[simp] theorem Chan.conflict_mram (c : Chan) : (c.conflict).mram = c.mram := rfl
@[simp] theorem Chan.conflict_xl (c : Chan) : (c.conflict).xl = c.xl := rfl
@[simp] theorem Chan.conflict_cells (c : Chan) : (c.conflict).cells = c.cells := rfl
@[simp] theorem Chan.conflict_dbg (c : Chan) : (c.conflict).dbg = c.dbg := rfl
@[simp] theorem Chan.conflict_sl (c : Chan) : (c.conflict).sl = c.sl := rfl
@[simp] theorem Chan.conflict_vote (c : Chan) : (c.conflict).vote = c.vote := rfl
@[simp] theorem Chan.conflict_chg (c : Chan) : (c.conflict).chg = c.chg := rfl
@[simp] theorem Chan.conflict_mill (c : Chan) : (c.conflict).mill = c.mill := rfl
@[simp] theorem Chan.conflict_ecn (c : Chan) : (c.conflict).ecn = c.ecn := rfl
@[simp] theorem Chan.conflict_mvb (c : Chan) : (c.conflict).mvb = c.mvb := rfl
@[simp] theorem Chan.conflict_bridge (c : Chan) : (c.conflict).bridge = c.bridge := rfl
@[simp] theorem Chan.conflict_pair (c : Chan) : (c.conflict).pair = c.pair := rfl
@[simp] theorem Chan.conflict_field (c : Chan) : (c.conflict).field = c.field := rfl
@[simp] theorem Chan.conflict_sd (c : Chan) : (c.conflict).sd = c.sd := rfl
@[simp] theorem Chan.conflict_dict (c : Chan) : (c.conflict).dict = c.dict := rfl
@[simp] theorem Chan.conflict_upd (c : Chan) : (c.conflict).upd = c.upd := rfl
@[simp] theorem Chan.conflict_chron (c : Chan) : (c.conflict).chron = c.chron := rfl
@[simp] theorem Chan.conflict_compat (c : Chan) : (c.conflict).compat = c.compat := rfl
@[simp] theorem Chan.conflict_host (c : Chan) : (c.conflict).host = c.host := rfl
@[simp] theorem Chan.conflict_mem (c : Chan) : (c.conflict).mem = c.mem := rfl
@[simp] theorem Chan.conflict_sent (c : Chan) : (c.conflict).sent = c.sent := rfl

/-! Chan.updSlotN -/

@[simp] theorem Chan.updSlotN_sys (c : Chan) (n : Nat) (f : Slot → Slot) : (c.updSlotN n f).sys = c.sys := rfl
@[simp] theorem Chan.updSlotN_pwr (c : Chan) (n : Nat) (f : Slot → Slot) : (c.updSlotN n f).pwr = c.pwr := rfl
@[simp] theorem Chan.updSlotN_clk (c : Chan) (n : Nat) (f : Slot → Slot) : (c.updSlotN n f).clk = c.clk := rfl
@[simp] theorem Chan.updSlotN_tb (c : Chan) (n : Nat) (f : Slot → Slot) : (c.updSlotN n f).tb = c.tb := rfl
@[simp] theorem Chan.updSlotN_assay (c : Chan) (n : Nat) (f : Slot → Slot) : (c.updSlotN n f).assay = c.assay := rfl
@[simp] theorem Chan.updSlotN_mram (c : Chan) (n : Nat) (f : Slot → Slot) : (c.updSlotN n f).mram = c.mram := rfl
@[simp] theorem Chan.updSlotN_xl (c : Chan) (n : Nat) (f : Slot → Slot) : (c.updSlotN n f).xl = c.xl := rfl
@[simp] theorem Chan.updSlotN_cells (c : Chan) (n : Nat) (f : Slot → Slot) : (c.updSlotN n f).cells = c.cells := rfl
@[simp] theorem Chan.updSlotN_dbg (c : Chan) (n : Nat) (f : Slot → Slot) : (c.updSlotN n f).dbg = c.dbg := rfl
@[simp] theorem Chan.updSlotN_sl (c : Chan) (n : Nat) (f : Slot → Slot) : (c.updSlotN n f).sl = c.sl := rfl
@[simp] theorem Chan.updSlotN_vote (c : Chan) (n : Nat) (f : Slot → Slot) : (c.updSlotN n f).vote = c.vote := rfl
@[simp] theorem Chan.updSlotN_chg (c : Chan) (n : Nat) (f : Slot → Slot) : (c.updSlotN n f).chg = c.chg := rfl
@[simp] theorem Chan.updSlotN_mill (c : Chan) (n : Nat) (f : Slot → Slot) : (c.updSlotN n f).mill = c.mill := rfl
@[simp] theorem Chan.updSlotN_ecn (c : Chan) (n : Nat) (f : Slot → Slot) : (c.updSlotN n f).ecn = c.ecn := rfl
@[simp] theorem Chan.updSlotN_mvb (c : Chan) (n : Nat) (f : Slot → Slot) : (c.updSlotN n f).mvb = c.mvb := rfl
@[simp] theorem Chan.updSlotN_bridge (c : Chan) (n : Nat) (f : Slot → Slot) : (c.updSlotN n f).bridge = { c.bridge with slots := modAt f n c.bridge.slots } := rfl
@[simp] theorem Chan.updSlotN_pair (c : Chan) (n : Nat) (f : Slot → Slot) : (c.updSlotN n f).pair = c.pair := rfl
@[simp] theorem Chan.updSlotN_field (c : Chan) (n : Nat) (f : Slot → Slot) : (c.updSlotN n f).field = c.field := rfl
@[simp] theorem Chan.updSlotN_sd (c : Chan) (n : Nat) (f : Slot → Slot) : (c.updSlotN n f).sd = c.sd := rfl
@[simp] theorem Chan.updSlotN_dict (c : Chan) (n : Nat) (f : Slot → Slot) : (c.updSlotN n f).dict = c.dict := rfl
@[simp] theorem Chan.updSlotN_upd (c : Chan) (n : Nat) (f : Slot → Slot) : (c.updSlotN n f).upd = c.upd := rfl
@[simp] theorem Chan.updSlotN_chron (c : Chan) (n : Nat) (f : Slot → Slot) : (c.updSlotN n f).chron = c.chron := rfl
@[simp] theorem Chan.updSlotN_compat (c : Chan) (n : Nat) (f : Slot → Slot) : (c.updSlotN n f).compat = c.compat := rfl
@[simp] theorem Chan.updSlotN_host (c : Chan) (n : Nat) (f : Slot → Slot) : (c.updSlotN n f).host = c.host := rfl
@[simp] theorem Chan.updSlotN_mem (c : Chan) (n : Nat) (f : Slot → Slot) : (c.updSlotN n f).mem = c.mem := rfl
@[simp] theorem Chan.updSlotN_sent (c : Chan) (n : Nat) (f : Slot → Slot) : (c.updSlotN n f).sent = c.sent := rfl

/-! Chan.setEnd -/

@[simp] theorem Chan.setEnd_sys (c : Chan) (l : Link) (f : LinkEnd → LinkEnd) : (c.setEnd l f).sys = c.sys := by cases l <;> rfl
@[simp] theorem Chan.setEnd_pwr (c : Chan) (l : Link) (f : LinkEnd → LinkEnd) : (c.setEnd l f).pwr = c.pwr := by cases l <;> rfl
@[simp] theorem Chan.setEnd_clk (c : Chan) (l : Link) (f : LinkEnd → LinkEnd) : (c.setEnd l f).clk = c.clk := by cases l <;> rfl
@[simp] theorem Chan.setEnd_tb (c : Chan) (l : Link) (f : LinkEnd → LinkEnd) : (c.setEnd l f).tb = c.tb := by cases l <;> rfl
@[simp] theorem Chan.setEnd_assay (c : Chan) (l : Link) (f : LinkEnd → LinkEnd) : (c.setEnd l f).assay = c.assay := by cases l <;> rfl
@[simp] theorem Chan.setEnd_mram (c : Chan) (l : Link) (f : LinkEnd → LinkEnd) : (c.setEnd l f).mram = c.mram := by cases l <;> rfl
@[simp] theorem Chan.setEnd_cells (c : Chan) (l : Link) (f : LinkEnd → LinkEnd) : (c.setEnd l f).cells = c.cells := by cases l <;> rfl
@[simp] theorem Chan.setEnd_dbg (c : Chan) (l : Link) (f : LinkEnd → LinkEnd) : (c.setEnd l f).dbg = c.dbg := by cases l <;> rfl
@[simp] theorem Chan.setEnd_sl (c : Chan) (l : Link) (f : LinkEnd → LinkEnd) : (c.setEnd l f).sl = c.sl := by cases l <;> rfl
@[simp] theorem Chan.setEnd_vote (c : Chan) (l : Link) (f : LinkEnd → LinkEnd) : (c.setEnd l f).vote = c.vote := by cases l <;> rfl
@[simp] theorem Chan.setEnd_chg (c : Chan) (l : Link) (f : LinkEnd → LinkEnd) : (c.setEnd l f).chg = c.chg := by cases l <;> rfl
@[simp] theorem Chan.setEnd_mill (c : Chan) (l : Link) (f : LinkEnd → LinkEnd) : (c.setEnd l f).mill = c.mill := by cases l <;> rfl
@[simp] theorem Chan.setEnd_ecn (c : Chan) (l : Link) (f : LinkEnd → LinkEnd) : (c.setEnd l f).ecn = c.ecn := by cases l <;> rfl
@[simp] theorem Chan.setEnd_mvb (c : Chan) (l : Link) (f : LinkEnd → LinkEnd) : (c.setEnd l f).mvb = c.mvb := by cases l <;> rfl
@[simp] theorem Chan.setEnd_bridge (c : Chan) (l : Link) (f : LinkEnd → LinkEnd) : (c.setEnd l f).bridge = c.bridge := by cases l <;> rfl
@[simp] theorem Chan.setEnd_pair (c : Chan) (l : Link) (f : LinkEnd → LinkEnd) : (c.setEnd l f).pair = c.pair := by cases l <;> rfl
@[simp] theorem Chan.setEnd_field (c : Chan) (l : Link) (f : LinkEnd → LinkEnd) : (c.setEnd l f).field = c.field := by cases l <;> rfl
@[simp] theorem Chan.setEnd_sd (c : Chan) (l : Link) (f : LinkEnd → LinkEnd) : (c.setEnd l f).sd = c.sd := by cases l <;> rfl
@[simp] theorem Chan.setEnd_dict (c : Chan) (l : Link) (f : LinkEnd → LinkEnd) : (c.setEnd l f).dict = c.dict := by cases l <;> rfl
@[simp] theorem Chan.setEnd_upd (c : Chan) (l : Link) (f : LinkEnd → LinkEnd) : (c.setEnd l f).upd = c.upd := by cases l <;> rfl
@[simp] theorem Chan.setEnd_chron (c : Chan) (l : Link) (f : LinkEnd → LinkEnd) : (c.setEnd l f).chron = c.chron := by cases l <;> rfl
@[simp] theorem Chan.setEnd_compat (c : Chan) (l : Link) (f : LinkEnd → LinkEnd) : (c.setEnd l f).compat = c.compat := by cases l <;> rfl
@[simp] theorem Chan.setEnd_host (c : Chan) (l : Link) (f : LinkEnd → LinkEnd) : (c.setEnd l f).host = c.host := by cases l <;> rfl
@[simp] theorem Chan.setEnd_mem (c : Chan) (l : Link) (f : LinkEnd → LinkEnd) : (c.setEnd l f).mem = c.mem := by cases l <;> rfl
@[simp] theorem Chan.setEnd_sent (c : Chan) (l : Link) (f : LinkEnd → LinkEnd) : (c.setEnd l f).sent = c.sent := by cases l <;> rfl
@[simp] theorem Chan.setEnd_lend_self (c : Chan) (l : Link) (f : LinkEnd → LinkEnd) : (c.setEnd l f).lend l = f (c.lend l) := by cases l <;> rfl

/-! Chan.post: everything but the chronicle -/

@[simp] theorem Chan.post_sys (c : Chan) (t o : Nat) (p : List Byte) : (c.post t o p).sys = c.sys := by unfold Chan.post; split <;> (try split) <;> rfl
@[simp] theorem Chan.log_sys (c : Chan) (t : Nat) (p : List Byte) : (c.log t p).sys = c.sys := Chan.post_sys c t 16 p
@[simp] theorem Chan.post_pwr (c : Chan) (t o : Nat) (p : List Byte) : (c.post t o p).pwr = c.pwr := by unfold Chan.post; split <;> (try split) <;> rfl
@[simp] theorem Chan.log_pwr (c : Chan) (t : Nat) (p : List Byte) : (c.log t p).pwr = c.pwr := Chan.post_pwr c t 16 p
@[simp] theorem Chan.post_clk (c : Chan) (t o : Nat) (p : List Byte) : (c.post t o p).clk = c.clk := by unfold Chan.post; split <;> (try split) <;> rfl
@[simp] theorem Chan.log_clk (c : Chan) (t : Nat) (p : List Byte) : (c.log t p).clk = c.clk := Chan.post_clk c t 16 p
@[simp] theorem Chan.post_tb (c : Chan) (t o : Nat) (p : List Byte) : (c.post t o p).tb = c.tb := by unfold Chan.post; split <;> (try split) <;> rfl
@[simp] theorem Chan.log_tb (c : Chan) (t : Nat) (p : List Byte) : (c.log t p).tb = c.tb := Chan.post_tb c t 16 p
@[simp] theorem Chan.post_assay (c : Chan) (t o : Nat) (p : List Byte) : (c.post t o p).assay = c.assay := by unfold Chan.post; split <;> (try split) <;> rfl
@[simp] theorem Chan.log_assay (c : Chan) (t : Nat) (p : List Byte) : (c.log t p).assay = c.assay := Chan.post_assay c t 16 p
@[simp] theorem Chan.post_mram (c : Chan) (t o : Nat) (p : List Byte) : (c.post t o p).mram = c.mram := by unfold Chan.post; split <;> (try split) <;> rfl
@[simp] theorem Chan.log_mram (c : Chan) (t : Nat) (p : List Byte) : (c.log t p).mram = c.mram := Chan.post_mram c t 16 p
@[simp] theorem Chan.post_xl (c : Chan) (t o : Nat) (p : List Byte) : (c.post t o p).xl = c.xl := by unfold Chan.post; split <;> (try split) <;> rfl
@[simp] theorem Chan.log_xl (c : Chan) (t : Nat) (p : List Byte) : (c.log t p).xl = c.xl := Chan.post_xl c t 16 p
@[simp] theorem Chan.post_cells (c : Chan) (t o : Nat) (p : List Byte) : (c.post t o p).cells = c.cells := by unfold Chan.post; split <;> (try split) <;> rfl
@[simp] theorem Chan.log_cells (c : Chan) (t : Nat) (p : List Byte) : (c.log t p).cells = c.cells := Chan.post_cells c t 16 p
@[simp] theorem Chan.post_dbg (c : Chan) (t o : Nat) (p : List Byte) : (c.post t o p).dbg = c.dbg := by unfold Chan.post; split <;> (try split) <;> rfl
@[simp] theorem Chan.log_dbg (c : Chan) (t : Nat) (p : List Byte) : (c.log t p).dbg = c.dbg := Chan.post_dbg c t 16 p
@[simp] theorem Chan.post_sl (c : Chan) (t o : Nat) (p : List Byte) : (c.post t o p).sl = c.sl := by unfold Chan.post; split <;> (try split) <;> rfl
@[simp] theorem Chan.log_sl (c : Chan) (t : Nat) (p : List Byte) : (c.log t p).sl = c.sl := Chan.post_sl c t 16 p
@[simp] theorem Chan.post_vote (c : Chan) (t o : Nat) (p : List Byte) : (c.post t o p).vote = c.vote := by unfold Chan.post; split <;> (try split) <;> rfl
@[simp] theorem Chan.log_vote (c : Chan) (t : Nat) (p : List Byte) : (c.log t p).vote = c.vote := Chan.post_vote c t 16 p
@[simp] theorem Chan.post_chg (c : Chan) (t o : Nat) (p : List Byte) : (c.post t o p).chg = c.chg := by unfold Chan.post; split <;> (try split) <;> rfl
@[simp] theorem Chan.log_chg (c : Chan) (t : Nat) (p : List Byte) : (c.log t p).chg = c.chg := Chan.post_chg c t 16 p
@[simp] theorem Chan.post_mill (c : Chan) (t o : Nat) (p : List Byte) : (c.post t o p).mill = c.mill := by unfold Chan.post; split <;> (try split) <;> rfl
@[simp] theorem Chan.log_mill (c : Chan) (t : Nat) (p : List Byte) : (c.log t p).mill = c.mill := Chan.post_mill c t 16 p
@[simp] theorem Chan.post_ecn (c : Chan) (t o : Nat) (p : List Byte) : (c.post t o p).ecn = c.ecn := by unfold Chan.post; split <;> (try split) <;> rfl
@[simp] theorem Chan.log_ecn (c : Chan) (t : Nat) (p : List Byte) : (c.log t p).ecn = c.ecn := Chan.post_ecn c t 16 p
@[simp] theorem Chan.post_mvb (c : Chan) (t o : Nat) (p : List Byte) : (c.post t o p).mvb = c.mvb := by unfold Chan.post; split <;> (try split) <;> rfl
@[simp] theorem Chan.log_mvb (c : Chan) (t : Nat) (p : List Byte) : (c.log t p).mvb = c.mvb := Chan.post_mvb c t 16 p
@[simp] theorem Chan.post_bridge (c : Chan) (t o : Nat) (p : List Byte) : (c.post t o p).bridge = c.bridge := by unfold Chan.post; split <;> (try split) <;> rfl
@[simp] theorem Chan.log_bridge (c : Chan) (t : Nat) (p : List Byte) : (c.log t p).bridge = c.bridge := Chan.post_bridge c t 16 p
@[simp] theorem Chan.post_pair (c : Chan) (t o : Nat) (p : List Byte) : (c.post t o p).pair = c.pair := by unfold Chan.post; split <;> (try split) <;> rfl
@[simp] theorem Chan.log_pair (c : Chan) (t : Nat) (p : List Byte) : (c.log t p).pair = c.pair := Chan.post_pair c t 16 p
@[simp] theorem Chan.post_field (c : Chan) (t o : Nat) (p : List Byte) : (c.post t o p).field = c.field := by unfold Chan.post; split <;> (try split) <;> rfl
@[simp] theorem Chan.log_field (c : Chan) (t : Nat) (p : List Byte) : (c.log t p).field = c.field := Chan.post_field c t 16 p
@[simp] theorem Chan.post_sd (c : Chan) (t o : Nat) (p : List Byte) : (c.post t o p).sd = c.sd := by unfold Chan.post; split <;> (try split) <;> rfl
@[simp] theorem Chan.log_sd (c : Chan) (t : Nat) (p : List Byte) : (c.log t p).sd = c.sd := Chan.post_sd c t 16 p
@[simp] theorem Chan.post_dict (c : Chan) (t o : Nat) (p : List Byte) : (c.post t o p).dict = c.dict := by unfold Chan.post; split <;> (try split) <;> rfl
@[simp] theorem Chan.log_dict (c : Chan) (t : Nat) (p : List Byte) : (c.log t p).dict = c.dict := Chan.post_dict c t 16 p
@[simp] theorem Chan.post_upd (c : Chan) (t o : Nat) (p : List Byte) : (c.post t o p).upd = c.upd := by unfold Chan.post; split <;> (try split) <;> rfl
@[simp] theorem Chan.log_upd (c : Chan) (t : Nat) (p : List Byte) : (c.log t p).upd = c.upd := Chan.post_upd c t 16 p
@[simp] theorem Chan.post_compat (c : Chan) (t o : Nat) (p : List Byte) : (c.post t o p).compat = c.compat := by unfold Chan.post; split <;> (try split) <;> rfl
@[simp] theorem Chan.log_compat (c : Chan) (t : Nat) (p : List Byte) : (c.log t p).compat = c.compat := Chan.post_compat c t 16 p
@[simp] theorem Chan.post_host (c : Chan) (t o : Nat) (p : List Byte) : (c.post t o p).host = c.host := by unfold Chan.post; split <;> (try split) <;> rfl
@[simp] theorem Chan.log_host (c : Chan) (t : Nat) (p : List Byte) : (c.log t p).host = c.host := Chan.post_host c t 16 p
@[simp] theorem Chan.post_mem (c : Chan) (t o : Nat) (p : List Byte) : (c.post t o p).mem = c.mem := by unfold Chan.post; split <;> (try split) <;> rfl
@[simp] theorem Chan.log_mem (c : Chan) (t : Nat) (p : List Byte) : (c.log t p).mem = c.mem := Chan.post_mem c t 16 p
@[simp] theorem Chan.post_sent (c : Chan) (t o : Nat) (p : List Byte) : (c.post t o p).sent = c.sent := by unfold Chan.post; split <;> (try split) <;> rfl
@[simp] theorem Chan.log_sent (c : Chan) (t : Nat) (p : List Byte) : (c.log t p).sent = c.sent := Chan.post_sent c t 16 p

/-! Chan.notice: everything but the vote -/

@[simp] theorem Chan.notice_sys (c : Chan) (a : Ch) (n : Nat) : (c.notice a n).sys = c.sys := by simp only [Chan.notice]; split <;> rfl
@[simp] theorem Chan.notice_pwr (c : Chan) (a : Ch) (n : Nat) : (c.notice a n).pwr = c.pwr := by simp only [Chan.notice]; split <;> rfl
@[simp] theorem Chan.notice_clk (c : Chan) (a : Ch) (n : Nat) : (c.notice a n).clk = c.clk := by simp only [Chan.notice]; split <;> rfl
@[simp] theorem Chan.notice_tb (c : Chan) (a : Ch) (n : Nat) : (c.notice a n).tb = c.tb := by simp only [Chan.notice]; split <;> rfl
@[simp] theorem Chan.notice_assay (c : Chan) (a : Ch) (n : Nat) : (c.notice a n).assay = c.assay := by simp only [Chan.notice]; split <;> rfl
@[simp] theorem Chan.notice_mram (c : Chan) (a : Ch) (n : Nat) : (c.notice a n).mram = c.mram := by simp only [Chan.notice]; split <;> rfl
@[simp] theorem Chan.notice_xl (c : Chan) (a : Ch) (n : Nat) : (c.notice a n).xl = c.xl := by simp only [Chan.notice]; split <;> rfl
@[simp] theorem Chan.notice_cells (c : Chan) (a : Ch) (n : Nat) : (c.notice a n).cells = c.cells := by simp only [Chan.notice]; split <;> rfl
@[simp] theorem Chan.notice_dbg (c : Chan) (a : Ch) (n : Nat) : (c.notice a n).dbg = c.dbg := by simp only [Chan.notice]; split <;> rfl
@[simp] theorem Chan.notice_sl (c : Chan) (a : Ch) (n : Nat) : (c.notice a n).sl = c.sl := by simp only [Chan.notice]; split <;> rfl
@[simp] theorem Chan.notice_chg (c : Chan) (a : Ch) (n : Nat) : (c.notice a n).chg = c.chg := by simp only [Chan.notice]; split <;> rfl
@[simp] theorem Chan.notice_mill (c : Chan) (a : Ch) (n : Nat) : (c.notice a n).mill = c.mill := by simp only [Chan.notice]; split <;> rfl
@[simp] theorem Chan.notice_ecn (c : Chan) (a : Ch) (n : Nat) : (c.notice a n).ecn = c.ecn := by simp only [Chan.notice]; split <;> rfl
@[simp] theorem Chan.notice_mvb (c : Chan) (a : Ch) (n : Nat) : (c.notice a n).mvb = c.mvb := by simp only [Chan.notice]; split <;> rfl
@[simp] theorem Chan.notice_bridge (c : Chan) (a : Ch) (n : Nat) : (c.notice a n).bridge = c.bridge := by simp only [Chan.notice]; split <;> rfl
@[simp] theorem Chan.notice_pair (c : Chan) (a : Ch) (n : Nat) : (c.notice a n).pair = c.pair := by simp only [Chan.notice]; split <;> rfl
@[simp] theorem Chan.notice_field (c : Chan) (a : Ch) (n : Nat) : (c.notice a n).field = c.field := by simp only [Chan.notice]; split <;> rfl
@[simp] theorem Chan.notice_sd (c : Chan) (a : Ch) (n : Nat) : (c.notice a n).sd = c.sd := by simp only [Chan.notice]; split <;> rfl
@[simp] theorem Chan.notice_dict (c : Chan) (a : Ch) (n : Nat) : (c.notice a n).dict = c.dict := by simp only [Chan.notice]; split <;> rfl
@[simp] theorem Chan.notice_upd (c : Chan) (a : Ch) (n : Nat) : (c.notice a n).upd = c.upd := by simp only [Chan.notice]; split <;> rfl
@[simp] theorem Chan.notice_chron (c : Chan) (a : Ch) (n : Nat) : (c.notice a n).chron = c.chron := by simp only [Chan.notice]; split <;> rfl
@[simp] theorem Chan.notice_compat (c : Chan) (a : Ch) (n : Nat) : (c.notice a n).compat = c.compat := by simp only [Chan.notice]; split <;> rfl
@[simp] theorem Chan.notice_host (c : Chan) (a : Ch) (n : Nat) : (c.notice a n).host = c.host := by simp only [Chan.notice]; split <;> rfl
@[simp] theorem Chan.notice_mem (c : Chan) (a : Ch) (n : Nat) : (c.notice a n).mem = c.mem := by simp only [Chan.notice]; split <;> rfl
@[simp] theorem Chan.notice_sent (c : Chan) (a : Ch) (n : Nat) : (c.notice a n).sent = c.sent := by simp only [Chan.notice]; split <;> rfl

end Sys2Proof.Machine
end

