-- ==== Sys2Proof/Laws/Memory.lean ====
section
/-! SUPPORT. Memory and the list operations: a write keeps the canonical form, a read after it, element updates, association lists. -/

namespace Sys2Proof.Machine
open Sys2Proof

/-! Memory -/

theorem memWfFrom_weaken {lo lo' : Nat} (h : lo' ≤ lo) : ∀ {m : List Host.Cell}, memWfFrom lo m = true → memWfFrom lo' m = true
  | [], _ => rfl
  | (k, v) :: r, hw => by
    simp only [memWfFrom, Bool.and_eq_true, decide_eq_true_eq] at hw ⊢
    exact ⟨⟨by omega, hw.1.2⟩, hw.2⟩

theorem memWfFrom_filter (p : Host.Cell → Bool) : ∀ {lo : Nat} {m : List Host.Cell}, memWfFrom lo m = true → memWfFrom lo (m.filter p) = true
  | _, [], _ => rfl
  | lo, (k, v) :: r, hw => by
    simp only [memWfFrom, Bool.and_eq_true, decide_eq_true_eq] at hw
    rw [List.filter_cons]
    split
    · simp only [memWfFrom, Bool.and_eq_true, decide_eq_true_eq]
      exact ⟨hw.1, memWfFrom_filter p hw.2⟩
    · exact memWfFrom_weaken (by omega) (memWfFrom_filter p hw.2)

theorem memPut_wfFrom {a : Nat} {b : Byte} (hb : b ≠ memDefault a) : ∀ {lo : Nat} {m : List Host.Cell}, lo ≤ a → memWfFrom lo m = true →
    memWfFrom lo (memPut m a b) = true
  | lo, [], h, _ => by simp [memPut, memWfFrom, h, hb]
  | lo, (k, v) :: r, h, hw => by
    simp only [memWfFrom, Bool.and_eq_true, decide_eq_true_eq] at hw
    unfold memPut
    split
    · simp only [memWfFrom, Bool.and_eq_true, decide_eq_true_eq]
      exact ⟨⟨h, hb⟩, ⟨by omega, hw.1.2⟩, hw.2⟩
    · split
      · subst_vars
        simp only [memWfFrom, Bool.and_eq_true, decide_eq_true_eq]
        exact ⟨⟨h, hb⟩, hw.2⟩
      · simp only [memWfFrom, Bool.and_eq_true, decide_eq_true_eq]
        exact ⟨hw.1, memPut_wfFrom hb (by omega) hw.2⟩

/-- A write keeps the canonical form. -/
theorem memWrite_wf {m : List Host.Cell} (a : Nat) (b : Byte) (h : Memory.wf m = true) : Memory.wf (memWrite m a b) = true := by
  unfold memWrite
  split
  · exact memWfFrom_filter _ h
  · exact memPut_wfFrom (by assumption) (Nat.zero_le a) h

/-- A read after a write to the same address gives the octet written. -/
theorem memRead_memWrite_self (m : List Host.Cell) (a : Nat) (b : Byte) : memRead (memWrite m a b) a = b := by
  unfold memWrite
  split
  · subst_vars
    induction m with
    | nil => rfl
    | cons x r ih =>
      rw [List.filter_cons]
      split
      · rename_i h
        simp only [memRead]
        rw [if_neg (by simpa using h)]
        exact ih
      · exact ih
  · induction m with
    | nil => simp [memPut, memRead]
    | cons x r ih =>
      unfold memPut
      split
      · simp [memRead]
      · split
        · simp [memRead]
        · simp only [memRead]
          rw [if_neg (by assumption)]
          exact ih

/-- A write leaves every other address alone. -/
theorem memRead_memWrite_other (m : List Host.Cell) {a x : Nat} (b : Byte) (hx : x ≠ a) : memRead (memWrite m a b) x = memRead m x := by
  unfold memWrite
  split
  · induction m with
    | nil => rfl
    | cons y r ih =>
      rw [List.filter_cons]
      split
      · simp only [memRead, ih]
      · rename_i h
        have e : y.1 = a := by simpa using h
        simp only [memRead]
        rw [if_neg (by omega)]
        exact ih
  · induction m with
    | nil =>
      simp only [memPut, memRead]
      rw [if_neg (Ne.symm hx)]
    | cons y r ih =>
      unfold memPut
      split
      · simp only [memRead]
        rw [if_neg (Ne.symm hx)]
      · split
        · simp only [memRead]
          rw [if_neg (Ne.symm hx), if_neg (by omega)]
        · simp only [memRead, ih]

theorem memWfFrom_append : ∀ {l1 l2 : List Host.Cell} {lo mid : Nat}, memWfFrom lo l1 = true → (∀ x ∈ l1, x.1 < mid) → lo ≤ mid →
    memWfFrom mid l2 = true → memWfFrom lo (l1 ++ l2) = true
  | [], _, _, _, _, _, h, h2 => memWfFrom_weaken h h2
  | (k, v) :: r, l2, lo, mid, h1, hk, _, h2 => by
    simp only [memWfFrom, Bool.and_eq_true, decide_eq_true_eq, List.cons_append] at h1 ⊢
    have : k < mid := hk (k, v) (List.mem_cons_self ..)
    exact ⟨h1.1, memWfFrom_append h1.2 (fun x hx => hk x (List.mem_cons_of_mem _ hx)) (by omega) h2⟩

theorem memWfFrom_raise : ∀ {m : List Host.Cell} {lo b : Nat}, memWfFrom lo m = true → (∀ x ∈ m, b ≤ x.1) → memWfFrom b m = true
  | [], _, _, _, _ => rfl
  | (k, v) :: r, lo, b, h, hb => by
    simp only [memWfFrom, Bool.and_eq_true, decide_eq_true_eq] at h ⊢
    exact ⟨⟨hb (k, v) (List.mem_cons_self ..), h.1.2⟩, h.2⟩

/-- The octets of a fill above the boot ROM, without those that read as the default. -/
theorem memFill_octets {base : Nat} (hb : 0x10000 ≤ base) : ∀ (bs : List Byte) (n : Nat),
    memWfFrom (base + n) ((bs.zipIdx n).filterMap (fun x => if x.1 = 0#8 then none else some (base + x.2, x.1))) = true ∧
    ∀ x ∈ (bs.zipIdx n).filterMap (fun x => if x.1 = 0#8 then none else some (base + x.2, x.1)), base ≤ x.1 ∧ x.1 < base + n + bs.length
  | [], _ => ⟨rfl, by simp⟩
  | b :: bs, n => by
    obtain ⟨h1, h2⟩ := memFill_octets hb bs (n + 1)
    have h3 : ∀ x ∈ (bs.zipIdx (n + 1)).filterMap (fun x => if x.1 = 0#8 then none else some (base + x.2, x.1)),
        base ≤ x.1 ∧ x.1 < base + n + (b :: bs).length := fun x hx => ⟨(h2 x hx).1, by have := (h2 x hx).2; simp only [List.length_cons]; omega⟩
    rw [List.zipIdx_cons, List.filterMap_cons]
    split
    · exact ⟨memWfFrom_weaken (by omega) h1, h3⟩
    · rename_i c hc
      split at hc
      · cases hc
      · rename_i hz
        cases hc
        refine ⟨?_, ?_⟩
        · simp only [memWfFrom, Bool.and_eq_true, decide_eq_true_eq, memDefault]
          rw [if_neg (by omega)]
          exact ⟨⟨Nat.le_refl _, hz⟩, h1⟩
        · intro x hx
          cases hx with
          | head => simp only [List.length_cons]; omega
          | tail _ hx => exact h3 x hx

/-- A fill above the boot ROM keeps the canonical form. -/
theorem memFill_wf {m : List Host.Cell} {base : Nat} (bs : List Byte) (hb : 0x10000 ≤ base) (h : Memory.wf m = true) :
    Memory.wf (memFill m base bs) = true := by
  unfold memFill Memory.wf
  obtain ⟨h1, h2⟩ := memFill_octets hb bs 0
  refine memWfFrom_append (mid := base + bs.length) (memWfFrom_append (mid := base) (memWfFrom_filter _ h) ?_ (Nat.zero_le _) h1) ?_ (Nat.zero_le _)
    (memWfFrom_raise (memWfFrom_filter _ h) ?_)
  · intro x hx
    simpa using (List.mem_filter.1 hx).2
  · intro x hx
    rcases List.mem_append.1 hx with hx | hx
    · have : x.1 < base := by simpa using (List.mem_filter.1 hx).2
      omega
    · have := (h2 x hx).2
      omega
  · intro x hx
    simpa using (List.mem_filter.1 hx).2

/-! Elements of lists -/

@[simp] theorem length_modAt {α : Type} (f : α → α) : ∀ (n : Nat) (l : List α), (modAt f n l).length = l.length
  | _, [] => by simp [modAt]
  | 0, x :: xs => by simp [modAt]
  | n + 1, x :: xs => by simp [modAt, length_modAt f n xs]

theorem atD_modAt_self {α : Type} (d : α) (f : α → α) : ∀ {n : Nat} {l : List α}, n < l.length → atD d n (modAt f n l) = f (atD d n l)
  | _, [], h => absurd h (Nat.not_lt_zero _)
  | 0, x :: xs, _ => rfl
  | n + 1, _ :: xs, h => by
    have h' : n < xs.length := by simpa using h
    exact atD_modAt_self (n := n) (l := xs) d f h'

theorem atD_modAt_other {α : Type} (d : α) (f : α → α) : ∀ {n k : Nat} (l : List α), k ≠ n → atD d k (modAt f n l) = atD d k l
  | _, _, [], _ => by simp [modAt]
  | 0, 0, _ :: _, h => absurd rfl h
  | 0, _ + 1, _ :: _, _ => rfl
  | _ + 1, 0, _ :: _, _ => rfl
  | _ + 1, _ + 1, _ :: xs, h => atD_modAt_other d f xs (fun e => h (by rw [e]))

theorem assocD_assocSet_self {α β : Type} [DecidableEq α] (d : β) (k : α) (v : β) : ∀ l : List (α × β), assocD d k (assocSet k v l) = v
  | [] => by simp [assocSet, assocD]
  | (a, b) :: r => by
    unfold assocSet
    split
    · simp [assocD]
    · simp only [assocD]
      rw [if_neg (by assumption)]
      exact assocD_assocSet_self d k v r

theorem assocD_assocSet_other {α β : Type} [DecidableEq α] (d : β) {k j : α} (v : β) (h : j ≠ k) : ∀ l : List (α × β), assocD d j (assocSet k v l) = assocD d j l
  | [] => by
    simp only [assocSet, assocD]
    rw [if_neg (fun e => h e.symm)]
  | (a, b) :: r => by
    unfold assocSet
    split
    · subst_vars
      simp only [assocD]
      rw [if_neg (fun e => h e.symm), if_neg (fun e => h e.symm)]
    · simp only [assocD]
      split
      · rfl
      · exact assocD_assocSet_other d v h r

end Sys2Proof.Machine
end

