-- ==== Sys2Proof/Laws/Links.lean ====
section
/-! SUPPORT. The cross links: what sending and receiving can do to the messages in flight and to the channels (R32 to R35). -/

namespace Sys2Proof.Machine
open Sys2Proof

@[simp] theorem State.send_chan (s : State) (tx rx x : Ch) (b : XBody) : (s.send tx rx b).chan x = s.chan x := by
  unfold State.send; repeat' split
  all_goals rfl
@[simp] theorem State.send_free (s : State) (tx rx : Ch) (b : XBody) : (s.send tx rx b).free = s.free := by
  unfold State.send; repeat' split
  all_goals rfl
@[simp] theorem State.send_pending (s : State) (tx rx : Ch) (b : XBody) : (s.send tx rx b).pending = s.pending := by
  unfold State.send; repeat' split
  all_goals rfl

/-- Sending puts at most one message on the wire: directly, or for classes 1 and 2 towards the third channel. -/
theorem State.send_wire (s : State) (tx rx : Ch) (b : XBody) :
    (s.send tx rx b).wire = s.wire ∨ (tx ≠ rx ∧ (s.send tx rx b).wire = s.wire ++ [⟨tx, rx, .direct, b⟩]) ∨
    (tx ≠ rx ∧ b.cls ≤ 2 ∧ (s.send tx rx b).wire = s.wire ++ [⟨tx, rx, .toRelay (third tx rx), b⟩]) := by
  unfold State.send
  split
  · exact .inl rfl
  · rename_i h
    have h : tx ≠ rx := fun e => h (by simp [e])
    split
    · exact .inr (.inl ⟨h, rfl⟩)
    · split
      · rename_i h2
        simp only [State.relays, Bool.and_eq_true, decide_eq_true_eq] at h2
        exact .inr (.inr ⟨h, h2.1.1, rfl⟩)
      · exact .inl rfl

@[simp] theorem State.sendBoth_chan (s : State) (tx x : Ch) (b : XBody) : (s.sendBoth tx b).chan x = s.chan x := by simp [State.sendBoth]
@[simp] theorem State.sendBoth_free (s : State) (tx : Ch) (b : XBody) : (s.sendBoth tx b).free = s.free := by simp [State.sendBoth]
@[simp] theorem State.sendBoth_pending (s : State) (tx : Ch) (b : XBody) : (s.sendBoth tx b).pending = s.pending := by simp [State.sendBoth]

/-- What is taken off the wire satisfies the predicate and was on it. -/
theorem wireTake_some {p : XMsg → Bool} : ∀ {l w : List XMsg} {m : XMsg}, wireTake p l = some (m, w) → p m = true ∧ m ∈ l
  | [], _, _, h => by simp [wireTake] at h
  | x :: r, w, m, h => by
    unfold wireTake at h
    split at h
    · cases h; exact ⟨by assumption, List.mem_cons_self ..⟩
    · split at h
      · cases h
        rename_i h2
        exact ⟨(wireTake_some h2).1, List.mem_cons_of_mem _ (wireTake_some h2).2⟩
      · cases h

/-- What stays on the wire was on it. -/
theorem wireTake_rest {p : XMsg → Bool} : ∀ {l w : List XMsg} {m : XMsg}, wireTake p l = some (m, w) → ∀ x ∈ w, x ∈ l
  | [], _, _, h => by simp [wireTake] at h
  | y :: r, w, m, h => by
    unfold wireTake at h
    split at h
    · cases h; exact fun x hx => List.mem_cons_of_mem _ hx
    · split at h
      · cases h
        rename_i h2
        intro x hx
        cases hx with
        | head => exact List.mem_cons_self ..
        | tail _ hx => exact List.mem_cons_of_mem _ (wireTake_rest h2 x hx)
      · cases h

/-- A property of every message in flight stays when one is taken. -/
theorem wireTake_all {p q : XMsg → Bool} {l w : List XMsg} {m : XMsg} (h : wireTake p l = some (m, w)) (hq : l.all q = true) : w.all q = true :=
  List.all_eq_true.2 fun x hx => List.all_eq_true.1 hq x (wireTake_rest h x hx)

/-- Receiving: nothing there or a message of a higher class ahead of it; a message discarded and counted, with what its loss leaves; or one
handed on. -/
theorem State.recvOr_cases (s : State) (rx tx : Ch) (ok : Bool) (p : XBody → Bool) (bad : XBody → Chan → Chan) (f : XBody → State → State) :
    (s.recvOr rx tx ok p bad f = s) ∨ (∃ m w, wireTake (fun m => m.rx == rx && m.tx == tx && m.lastLink && p m.body) s.wire = some (m, w) ∧
      aheadOf s.wire m = false ∧ s.recvOr rx tx ok p bad f = if ok then f m.body { s with wire := w }
        else ({ s with wire := w } : State).upd rx (fun c => bad m.body c.discard)) := by
  unfold State.recvOr
  split
  · exact .inl rfl
  · rename_i m w h
    split
    · exact .inl rfl
    · rename_i h2
      exact .inr ⟨m, w, h, by simpa using h2, rfl⟩

/-- Receiving a message whose loss leaves nothing but its count. -/
theorem State.recv_cases (s : State) (rx tx : Ch) (ok : Bool) (p : XBody → Bool) (f : XBody → State → State) :
    (s.recv rx tx ok p f = s) ∨ (∃ m w, wireTake (fun m => m.rx == rx && m.tx == tx && m.lastLink && p m.body) s.wire = some (m, w) ∧
      aheadOf s.wire m = false ∧ s.recv rx tx ok p f = if ok then f m.body { s with wire := w } else ({ s with wire := w } : State).upd rx Chan.discard) :=
  s.recvOr_cases rx tx ok p _ f

/-- Receiving keeps the queue when what handles the message does. -/
theorem State.recv_pending (s : State) (rx tx : Ch) (ok : Bool) (p : XBody → Bool) (f : XBody → State → State)
    (h : ∀ b t, (f b t).pending = t.pending) : (s.recv rx tx ok p f).pending = s.pending := by
  obtain h1 | ⟨m, w, -, -, h1⟩ := s.recv_cases rx tx ok p f
  · rw [h1]
  · rw [h1]; split
    · exact h _ _
    · rfl

end Sys2Proof.Machine
end

