-- ==== Sys2Proof/Laws/Ops.lean ====
section
/-! SUPPORT. What the shared operations can do: guards, changes of one channel, received messages, modes and clocks, messages off the wire. -/

namespace Sys2Proof.Machine
open Sys2Proof Sys2Proof.Safety

/-! One channel -/

/-- Two changes that agree on the channel's value are the same change. -/
theorem State.upd_congr {s : State} {ch : Ch} {f g : Chan → Chan} (h : f (s.chan ch) = g (s.chan ch)) : s.upd ch f = s.upd ch g := by
  unfold State.upd
  unfold State.chan at h
  rw [h]

/-- A change that gives the channel back leaves the state. -/
theorem State.upd_id {s : State} {ch : Ch} {f : Chan → Chan} (h : f (s.chan ch) = s.chan ch) : s.upd ch f = s := by
  rw [State.upd_congr (g := fun c => c) h]
  exact State.upd_self s ch

theorem onlyChan_refl (ch : Ch) (s : State) : OnlyChan ch s s := ⟨fun _ _ => rfl, rfl, rfl⟩
theorem onlyChan_upd {ch : Ch} {s t : State} (f : Chan → Chan) (h : OnlyChan ch s t) : OnlyChan ch s (t.upd ch f) :=
  ⟨fun x hx => by rw [State.upd_chan_other _ _ hx, h.1 x hx], h.2.1, h.2.2⟩
theorem onlyChan_of_upd (ch : Ch) (s : State) (f : Chan → Chan) : OnlyChan ch s (s.upd ch f) := onlyChan_upd f (onlyChan_refl ch s)
theorem onlyChan_of_tick_upd (ch : Ch) (s : State) (f : Chan → Chan) : OnlyChan ch s (s.tick.upd ch f) :=
  ⟨fun x hx => by rw [State.upd_chan_other _ _ hx]; rfl, rfl, rfl⟩
theorem onlyChan_trans {ch : Ch} {s t u : State} (h : OnlyChan ch s t) (g : OnlyChan ch t u) : OnlyChan ch s u :=
  ⟨fun x hx => (g.1 x hx).trans (h.1 x hx), g.2.1.trans h.2.1, g.2.2.trans h.2.2⟩

/-! Guards -/

theorem guardC_true {b : Bool} {s t : State} (h : b = true) : guardC b s t = .next t := by simp [guardC, h]
theorem guardC_false {b : Bool} {s t : State} (h : b = false) : guardC b s t = .next s := by simp [guardC, h]

/-! Received messages (R35) -/

/-- A message whose check holds is handed on, off the wire. -/
theorem State.recvOr_arrives {s : State} {rx tx : Ch} {p : XBody → Bool} {m : XMsg} {w : List XMsg} (bad : XBody → Chan → Chan)
    (f : XBody → State → State) (h : Arrives s rx tx p m w) : s.recvOr rx tx true p bad f = f m.body { s with wire := w } := by
  unfold State.recvOr
  obtain ⟨h, ha⟩ := h
  rw [h]
  simp [ha]

/-- A message whose check fails is discarded and counted, with what its loss leaves. -/
theorem State.recvOr_damaged {s : State} {rx tx : Ch} {p : XBody → Bool} {m : XMsg} {w : List XMsg} (bad : XBody → Chan → Chan)
    (f : XBody → State → State) (h : Arrives s rx tx p m w) :
    s.recvOr rx tx false p bad f = { s with wire := w }.upd rx (fun c => bad m.body c.discard) := by
  unfold State.recvOr
  obtain ⟨h, ha⟩ := h
  rw [h]
  simp [ha]

/-- The same for a message whose loss leaves nothing but its count. -/
theorem State.recv_arrives {s : State} {rx tx : Ch} {p : XBody → Bool} {m : XMsg} {w : List XMsg} (f : XBody → State → State)
    (h : Arrives s rx tx p m w) : s.recv rx tx true p f = f m.body { s with wire := w } := State.recvOr_arrives _ f h
theorem State.recv_damaged {s : State} {rx tx : Ch} {p : XBody → Bool} {m : XMsg} {w : List XMsg} (f : XBody → State → State)
    (h : Arrives s rx tx p m w) : s.recv rx tx false p f = { s with wire := w }.upd rx Chan.discard := State.recvOr_damaged _ f h

/-- Between two different channels there is a link, and it is the next one exactly to the next channel. -/
theorem linkTo_of_ne {a b : Ch} (h : a ≠ b) : ∃ l, linkTo a b = some l ∧ (l = .next ↔ b = chNext a) := by
  cases a <;> cases b <;> simp_all [linkTo, chNext, chPrev]

/-! The chronicle (R428) -/

/-- A post changes the chronicle only. -/
theorem Chan.post_shape (c : Chan) (t o : Nat) (p : List Byte) : ∃ k, c.post t o p = { c with chron := k } := by
  unfold Chan.post
  dsimp only
  split
  · exact ⟨_, rfl⟩
  · split <;> exact ⟨_, rfl⟩

/-! Leaving VOTING and the safe-shutdown order (R39, R49, R333) -/

/-- Discarding an instance changes the cells and the slice engine. -/
theorem Chan.dropInst_shape (c : Chan) (n : Nat) : ∃ cs sl, c.dropInst n = { c with cells := cs, sl := sl } := ⟨_, _, rfl⟩

/-- A fold of discards changes the cells and the slice engine. -/
theorem Chan.dropFold_shape : ∀ (l : List TaskRt) (c : Chan), ∃ cs sl,
    l.foldl (fun (c : Chan) (t : TaskRt) => c.dropInst t.decl.num) c = { c with cells := cs, sl := sl }
  | [], _ => ⟨_, _, rfl⟩
  | t :: l, c => by
    rw [List.foldl_cons]
    obtain ⟨cs, sl, h⟩ := Chan.dropFold_shape l (c.dropInst t.decl.num)
    exact ⟨cs, sl, by rw [h]; rfl⟩

/-- A channel going OUT changes its state and its cells, slice engine, voting block, signal chain, transfers, ring node, bridge and journal. -/
theorem Chan.toOut_shape (c : Chan) : ∃ cs sl v m d u b j,
    c.toOut = { c with sys := { c.sys with cstate := .out }, cells := cs, sl := sl, vote := v, mill := m, sd := d, upd := u, bridge := b, dict := j } := by
  obtain ⟨cs, sl, h⟩ := Chan.dropFold_shape c.sl.tasks c
  unfold Chan.toOut Chan.dropAll
  rw [h]
  exact ⟨_, _, _, _, _, _, _, _, rfl⟩

/-- Leaving VOTING: OUT from VOTING, else nothing. -/
theorem Chan.leaveVoting_shape (c : Chan) : ∃ cs sl v m d u b j,
    c.leaveVoting = { c with
      sys := { c.sys with cstate := if c.sys.cstate = .voting then .out else c.sys.cstate }
      cells := cs, sl := sl, vote := v, mill := m, sd := d, upd := u, bridge := b, dict := j } := by
  unfold Chan.leaveVoting
  split
  · exact Chan.toOut_shape c
  · exact ⟨_, _, _, _, _, _, _, _, rfl⟩

/-- The safe-shutdown order changes the field block. -/
theorem Chan.safeShutdown_shape (c : Chan) : ∃ f, c.safeShutdown = { c with field := f } := by
  unfold Chan.safeShutdown Chan.endTest
  dsimp only
  split <;> exact ⟨_, rfl⟩

/-- The flush record changes the chronicle. -/
theorem Chan.flushRecord_shape (c : Chan) (m k st mv1 mv2 : Nat) : ∃ r, c.flushRecord m k st mv1 mv2 = { c with chron := r } := ⟨_, rfl⟩

/-- A trip after qualification begins the fallback and ends voting (R85). -/
theorem Chan.trip_qual (c : Chan) (src : Nat) (h : c.clk.qual = true) : ∃ cs sl v m d u b j,
    c.trip src = { c with
      clk := { c.clk with
        tripCount := min (c.clk.tripCount + 1) 255, tripSrc := src, mon := c.clk.mon.raise src
        tripKind := 2, tripNew := true, falling := true, muxReq := c.clk.muxReq ||| 64#8 }
      sys := { c.sys with cstate := if c.sys.cstate = .voting then .out else c.sys.cstate }
      cells := cs, sl := sl, vote := v, mill := m, sd := d, upd := u, bridge := b, dict := j } := by
  unfold Chan.trip
  dsimp only
  rw [if_pos h]
  exact Chan.leaveVoting_shape _

/-- A trip before qualification leads to HELD at once (R84). -/
theorem Chan.trip_unqual (c : Chan) (src : Nat) (h : c.clk.qual = false) :
    (c.trip src).sys.cstate = .held ∧ (c.trip src).clk.tripSrc = src ∧ (c.trip src).clk.tripCount = min (c.clk.tripCount + 1) 255 := by
  unfold Chan.trip
  dsimp only
  rw [if_neg (by simp [h])]
  exact ⟨rfl, rfl, rfl⟩

/-! Modes before the tick runs (R48, R53) -/

/-- A mode change writes the mode, its cause, its flag and the chronicle. -/
theorem Chan.setMode_shape (c : Chan) (m : Mode) (k : Nat) (v : Word) : ∃ m' k' f ch,
    c.setMode m k v = { c with sys := { c.sys with mode := m', cause := k', modeFlag := f }, chron := ch } := by
  unfold Chan.setMode
  dsimp only
  split
  · exact ⟨_, _, _, _, rfl⟩
  · split
    · exact ⟨_, _, _, _, rfl⟩
    · unfold Chan.log
      obtain ⟨j, h⟩ := Chan.post_shape { c with sys := { c.sys with mode := m, cause := k, modeFlag := c.sys.modeFlag.raise 1 } } 0x04 16
        (leB 1 c.sys.mode.num ++ leB 1 m.num ++ leB 1 k ++ leB 1 0 ++ leB 4 v.toNat ++ leB 4 c.tb.c)
      rw [h]
      exact ⟨_, _, _, _, rfl⟩

/-- Following the channel states changes, in each channel, the mode, its cause, its flag and the chronicle. -/
theorem State.remode_shape (s : State) (ch : Ch) : ∃ m k f cr,
    s.remode.chan ch = { s.chan ch with sys := { (s.chan ch).sys with mode := m, cause := k, modeFlag := f }, chron := cr } := by
  unfold State.remode
  split
  · exact ⟨_, _, _, _, rfl⟩
  · split
    · exact ⟨_, _, _, _, rfl⟩
    · simp only [State.updAll_chan]
      exact Chan.setMode_shape _ _ _ _

@[simp] theorem State.remode_wire (s : State) : s.remode.wire = s.wire := by
  unfold State.remode
  split
  · rfl
  · split <;> rfl
@[simp] theorem State.remode_pending (s : State) : s.remode.pending = s.pending := by
  unfold State.remode
  split
  · rfl
  · split <;> rfl
@[simp] theorem State.remode_cstate (s : State) (ch : Ch) : (s.remode.chan ch).sys.cstate = (s.chan ch).sys.cstate := by
  obtain ⟨_, _, _, _, h⟩ := State.remode_shape s ch
  rw [h]
@[simp] theorem State.remode_flushing (s : State) (ch : Ch) : (s.remode.chan ch).sys.flushing = (s.chan ch).sys.flushing := by
  obtain ⟨_, _, _, _, h⟩ := State.remode_shape s ch
  rw [h]
@[simp] theorem State.remode_pwr (s : State) (ch : Ch) : (s.remode.chan ch).pwr = (s.chan ch).pwr := by
  obtain ⟨_, _, _, _, h⟩ := State.remode_shape s ch
  rw [h]
@[simp] theorem State.remode_clk (s : State) (ch : Ch) : (s.remode.chan ch).clk = (s.chan ch).clk := by
  obtain ⟨_, _, _, _, h⟩ := State.remode_shape s ch
  rw [h]
@[simp] theorem State.remode_mem (s : State) (ch : Ch) : (s.remode.chan ch).mem = (s.chan ch).mem := by
  obtain ⟨_, _, _, _, h⟩ := State.remode_shape s ch
  rw [h]
@[simp] theorem State.remode_mram (s : State) (ch : Ch) : (s.remode.chan ch).mram = (s.chan ch).mram := by
  obtain ⟨_, _, _, _, h⟩ := State.remode_shape s ch
  rw [h]
@[simp] theorem State.remode_assay (s : State) (ch : Ch) : (s.remode.chan ch).assay = (s.chan ch).assay := by
  obtain ⟨_, _, _, _, h⟩ := State.remode_shape s ch
  rw [h]
@[simp] theorem State.remode_host (s : State) (ch : Ch) : (s.remode.chan ch).host = (s.chan ch).host := by
  obtain ⟨_, _, _, _, h⟩ := State.remode_shape s ch
  rw [h]
@[simp] theorem State.remode_tb (s : State) (ch : Ch) : (s.remode.chan ch).tb = (s.chan ch).tb := by
  obtain ⟨_, _, _, _, h⟩ := State.remode_shape s ch
  rw [h]

/-- The clock role of the signal chain at a boundary changes that block only (R350). -/
theorem State.sdBoundary_shape (s : State) (ch x : Ch) : ∃ d, (s.sdBoundary ch).chan x = { s.chan x with sd := d } := by
  unfold State.sdBoundary
  rw [State.upd_chan]
  split
  · split <;> exact ⟨_, rfl⟩
  · exact ⟨_, rfl⟩

/-- The clock role taken at the start decision changes the signal-chain blocks only. -/
theorem State.sdStart_shape (s : State) (x : Ch) : (∃ d, s.sdStart.chan x = { s.chan x with sd := d }) ∧ s.sdStart.wire = s.wire := by
  refine ⟨?_, rfl⟩
  unfold State.sdStart
  simp only [allCh, List.foldl_cons, List.foldl_nil]
  obtain ⟨_, e1⟩ := State.sdBoundary_shape s .A x
  obtain ⟨_, e2⟩ := State.sdBoundary_shape (s.sdBoundary .A) .B x
  obtain ⟨d, e3⟩ := State.sdBoundary_shape ((s.sdBoundary .A).sdBoundary .B) .C x
  exact ⟨d, by rw [e3, e2, e1]⟩

/-- The first steps of a clock start change the clock system only. -/
theorem Chan.startClocks_shape (c : Chan) : ∃ k, c.startClocks = { c with clk := k } := by
  unfold Chan.startClocks
  split <;> exact ⟨_, rfl⟩

/-- The full start after the last flush happens or nothing does (R57). -/
theorem State.flushStart_cases (s : State) : s.flushStart = s ∨ s.flushStart = s.fullStart 0 := by
  unfold State.flushStart
  dsimp only
  split
  · exact .inr rfl
  · exact .inl rfl

/-- A full start brings a powered channel to HELD with no flush and no shutdown under way (R500). -/
theorem State.fullStart_chan (s : State) (k : Nat) {ch : Ch} (h : (s.chan ch).sys.cstate ≠ .off) :
    ((s.fullStart k).chan ch).sys.cstate = .held ∧ ((s.fullStart k).chan ch).sys.flushing = false ∧ ((s.fullStart k).chan ch).sys.shutting = false := by
  simp only [State.fullStart, State.withWire_chan, State.updAll_chan, h, if_false]
  obtain ⟨j, hj⟩ := Chan.startClocks_shape (c := _)
  rw [hj]
  exact ⟨rfl, rfl, rfl⟩

/-- The full start after the last flush keeps a HELD channel HELD (R57, R500). -/
theorem State.flushStart_held (s : State) (ch : Ch) (h : (s.chan ch).sys.cstate = .held) : (s.flushStart.chan ch).sys.cstate = .held := by
  obtain e | e := State.flushStart_cases s
  · rw [e, h]
  · rw [e]
    exact (State.fullStart_chan s 0 (by rw [h]; decide)).1

/-- The full start after the last flush leaves no flush under way in a HELD channel without one. -/
theorem State.flushStart_flushing (s : State) (ch : Ch) (h : (s.chan ch).sys.cstate = .held) (g : (s.chan ch).sys.flushing = false) :
    (s.flushStart.chan ch).sys.flushing = false := by
  obtain e | e := State.flushStart_cases s
  · rw [e, g]
  · rw [e]
    exact (State.fullStart_chan s 0 (by rw [h]; decide)).2.1

end Sys2Proof.Machine
end

