-- ==== Sys2Proof/Laws/Cells.lean ====
section
/-! SUPPORT. Cores and cells: what changing a core, retiring an instruction, a trap and a slice fault leave and change (R109 to R115, R156). -/

namespace Sys2Proof.Machine
open Sys2Proof Sys2Proof.Safety

/-! Elements by position -/

theorem getElem?_modAt_self {α : Type} (f : α → α) : ∀ (n : Nat) (l : List α), (modAt f n l)[n]? = (l[n]?).map f
  | _, [] => by simp [modAt]
  | 0, _ :: _ => rfl
  | n + 1, _ :: xs => by simpa [modAt] using getElem?_modAt_self f n xs

theorem getElem?_modAt_other {α : Type} (f : α → α) : ∀ {n k : Nat} (l : List α), k ≠ n → (modAt f n l)[k]? = l[k]?
  | _, _, [], _ => by simp [modAt]
  | 0, 0, _ :: _, h => absurd rfl h
  | 0, _ + 1, _ :: _, _ => rfl
  | _ + 1, 0, _ :: _, _ => rfl
  | _ + 1, _ + 1, _ :: xs, h => by
    simpa [modAt] using getElem?_modAt_other f xs (fun e => h (by rw [e]))

/-! Cells and cores -/

theorem Chan.cell_updCell_self {c : Chan} {n : Nat} (f : CellSt → CellSt) (h : n < c.cells.length) : (c.updCell n f).cell n = f (c.cell n) := by
  simp only [Chan.cell, Chan.updCell, getElem?_modAt_self, List.getElem?_eq_getElem h, Option.map_some, Option.getD_some]

theorem Chan.cell_updCell_other {c : Chan} {n m : Nat} (f : CellSt → CellSt) (h : m ≠ n) : (c.updCell n f).cell m = c.cell m := by
  simp only [Chan.cell, Chan.updCell, getElem?_modAt_other f c.cells h]

/-- A cell that is not as after reset is listed. -/
theorem Chan.cell_listed {c : Chan} {n : Nat} (h : c.cell n ≠ CellSt.init) : n < c.cells.length := by
  by_cases g : n < c.cells.length
  · exact g
  · exact absurd (by simp [Chan.cell, List.getElem?_eq_none (Nat.le_of_not_lt g)]) h

/-- The core that a command names in a cell with that core: the main core of a bonded cell, either core of a split one. -/
def Chan.owns (c : Chan) (h : Nat) : Prop := h / 2 < c.cells.length ∧ ((c.cell (h / 2)).mode = .split ∨ h % 2 = 0)

theorem Chan.owns_of_runs {c : Chan} {h : Nat} (r : c.coreRuns h = true) : c.owns h := by
  simp only [Chan.coreRuns, Chan.coreLive, Bool.and_eq_true, Bool.or_eq_true, beq_iff_eq] at r
  replace r := r.1
  refine ⟨Chan.cell_listed ?_, ?_⟩
  · intro e
    rw [e] at r
    simp [CellSt.init] at r
  · rcases r.1.1.2 with g | g
    · exact .inl g
    · exact .inr g.2

/-- Changing a core gives that core its new value. -/
theorem Chan.core_updPair {c : Chan} {h : Nat} (f : CoreSt → CoreSt) (o : c.owns h) : (c.updPair h f).core h = f (c.core h) := by
  unfold Chan.core Chan.updPair
  simp only [Chan.cell_updCell_self _ o.1]
  rcases o.2 with g | g
  · simp only [g, if_true]
    split <;> rfl
  · simp only [g, if_true]
    split <;> rfl

theorem Chan.cell_updPair_other {c : Chan} {h m : Nat} (f : CoreSt → CoreSt) (g : m ≠ h / 2) : (c.updPair h f).cell m = c.cell m :=
  Chan.cell_updCell_other _ g

theorem Chan.mode_updPair (c : Chan) (h m : Nat) (f : CoreSt → CoreSt) : ((c.updPair h f).cell m).mode = (c.cell m).mode := by
  by_cases g : m = h / 2
  · subst g
    by_cases l : h / 2 < c.cells.length
    · unfold Chan.updPair
      rw [Chan.cell_updCell_self _ l]
      repeat' split
      all_goals rfl
    · have e : (c.updPair h f).cells[h / 2]? = none := by
        unfold Chan.updPair Chan.updCell
        rw [getElem?_modAt_self, List.getElem?_eq_none (Nat.le_of_not_lt l)]
        rfl
      unfold Chan.cell
      rw [e, List.getElem?_eq_none (Nat.le_of_not_lt l)]
  · rw [Chan.cell_updPair_other _ g]

theorem Chan.length_updPair (c : Chan) (h : Nat) (f : CoreSt → CoreSt) : (c.updPair h f).cells.length = c.cells.length := by
  simp [Chan.updPair, Chan.updCell]

theorem Chan.owns_updPair {c : Chan} {h : Nat} (g : Nat) (f : CoreSt → CoreSt) (o : c.owns h) : (c.updPair g f).owns h := by
  refine ⟨by rw [Chan.length_updPair]; exact o.1, ?_⟩
  rw [Chan.mode_updPair]
  exact o.2

/-- Retiring an instruction gives the core its effect, one instruction on. -/
theorem Chan.core_retire {c : Chan} {h : Nat} (f : CoreSt → CoreSt) (o : c.owns h) : (c.retire h f).core h = stepped (f (c.core h)) :=
  Chan.core_updPair _ o

/-- A command that only changes a core leaves everything but its cell. -/
theorem onlyCell_of_updPair (s : State) (ch : Ch) (h : Nat) (f : CoreSt → CoreSt) : OnlyCell ch h s (s.upd ch fun c => c.updPair h f) := by
  refine ⟨onlyChan_of_upd ch s _, ?_, fun m g => ?_⟩
  · rw [State.upd_chan_self]
    rfl
  · rw [State.upd_chan_self]
    exact Chan.cell_updPair_other _ g

theorem onlyCell_of_tick_updPair (s : State) (ch : Ch) (h : Nat) (f : CoreSt → CoreSt) : OnlyCell ch h s (s.tick.upd ch fun c => c.updPair h f) := by
  refine ⟨onlyChan_of_tick_upd ch s _, ?_, fun m g => ?_⟩
  · rw [State.upd_chan_self]
    rfl
  · rw [State.upd_chan_self]
    exact Chan.cell_updPair_other _ g

/-- A core that goes on executes its command, in a cell that has it. -/
theorem coreCmd_goes {s : State} {ch : Ch} {h : Nat} (g : CoreGoes s ch h) (f : Chan → Chan) :
    coreCmd s ch h f = .next (s.upd ch f) := by
  unfold coreCmd
  rw [guardC_true g.1]
  congr 1
  refine State.upd_congr ?_
  unfold Chan.fetch
  rw [if_neg (by simp [g.2.1]), g.2.2]

theorem coreTick_goes {s : State} {ch : Ch} {h : Nat} (g : CoreGoes s ch h) (f : Chan → Chan) :
    guardC ((s.chan ch).coreRuns h) s (s.tick.upd ch (fun c => c.fetch ch h f)) = .next (s.tick.upd ch f) := by
  rw [guardC_true g.1]
  congr 1
  refine State.upd_congr ?_
  unfold Chan.fetch
  rw [State.tick_chan, if_neg (by simp [g.2.1]), g.2.2]

theorem coreGoes_owns {s : State} {ch : Ch} {h : Nat} (g : CoreGoes s ch h) : (s.chan ch).owns h := Chan.owns_of_runs g.1

/-- In a slice an image or timer instruction works with the slice's context. -/
theorem inSlice_withSlice {s : State} {ch : Ch} {h : Nat} {t : TaskRt} {i : Inst} (g : InSlice s ch h t i) (b : Word) (f : Word → TaskRt → Inst → Chan) :
    (s.chan ch).withSlice h b f = f ((s.chan ch).core h).slice t i := by
  unfold Chan.withSlice
  rw [g.1]
  simp only [g.2.2, Bool.false_eq_true, if_false, if_neg g.2.1]

/-! Single step and traps, field by field -/

/-- What single step does changes only the debug fields (R131). -/
theorem CoreSt.endStep_shape (k : CoreSt) : ∃ st ha dc dp, k.endStep = { k with stepping := st, halted := ha, dcause := dc, dpc := dp } := by
  unfold CoreSt.endStep
  split <;> exact ⟨_, _, _, _, rfl⟩

@[simp] theorem CoreSt.endStep_x (k : CoreSt) : k.endStep.x = k.x := by
  obtain ⟨_, _, _, _, h⟩ := k.endStep_shape
  rw [h]
@[simp] theorem CoreSt.endStep_pc (k : CoreSt) : k.endStep.pc = k.pc := by
  obtain ⟨_, _, _, _, h⟩ := k.endStep_shape
  rw [h]
@[simp] theorem CoreSt.endStep_mie (k : CoreSt) : k.endStep.mie = k.mie := by
  obtain ⟨_, _, _, _, h⟩ := k.endStep_shape
  rw [h]
@[simp] theorem CoreSt.endStep_mpie (k : CoreSt) : k.endStep.mpie = k.mpie := by
  obtain ⟨_, _, _, _, h⟩ := k.endStep_shape
  rw [h]
@[simp] theorem CoreSt.endStep_mppM (k : CoreSt) : k.endStep.mppM = k.mppM := by
  obtain ⟨_, _, _, _, h⟩ := k.endStep_shape
  rw [h]
@[simp] theorem CoreSt.endStep_tw (k : CoreSt) : k.endStep.tw = k.tw := by
  obtain ⟨_, _, _, _, h⟩ := k.endStep_shape
  rw [h]
@[simp] theorem CoreSt.endStep_mprv (k : CoreSt) : k.endStep.mprv = k.mprv := by
  obtain ⟨_, _, _, _, h⟩ := k.endStep_shape
  rw [h]
@[simp] theorem CoreSt.endStep_user (k : CoreSt) : k.endStep.user = k.user := by
  obtain ⟨_, _, _, _, h⟩ := k.endStep_shape
  rw [h]
@[simp] theorem CoreSt.endStep_meie (k : CoreSt) : k.endStep.meie = k.meie := by
  obtain ⟨_, _, _, _, h⟩ := k.endStep_shape
  rw [h]
@[simp] theorem CoreSt.endStep_mtvec (k : CoreSt) : k.endStep.mtvec = k.mtvec := by
  obtain ⟨_, _, _, _, h⟩ := k.endStep_shape
  rw [h]
@[simp] theorem CoreSt.endStep_mscratch (k : CoreSt) : k.endStep.mscratch = k.mscratch := by
  obtain ⟨_, _, _, _, h⟩ := k.endStep_shape
  rw [h]
@[simp] theorem CoreSt.endStep_mepc (k : CoreSt) : k.endStep.mepc = k.mepc := by
  obtain ⟨_, _, _, _, h⟩ := k.endStep_shape
  rw [h]
@[simp] theorem CoreSt.endStep_mcause (k : CoreSt) : k.endStep.mcause = k.mcause := by
  obtain ⟨_, _, _, _, h⟩ := k.endStep_shape
  rw [h]
@[simp] theorem CoreSt.endStep_mtval (k : CoreSt) : k.endStep.mtval = k.mtval := by
  obtain ⟨_, _, _, _, h⟩ := k.endStep_shape
  rw [h]
@[simp] theorem CoreSt.endStep_mcounteren (k : CoreSt) : k.endStep.mcounteren = k.mcounteren := by
  obtain ⟨_, _, _, _, h⟩ := k.endStep_shape
  rw [h]
@[simp] theorem CoreSt.endStep_cycle (k : CoreSt) : k.endStep.cycle = k.cycle := by
  obtain ⟨_, _, _, _, h⟩ := k.endStep_shape
  rw [h]
@[simp] theorem CoreSt.endStep_instret (k : CoreSt) : k.endStep.instret = k.instret := by
  obtain ⟨_, _, _, _, h⟩ := k.endStep_shape
  rw [h]
@[simp] theorem CoreSt.endStep_timeh (k : CoreSt) : k.endStep.timeh = k.timeh := by
  obtain ⟨_, _, _, _, h⟩ := k.endStep_shape
  rw [h]
@[simp] theorem CoreSt.endStep_irqE (k : CoreSt) : k.endStep.irqE = k.irqE := by
  obtain ⟨_, _, _, _, h⟩ := k.endStep_shape
  rw [h]
@[simp] theorem CoreSt.endStep_irqP (k : CoreSt) : k.endStep.irqP = k.irqP := by
  obtain ⟨_, _, _, _, h⟩ := k.endStep_shape
  rw [h]
@[simp] theorem CoreSt.endStep_sig (k : CoreSt) : k.endStep.sig = k.sig := by
  obtain ⟨_, _, _, _, h⟩ := k.endStep_shape
  rw [h]
@[simp] theorem CoreSt.endStep_slice (k : CoreSt) : k.endStep.slice = k.slice := by
  obtain ⟨_, _, _, _, h⟩ := k.endStep_shape
  rw [h]
@[simp] theorem CoreSt.endStep_posts (k : CoreSt) : k.endStep.posts = k.posts := by
  obtain ⟨_, _, _, _, h⟩ := k.endStep_shape
  rw [h]
@[simp] theorem CoreSt.endStep_waiting (k : CoreSt) : k.endStep.waiting = k.waiting := by
  obtain ⟨_, _, _, _, h⟩ := k.endStep_shape
  rw [h]
@[simp] theorem CoreSt.endStep_freed (k : CoreSt) : k.endStep.freed = k.freed := by
  obtain ⟨_, _, _, _, h⟩ := k.endStep_shape
  rw [h]
@[simp] theorem CoreSt.endStep_ebreakm (k : CoreSt) : k.endStep.ebreakm = k.ebreakm := by
  obtain ⟨_, _, _, _, h⟩ := k.endStep_shape
  rw [h]
@[simp] theorem CoreSt.endStep_ebreaku (k : CoreSt) : k.endStep.ebreaku = k.ebreaku := by
  obtain ⟨_, _, _, _, h⟩ := k.endStep_shape
  rw [h]
@[simp] theorem CoreSt.endStep_trig (k : CoreSt) : k.endStep.trig = k.trig := by
  obtain ⟨_, _, _, _, h⟩ := k.endStep_shape
  rw [h]
@[simp] theorem CoreSt.endStep_tselect (k : CoreSt) : k.endStep.tselect = k.tselect := by
  obtain ⟨_, _, _, _, h⟩ := k.endStep_shape
  rw [h]

@[simp] theorem CoreSt.trap_x (k : CoreSt) (cause v : Word) : (k.trap cause v).x = k.x := by simp [CoreSt.trap]
@[simp] theorem CoreSt.trap_pc (k : CoreSt) (cause v : Word) : (k.trap cause v).pc = k.mtvec &&& 0xFFFFFFFC#32 := by simp [CoreSt.trap]
@[simp] theorem CoreSt.trap_mie (k : CoreSt) (cause v : Word) : (k.trap cause v).mie = false := by simp [CoreSt.trap]
@[simp] theorem CoreSt.trap_mpie (k : CoreSt) (cause v : Word) : (k.trap cause v).mpie = k.mie := by simp [CoreSt.trap]
@[simp] theorem CoreSt.trap_mppM (k : CoreSt) (cause v : Word) : (k.trap cause v).mppM = (!k.user) := by simp [CoreSt.trap]
@[simp] theorem CoreSt.trap_user (k : CoreSt) (cause v : Word) : (k.trap cause v).user = false := by simp [CoreSt.trap]
@[simp] theorem CoreSt.trap_mepc (k : CoreSt) (cause v : Word) : (k.trap cause v).mepc = k.pc := by simp [CoreSt.trap]
@[simp] theorem CoreSt.trap_mcause (k : CoreSt) (cause v : Word) : (k.trap cause v).mcause = cause := by simp [CoreSt.trap]
@[simp] theorem CoreSt.trap_mtval (k : CoreSt) (cause v : Word) : (k.trap cause v).mtval = v := by simp [CoreSt.trap]
@[simp] theorem CoreSt.trap_mtvec (k : CoreSt) (cause v : Word) : (k.trap cause v).mtvec = k.mtvec := by simp [CoreSt.trap]
@[simp] theorem CoreSt.trap_slice (k : CoreSt) (cause v : Word) : (k.trap cause v).slice = k.slice := by simp [CoreSt.trap]
@[simp] theorem CoreSt.trap_posts (k : CoreSt) (cause v : Word) : (k.trap cause v).posts = k.posts := by simp [CoreSt.trap]
@[simp] theorem CoreSt.trap_waiting (k : CoreSt) (cause v : Word) : (k.trap cause v).waiting = k.waiting := by simp [CoreSt.trap]
@[simp] theorem CoreSt.trap_irqE (k : CoreSt) (cause v : Word) : (k.trap cause v).irqE = k.irqE := by simp [CoreSt.trap]
@[simp] theorem CoreSt.trap_irqP (k : CoreSt) (cause v : Word) : (k.trap cause v).irqP = k.irqP := by simp [CoreSt.trap]
@[simp] theorem CoreSt.trap_meie (k : CoreSt) (cause v : Word) : (k.trap cause v).meie = k.meie := by simp [CoreSt.trap]
@[simp] theorem CoreSt.trap_tw (k : CoreSt) (cause v : Word) : (k.trap cause v).tw = k.tw := by simp [CoreSt.trap]

/-! What a slice fault leaves of a core -/

/-- Two cores that differ in nothing but the slice they hold, what they wait for and their pending interrupts. -/
def CoreSt.near (a b : CoreSt) : Prop :=
  ∃ sl po wa ir, a = { b with slice := sl, posts := po, waiting := wa, irqP := ir } ∧ (sl = b.slice ∨ sl = 0#32) ∧ (wa = b.waiting ∨ wa = .none)

theorem CoreSt.near_refl (a : CoreSt) : a.near a := ⟨_, _, _, _, rfl, .inl rfl, .inl rfl⟩
theorem CoreSt.near_trans {a b c : CoreSt} (h : a.near b) (g : b.near c) : a.near c := by
  obtain ⟨s1, p1, w1, i1, e1, z1, y1⟩ := h
  obtain ⟨s2, p2, w2, i2, e2, z2, y2⟩ := g
  subst e1 e2
  refine ⟨_, _, _, _, rfl, ?_, ?_⟩
  · rcases z1 with z | z
    · exact z2.imp z.trans z.trans
    · exact .inr z
  · rcases y1 with y | y
    · exact y2.imp y.trans y.trans
    · exact .inr y

/-- Every core of one channel is near the same core of the other, cell by cell. -/
def Chan.nearCells (a b : Chan) : Prop := ∀ n, ((a.cell n).core0).near (b.cell n).core0 ∧ ((a.cell n).core1).near (b.cell n).core1

theorem Chan.nearCells_refl (a : Chan) : a.nearCells a := fun _ => ⟨CoreSt.near_refl _, CoreSt.near_refl _⟩
theorem Chan.nearCells_trans {a b c : Chan} (h : a.nearCells b) (g : b.nearCells c) : a.nearCells c :=
  fun n => ⟨CoreSt.near_trans (h n).1 (g n).1, CoreSt.near_trans (h n).2 (g n).2⟩
theorem Chan.nearCells_core {a b : Chan} (h : a.nearCells b) (n : Nat) : (a.core n).near (b.core n) := by
  unfold Chan.core
  split
  · exact (h (n / 2)).1
  · exact (h (n / 2)).2

theorem Chan.nearCells_dropInst (c : Chan) (n : Nat) : (c.dropInst n).nearCells c := by
  intro m
  unfold Chan.dropInst Chan.cell
  dsimp only
  rw [List.getElem?_map]
  cases c.cells[m]? with
  | none => exact ⟨CoreSt.near_refl _, CoreSt.near_refl _⟩
  | some x =>
    simp only [Option.map_some, Option.getD_some]
    constructor
    all_goals
      split
      · refine ⟨_, _, _, _, rfl, .inr rfl, ?_⟩
        split
        · exact .inr rfl
        · exact .inl rfl
      · exact CoreSt.near_refl _

theorem Chan.nearCells_availAll (c : Chan) (cap : Bool) : (c.availAll cap).nearCells c := by
  have key : ∀ (p : Nat → Bool) (f : CoreSt → CoreSt), (∀ k, (f k).near k) → ∀ (l : List Nat) (cs : List CellSt) (n : Nat),
      ((((l.foldl (fun cs n => if p n then modAt (fun (x : CellSt) => { x with core0 := f x.core0, core1 := f x.core1 }) n cs else cs) cs)[n]?).getD CellSt.init).core0).near
        ((cs[n]?).getD CellSt.init).core0 ∧
      ((((l.foldl (fun cs n => if p n then modAt (fun (x : CellSt) => { x with core0 := f x.core0, core1 := f x.core1 }) n cs else cs) cs)[n]?).getD CellSt.init).core1).near
        ((cs[n]?).getD CellSt.init).core1 := by
    intro p f hf l
    induction l with
    | nil => exact fun cs n => ⟨CoreSt.near_refl _, CoreSt.near_refl _⟩
    | cons a l ih =>
      intro cs n
      rw [List.foldl_cons]
      have h := ih (if p a then modAt (fun (x : CellSt) => { x with core0 := f x.core0, core1 := f x.core1 }) a cs else cs) n
      refine ⟨CoreSt.near_trans h.1 ?_, CoreSt.near_trans h.2 ?_⟩
      all_goals
        split
        · by_cases e : n = a
          · subst e
            rw [getElem?_modAt_self]
            cases cs[n]? with
            | none => exact CoreSt.near_refl _
            | some x => exact hf _
          · rw [getElem?_modAt_other _ _ e]
            exact CoreSt.near_refl _
        · exact CoreSt.near_refl _
  intro n
  refine key _ (fun (k : CoreSt) => if k.waiting = .tkWait then { k with irqP := k.irqP ||| 1#11 } else k) (fun k => ?_) _ _ _
  split
  · exact ⟨_, _, _, _, rfl, .inl rfl, .inl rfl⟩
  · exact CoreSt.near_refl _

/-- The setting of AVAIL_P, once per range, changes the slice engine and, in waiting cores, the pending interrupts. -/
theorem Chan.availAll_foldl (cap : Bool) {α : Type} : ∀ (l : List α) (c : Chan),
    (∃ cs sl, l.foldl (fun (c : Chan) _ => c.availAll cap) c = { c with cells := cs, sl := sl }) ∧
    (l.foldl (fun (c : Chan) _ => c.availAll cap) c).nearCells c
  | [], c => ⟨⟨_, _, rfl⟩, Chan.nearCells_refl c⟩
  | _ :: l, c => by
    rw [List.foldl_cons]
    obtain ⟨⟨cs, sl, e⟩, n⟩ := Chan.availAll_foldl cap l (c.availAll cap)
    exact ⟨⟨cs, sl, by rw [e]; rfl⟩, Chan.nearCells_trans n (Chan.nearCells_availAll c cap)⟩

/-- A slice fault changes the slice engine and, in the cores, what `CoreSt.near` admits. -/
theorem Chan.sliceFault_shape (c : Chan) (cell : Nat) (h : Word) (cause : Nat) :
    (∃ cs sl, c.sliceFault cell h cause = { c with cells := cs, sl := sl }) ∧ (c.sliceFault cell h cause).nearCells c := by
  unfold Chan.sliceFault
  split
  · exact ⟨⟨_, _, rfl⟩, Chan.nearCells_refl _⟩
  · split
    · exact ⟨⟨_, _, rfl⟩, Chan.nearCells_refl _⟩
    · dsimp only
      split
      · exact ⟨⟨_, _, rfl⟩, Chan.nearCells_dropInst _ _⟩
      · exact ⟨⟨_, _, rfl⟩, Chan.nearCells_availAll _ _⟩

/-- A stage that becomes available changes the slice engine and, in waiting cores, the pending interrupts. -/
theorem Chan.startStage_shape (c : Chan) (t : TaskRt) (i : Inst) (st : Nat) :
    (∃ cs sl, c.startStage t i st = { c with cells := cs, sl := sl }) ∧ (c.startStage t i st).nearCells c := by
  unfold Chan.startStage
  dsimp only
  obtain ⟨⟨cs, sl, e⟩, n⟩ := Chan.availAll_foldl t.decl.cap _ _
  exact ⟨⟨cs, sl, by rw [e]⟩, Chan.nearCells_trans n (Chan.nearCells_refl c)⟩

/-- A completed slice changes the slice engine and, in waiting cores, the pending interrupts. -/
theorem Chan.sliceDone_shape (c : Chan) (h : Word) (ops : List TimerOp) :
    (∃ cs sl, c.sliceDone h ops = { c with cells := cs, sl := sl }) ∧ (c.sliceDone h ops).nearCells c := by
  unfold Chan.sliceDone
  split
  · exact ⟨⟨_, _, rfl⟩, Chan.nearCells_refl _⟩
  · split
    · exact ⟨⟨_, _, rfl⟩, Chan.nearCells_refl _⟩
    · dsimp only
      split
      · exact ⟨⟨_, _, rfl⟩, Chan.nearCells_refl _⟩
      · split
        · exact ⟨⟨_, _, rfl⟩, Chan.nearCells_refl _⟩
        · split
          · obtain ⟨⟨cs, sl, e⟩, n⟩ := Chan.startStage_shape _ _ _ _
            exact ⟨⟨cs, sl, by rw [e]⟩, Chan.nearCells_trans n (Chan.nearCells_refl c)⟩
          · exact ⟨⟨_, _, rfl⟩, Chan.nearCells_refl _⟩

/-- An exception changes the cells and the slice engine; the core takes the trap, and in a bonded cell a slice fault ends its slice. -/
theorem Chan.exception_shape {c : Chan} {h : Nat} (cause : Nat) (v : Word) (o : c.owns h) :
    (∃ cs sl, c.exception h cause v = { c with cells := cs, sl := sl }) ∧
    ((c.exception h cause v).core h).near ((c.core h).trap (BitVec.ofNat 32 cause) v) ∧
    ((c.cell (h / 2)).mode = .bonded → isSliceFault cause = true → ((c.exception h cause v).core h).slice = 0#32) ∧
    (isSliceFault cause = false → (c.exception h cause v).core h = (c.core h).trap (BitVec.ofNat 32 cause) v) := by
  unfold Chan.exception
  dsimp only
  split
  · rename_i f
    simp only [Bool.and_eq_true] at f
    obtain ⟨⟨cs, sl, e⟩, n⟩ := Chan.sliceFault_shape (((c.updPair h (fun k => k.trap (BitVec.ofNat 32 cause) v)).updPair h
      (fun k => { k with slice := 0#32, posts := [] }))) (h / 2) (c.core h).slice cause
    have m := Chan.nearCells_core n h
    have q : (((c.updPair h (fun k => k.trap (BitVec.ofNat 32 cause) v)).updPair h (fun k => { k with slice := 0#32, posts := [] })).core h) =
        { (c.core h).trap (BitVec.ofNat 32 cause) v with slice := 0#32, posts := [] } := by
      rw [Chan.core_updPair _ (Chan.owns_updPair _ _ o), Chan.core_updPair _ o]
    rw [q] at m
    refine ⟨⟨cs, sl, by rw [e]; rfl⟩, CoreSt.near_trans m ⟨_, _, _, _, rfl, .inr rfl, .inl rfl⟩, fun _ _ => ?_, fun g => ?_⟩
    · obtain ⟨_, _, _, _, e1, z, _⟩ := m
      rw [e1]
      rcases z with z | z
      · exact z
      · exact z
    · rw [f.1.2] at g
      cases g
  · rename_i f
    refine ⟨⟨_, _, rfl⟩, ?_, fun g1 g2 => ?_, fun _ => Chan.core_updPair _ o⟩
    · rw [Chan.core_updPair _ o]
      exact CoreSt.near_refl _
    · rw [Chan.core_updPair _ o]
      have z : (c.core h).slice = 0#32 := by
        simpa [g1, g2] using f
      rw [CoreSt.trap_slice, z]

/-! Loads and stores of plain memory -/

theorem Chan.putByte_plain {c : Chan} {a : Nat} (b : Byte) (h : plainAddr a) : c.putByte a b = { c with mem := memWrite c.mem a b } := by
  unfold plainAddr at h
  have h1 : inRange 0x20000000 0x203FFFFF a = false := by
    simp [inRange]
    omega
  have h2 : inRange 0xD0000000 0xD03FFFFF a = false := by
    simp [inRange]
    omega
  have h3 : ctlPlace a = none := by
    have h4 : inRange 0xD0400000 0xD0400017 a = false := by
      simp [inRange]
      omega
    have h5 : inRange 0xD0400040 0xD0400057 a = false := by
      simp [inRange]
      omega
    simp only [ctlPlace, h4, h5, Bool.false_eq_true, if_false]
  unfold Chan.putByte
  simp only [h1, h3, Chan.ringByte, h2, Bool.false_eq_true, if_false, Option.isSome_none]

theorem Chan.byteAt_plain {c : Chan} {a : Nat} (h : plainAddr a) : c.byteAt a = memRead c.mem a := by
  unfold plainAddr at h
  have h1 : inRange 0x20000000 0x203FFFFF a = false := by
    simp [inRange]
    omega
  have h2 : inRange 0xD0000000 0xD07FFFFF a = false := by
    simp [inRange]
    omega
  have h3 : inRange 0xC0000000 0xCFFFFFFF a = false := by
    simp [inRange]
    omega
  unfold Chan.byteAt
  simp only [h1, h2, h3, Bool.false_eq_true, if_false]

/-- An octet is read alike in two channels that differ in memory alone, where memory reads alike. -/
theorem Chan.byteAt_congr {c : Chan} {m : List Host.Cell} {x : Nat} (h : memRead m x = memRead c.mem x) : ({ c with mem := m } : Chan).byteAt x = c.byteAt x := by
  unfold Chan.byteAt
  dsimp only
  rw [h]
  rfl

/-- A store of n octets of plain memory: the octets in order, every other address alone, the canonical form kept. -/
theorem Chan.storeN_plain : ∀ (n : Nat) {c : Chan} {a : Nat} (v : Nat), (∀ i < n, plainAddr (a + i)) →
    ∃ m, c.storeN a n v = { c with mem := m } ∧ (∀ i < n, memRead m (a + i) = BitVec.ofNat 8 (v / 256 ^ i)) ∧
      (∀ x, (x < a ∨ a + n ≤ x) → memRead m x = memRead c.mem x) ∧ (Memory.wf c.mem = true → Memory.wf m = true)
  | 0, c, a, v, _ => ⟨c.mem, rfl, by simp, by simp, id⟩
  | n + 1, c, a, v, h => by
    have h0 : plainAddr a := h 0 (by omega)
    have hs : ∀ i < n, plainAddr (a + 1 + i) := by
      intro i hi
      have := h (i + 1) (by omega)
      rwa [show a + 1 + i = a + (i + 1) by omega]
    unfold Chan.storeN
    rw [Chan.putByte_plain _ h0]
    obtain ⟨m, e, h1, h2, h3⟩ := Chan.storeN_plain n (c := { c with mem := memWrite c.mem a (BitVec.ofNat 8 v) }) (v / 256) hs
    refine ⟨m, by rw [e], ?_, ?_, fun w => h3 (memWrite_wf _ _ w)⟩
    · intro i hi
      cases i with
      | zero =>
        rw [h2 _ (by omega)]
        simp [memRead_memWrite_self]
      | succ i => rw [show a + (i + 1) = a + 1 + i by omega, h1 i (by omega), Nat.div_div_eq_div_mul, Nat.pow_succ, Nat.mul_comm]
    · intro x hx
      rw [h2 x (by omega), memRead_memWrite_other _ _ (by omega)]

/-- A load is the little-endian number of its octets. -/
theorem Chan.loadN_eq (c : Chan) : ∀ n a, c.loadN a n = leN ((List.range n).map (fun i => c.byteAt (a + i)))
  | 0, _ => rfl
  | n + 1, a => by
    rw [Chan.loadN, Chan.loadN_eq c n (a + 1), List.range_succ_eq_map]
    simp [leN, Function.comp_def]
    congr 3
    funext i
    congr 1
    omega

/-- A load or store that no trigger stops: misaligned, served or refused. -/
theorem memAccess_goes {s : State} {ch : Ch} {h : Nat} (w : Bool) {n a : Nat} (data : Word) (rd : Nat) (sg : Bool) (len : Nat)
    (hc : (s.chan ch).copies h = 0#13) (hi : (s.chan ch).hit h 2 ((s.chan ch).core h).pc.toNat = none) (hh : (s.chan ch).hit h (if w then 1 else 0) a = none) :
    s.memAccess ch h w n a data rd sg len =
      if !aligned a n then s.upd ch (fun c => c.exception h (if w then 6 else 4) (BitVec.ofNat 32 a))
      else match (s.chan ch).verdict (.core h) w a with
      | .served =>
        if w then (s.busWrite ch a n data).upd ch (fun c => c.retireBy h len id)
        else (s.busSide ch (.core h) a).upd ch (fun c =>
          c.retireBy h len (fun k => (k.cacheLoad a n).setReg rd (extend n sg (s.busValue ch (.core h) a n))))
      | v => s.upd ch (fun c => (c.notServed (.core h) w a v).exception h (if w then 7 else 5) (BitVec.ofNat 32 a)) := by
  unfold State.memAccess
  dsimp only
  rw [if_neg (by simp [hc]), hi, hh]
  try rfl

/-- An access of a core that goes on, under no trigger. -/
theorem coreAccess_goes {s : State} {ch : Ch} {h : Nat} (g : CoreGoes s ch h) (w : Bool) {n a : Nat} (data : Word) (rd : Nat) (sg : Bool)
    (hn : n = 1 ∨ n = 2 ∨ n = 4) (ha : a < 4294967296) (hh : (s.chan ch).hit h (if w then 1 else 0) a = none) :
    execCoreLoadStore ch (.core h) w n a data rd sg s = .next (
      if !aligned a n then s.tick.upd ch (fun c => c.exception h (if w then 6 else 4) (BitVec.ofNat 32 a))
      else match (s.chan ch).verdict (.core h) w a with
      | .served =>
        if w then (s.tick.busWrite ch a n data).upd ch (fun c => c.retireBy h (if Config.compressed s.free then 2 else 4) id)
        else (s.tick.busSide ch (.core h) a).upd ch (fun c =>
          c.retireBy h (if Config.compressed s.free then 2 else 4) (fun k => (k.cacheLoad a n).setReg rd (extend n sg (s.tick.busValue ch (.core h) a n))))
      | v => s.tick.upd ch (fun c => (c.notServed (.core h) w a v).exception h (if w then 7 else 5) (BitVec.ofNat 32 a))) := by
  have hs : sizeOk n = true := by rcases hn with e | e | e <;> subst e <;> rfl
  simp only [execCoreLoadStore, hs, Nat.mod_eq_of_lt ha, Bool.not_true, Bool.false_eq_true, if_false]
  rw [guardC_true g.1]
  unfold State.coreAccess
  rw [memAccess_goes (s := s.tick) w data rd sg _ g.2.1 g.2.2 hh]
  rfl

end Sys2Proof.Machine
end

