-- ==== Sys2Proof/WellFormed.lean ====
section
/-! DEFINITION. Which commands are well formed: every operand within the range that the spec gives its field. -/

namespace Sys2Proof

/-- A general register number. -/
def regOk (n : Nat) : Bool := decide (n < 32)

/-- An access width in octets (R29). -/
def widthOk (n : Nat) : Bool := n == 1 || n == 2 || n == 4

/-- An initiator: harts are cell × 2 + core of cells 0 to 7 (Table 1-17); engines are numbered 0x20 to 0x27. -/
def iniOk : Initiator → Bool
  | .core h => decide (h < 16)
  | .engine n => decide (n < 8)
  | .reeve => true
  | .debug => true

/-- A transport: ring nodes are 0 to 63 (R377, Table 14-8); the legacy kinds are three. -/
def viaOk : Transport → Bool
  | .ring _ node => decide (node < 64)
  | .legacy k => decide (k < 3)
  | .host => true
  | .md _ _ _ => true
  | .capacity => true
  | .notify _ _ => true
  | .part _ _ => false

/-- An object address and its value (R371): index of 16 bits, subindex of 8, a value that fits a message of 8,192 octets (R377). -/
def dentryOk (e : DEntry) : Bool :=
  decide (e.index < 65536) && decide (e.sub < 256) && decide (e.data.length ≤ 8192) && decide (e.token < 4294967296)

/-- A dictionary request: its length fits a U16 and its entries are object addresses (Table 14-4). -/
def dreqOk (r : DReq) : Bool := decide (r.len < 65536) && decide (r.entries.length < 256) && r.entries.all dentryOk

/-- A lane packet: 1 to 64 words, a window offset that is a multiple of 4 (Table 18-1). -/
def laneOk (p : LanePkt) : Bool :=
  decide (0 < p.cnt) && decide (p.cnt ≤ 64) && decide (p.addr % 4 = 0) && decide (p.addr < 65536) && decide (p.data.length ≤ 64)

/-- A host message (R465): its length and token fit their fields. -/
def hostMsgOk (m : HostMsg) : Bool :=
  decide (m.kind < 256) && decide (m.token < 4294967296) && decide (m.data.length ≤ 1024)

/-- A brigade header (Table 15-6). -/
def hdrOk (h : BrigadeHdr) : Bool :=
  decide (h.block < 4294967296) && decide (h.piece < 65536) && decide (h.reason < 256)

/-- A brigade peer: a transport code of 8 bits. -/
def peerOk (p : Peer) : Bool := decide (p.transport < 256)

/-- A manifest of 512 octets, its signature the last 64 (Table 15-3). -/
def manifestOk (m : Manifest) : Bool :=
  let le (o n : Nat) : Nat := ((m.raw.drop o).take n).foldr (fun b v => b.toNat + 256 * v) 0
  m.raw.length == 448 && m.sig.length == 64 && m.sha == (m.raw.drop 32).take 32 && m.magic.toNat == le 0 4 && m.mver == le 4 2 &&
  m.kind == le 6 1 && m.keyslot == le 7 1 && m.imglen == le 8 4 && m.nblk == le 12 4 && m.secver == le 16 4 && m.fwver == le 20 4 &&
  m.cfmt == le 24 2 && m.mincfmt == le 26 2 && m.product == le 28 2 && m.hwmin == le 30 1

/-- A ring window: its payload has up to 2,048 octets (R223). -/
def winOk (w : MWin) : Bool := decide (w.num < 256) && decide (w.writer < 256) && decide (w.payload.length ≤ 2048)

/-- A ring frame: BELL, RANK, the hop count, LEN and the count of octets fit their fields (R221). -/
def frameOk (f : MFrame) : Bool :=
  decide (f.bell < 256) && decide (f.rank < 256) && decide (f.hops < 256) && decide (f.len < 65536) && decide (f.octets < 65536) && f.wins.all winOk

/-- A process data telegram carries at most 358 words (1,432 octets, R253). -/
def telegramOk (t : Telegram) : Bool := decide (t.data.length ≤ 358)

/-- A finding names one of the 12 transistors of a network where it names one (R321). -/
def findingOk : Finding → Bool
  | .stuckOn i => decide (i < 12)
  | .stuckOff i => decide (i < 12)
  | .energised => true
  | .extHigh => true
  | .openLoad => true
  | .over => true
  | .short => true

/-- A standby test names a cell, or a network and one of its transistors (R308). -/
def testOk : StandbyTest → Bool
  | .h1 cell _ => decide (cell < 8)
  | .h2 _ _ => true
  | .h3 net idx _ _ => decide (net < 18) && decide (idx < 12)

/-- A debugger's register: 32 general registers, CSR numbers of 12 bits; a command type of 8 bits. -/
def dbgOk : DbgReg → Bool
  | .gpr n => decide (n < 32)
  | .csr n => decide (n < 4096)
  | .other cmd => decide (cmd < 256)

/-- Assay findings: none or one for each of the 8 cells; three kinds of memory. -/
def assayOk (r : AssayFind) : Bool :=
  (r.cells.isEmpty || r.cells.length == 8) && r.mems.all (fun (m : MemFind) => decide (m.mem < 3))

/-- A pair record carries one page of at most 256 words, or at most 1,040 octets of entries (R311, R315). -/
def recordOk (r : PairRecord) : Bool := decide (r.words.length ≤ 256) && decide (r.entries.length ≤ 260)

/-- THE CHECK: every operand of a command lies in its field. -/
def Instr.wf (i : Instr) : Bool :=
  match i with
  | .feedStartThreshold mv1 mv2 => decide (mv1 < 65536) && decide (mv2 < 65536)
  | .keepInRegulation _ => true
  | .domainsInRegulation _ => true
  | .powerFailFlush _ mv1 mv2 => decide (mv1 < 65536) && decide (mv2 < 65536)
  | .flushComplete _ mv1 mv2 => decide (mv1 < 65536) && decide (mv2 < 65536)
  | .keepLeavesRegulation _ => true
  | .feedLowWarning _ _ mv => decide (mv < 65536)
  | .feedOver _ _ mv => decide (mv < 65536)
  | .feedCurrentLimit _ _ => true
  | .domainOutOfRegulation _ _ => true
  | .domainShutdownDone _ => true
  | .dieHot _ _ => true
  | .overtemperature _ _ => true
  | .laneLock _ => true
  | .laneLoss _ => true
  | .holdoverExpiry _ => true
  | .rootPllLock _ => true
  | .rootPllLossOfLock _ => true
  | .dividerStart _ => true
  | .watchQualification _ groups => decide (groups.length = 64)
  | .watchRecalibration _ _ => true
  | .monitorWindow _ counts => decide (counts.length = 8)
  | .keepClockSwitched _ => true
  | .multiplexerHang _ n => decide (n < 8)
  | .fallbackShutdownDone _ => true
  | .clockStartRetry _ => true
  | .reeveRelease _ ga _ => decide (ga < 64)
  | .assayStepComplete _ r => assayOk r
  | .assayStepAbandon _ => true
  | .assayStepRetry _ => true
  | .s7WaitLimit => true
  | .startImageVerification _ => true
  | .legacyTranslation _ => true
  | .journalScan _ => true
  | .startDecision => true
  | .tickBoundary _ => true
  | .judgementInstant _ => true
  | .boundaryMessageReceive rx tx _ _ => decide (rx ≠ tx)
  | .completionNoticeReceive rx tx _ => decide (rx ≠ tx)
  | .resyncPageSumList _ _ => true
  | .resyncPageRequest _ _ => true
  | .resyncPageData _ _ => true
  | .resyncTimerSnapshot _ _ => true
  | .resyncTimerOperations _ _ => true
  | .resyncTimeout _ => true
  | .forwardedInputReceive rx tx _ => decide (rx ≠ tx)
  | .xlinkSegmentRelay _ _ => true
  | .linkLost _ _ => true
  | .linkUp _ _ peer _ => decide (peer < 4)
  | .tkLdin _ hart rd rs1 _ => decide (hart < 16) && regOk rd && regOk rs1
  | .tkLdfr _ hart rd rs1 _ => decide (hart < 16) && regOk rd && regOk rs1
  | .tkLdrs _ hart rd rs1 _ => decide (hart < 16) && regOk rd && regOk rs1
  | .tkLdso _ hart rd rs1 _ => decide (hart < 16) && regOk rd && regOk rs1
  | .tkStout _ hart rs1 rs2 _ => decide (hart < 16) && regOk rs1 && regOk rs2
  | .tkStrs _ hart rs1 rs2 _ => decide (hart < 16) && regOk rs1 && regOk rs2
  | .tkRdrel _ hart rd rs1 _ => decide (hart < 16) && regOk rd && regOk rs1
  | .tkTmstart _ hart rs1 rs2 => decide (hart < 16) && regOk rs1 && regOk rs2
  | .tkTmstop _ hart rs1 => decide (hart < 16) && regOk rs1
  | .tkTmel _ hart rd rs1 => decide (hart < 16) && regOk rd && regOk rs1
  | .tkTmst _ hart rd rs1 => decide (hart < 16) && regOk rd && regOk rs1
  | .tkNext _ hart rd => decide (hart < 16) && regOk rd
  | .tkSdone _ hart => decide (hart < 16)
  | .sliceCompleteReport _ hart => decide (hart < 16)
  | .tkWait _ hart => decide (hart < 16)
  | .tkWaitResume _ hart => decide (hart < 16)
  | .tkSid _ hart rd => decide (hart < 16) && regOk rd
  | .tkPtag _ hart rd => decide (hart < 16) && regOk rd
  | .tkPchk _ hart rd rs1 => decide (hart < 16) && regOk rd && regOk rs1
  | .inputFreezeComplete _ task => decide (task < 64)
  | .coreLoadStore _ ini _ size addr _ rd _ => iniOk ini && widthOk size && decide (addr < 4294967296) && regOk rd
  | .fence _ hart => decide (hart < 16)
  | .fenceI _ hart => decide (hart < 16)
  | .wfi _ hart => decide (hart < 16)
  | .csrTimeRead _ hart rd csr => decide (hart < 16) && regOk rd && decide (csr < 4096)
  | .customCsrAccess _ hart rd csr _ _ => decide (hart < 16) && regOk rd && decide (csr < 4096)
  | .externalInterrupt _ hart => decide (hart < 16)
  | .comparatorMismatch _ cell _ => decide (cell < 8)
  | .signatureCompare _ cell => decide (cell < 8)
  | .debugHaltRequest _ hart => decide (hart < 16)
  | .debugResumeRequest _ hart => decide (hart < 16)
  | .debugStep _ hart => decide (hart < 16)
  | .debugRegisterRead _ hart r => decide (hart < 16) && dbgOk r
  | .debugRegisterWrite _ hart r _ => decide (hart < 16) && dbgOk r
  | .debugProgramBufferExec _ p => decide (p.hart < 16) && decide (p.words.length ≤ 8)
  | .debugSystemBusRead _ size addr => widthOk size && decide (addr < 4294967296)
  | .debugSystemBusWrite _ size addr _ => widthOk size && decide (addr < 4294967296)
  | .debugTriggerWrite _ hart trig _ _ => decide (hart < 16) && decide (trig < 4)
  | .debugLogPop _ ini => iniOk ini
  | .tapIdcode _ => true
  | .tapBypass _ => true
  | .cmdStop _ => true
  | .cmdRestart _ => true
  | .cmdCommission _ => true
  | .cmdMaintain _ => true
  | .cmdRecover _ => true
  | .automaticRestart _ => true
  | .proofTestDue _ => true
  | .resetRequest _ _ => true
  | .resetWindowExpiry _ => true
  | .chgLoad _ => true
  | .chgArm _ => true
  | .chgCancel _ => true
  | .chgRollback _ => true
  | .changeVerification _ => true
  | .loadDigestReceive rx tx _ => decide (rx ≠ tx)
  | .loadDigestTimeout _ => true
  | .changeConfirmation _ _ => true
  | .armWindowExpiry _ => true
  | .trialLimitExpiry _ => true
  | .portUp _ _ => true
  | .portUsable _ _ => true
  | .portDown _ d => (match d.part with | some x => frameOk x.1 && decide (x.2 < x.1.len) | none => true)
  | .loopChange _ => true
  | .bypassRelaySwitched _ => true
  | .probeSend _ _ _ => true
  | .probeRequestReceive _ _ seq _ _ => decide (seq < 65536)
  | .probeResponseReceive _ _ seq _ _ _ => decide (seq < 65536)
  | .framePassage _ f => frameOk f
  | .ringSampleBlockDiscard _ => true
  | .windowFetch _ binding _ => decide (binding < 16)
  | .windowReturnDeadline _ => true
  | .withdrawHoldExpiry _ => true
  | .backoffExpiry _ => true
  | .mailboxTimeout _ => true
  | .timeMark _ _ mark => decide (mark < 8)
  | .pdTelegramDue _ n => decide (n ≤ 128)
  | .pdTelegramReceive _ t => telegramOk t
  | .pdPullRequest _ _ _ _ => true
  | .mdRequest _ _ _ svc req => decide (svc < 256) && dreqOk req
  | .mdNotify _ _ _ svc req => decide (svc < 256) && dreqOk req
  | .ptpSync _ _ seq _ _ _ _ => decide (seq < 65536)
  | .ptpFollowUp _ _ seq _ _ => decide (seq < 65536)
  | .ptpAnnounce _ _ => true
  | .announceTimeout _ _ => true
  | .ptpDelayResp _ _ _ _ => true
  | .switchForward _ _ hd _ _ => decide (hd.src < 2 ^ 48) && decide (hd.dst < 2 ^ 48) && decide (hd.prio < 4)
  | .arpRequest _ hd => decide (hd.mac < 281474976710656)
  | .icmpEcho _ _ _ => true
  | .mvbMasterFrame fcode addr => decide (fcode < 16) && decide (addr < 4096)
  | .mvbSlaveFrame addr _ _ data _ => decide (addr < 4096) && decide (data.length ≤ 32)
  | .bridgeForwardReceive rx tx _ => decide (rx ≠ tx)
  | .sequenceGapTimeout _ entry => decide (entry < 4096)
  | .postedWriteDelivery _ _ dport => decide (dport < 8)
  | .writeLifetimeExpiry _ _ dport => decide (dport < 8)
  | .proxyReadRequest _ via _ index sub => viaOk via && decide (index < 65536) && decide (sub < 256)
  | .downstreamAccessStart _ slot => decide (slot < 32)
  | .downstreamReadComplete _ slot data _ => decide (slot < 32) && decide (data.length ≤ 1024)
  | .downstreamAccessFail _ slot _ => decide (slot < 32)
  | .requestHoldExpiry _ slot => decide (slot < 32)
  | .collectTimerExpiry _ slot => decide (slot < 32)
  | .commitAcknowledge _ slot => decide (slot < 32)
  | .commitRefused _ slot => decide (slot < 32)
  | .commitResend _ slot => decide (slot < 32)
  | .readYield _ slot => decide (slot < 32)
  | .sidebandPulseEnd _ e => decide (e < 8)
  | .hostMessageAnswer _ m => hostMsgOk m
  | .pairStatusReceive _ _ _ ps _ => decide (ps.mode < 16)
  | .pairRecordReceive _ _ _ rec _ => recordOk rec
  | .trackTimeout _ => true
  | .standbyTest _ t => testOk t
  | .quenchExpiry _ net => decide (net < 18)
  | .outputFinding _ net f => decide (net < 18) && findingOk f
  | .transistorTestStart _ => true
  | .transistorTestEnd _ _ _ => true
  | .transistorUntested _ net idx => decide (net < 18) && decide (idx < 12)
  | .fieldSupplyLow _ => true
  | .fieldSupplyRestored _ => true
  | .permitInputFall _ net => decide (net < 18)
  | .sdFramePulse _ => true
  | .sdFrameBit _ _ => true
  | .sdCheckReceive rx tx _ => decide (rx ≠ tx)
  | .noclkDetect _ => true
  | .syncPinEdge _ _ _ _ => true
  | .syncCommand _ _ => true
  | .dictRead _ via req => viaOk via && dreqOk req
  | .dictWrite _ via req => viaOk via && dreqOk req
  | .dictInfo _ via req => viaOk via && dreqOk req
  | .dictNext _ via req => viaOk via && dreqOk req
  | .dictPeek _ via req => viaOk via && dreqOk req
  | .dictCommit _ via req => viaOk via && dreqOk req
  | .hallmarkConfirmation _ via _ _ => viaOk via
  | .journalTransactionDistribute => true
  | .journalRecordDurable _ _ => true
  | .prepareReportReceive _ => true
  | .journalCommitReceive _ => true
  | .participantTimeout _ => true
  | .partialAckTimeout => true
  | .sequencingReeveTakeover _ => true
  | .journalCompaction _ => true
  | .snapshotReceive rx tx _ => decide (rx ≠ tx)
  | .snapshotTimer _ => true
  | .reeveKick _ ini => iniOk ini
  | .reeveWatchdogTimeout _ => true
  | .reeveRestart _ => true
  | .brigadeOffer _ peer h m => peerOk peer && hdrOk h && manifestOk m
  | .brigadePiece _ peer h data => peerOk peer && hdrOk h && decide (data.length ≤ 1024)
  | .brigadeStatus _ peer h => peerOk peer && hdrOk h
  | .brigadeEnd _ peer h => peerOk peer && hdrOk h
  | .brigadeRefuse _ peer h => peerOk peer && hdrOk h
  | .brigadeStatusTimer _ => true
  | .brigadeResend _ peer => peerOk peer
  | .brigadeGiveUp _ peer => peerOk peer
  | .blockForwardReceive rx tx _ => decide (rx ≠ tx)
  | .imageVerification _ slot => decide (slot < 12)
  | .updActivate _ => true
  | .updStore _ => true
  | .updFallback _ => true
  | .updErase _ => true
  | .updAbort _ => true
  | .updInstallKey _ _ => true
  | .firmwareConfirmation _ _ => true
  | .fuseAdvance _ ini target _ => iniOk ini && decide (target < 512)
  | .secHashStart _ ini _ => iniOk ini
  | .secHashDone _ => true
  | .recoveryComplete => true
  | .chronPost _ ini n _ => iniOk ini && decide (n < 17)
  | .recordWrite _ => true
  | .chronStartScan _ => true
  | .operatingSecond _ => true
  | .lcmdStop _ => true
  | .lcmdRestart _ => true
  | .lcmdClearHistory _ => true
  | .legacyMessage _ via msg => decide (via < 3) && decide (msg.length ≤ 504)
  | .laneRead _ p => laneOk p
  | .laneWrite _ p => laneOk p
  | .hMbxDoor _ len => decide (len < 65536)
  | .hMbxAck _ => true
  | .hMsgDoor _ => true
  | .hMsgAck _ => true
  | .hrstAssert _ => true
  | .hrstRelease _ => true
  | .shadowLoRead _ ini _ => iniOk ini
  | .registerWrite _ ini addr _ => iniOk ini && decide (addr < 4294967296)
  | .alignmentInstant _ _ nets => decide (nets.length = 18)
  | .capturedBit _ _ _ _ => true
  | .disciplineHoldover _ => true
  | .ecnPortLinkChange _ _ _ => true
  | .mvbSinkTimeout => true
  | .switchDigestReceive rx tx _ => decide (rx ≠ tx)
  | .xlinkCodeViolation _ _ => true
  | .journalBlockErased _ block => decide (block < 64)
  | .ecall _ hart => decide (hart < 16)
  | .ebreak _ hart => decide (hart < 16)
  | .illegalInstruction _ hart _ => decide (hart < 16)
  | .instructionAccessFault _ hart _ => decide (hart < 16)

end Sys2Proof
end

