-- ==== Sys2Proof/Tests/Slice0.lean ====
section
/-! SUPPORT. Tests of the model's author: ill-formed terms that the check refuses, states that meet the hypotheses of each statement, single commands on small states. -/

namespace Sys2Proof.Tests
open Sys2Proof Sys2Proof.Machine

/-! Small states: channel A changed from the state after reset -/

/-- Reset with channel A changed. -/
def on (f : Chan → Chan) : State := State.reset.upd .A f

/-- Channel A votes in mode M5 with every domain in regulation and its tick running, at boundary 5. -/
def voter (c : Chan) : Chan :=
  { c with
    sys := { c.sys with cstate := .voting, mode := .m5 }
    pwr := { c.pwr with dom := 0x1F#5 }
    tb := { c.tb with tickRun := true, started := true, c := 5, k := 5 } }

/-- Channel A with its clock system changed. -/
def onClk (f : ClockBlk → ClockBlk) : State := on fun c => { c with clk := f c.clk }

/-- Channel A with a system block changed. -/
def onSys (f : Sysctl → Sysctl) : State := on fun c => { c with sys := f c.sys }

/-- One message on the wire. -/
def wired (m : XMsg) : State := { State.reset with wire := [m] }

/-- A boundary message of channel B. -/
def bmsg : BMsg := ⟨.B, none, true, false, false, false, false, false, 5, 5, 1#64, 0#64, 0#64, [], [], [], .voting⟩

/-! Witnesses: the hypotheses of each statement can be met, clause by clause -/

theorem test_hyp_emptyQueue : State.reset.pending = [] ∧ (State.reset.chan .A).clk.divRun = false ∧
    ((onClk fun k => { k with divRun := true }).chan .A).clk.divRun = true ∧ ((onClk fun k => { k with divRun := true }).chan .A).up = false ∧
    (let c := (on fun c => { voter c with clk := { c.clk with divRun := true } }).chan .A; c.up = true ∧ c.clk.divRun = true ∧ ∀ h < 16, c.coreLive h = false) := by decide

theorem test_hyp_keepsQueue : ∃ t, exec (.tapIdcode .A) State.reset = .next t ∧ ∃ u, step State.reset = .next u := ⟨_, rfl, _, rfl⟩

theorem test_hyp_messagesSound : Safety.WireSound State.reset ∧ (∃ t, step State.reset = .next t) ∧
    Safety.WireSound (wired ⟨.A, .B, .toRelay .C, .boundary bmsg⟩) := ⟨by rfl, ⟨_, rfl⟩, by rfl⟩

theorem test_hyp_home : Safety.home (.tapIdcode .A) = some .A ∧ ∃ t, exec (.tapIdcode .A) State.reset = .next t := ⟨rfl, _, rfl⟩

theorem test_hyp_feedAndHeat : (State.reset.chan .A).pwr.dom.getLsbD 0 = true ∧ 16799 < 16800 ∧ 30000 < 30001 ∧
    1200 ≤ (1200#16).toInt := by decide

theorem test_hyp_powerUpAndDown :
    (16800 ≤ 16800 ∧ ((onSys fun y => { y with cstate := .off }).chan .A).sys.cstate = .off) ∧
    ((on fun c => { c with pwr := { c.pwr with dom := 0#5 } }).chan .A).pwr.dom.getLsbD 0 = false ∧
    ((State.reset.chan .A).pwr.dom = 1#5 ∧ (State.reset.chan .A).sys.cstate = .held ∧ (State.reset.chan .A).sys.hrst = false) ∧
    (State.reset.chan .A).pwr.dom.getLsbD 0 = true := by decide

theorem test_hyp_flushAndDomainLoss :
    (((on voter).chan .A).up = true ∧ ((on voter).chan .A).sys.flushing = false) ∧
    ((onSys fun y => { y with flushing := true }).chan .A).sys.flushing = true ∧
    (((on voter).chan .A).up = true ∧ Domain.field ≠ .keep ∧ ((on voter).chan .A).pwr.dom.getLsbD (domBit .field) = true) ∧
    ((onSys fun y => { y with shutting := true }).chan .A).sys.shutting = true ∧
    (1350 < (1351#16).toInt ∧ ((on voter).chan .A).up = true) := by decide

theorem test_hyp_clockStart :
    (let c := (onClk fun k => { k with cdrEn := true }).chan .A; c.clk.cdrEn = true ∧ c.clk.laneLock = false) ∧
    (let c := (onClk fun k => { k with pllEn := true, laneLock := true }).chan .A; c.clk.pllEn = true ∧ c.clk.laneLock = true) ∧
    (let c := (onClk fun k => { k with pllLock := true }).chan .A; c.clk.pllLock = true ∧ c.clk.divRun = false) ∧
    (let c := (onClk fun k => { k with divRun := true }).chan .A; c.clk.divRun = true ∧ c.clk.watchRun = true ∧ c.clk.qual = false ∧
      (List.replicate 64 250).length = 64 ∧ watchPasses (List.replicate 64 250) = true ∧
      (List.replicate 64 1).length = 64 ∧ watchPasses (List.replicate 64 1) = false) ∧
    (let c := (onClk fun k => { k with qual := true, laneLock := true, cal := 8000000 }).chan .A
     c.clk.qual = true ∧ c.clk.laneLock = true ∧ c.clk.holdover = false ∧ watchInRange 16000 = true ∧
      100 * watchHz 16000 ≤ 101 * c.clk.cal ∧ 99 * c.clk.cal ≤ 100 * watchHz 16000) ∧
    (let c := (on fun c => { c with clk := { c.clk with retryDue := true }, pwr := { c.pwr with dom := 0x1F#5 } }).chan .A
     c.clk.retryDue = true ∧ c.sys.cstate = .held ∧ c.pwr.dom = 0x1F#5 ∧ c.sys.hrst = false) := by decide

theorem test_hyp_clockLoss :
    (let c := (onClk fun k => { k with laneLock := true, qual := true }).chan .A; c.clk.laneLock = true ∧ c.clk.qual = true) ∧
    (let c := (onClk fun k => { k with holdover := true, qual := true }).chan .A
     c.clk.holdover = true ∧ c.clk.laneLock = false ∧ c.clk.falling = false ∧ c.clk.qual = true) ∧
    (let c := (onClk fun k => { k with holdover := true }).chan .A
     c.clk.holdover = true ∧ c.clk.laneLock = false ∧ c.clk.falling = false ∧ c.clk.qual = false) ∧
    (let c := (onClk fun k => { k with pllLock := true }).chan .A; c.clk.pllLock = true ∧ c.clk.holdover = false) ∧
    (let c := (onClk fun k => { k with divRun := true, qual := true, cal := 8000000 }).chan .A
     let g := [1000, 8000, 6000, 4000, 2000, 1000, 160, 64]
     c.clk.divRun = true ∧ c.clk.falling = false ∧ g.length = 8 ∧ c.clk.qual = true ∧
      (∀ x ∈ g.zip monitors, monWithin x.1 x.2.2.1 c.clk.cal x.2.2.2 = true ∧ x.1 ≠ 0)) ∧
    ((onClk fun k => { k with muxReq := 64#8 }).chan .A).clk.muxReq.getLsbD 6 = true ∧
    (7 < 8 ∧ ((onClk fun k => { k with muxReq := 128#8 }).chan .A).clk.muxReq.getLsbD 7 = true) ∧
    (let c := (onClk fun k => { k with falling := true, keepSrc := true }).chan .A; c.clk.falling = true ∧ c.clk.keepSrc = true) := by decide

/-- Every end of every cross link of a state is up. -/
def linkedUp (s : State) : State :=
  s.updAll fun _ c => { c with xl := { c.xl with l0 := { c.xl.l0 with up := true }, l1 := { c.xl.l1 with up := true } } }

/-- Channel A is in assay at step n. -/
def testing (n : Nat) (c : Chan) : Chan :=
  { c with sys := { c.sys with cstate := .testing, released := true, mode := .m2 }, assay := { c.assay with step := n, result := 3 } }

/-- All three channels are in assay at step n, A as f changes it, with every link up. -/
def allTesting (n : Nat) (f : Chan → Chan) : State := (linkedUp (State.reset.updAll fun _ c => testing n c)).upd .A f

theorem test_hyp_releaseAndAssay :
    ((on fun c => { c with
      pwr := { c.pwr with dom := 0x1F#5 }
      clk := { c.clk with laneLock := true, pllLock := true, qual := true, divRun := true } }).chan .A).releasable = true ∧
    (let c := (allTesting 1 id).chan .A
     c.sys.cstate = .testing ∧ c.assay.result = 3 ∧ c.assay.waiting = false ∧ c.sys.released = true ∧ 1 ≤ c.assay.step ∧ c.assay.step < 6 ∧ c.assay.s6done = false ∧
       (allTesting 1 id).starters.contains .A = true) ∧
    ((on (testing 5)).chan .A).assay.step < 6 ∧
    (let c := (on (testing 6)).chan .A
     c.sys.cstate = .testing ∧ c.assay.result = 3 ∧ c.assay.waiting = false ∧ c.assay.step = 6) ∧
    (let c := (on (testing 7)).chan .A
     c.sys.cstate = .testing ∧ c.assay.result = 3 ∧ c.assay.waiting = false ∧ c.assay.step = 7 ∧ c.assay.failed = false) ∧
    (let c := (on fun c => { testing 1 c with assay := { (testing 1 c).assay with waiting := true } }).chan .A
     c.sys.cstate = .testing ∧ c.assay.waiting = true) ∧
    (let s := allTesting 6 fun c => { c with assay := { c.assay with s6done := true } }
     s.s7Begun = false ∧ s.starters.any (fun p => (s.chan p).assay.s6done) = true) := by decide

/-- All three channels have finished assay, verification and the journal scan in M2. -/
def ready2 : State := linkedUp <| State.reset.updAll fun _ c =>
  { testing 7 c with
    sys := { (testing 7 c).sys with cstate := .ready }
    assay := { c.assay with step := 7, result := 0, done := true, eligible := true, verified := true, pgSha := some [] }
    dict := { c.dict with ready := true } }

theorem test_hyp_imagesAndDecision :
    (let s := ready2.upd .A fun c => { c with assay := { c.assay with verified := false } }
     s.starters.contains .A = true ∧ (s.chan .A).assayOver = true ∧ (s.chan .A).dict.ready = true ∧ (s.chan .A).assay.verified = false ∧
      (s.chan .A).sys.decided = none ∧ (s.chan .A).tb.tickRun = false) ∧
    (let s := ready2.upd .A fun c => { c with
        dict := { c.dict with live := [⟨0, objKey 0x1001 1, 0, [1#8], 0⟩] }
        upd := { c.upd with slots := modAt (fun _ => ⟨.stored, some { factoryManifest with kind := 3 }, [], 0, true⟩) 2 c.upd.slots } }
     s.starters.contains .A = true ∧ (s.chan .A).assay.verified = true ∧ (s.chan .A).assay.pgSha.isSome = true ∧ (s.chan .A).compat.tstate = 0 ∧
      ((s.chan .A).upd.storedSlot.bind (fun n => ((s.chan .A).upd.slot n).man)).map (·.kind) = some 3 ∧
      (s.chan .A).cfgN 0x1001 1 = 1 ∧ (s.chan .A).sys.decided = none ∧ (s.chan .A).tb.tickRun = false) ∧
    (let c := (ready2.upd .A fun c => { c with dict := { c.dict with ready := false } }).chan .A
     c.up = true ∧ c.sys.cstate ≠ .out ∧ c.dict.ready = false) ∧
    (2 ≤ ready2.starters.length ∧ ready2.mode = .m2 ∧ ∀ p ∈ ready2.starters, (ready2.chan p).assayOver = true ∧
      (ready2.chan p).assay.verified = true ∧ (ready2.chan p).dict.ready = true ∧ (ready2.chan p).sys.decided = none ∧
      (ready2.chan p).tb.tickRun = false) := by decide

theorem test_hyp_boundaryAndJudgement :
    (let c := (on voter).chan .A; c.up = true ∧ c.tb.tickRun = true ∧ c.tb.started = true) ∧
    (let c := (on fun c => { voter c with tb := { c.tb with tickRun := true } }).chan .A; c.up = true ∧ c.tb.tickRun = true ∧ c.tb.started = false) ∧
    (let c := (on fun c => { voter c with vote := { c.vote with judged := false } }).chan .A
     c.up = true ∧ c.tb.started = true ∧ c.vote.judged = false) ∧
    ((1#64 : W64) ≠ 2#64 ∧ (1#64 : W64) ≠ 3#64 ∧ (2#64 : W64) ≠ 3#64) := by decide

/-- `on f` with one message from B to A on the wire; its channels are those of `on f`. -/
def sent (f : Chan → Chan) (b : XBody) : State := { on f with wire := [⟨.B, .A, .direct, b⟩] }

/-- That message is the first of its kind. -/
def arrives (f : Chan → Chan) (b : XBody) (p : XBody → Bool) : Prop := Safety.Arrives (sent f b) .A .B p ⟨.B, .A, .direct, b⟩ []

/-- A frozen item of one word. -/
def item : Item := ⟨1, 0, 1, 100, [7#32], 0#32, false, true⟩

theorem test_hyp_damagedMessages :
    arrives voter (.boundary bmsg) XBody.isBoundary ∧
    arrives voter (.notice 1 4) XBody.isNotice ∧
    arrives voter (.item item) XBody.forwarded ∧
    arrives voter (.loadDigest 5#64 3 1) XBody.isLoadDigest ∧
    arrives voter (.switchDigest 1 5#64 4) XBody.isSwitchDigest ∧
    arrives voter (.bridge 0 1 [2] [] 3) XBody.isBridge ∧
    arrives voter (.snapshot ⟨[]⟩) XBody.isSnapshot ∧
    arrives voter (.block 1#32 0 []) XBody.isBlock ∧
    arrives voter (.sdCheck 1#32 2#32 false) XBody.isSdCheck :=
  ⟨⟨rfl, rfl⟩, ⟨rfl, rfl⟩, ⟨rfl, rfl⟩, ⟨rfl, rfl⟩, ⟨rfl, rfl⟩, ⟨rfl, rfl⟩, ⟨rfl, rfl⟩, ⟨rfl, rfl⟩, ⟨rfl, rfl⟩⟩

theorem test_hyp_relay :
    let m : XMsg := ⟨.B, .C, .toRelay .A, .notice 1 4⟩
    relayNext .A (linkedUp ({ on voter with wire := [m] } : State)).wire = some (m, []) ∧
      (linkedUp ({ on voter with wire := [m] } : State)).direct .A .C 2 = true ∧ (wired m).direct .A .C 2 = false :=
  ⟨rfl, rfl, rfl⟩

theorem test_hyp_peerMessages :
    (arrives voter (.boundary bmsg) XBody.isBoundary ∧ bmsg.odig ≠ ((sent voter (.boundary bmsg)).chan .A).vote.dig ∧
      bmsg.c = ((sent voter (.boundary bmsg)).chan .A).tb.c ∧ ((sent voter (.boundary bmsg)).chan .A).tb.started = true) ∧
    (arrives voter (.notice 1 4) XBody.isNotice ∧ arrives voter (.snapshot ⟨[]⟩) XBody.isSnapshot) ∧
    (arrives voter (.loadDigest 5#64 3 1) XBody.isLoadDigest ∧ Ch.B = chNext .A ∧ Ch.A ≠ .B) ∧
    (arrives voter (.switchDigest 1 5#64 4) XBody.isSwitchDigest ∧ ((sent voter (.switchDigest 1 5#64 4)).chan .A).switchNow ≠ some (1, 5#64)) :=
  ⟨⟨⟨rfl, rfl⟩, by decide, rfl, rfl⟩, ⟨⟨rfl, rfl⟩, rfl, rfl⟩, ⟨⟨rfl, rfl⟩, rfl, by decide⟩, ⟨rfl, rfl⟩, by decide⟩

/-- Channel A speaks in M5, so that its bridge runs. -/
def bridging (c : Chan) : Chan := { voter c with clk := { c.clk with divRun := true } }

theorem test_hyp_forwardedInputs :
    (arrives voter (.item item) XBody.forwarded ∧ item.good = true ∧ ((sent voter (.item item)).chan .A).vote.out.get item.owner = 0 ∧ arrives voter (.grant ⟨.r1, 0#32, 0⟩) XBody.forwarded ∧
      arrives voter (.sdCheck 1#32 2#32 false) XBody.isSdCheck ∧ Ch.B = chNext .A) ∧
    (arrives voter (.block 1#32 0 []) XBody.isBlock ∧ ∀ q < 12, (((sent voter (.block 1#32 0 [])).chan .A).upd.slot q).st ≠ .partial_) ∧
    (let f := fun (c : Chan) => { c with upd := { c.upd with slots := [⟨.partial_, some factoryManifest, [], 0, false⟩] } }
     let b := XBody.block (manImgid factoryManifest) 0 []
     let u := ((sent f b).chan .A).upd
     arrives f b XBody.isBlock ∧
      (List.range 12).find? (fun q => ((u.slot q).man.map manImgid) == some (manImgid factoryManifest) && (u.slot q).st == .partial_) = some 0 ∧
      blockOk 0 (manImgid factoryManifest) [] = false) ∧
    (arrives id (.bridge 0 1 [2] [] 3) XBody.isBridge ∧ ((sent id (.bridge 0 1 [2] [] 3)).chan .A).sys.cstate ≠ .out ∧ ((sent id (.bridge 0 1 [2] [] 3)).chan .A).bridgeOn = false) ∧
    (let s := sent bridging (.bridge 0 0 [2] [] 3)
     arrives bridging (.bridge 0 0 [2] [] 3) XBody.isBridge ∧ (s.chan .A).sys.cstate ≠ .out ∧ (s.chan .A).bridgeOn = true ∧ ([2] : List Nat) ≠ [] ∧ (s.chan .A).bridge.gaps = [] ∧
      (s.chan .A).bridge.queue.length < 256 ∧ assocD 0 0 (s.chan .A).bridge.expSeq = 0) := by
  refine ⟨⟨⟨rfl, rfl⟩, rfl, rfl, ⟨rfl, rfl⟩, ⟨rfl, rfl⟩, rfl⟩, ⟨⟨rfl, rfl⟩, by decide⟩, ⟨⟨rfl, rfl⟩, rfl, ?_⟩, ⟨⟨rfl, rfl⟩, by decide, rfl⟩, ⟨rfl, rfl⟩, by decide, by decide, by decide, rfl, by decide, rfl⟩
  simp [blockOk]

/-- Channel A resynchronises from B with task 1 held and one page wanted. -/
def resyncing (held : List (Nat × Nat × Bool)) (want : List (Nat × Nat × Nat)) (snap : Bool) (m : XBody) : State :=
  ({ State.reset with wire := [⟨.B, .A, .direct, m⟩] } : State).upd .A fun c =>
    { voter c with vote := { c.vote with run := some ⟨.B, 4, 5, snap, 4, held, want, 0⟩ } }

theorem test_hyp_resyncMessages :
    let p : Part := ⟨true, true⟩
    (∃ r, ((resyncing [] [] true (.timerOps 5 p [])).chan .A).vote.run = some r ∧ r.src = .B ∧ r.held = [] ∧ r.snap = true ∧ r.opsC + 1 = 5 ∧
      r.limit ≤ ((resyncing [] [] true (.timerOps 5 p [])).chan .A).tb.c) ∧
    Safety.Arrives (resyncing [] [] false (.timerSnap 4 p [])) .A .B XBody.isTimerSnap ⟨.B, .A, .direct, .timerSnap 4 p []⟩ [] ∧
    Safety.Arrives (resyncing [] [] true (.timerOps 5 p [])) .A .B XBody.isTimerOps ⟨.B, .A, .direct, .timerOps 5 p []⟩ [] ∧
    Safety.Arrives (resyncing [(1, 4, false)] [] true (.pageSums 1 4 p [(1, 0, 9#64)])) .A .B XBody.isPageSums
      ⟨.B, .A, .direct, .pageSums 1 4 p [(1, 0, 9#64)]⟩ [] ∧
    (Safety.Arrives (resyncing [(1, 4, true)] [(1, 1, 0)] true (.pageData 1 4 ⟨2, 0, []⟩ [])) .A .B XBody.isPageData
      ⟨.B, .A, .direct, .pageData 1 4 ⟨2, 0, []⟩ []⟩ [] ∧ ((2, 0) : Nat × Nat) ≠ (1, 0)) :=
  ⟨⟨_, rfl, rfl, rfl, rfl, by decide, by decide⟩, ⟨rfl, rfl⟩, ⟨rfl, rfl⟩, ⟨rfl, rfl⟩, ⟨rfl, rfl⟩, by decide⟩

/-- Task 1 of two stages with one slice each, two output words and two retained words a slice. -/
def task1 : TaskRt where
  decl := ⟨1, false, 0, 1, 0, 1, 0#32, 0x1000#32, [⟨1, 2, 2⟩, ⟨1, 2, 2⟩], [], [0#32, 0#32], [0#32, 0#32, 0#32, 0#32]⟩
  inImg := [7#32]
  qual := [5#8]
  outPub := [0#32, 0#32]
  outWork := [0#32, 0#32]
  rsPub := [1#32, 2#32, 3#32, 4#32]
  rsWork := [1#32, 2#32, 3#32, 4#32]
  stageOut := [8#32, 9#32]
  inst := some ⟨5, 5, 1000000, 6, 1, 1, true, false, false, false, [], [], [], [], [⟨1#32, 100#32, 0⟩], 0⟩
  ovrRun := 0
  ovrTotal := 0#32
  releases := 1
  lastTime := 0#32
  srcs := []
  edges := []
  commits := 0
  unsync := false

/-- Cell 0 of channel A runs bonded, with its cores changed by f and task 1 loaded. -/
def running (f : CoreSt → CoreSt) : State := on fun c =>
  { voter c with
    cells := modAt (fun (x : CellSt) => { x with mode := .bonded, core0 := f x.core0, core1 := f x.core1 }) 0 c.cells
    sl := { c.sl with tasks := [task1] } }

/-- The core holds the slice of stage 1 of task 1. -/
def inSlice (k : CoreSt) : CoreSt := { k with slice := mkHandle 1 1 0 false, x := modAt (fun _ => 1#32) 4 k.x }

theorem test_hyp_pageSums :
    ((running id).chan .A).sl.task 1 = some task1 ∧ (1, 4, false) ∈ [((1, 4, false) : Nat × Nat × Bool)] ∧ (9#64 : W64) ≠ task1.pageSum 1 0 := by decide +kernel

theorem test_hyp_resyncSource :
    let s := linkedUp ({ running id with wire := [⟨.B, .A, .direct, .pageReq 1 5 [(1, 0)]⟩] } : State)
    let s := s.upd .A fun c => { c with vote := { c.vote with serving := some (.B, 4, 0) } }
    (s.chan .A).vote.serving = some (.B, 4, 0) ∧ Ch.A ≠ .B ∧ s.direct .A .B 3 = true ∧
    Safety.Arrives s .A .B XBody.isPageReq ⟨.B, .A, .direct, .pageReq 1 5 [(1, 0)]⟩ [] ∧
    (s.chan .A).sl.task 1 = some task1 ∧ (task1.inst.map (·.relC)) = some 5 := ⟨rfl, by decide, rfl, ⟨rfl, rfl⟩, rfl, rfl⟩

theorem test_hyp_linkEnds :
    (let c := (linkedUp (on voter)).chan .A; c.up = true ∧ (c.lend .next).up = true ∧ (c.lend .prev).up = true) ∧
    (let c := (on voter).chan .A; c.up = true ∧ (c.lend .next).up = false ∧ (c.lend .next).viol.length < 15) ∧
    (2 < 3 ∧ 2 ≠ chCode (peerOf .A .next)) ∧
    ((on fun c => (voter c).setEnd .next fun e => { e with viol := List.replicate 14 0 }).chan .A).xl.l0.viol.length < 15 := by decide

theorem test_hyp_images :
    Safety.CoreGoes (running inSlice) .A 0 ∧ (∃ i, Safety.InSlice (running inSlice) .A 0 task1 i) ∧
    (let c := ((running inSlice).chan .A).core 0
     idxOk (c.index 0 0#12) task1.inImg.length = true ∧ idxOk (c.index 0 0#12) task1.qual.length = true ∧
     idxOk (c.index 5 0#12) (task1.ownRs c.slice).length = true ∧
     idxOk (c.index 5 0#12) task1.stageOut.length = true ∧ task1.decl.stageOf (c.index 5 0#12).toNat < hStage c.slice ∧
     idxOk (c.index 5 0#12) (task1.decl.stage (hStage c.slice)).outW = true ∧ idxOk (c.index 5 0xFFF#12) (task1.decl.stage (hStage c.slice)).rsW = true ∧
     c.reg 5 ≠ 0#32 ∧ (6#12 : BitVec 12).toNat ≤ 6) := by
  refine ⟨⟨by decide, by decide⟩, ⟨_, by decide, by decide, rfl⟩, by decide⟩

theorem test_hyp_sliceQueue :
    (Safety.CoreGoes (running id) .A 0 ∧ (((running id).chan .A).core 0).slice = 0#32 ∧ (((running id).chan .A).core 0).waitOver = false) ∧
    (Safety.CoreGoes (running inSlice) .A 0 ∧ (((running inSlice).chan .A).core 0).slice ≠ 0#32) ∧
    (let k := ((running fun k => { inSlice k with waiting := .sdone }).chan .A).core 0; ((running fun k => { inSlice k with waiting := .sdone }).chan .A).coreLive 0 = true ∧ k.waiting = .sdone ∧ k.slice ≠ 0#32) ∧
    (Safety.CoreGoes (running fun k => { k with irqP := 1#11 }) .A 0 ∧ (((running fun k => { k with irqP := 1#11 }).chan .A).core 0).waitOver = true) ∧
    (let k := ((running fun k => { k with waiting := .tkWait, irqP := 4#11 }).chan .A).core 0; ((running fun k => { k with waiting := .tkWait, irqP := 4#11 }).chan .A).coreLive 0 = true ∧ k.waiting = .tkWait ∧ k.waitOver = true) ∧
    (let s := on fun c => { c with sl := { c.sl with tasks := [{ task1 with inst := task1.inst.map fun i => { i with avail := false } }] } }
     ∃ k i, (s.chan .A).sl.task 1 = some k ∧ k.inst = some i ∧ i.avail = false ∧ i.abandoned = false ∧ (s.chan .A).vote.run = none) := by
  refine ⟨⟨⟨by decide, by decide⟩, by decide, by decide⟩, ⟨⟨by decide, by decide⟩, by decide⟩, by decide, ⟨⟨by decide, by decide⟩, by decide⟩, by decide, ⟨_, _, rfl, rfl, rfl, rfl, rfl⟩⟩

theorem test_hyp_coreTraps :
    Safety.CoreGoes (running id) .A 0 ∧
    (let c := ((running id).chan .A).core 0; (if c.user then c.ebreaku else c.ebreakm) = false) ∧ (((running id).chan .A).cell 0).mode = .bonded ∧
    Safety.CoreGoes (running fun k => { k with ebreakm := true }) .A 0 ∧
    (let c := ((running fun k => { k with ebreakm := true }).chan .A).core 0; (if c.user then c.ebreaku else c.ebreakm) = true) := by
  refine ⟨⟨by decide, by decide⟩, by decide, by decide, ⟨by decide, by decide⟩, by decide⟩

theorem test_hyp_fencesAndCsrs :
    (Safety.CoreGoes (running id) .A 0 ∧ (((running id).chan .A).core 0).user = false) ∧
    (let f := fun (k : CoreSt) => { k with user := true, tw := true }
     Safety.CoreGoes (running f) .A 0 ∧ ((((running f).chan .A).core 0).user && (((running f).chan .A).core 0).tw) = true) ∧
    (((running id).chan .A).csrAllowed 0 0x7C0 false = true ∧ ((running id).chan .A).csrValue .A 0 0x7C0 = some 0#32) ∧
    (Safety.CoreGoes (running fun k => { k with user := true }) .A 0 ∧ (((running fun k => { k with user := true }).chan .A).core 0).user = true ∧ 0x7C0 / 256 % 4 ≠ 0) ∧
    (let f := fun (k : CoreSt) => { k with mie := true, meie := true, irqE := 1#11, irqP := 1#11 }
     ((running f).chan .A).coreRuns 0 = true ∧ ((running f).chan .A).copies 0 = 0#13 ∧
      ((((running f).chan .A).core 0).meip && (((running f).chan .A).core 0).meie && ((((running f).chan .A).core 0).mie || (((running f).chan .A).core 0).user)) = true) := by
  refine ⟨⟨⟨by decide, by decide⟩, by decide⟩, ⟨⟨by decide, by decide⟩, by decide⟩, ⟨by decide, by decide⟩, ⟨⟨by decide, by decide⟩, by decide, by decide⟩, by decide⟩

theorem test_hyp_plainMemory :
    Safety.CoreGoes (running id) .A 0 ∧ (0x10000000 % 4 = 0 ∧ Safety.plainAddr 0x10000000) ∧ (0x1000003F % 1 = 0 ∧ Safety.plainAddr 0x1000003F) ∧
    ((running id).chan .A).verdict (.core 0) true 0x10000000 = .served ∧ ((running id).chan .A).verdict (.core 0) false 0x10000000 = .served ∧
    ((running id).chan .A).hit 0 1 0x10000000 = none ∧ ((running id).chan .A).hit 0 0 0x10000000 = none ∧
    Memory.wf ((running id).chan .A).mem = true := by
  refine ⟨⟨by decide, by decide⟩, ⟨by decide, Or.inl ⟨by decide, by decide⟩⟩, ⟨by decide, Or.inl ⟨by decide, by decide⟩⟩, by decide, by decide, by decide, by decide, by decide⟩

/-- The same cell, split. -/
def splitCell : State := (running id).upd .A fun c => c.updCell 0 fun x => { x with mode := .split }

theorem test_hyp_refusedAccesses :
    Safety.CoreGoes splitCell .A 1 ∧ (splitCell.chan .A).hit 1 1 0x10000000 = none ∧ 0x10000000 % 4 = 0 ∧
    (splitCell.chan .A).verdict (.core 1) true 0x10000000 = .refused (some 1) ∧ (splitCell.chan .A).sys.viol.bits = 0#32 ∧ 0x10000002 % 4 ≠ 0 := by
  refine ⟨⟨by decide, by decide⟩, by decide, by decide, by decide, by decide, by decide⟩

/-- Cell 0 holds a signature request and samples of both cores. -/
def signing (a b : List Word) (x : CellSt) : CellSt := { x with sigReq := true, snap0 := a, snap1 := b }

theorem test_hyp_lockStep :
    (((running id).chan .A).cell 0).mode = .bonded ∧ (0x1000#13 : BitVec 13) ≠ 0#13 ∧
    (let x := (((running id).upd .A fun c => c.updCell 0 (signing [7#32] [7#32])).chan .A).cell 0
     x.mode = .bonded ∧ x.sigReq = true ∧ crc64 (wordBytes x.snap0) = crc64 (wordBytes x.snap1)) := by
  refine ⟨by decide, by decide, by decide, by decide, rfl⟩

theorem test_hyp_lockStep_differ :
    let x := (((running id).upd .A fun c => c.updCell 0 (signing [7#32] [8#32])).chan .A).cell 0
    x.mode = .bonded ∧ x.sigReq = true ∧ crc64 (wordBytes x.snap0) ≠ crc64 (wordBytes x.snap1) := by decide +kernel

/-- Channel A in M9 with cell 0 bonded and n entries in the action log. -/
def debugged (n : Nat) (halted : Bool) : State := (running fun k => { k with halted := halted }).upd .A fun c =>
  { c with
    sys := { c.sys with cstate := .maint, mode := .m9 }
    dbg := { c.dbg with log := List.replicate n ⟨0, 0, 0, 0, 0#32, 0#32⟩ } }

theorem test_hyp_debugLog :
    (((debugged 256 false).chan .A).dbg.log.length ≤ 256 ∧ ((debugged 256 false).chan .A).sys.cstate ≠ .off ∧ ((debugged 256 false).chan .A).tapCut = false ∧
      ((debugged 256 false).chan .A).sys.mode = .m9 ∧ 256 ≤ ((debugged 256 false).chan .A).dbg.log.length) ∧
    (∃ e l, ((debugged 1 false).chan .A).dbg.log = e :: l ∧ ((debugged 1 false).chan .A).verdict .reeve false 0x40110010 = .served ∧
      ((debugged 1 false).chan .A).chron.flush = false ∧ ((debugged 1 false).chan .A).chron.queue.length < 16) := by
  refine ⟨by decide +kernel, _, _, rfl, by decide, rfl, by decide⟩

theorem test_hyp_debugServes :
    (31 < 32 ∧ Safety.DebugServes (debugged 255 false) .A 0 ∧ (((debugged 255 false).chan .A).core 0).halted = false) ∧
    (Safety.DebugServes (debugged 0 true) .A 0 ∧ (((debugged 0 true).chan .A).core 0).halted = true ∧ 3 < 4) := by
  refine ⟨⟨by decide, ?_, by decide⟩, ?_, by decide, by decide⟩ <;> exact ⟨by decide, by decide, by decide, by decide +kernel, by decide, by decide⟩

theorem test_hyp_debugBus :
    (((on voter).chan .A).sys.cstate ≠ .off ∧ ((on voter).chan .A).tapCut = false ∧ ((on voter).chan .A).sys.mode ≠ .m9) ∧
    (((debugged 0 false).chan .A).verdict .debug true 0x10000000 = .served ∧ ((debugged 0 false).chan .A).verdict .debug false 0x10000000 = .served) := by decide

/-- Channels A and B vote with their reeves running and every cross link up. -/
def pairUp (f : Chan → Chan) : State :=
  linkedUp ((State.reset.upd .B fun c => { voter c with sys := { (voter c).sys with reeveState := 0 } }).upd .A fun c =>
    f { voter c with sys := { (voter c).sys with reeveState := 0 } })

theorem test_hyp_commandsQueued :
    (let c := (pairUp id).chan .A; c.up = true ∧ c.sys.reeveState = 0 ∧ c.tb.tickRun = true ∧ sdMode c.sys.mode = true ∧ c.sys.mode ≠ .m11 ∧ c.sys.mode ≠ .m7 ∧ c.sys.mode ≠ .m8) ∧
    (let c := (pairUp fun c => { c with tb := { c.tb with tickRun := false } }).chan .A; c.up = true ∧ c.sys.reeveState = 0 ∧ c.tb.tickRun = false) ∧
    (let c := (pairUp fun c => { c with sys := { c.sys with mode := .m7 } }).chan .A
     c.up = true ∧ c.sys.reeveState = 0 ∧ c.sys.mode = .m7 ∧ c.chg.state.permits 1 = true ∧ 8 ≤ c.sys.dramSplit ∧ c.chg.state.permits 4 = false) ∧
    (let s := pairUp fun c => { c with sys := { c.sys with mode := .m11 } }
     (s.chan .A).up = true ∧ (s.chan .A).sys.reeveState = 0 ∧
     (s.chan .A).sys.mode = .m11 ∧ ∀ k ∈ [Ch.A, .B, .C], (s.chan k).field.win = none ∧ ∀ x ∈ (s.chan k).sys.cmds, x.kind ≠ 2) := by decide

/-- Stored values of configuration objects: index, subindex, one octet. -/
def stored (l : List (Nat × Nat × Nat)) (c : Chan) : Chan :=
  { c with dict := { c.dict with live := l.map fun x => ⟨0, objKey x.1 x.2.1, 0, leB 4 x.2.2, 0⟩ } }

theorem test_hyp_modeTimers :
    (let c := (on fun c => stored [(0x1012, 1, 1), (0x1012, 2, 10)] { voter c with
        sys := { (voter c).sys with mode := .m10, m10At := some 90, cause := 0x12 }
        mram := { c.mram with opsec := 100 } }).chan .A
     c.sys.m10At = some 90 ∧ c.up = true ∧ c.sys.mode = .m10 ∧ c.cfgF 0x1012 1 = true ∧ c.sys.cause ∈ [0x03, 0x04, 0x06, 0x07, 0x11, 0x12] ∧
      90 + c.cfgN 0x1012 2 ≤ c.mram.opsec ∧ c.sys.triggers = []) ∧
    (let c := (on fun c => { voter c with mram := { c.mram with opsec := 2592001, proofAt := 0 } }).chan .A
     c.up = true ∧ c.vote.proofH * 3600 < c.mram.opsec - c.mram.proofAt) ∧
    (let c := (on fun c => { voter c with field := { c.field with win := some ⟨0, 0, none, false, false⟩ } }).chan .A
     ∃ w ∈ c.field.win, c.up = true ∧ w.ends ≤ c.now) := by decide +kernel

/-- Channel A votes and its change is in a state. -/
def changing (x : ChgState) (c : Chan) : Chan :=
  { voter c with sys := { (voter c).sys with mode := .m7 }, chg := { c.chg with state := x } }

/-- The same with a program image in slot P0. -/
def changingTo (kind : Nat) (c : Chan) : Chan :=
  { changing .verifying c with upd := { c.upd with slots := modAt (fun _ => ⟨.good, some { factoryManifest with kind := kind }, [], 0, true⟩) 2 c.upd.slots } }

theorem test_hyp_changeProgress :
    (let s := on (changingTo 1)
     (s.chan .A).chg.state = .verifying ∧ (s.chan .A).chg.ldigSent = false ∧ (s.chan .A).sys.cstate = .voting ∧ (s.chan .A).chgCheck (s.secFloor .A) ≠ 0) ∧
    ((on (changingTo 2)).chan .A).chgCheck ((on (changingTo 2)).secFloor .A) = 0 ∧
    (let s := (on fun c => { changing .verifying c with chg := { (changing .verifying c).chg with ldigSent := true } }).upd .B voter
     (s.chan .A).chg.state = .verifying ∧ (s.chan .A).chg.ldigSent = true ∧ s.view (chNext .A) = .voting ∧ (s.chan .A).chg.ldig0 = none) ∧
    (let c := (on fun c => stored [(0x2040, 5, 5)] (changing .armed c)).chan .A; c.chg.state = .armed ∧ c.chg.armC + c.cfgN 0x2040 5 ≤ c.tb.c) ∧
    (let c := (on fun c => stored [(0x2040, 6, 0)] (changing .trial c)).chan .A; c.chg.state = .trial ∧ c.cfgN 0x2040 6 ≤ c.chg.trialS) := by decide +kernel

theorem test_hyp_confirmation :
    let s := pairUp fun c => { c with chg := { c.chg with state := .trial } }
    (s.chan .A).up = true ∧ (s.chan .A).sys.reeveState = 0 ∧ (s.chan .A).chg.state = .trial ∧ 2 ≤ s.participants.length ∧
      s.seqCh = some .A ∧ s.reach .A .A 4 = true := by decide

/-- A transaction of A and B. -/
def txn : Txn := ⟨7, [], [], .A, none, 0#8, 0, [], none, false, [], [.A, .B], false, [.A, .B], 0⟩

/-- Transaction 7 is prepared for the sequencing reeve of a channel. -/
def prep7 (q : Ch) : Prep := ⟨7, q, ⟨[], [], .A, none, 0#8, 0⟩⟩

/-- Channel A with its dictionary block changed, beside B. -/
def journal (f : DictBlk → DictBlk) : State := pairUp fun c => { c with dict := f c.dict }

theorem test_hyp_journal :
    (let s := journal fun d => { d with waiting := [⟨[], [], .A, none, 0#8, 0⟩] }
     s.seqCh = some .A ∧ (s.chan .A).dict.txn = none ∧ (s.chan .A).dict.waiting = [⟨[], [], .A, none, 0#8, 0⟩]) ∧
    (let c := (journal fun d => { d with jobs := [⟨⟨1, 7, [], 0, true, []⟩, false⟩] }).chan .A
     c.dict.jobs = [⟨⟨1, 7, [], 0, true, []⟩, false⟩] ∧ (1 : Nat) ≠ 2) ∧
    (let s := journal fun d => { d with txn := some txn, prep := some (prep7 .A) }
     s.seqCh = some .A ∧ (s.chan .A).dict.txn = some txn ∧ txn.committed = false ∧ txn.participants = [Ch.A, chNext .A] ∧ txn.prepared = [] ∧
      (s.chan .A).dict.holds txn.num = true ∧ (s.chan .A).dict.jobs = [] ∧ Ch.A ∈ txn.participants ∧ txn.via = none ∧
      s.participates .A = true ∧ s.participates (chNext .A) = true ∧ Ch.A ∈ txn.got ∧ s.reach .A .A 4 = true) ∧
    (let s := (journal fun d => { d with txn := some { txn with committed := true } }).upd .B fun c => { c with dict := { c.dict with prep := some (prep7 .A) } }
     s.seqCh = some .A ∧ (s.chan .A).dict.txn = some { txn with committed := true } ∧ Ch.B ≠ .A ∧ s.reach .A .B 4 = true ∧ (s.chan .B).dict.holds txn.num = true ∧
      (s.chan .B).dict.jobs = [] ∧ (s.chan .B).sys.flushing = false ∧ txn.durable.length < 2) := by decide

theorem test_hyp_journalUpkeep :
    (let s := (journal id).upd .B fun c => { c with dict := { c.dict with prep := some (prep7 .C) } }
     s.seqCh = some .A ∧ (s.chan .A).dict.txn = none ∧ s.heldTxn .A = some (prep7 .C) ∧ (prep7 .C).txn.via = none ∧
      (∀ p ∈ [Ch.A, .B, .C], ∀ r ∈ (s.chan p).dict.recs, r.kind = 2 → r.txn ≠ (prep7 .C).num) ∧
      s.participates .B = true ∧ s.reach .A .B 4 = true ∧ (s.chan .B).dict.holds (prep7 .C).num = true ∧ (s.chan .B).sys.flushing = false) ∧
    (let c := (journal fun d => { d with ready := true, active := 60, blocks := List.replicate 60 (0, 1) ++ List.replicate 4 (0, 0), recs := [⟨4, 0, [], 3, true, []⟩] }).chan .A
     c.dict.oldest = some 3 ∧ c.dict.freeBlocks.length < 8 ∧ c.dict.compact = false ∧ c.dict.ready = true ∧ c.dict.prep = none ∧ c.dict.txn = none ∧ c.dict.jobs = [] ∧
      3 ≠ c.dict.active ∧ c.sys.flushing = false) ∧
    (let c := (journal fun d => { d with compact := true, recs := [⟨4, 0, [], 3, true, []⟩] }).chan .A
     c.dict.compact = true ∧ c.dict.oldest = some 3 ∧ c.dict.jobs = []) := by decide

theorem test_hyp_reeve :
    ((State.reset.chan .A).verdict .reeve true 0x40000074 = .served) ∧
    (let c := (pairUp fun c => { c with tb := { c.tb with acc := BitVec.ofNat 96 (50000000 * 4294967296) } }).chan .A
     c.up = true ∧ c.sys.reeveState = 0 ∧ c.sys.kickTime + 50000000 ≤ c.now) ∧
    (let c := (on voter).chan .A; c.up = true ∧ c.sys.reeveState = 1 ∧ (∀ n < 32, (c.bridge.slot n).state ≠ .committing) ∧ c.host.inBusy = false) ∧
    (let s := linkedUp (pairUp fun c => { c with sys := { c.sys with mode := .m4 } })
     (s.chan .A).up = true ∧ (s.chan .A).sys.reeveState = 0 ∧ (s.chan .A).sys.mode = .m4 ∧ s.direct .A (chNext .A) 4 = true ∧ s.direct .A (chPrev .A) 4 = true) := by decide +kernel

/-- Channel A votes with its ring block changed. -/
def ringed (f : MillBlk → MillBlk) : State := on fun c => { voter c with mill := f c.mill }

theorem test_hyp_ringPorts :
    (let m := ((ringed fun m => { m with nstate := .linking, relayOpen := true, link0 := true, link1 := true }).chan (ringOwner .r1)).mill
     m.open_ = true ∧ m.link0 = true ∧ m.link1 = true ∧ m.wasUp .p0 = true ∧ m.wasUp .p1 = true) ∧
    (let m := ((ringed fun m => { m with up0 := true }).chan (ringOwner .r1)).mill; m.up0 = true ∧ m.up1 = false ∧ m.loop ≠ 1) ∧
    (let m := ((ringed fun m => { m with up1 := true }).chan (ringOwner .r1)).mill; m.up0 = false ∧ m.up1 = true ∧ m.loop ≠ 2) ∧
    (let m := ((ringed fun m => { m with loop := 1 }).chan (ringOwner .r1)).mill; m.up0 = m.up1 ∧ m.loop ≠ 0) ∧
    (let m := ((ringed fun m => { m with probes := [(.p0, 5, 1000)], pres0 := List.replicate 8 300 }).chan (ringOwner .r1)).mill
     m.probes.find? (fun x => x.1 == RPort.p0 && x.2.1 == 5) = some (.p0, 5, 1000) ∧ (999 : Int) - 1000 - 0 < 0 ∧ 1200 < (2201 : Int) - 1000 - 0 ∧
      (0 ≤ (1000 : Int) - 1000 - 0 ∧ (2200 : Int) - 1000 - 0 ≤ 1200 ∧ 8 ≤ m.pres0.length)) := by decide

/-- A good frame without windows at port 0. -/
def frame : MFrame := ⟨.p0, true, true, true, false, 40, 40, 9#32, 0#32, 1, 1, 0, 0, 129, false, [], 0, 0, [], 0⟩

theorem test_hyp_ringFrames :
    (let c := (ringed fun m => { m with nstate := .listen, up0 := true, up1 := true }).chan (ringOwner .r1)
     let m := c.mill
     m.nstate ≠ .bypass ∧ m.nstate ≠ .linking ∧ m.nstate ≠ .originating ∧ m.upAt frame.inPort = true ∧ m.upAt (m.outPort frame.inPort) = true ∧
      frame.hops < 130 ∧ m.mbDone = [] ∧ m.mbSent = [] ∧
      m.nstate = .listen ∧ frame.hcrcOk = true ∧ frame.rcrcOk = true ∧ frame.bodyOk = true ∧ frame.txErr = false ∧ frame.reqs = [] ∧ frame.sched = m.sched ∧
      m.lastFrame ≠ some (frame.bell, frame.cycle) ∧ m.seen.contains (frame.bell, frame.cycle) = false ∧ m.periodBell = none ∧ c.ringSource .r1 = false) ∧
    { frame with hcrcOk := false }.hcrcOk = false ∧
    ((ringed fun m => { m with nstate := .joined, up0 := true, lastFrame := some (1, 9#32) }).chan (ringOwner .r1)).mill.lastFrame = some (frame.bell, frame.cycle) := by decide

theorem test_hyp_ringWindows :
    (let c := (ringed fun m => { m with nstate := .joined, binds := [⟨2, 1, 0, 0⟩], wins := [⟨1, 0, 32, 1, false⟩] }).chan .A
     c.mill.binds[0]? = some ⟨2, 1, 0, 0⟩ ∧ c.mill.win 1 = some ⟨1, 0, 32, 1, false⟩ ∧ c.mill.nstate = .joined ∧
      ringMode c.sys.mode = true ∧ c.speaks = true) ∧
    (let m := ((ringed fun m => { m with nstate := .originating, origCycle := some 9#32 }).chan .A).mill; m.nstate = .originating ∧ m.origCycle.isSome = true) ∧
    (let m := ((ringed fun m => { m with nstate := .withdrawn }).chan .A).mill; m.nstate = .withdrawn ∧ m.hold = 0) ∧
    (let m := ((ringed fun m => { m with nstate := .backoff }).chan .A).mill; m.nstate = .backoff ∧ m.backLeft = 0) ∧
    1100 ≤ ((ringed fun m => { m with blkCycles := 1100 }).chan .A).mill.blkCycles ∧
    (let s := ringed fun m => { m with mbOut := some ⟨1, 0, 0, [], none⟩, mbRetry := 64 }
     (s.chan .A).mill.mbOut = some ⟨1, 0, 0, [], none⟩ ∧ 64 ≤ (s.chan .A).mill.mbRetry ∧ ∀ x ∈ [Ch.A, .B, .C], ∀ j < 32, ((s.chan x).bridge.slot j).running = false) ∧
    (let c := ((running id).upd .A fun c => { c with mill := { c.mill with tmarks1 := List.replicate 8 0xC0000000#32 } }).chan .A
     c.tb.started = true ∧ (c.mill.tmarks .r1)[7]? = some 0xC0000000#32 ∧ (0xC0000000#32 : Word).getLsbD 31 = true ∧
      (0xC0000000#32 : Word).getLsbD 30 = true ∧ (c.cell 0).mode = .bonded) := by decide

/-- Channel A in a mode, changed by f. -/
def inMode (m : Mode) (f : Chan → Chan) : State := on fun c => f { voter c with sys := { (voter c).sys with mode := m } }

/-- Publication 1 of a kind, every boundary. -/
def pub (kind : Nat) : Pub := ⟨1, kind, 1, true, false, false, 0, 2, 500#32, 1, 0, 0, 0xEF000001#32, 0#32⟩

/-- A good telegram of two words. -/
def gram : Telegram := ⟨true, true, true, false, 500#32, 9#32, 1#32, [1#32, 2#32], true, 0#32, 100⟩

theorem test_hyp_processData :
    (let c := (inMode .m7 fun c => { c with ecn := { c.ecn with pubs := [pub 2] } }).chan (planeOwner .a)
     c.ecn.pub 1 = some (pub 2) ∧ c.pubOn (pub 2) = true ∧ c.tb.started = true ∧ (pub 2).phase ≤ c.tb.c ∧ (c.tb.c - (pub 2).phase) % (pub 2).cycle = 0 ∧
      (pub 2).kind ≠ 0 ∧ c.ecn.pubs.find? (fun y => y.comId == gram.comId) = some (pub 2)) ∧
    (let c := (inMode .m7 fun c => { c with ecn := { c.ecn with pubs := [pub 0] } }).chan (planeOwner .a)
     c.ecn.pub 1 = some (pub 0) ∧ c.pubOn (pub 0) = true ∧ (pub 0).kind = 0 ∧ c.vote.gate = false) ∧
    (let c := (inMode .m7 id).chan (planeOwner .a); c.speaks = true ∧ pdMode c.sys.mode = true ∧ c.ecn.subs.any (fun y => y.comId == gram.comId) = false) ∧
    (let u : ESub := ⟨1, 500#32, 0#32, true, false, false, 0, 2, 0#32, 0#32⟩
     let c := (inMode .m7 fun c => { c with ecn := { c.ecn with subs := [u] } }).chan (planeOwner .a)
     gram.fcsOk = true ∧ gram.hdrOk = true ∧ gram.typeOk = true ∧ c.bridge.routes = [] ∧ c.ecn.subs = [u] ∧ u.comId = gram.comId ∧ u.planeA = true ∧ u.filter = 0#32 ∧
      u.sdt = false ∧ gram.data.length = u.words ∧ c.pair.cfg.on = false ∧ c.pair.cfg.srcSets = [] ∧
      c.ecn.lastSeq.find? (fun y => y.1 == u.num && y.2.1 == gram.src) = none) := by decide

theorem test_hyp_networkTime :
    (let c := (inMode .m7 id).chan (planeOwner .a)
     let a : Announce := ⟨1#64, 0, -3, 0, c.ecn.domain, true⟩
     c.ptpOn = true ∧ a.plain = true ∧ a.domain = c.ecn.domain ∧ -3 ≤ a.logSync ∧ a.logSync ≤ 0 ∧ c.ecn.masters = [] ∧ c.ecn.sel = none) ∧
    (let m : Master := ⟨1#64, 0, 0, 0⟩
     let c := (inMode .m7 fun c => { c with ecn := { c.ecn with masters := [m], sel := some m, gm := 1#64, delays := [(50000, 0)], sync := some (1#64, 4, 0, 16000000000, 6) } }).chan (planeOwner .a)
     c.ecn.masters = [m] ∧ m.gm = 1#64 ∧ c.ecn.sel = some m ∧ c.ptpOn = true ∧ c.ecn.sel.isSome = true ∧ c.ecn.gm = 1#64 ∧ c.tb.started = true ∧
      0 ≤ medianInt (c.ecn.delays.map (·.1)) ∧ medianInt (c.ecn.delays.map (·.1)) ≤ 50000 ∧ c.ecn.delays.any (fun d => decide (16000000000 ≤ d.2 + 16000000000)) = true ∧
      c.ecn.sync = some (1#64, 4, 0, 16000000000, 6)) := by decide +kernel

theorem test_hyp_planePorts :
    (let c := (inMode .m4 fun c => { c with ecn := { c.ecn with up1 := true } }).chan (planeOwner .a)
     c.speaks = true ∧ planeMode c.sys.mode = true ∧ 3 < 4 ∧ c.ecn.goesOn (2 ^ 40) .p0 = true ∧ (atD [] (portNum .p1 * 4 + 3) c.ecn.queues).length < 64 ∧
      c.ecn.goesOn (2 ^ 40) .p1 = false) ∧
    64 ≤ (atD [] (portNum .p1 * 4 + 3) ((inMode .m4 fun c => { c with ecn := { c.ecn with queues := List.replicate 12 (List.replicate 64 (.planeFrame .a .p1 3)) } }).chan .A).ecn.queues).length ∧
    (let d := (inMode .m4 id).chan (portOwner .planeA); d.portOn .planeA = true ∧ (0#32 : Word) = d.ecn.ip ∧ (1#32 : Word) ≠ d.ecn.ip) ∧
    (((inMode .m4 id).chan .A).speaks = true ∧ planeMode ((inMode .m4 id).chan .A).sys.mode = true ∧ Ch.A ≠ .C) := by decide

/-- Channel C votes in M7 with its MVB device changed. -/
def bused (f : MvbBlk → MvbBlk) : State :=
  State.reset.upd .C fun c => { voter c with sys := { (voter c).sys with mode := .m7 }, mvb := f c.mvb }

theorem test_hyp_mvb :
    (let p : MvbPort := ⟨0x100, 0, true, 2, 1, 0, some [1#8, 2#8]⟩
     let c := (bused fun m => { m with ports := [p] }).chan .C
     c.mvbOn = true ∧ p.fcode ≠ 15 ∧ c.mvb.ports.find? (fun y => y.addr == p.addr && y.fcode == p.fcode) = some p ∧ p.source = true ∧ c.mvbMay p.kind = true ∧
      p.buf = some [1#8, 2#8]) ∧
    (let p : MvbPort := ⟨0x100, 0, false, 2, 1, 0, none⟩
     let c := (bused fun m => { m with ports := [p], await := some 0x100 }).chan .C
     c.mvbOn = true ∧ p.source = false ∧ c.mvb.ports.find? (fun y => y.addr == p.addr && y.fcode == p.fcode) = some p ∧ c.mvb.await = some p.addr ∧
      c.mvb.ports.find? (fun y => y.addr == p.addr && !y.source) = some p ∧ c.mvb.trustB = false ∧ [1#8, 2#8].length = fcodeLen p.fcode ∧ c.bridge.routes = []) := by decide

/-- A bridge entry to destination ports. -/
def route (read side : Bool) (dports : BitVec 8) : Route := ⟨1, 5, read, side, false, dports, 0, 0x10000001#32, 0x01400001#32, 0, 0, 4, 0#32⟩

/-- Channel A with a bridge changed by f. -/
def bridged (f : BridgeBlk → BridgeBlk) : State := inMode .m7 fun c => { c with bridge := f c.bridge, sys := { c.sys with reeveState := 0 } }

/-- A queued write to port d. -/
def posted (d : Nat) : Posted := ⟨0, 1, [1#8, 2#8, 3#8, 4#8], [d], 0⟩

theorem test_hyp_postedWrites :
    (let f := fun (d : Nat) => (bridged fun b => { b with routes := [route false false 4#8], queue := [posted d] }).chan .A
     (f 2).bridge.queue.find? (fun (x : Posted) => x.qid == 0 && x.dests.contains 2) = some (posted 2) ∧
      (f 2).bridge.routes.find? (fun (x : Route) => x.num == (posted 2).entry) = some (route false false 4#8) ∧
      ((f 2).bridge.queue.find? (fun (x : Posted) => x.entry == 1 && x.dests.contains 2)).map (·.qid) = some 0 ∧ (f 2).bridgeOn = true ∧
      (f 4).bridge.queue.find? (fun (x : Posted) => x.qid == 0 && x.dests.contains 4) = some (posted 4) ∧ (f 4).host.hout = none) ∧
    (∀ w ∈ [[], List.replicate 64 (Work.slot 0)], let c := (bridged fun b => { b with routes := [route false false 1#8], queue := [posted 0], work := w }).upd .A fun c => { c with mill := { c.mill with binds := [⟨3, 1, 0, 0⟩], wins := [⟨1, 0, 64, 1, false⟩] } }
     (c.chan .A).bridge.queue.find? (fun (x : Posted) => x.qid == 0 && x.dests.contains 0) = some (posted 0) ∧
      (c.chan .A).bridge.routes.find? (fun (x : Route) => x.num == (posted 0).entry) = some (route false false 1#8) ∧
      ((c.chan .A).bridge.queue.find? (fun (x : Posted) => x.entry == 1 && x.dests.contains 0)).map (·.qid) = some 0 ∧ (c.chan .A).bridgeOn = true ∧
      (c.chan .A).sys.reeveState = 0 ∧ (c.chan .A).bridge.work.contains (.write 0) = false ∧ 0 < (c.chan .A).mill.mbSize) ∧
    (let b := ((bridged fun b => { b with gaps := [⟨1, 7, [5], [1#8], 0, 0⟩] }).chan .A).bridge; b.gaps = [⟨1, 7, [5], [1#8], 0, 0⟩] ∧ ([5] : List Nat) ≠ [] ∧ b.queue.length < 256) ∧
    (7 < 8 ∧ ((bridged fun b => { b with pins := 128#8 }).chan .A).bridge.pins.getLsbD 7 = true) := by decide

/-- Channel A with slot 0 in a state. -/
def slotted (r : Route) (x : Slot) : State := bridged fun b => { b with routes := [r], slots := modAt (fun _ => x) 0 b.slots }

theorem test_hyp_delayedReads :
    (let r := route true false 1#8
     let c := (bridged fun b => { b with routes := [r] }).chan .A
     0 < 32 ∧ c.bridge.slots.length = 32 ∧ c.up = true ∧ c.bridgeOn = true ∧ c.sys.reeveState = 0 ∧ c.readRoute .A .host 0x1000 1 = some r ∧ c.bridge.failed = [] ∧ c.bridge.work.length < 64 ∧
      (∀ m < 32, (c.bridge.slot m).state = .free ∨ (c.bridge.slot m).via ≠ some .host ∨ (c.bridge.slot m).index ≠ 0x1000 ∨ (c.bridge.slot m).sub ≠ 1) ∧ (c.bridge.slot 0).state = .free) ∧
    (let r := route true false 1#8
     let s := slotted r ⟨.pending, 1, some .host, 0x1000, 1, [(.host, 3#8)], none, [], 0, false, [], 0⟩
     (s.chan .A).slotRoute 0 = some r ∧ ((s.chan .A).bridge.slot 0).state = .pending ∧ ((s.chan .A).bridge.slot 0).started = false ∧
      s.slotWaits .A ((s.chan .A).bridge.slot 0) r = false ∧ r.target ≤ 1 ∧ (s.chan .A).bridgeOn = true ∧
      s.slotReach .A (bportOwner r.target) r.target = true ∧ (s.chan (bportOwner r.target)).bridge.work.length < 64 ∧ s.reach (bportOwner r.target) .A 4 = true ∧
      ((s.chan .A).bridge.slot 0).via = some .host ∧ ((s.chan .A).bridge.slot 0).held = [(.host, 3#8)]) ∧
    (let s := slotted (route true true 1#8) ⟨.pending, 1, some .host, 0x1000, 1, [], none, [], 0, true, [], 0⟩
     ((s.chan .A).bridge.slot 0).started = true ∧ ((s.chan .A).bridge.slot 0).held = [] ∧ (route true true 1#8).side = true ∧ (route true true 1#8).event = false) ∧
    (∀ x ∈ [SlotState.ready, .handover], let s := slotted (route true true 1#8) ⟨x, 1, some .host, 0x1000, 1, [], some 0, [], 0, true, [], 0⟩
     ((s.chan .A).bridge.slot 0).until_ = some 0 ∧ ((s.chan .A).bridge.slot 0).held = [] ∧
      (((s.chan .A).bridge.slot 0).state = .ready ∨ ((s.chan .A).bridge.slot 0).state = .handover)) := by decide

theorem test_hyp_heldReads :
    ∀ b ∈ [false, true], let s := slotted (route true b 1#8) ⟨.pending, 1, some .host, 0x1000, 1, [(.host, 3#8)], none, [], 0, true, [], 0⟩
     (s.chan .A).slotRoute 0 = some (route true b 1#8) ∧ (route true b 1#8).event = false ∧ ((s.chan .A).bridge.slot 0).state = .pending ∧
      ((s.chan .A).bridge.slot 0).started = true ∧ s.reach (bportOwner (route true b 1#8).target) .A 4 = true ∧ ((s.chan .A).bridge.slot 0).held = [(.host, 3#8)] ∧
      ((s.chan .A).bridge.slot 0).via = some .host ∧ (route true b 1#8).target ≤ 1 ∧ s.slotReach .A (bportOwner (route true b 1#8).target) (route true b 1#8).target = true ∧
      (s.chan (bportOwner (route true b 1#8).target)).bridge.work.length < 64 := by decide

theorem test_hyp_commits :
    (let s := slotted (route true true 1#8) ⟨.committing, 1, some .host, 0x1000, 1, [], none, [], 9, true, [], 0⟩
     ((s.chan .A).bridge.slot 0).state = .committing ∧ ((s.chan .A).bridge.slot 0).held = [] ∧ (s.chan .A).slotRoute 0 = some (route true true 1#8) ∧ (route true true 1#8).target ≤ 1 ∧
      s.reach (bportOwner (route true true 1#8).target) .A 4 = true ∧ s.slotReach .A (bportOwner (route true true 1#8).target) (route true true 1#8).target = true ∧ (s.chan (bportOwner (route true true 1#8).target)).bridge.work.length < 64) ∧
    (let s := (bridged fun b => { b with
        routes := [route true false 1#8, { route true false 32#8 with num := 2 }]
        slots := modAt (fun _ => ⟨.pending, 2, none, 0, 0, [], none, [], 0, false, [], 0⟩) 1 (modAt (fun _ => ⟨.pending, 1, some .host, 0x1000, 1, [(.host, 3#8)], none, [], 0, true, [], 0⟩) 0 b.slots) }).upd .A
        fun c => { c with host := { c.host with hout := some ⟨0#32, 3, 0#8, 0, []⟩ } }
     ((s.chan .A).bridge.slot 0).via = some .host ∧ ((s.chan .A).bridge.slot 0).held = [(.host, 3#8)] ∧ (s.chan .A).slotRoute 0 = some (route true false 1#8) ∧
      (route true false 1#8).target ≤ 1 ∧ s.laneWaited .A = true) ∧
    (let r := route true false 32#8
     let s := slotted r ⟨.pending, 1, none, 0x1000, 1, [], none, [], 0, true, [], 0⟩
     let m : HostMsg := ⟨r.did, 4, 0#8, 0, [1#8]⟩
     (s.chan .A).bridgeOn = true ∧ s.reach .A .A 4 = true ∧ m.kind = 4 ∧ m.tag.toNat = chCode .A * 32 + 0 ∧ (s.chan .A).slotRoute 0 = some r ∧ r.did = m.id ∧ r.target = laneBport .A ∧
      r.event = false ∧ ((s.chan .A).bridge.slot 0).state = .pending ∧ ((s.chan .A).bridge.slot 0).started = true ∧ ((s.chan .A).bridge.slot 0).held = []) ∧
    96 ≤ (96#8 : Byte).toNat := by decide

theorem test_hyp_alignment : 31 < 32 ∧ ((on bridging).chan .A).up = true ∧ ((on bridging).chan .A).clk.divRun = true ∧ ((on bridging).chan .A).sl.rise.length = 32 ∧
    ((on bridging).chan .A).sl.fall.length = 32 := by decide

/-- Channel A in M7 with network i changed. -/
def netted (i : Nat) (f : NetRt → NetRt) : State := inMode .m7 fun c => { c with field := { c.field with fsup := true, nets := modAt f i c.field.nets } }

theorem test_hyp_field :
    (let c := (netted 15 fun n => { n with quenchAt := some 0 }).chan .A
     c.field.nets.length = 18 ∧ c.sys.mode.runs = true ∧ 15 < 16 ∧ (c.net 15).quenchAt = some 0 ∧ (c.net 15).cfg.safe = 0) ∧
    (let s := netted 17 fun n => { n with tcond := 1#12 }
     (s.chan .A).judgesField = true ∧ s.findCond .A 17 (.stuckOn 0) = true ∧ (s.chan .A).field.win = none) ∧
    (let s := netted 3 fun n => { n with current := 60000 }
     (s.chan .A).judgesField = true ∧ s.findCond .A 3 .short = true ∧ s.findCond .A 3 .over = true ∧ (s.chan .A).field.win = none) ∧
    (let c := (inMode .m7 fun c => { c with field := { c.field with fsup := true }, tb := { c.tb with c := 6 } }).chan .A
     c.sys.mode.runs = true ∧ c.field.fsup = true ∧ c.field.test = none ∧ c.sys.cstate = .voting ∧ c.field.released = false ∧ c.tb.c % (3 * c.testM) = chCode .A * c.testM ∧
      (testOrder c.field.nextTest).find? (fun q => c.testable .A q) = some (0, 0)) ∧
    ((inMode .m7 fun c => { c with field := { c.field with test := some (0, 0) } }).chan .A).field.test = some (0, 0) ∧
    (17 < 18 ∧ ((inMode .m7 id).chan .A).netTested 17 = true ∧ (ownedBy .A)[0]?.isSome = true ∧ ∀ x, (ownedBy .A)[0]? = some x → x ∈ ownedBy .A) ∧
    (let c := (inMode .m7 fun c => { c with field := { c.field with fsup := true } }).chan .A; c.up = true ∧ c.field.fsup = true) ∧
    (let c := (inMode .m7 id).chan .A; c.up = true ∧ c.field.fsup = false) ∧
    (let c := (inMode .m7 fun c => { c with field := { c.field with
        lvl := 0x80000000#32
        nets := modAt (fun n => { n with state := .safe, cmd := true, cfg := { n.cfg with safe := 1, permit := 31 } }) 17 c.field.nets } }).chan .A
     17 < 18 ∧ (c.net 17).state = .safe ∧ (c.net 17).cfg.safe = 1 ∧ (c.net 17).cmd = true ∧ (c.net 17).cfg.permit < 32 ∧ c.field.lvl.getLsbD (c.net 17).cfg.permit = true) := by
  refine ⟨by decide, by decide, by decide, by decide, by decide, ⟨by decide, by decide, by decide, fun x h => List.mem_of_getElem? h⟩, by decide, by decide, by decide⟩

/-- A partner's pair status. -/
def pstat (recP : Bool) (xseq xkind xarea : Nat) : PairStatus := ⟨1, true, true, true, recP, false, 7, 3, 0, 0#32, 0#64, 0#32, 0#32, 0#64, xseq, xkind, xarea, 1, 0⟩

/-- Channel A of a configured pair in M5. -/
def paired (f : PairBlk → PairBlk) : State :=
  inMode .m5 fun c => { c with pair := f { c.pair with cfg := ⟨true, 1, 10, 0, 11, 12, 30, [], []⟩ } }

/-- A record of a sequence number, kind and area. -/
def prec (n kind area : Nat) : PairRecord := ⟨pstat true n kind area, [], [], 0, 0, 0#64⟩

theorem test_hyp_pair :
    (let c := (paired id).chan .A
     c.pair.cfg.on = true ∧ c.pair.cfg.pwin .r1 ≠ 0 ∧ c.up = true ∧ Ch.A = ringOwner .r1 ∧ c.speaks = true ∧ c.pair.track ≠ .tracking ∧
      c.pair.partner.find? (fun x => x.1 == Ring.r1) = none ∧ c.sys.mode = .m5) ∧
    (let m : XMsg := ⟨.B, .A, .direct, .pairStatus .r2 0#32 (pstat false 0 0 0)⟩
     let s : State := { paired id with wire := [m] }
     Ch.A ≠ ringOwner .r2 ∧ (s.chan .A).pair.cfg.pwin .r2 ≠ 0 ∧ Safety.Arrives s .A (ringOwner .r2) XBody.isPairStatus m []) ∧
    (let c := (paired fun p => { p with partner := [(.r1, 0xFFFFFFFF#32, pstat false 0 0 0)], track := .tracking, pdig := 1#64 }).chan .A
     c.pair.partner.find? (fun x => x.1 == Ring.r1) = some (.r1, 0xFFFFFFFF#32, pstat false 0 0 0) ∧ laterW 0#32 0xFFFFFFFF#32 = true ∧ c.pair.track = .tracking ∧
      c.sl.prog = none ∧ (pstat false 0 0 0).prog = 0#64 ∧ (pstat false 0 0 0).pdk = c.pair.pdk ∧ (pstat false 0 0 0).pdig ≠ c.pair.pdig) ∧
    (let m : XMsg := ⟨.B, .A, .direct, .pairRecord .r2 0#32 (prec 0 1 2)⟩
     let s : State := { (paired fun p => { p with track := .waiting, req := true }) with wire := [m] }
     let c := s.chan .A
     Safety.Arrives s .A (ringOwner .r2) XBody.isPairRecord m [] ∧
     c.pair.track = .waiting ∧ c.pair.req = true ∧ (prec 0 1 2).status.recP = true ∧ (prec 0 1 2).status.xseq = 0 ∧ (prec 0 1 2).status.xkind = 1) ∧
    (let c := (paired fun p => { p with track := .copying, xseq := 65535 }).chan .A
     c.pair.track = .copying ∧ (prec 1 1 2).status.xseq = nextXseq c.pair.xseq ∧ (prec 1 1 2).status.xkind = 1 ∧ (prec 1 1 2).status.xarea = 2 ∧
      (prec 65535 1 2).status.xseq ≠ 0 ∧ (prec 65535 1 2).status.xseq = c.pair.xseq ∧ (prec 0 1 2).status.klo = c.pair.copyK) ∧
    (let c := (paired fun p => { p with track := .copying, xseq := 32768 }).chan .A
     c.pair.xseq + 1 < (prec 65535 1 2).status.xseq ∧ (prec 65535 1 2).status.xseq < c.pair.xseq + 32768 ∧ (prec 65535 1 2).status.xseq ≤ 65535) ∧
    (let c := ((running id).upd .A fun c => { c with pair := { c.pair with cfg := ⟨true, 1, 10, 0, 11, 0, 30, [], []⟩ } }).chan .A
     c.pair.cfg.pwin .r1 ≠ 0 ∧ c.sys.mode = .m5 ∧ 0 < 8 ∧ (c.cell 0).mode = .bonded ∧ (c.core (2 * 0)).slice = 0#32 ∧ ∀ m ∈ c.bondedCells, m = 0) ∧
    (let c := ((running id).upd .A fun c => { c with
        pair := { c.pair with cfg := ⟨true, 1, 10, 0, 11, 0, 30, [], []⟩ }
        cells := modAt (fun x => { x with mode := .bonded }) 1 c.cells }).chan .A
     ∃ m ∈ c.bondedCells, m ≠ 0 ∧ ∀ x ∈ c.pair.cycle1, x.1 ≠ m) := by
  refine ⟨by decide, ⟨by decide, by decide, rfl, rfl⟩, by decide, ⟨⟨rfl, rfl⟩, by decide⟩, by decide, by decide, by decide, 1, by decide⟩

/-- Channel A in M7 with its signal chain changed. -/
def chained (f : SdBlk → SdBlk) : State := inMode .m7 fun c => { c with sd := f c.sd }

theorem test_hyp_signalChain :
    (let c := (chained fun d => { d with drv := true, clkCh := some .A }).chan .A; c.sdRuns = true ∧ c.sd.drv = true ∧ c.sd.clkCh = some .A ∧ c.sd.pulsed ≠ some (c.tb.c + 1)) ∧
    (let c := (chained fun d => { d with framed := true, closed := some 6000, ins := modAt (fun x => { x with cfg := { x.cfg with en := true } }) 11 d.ins }).chan .A
     c.sdRuns = true ∧ c.sd.framed = true ∧ c.sd.closed = some 6000 ∧ c.sd.got0 ≠ some 7#32 ∧ c.sd.got1 ≠ some 7#32 ∧ 11 < c.sd.ins.length ∧ (atD SdIn.init 11 c.sd.ins).cfg.en = true ∧ (atD SdIn.init 10 c.sd.ins).cfg.en = false ∧
      ((atD SdIn.init 11 c.sd.ins).b + 1) % (16 * 2 ^ (atD SdIn.init 11 c.sd.ins).cfg.rcode) ≠ 0) ∧
    (let c := (chained fun d => { d with noclk := true, since := 70000, ins := modAt (fun x => { x with cfg := { x.cfg with en := true } }) 0 d.ins }).chan .A
     c.sd.closed = none ∧ c.sd.noclk = true ∧ (atD SdIn.init 0 c.sd.ins).cfg.en = true) ∧
    (let c := (chained id).chan .A; c.sdRuns = true ∧ c.sd.pinEn = true) := by decide

theorem test_hyp_discipline :
    (let t := { (State.reset.chan .A).tb with dstate := .settling }
     t.dstate = .settling ∧ ((1125000 : Int).natAbs : Int) ≤ t.jump * 1000 + ((periodNs t.period / 2 : Nat) : Int) ∧
      (t.jump * 1000 + ((periodNs t.period / 2 : Nat) : Int) : Int) < (1125001 : Int).natAbs) ∧
    (let t := { (State.reset.chan .A).tb with dstate := .locked }
     t.dstate = .locked ∧ ((-1000000 : Int).natAbs : Int) ≤ t.jump * 1000 ∧ (t.jump * 1000 : Int) < (1000001 : Int).natAbs) ∧
    (let c := (on fun c => { voter c with tb := { (voter c).tb with dstate := .locked, lastApplied := some 0, acc := BitVec.ofNat 96 (4000000000 * 4294967296) } }).chan .A
     c.up = true ∧ c.tb.lastApplied = some 0 ∧ 0 + 4000000000 ≤ c.now) := by decide +kernel

theorem test_hyp_unmapped :
    (0x10000 % 4 = 0 ∧ 0x10000 < 4294967296 ∧ 0xFFFF < 0x10000 ∧ 0x10000 < 0x08000000) ∧
    (Safety.CoreGoes (running id) .A 0 ∧ ((running id).chan .A).hit 0 1 0x10000 = none ∧ (((running id).chan .A).cell 0).mode = .bonded) ∧
    (0xD0800000 % 4 = 0 ∧ 0xD07FFFFF < 0xD0800000 ∧ 0xFFFFFFFC < 4294967296) ∧
    (((pairUp id).chan .A).up = true ∧ ((pairUp id).chan .A).sys.reeveState = 0 ∧ 7 < 8) ∧
    (((debugged 255 false).chan .A).sys.cstate ≠ .off ∧ ((debugged 255 false).chan .A).tapCut = false ∧ ((debugged 255 false).chan .A).sys.mode = .m9 ∧
      ((debugged 255 false).chan .A).dbg.log.length < 256) := by
  refine ⟨by decide, ⟨⟨by decide, by decide⟩, by decide, by decide⟩, by decide, by decide, by decide, by decide, by decide, by decide +kernel⟩

/-- A declared output object of task 1: one U32. -/
def decl1 : ObjDecl := ⟨0x7000, 1, 6, 1, 0, false, 0xFFF, 0, 5#32, 1, 1, 0⟩

/-- Channel A in a mode with its reeve running, task 1 and its program. -/
def served (m : Mode) (f : Chan → Chan) : State := inMode m fun c => f { c with
  sys := { c.sys with reeveState := 0 }
  sl := { c.sl with tasks := [task1], prog := some ⟨[], 0#32, [], [], false, [task1.decl], [], [decl1], [], none⟩ } }

/-- The request is served as far as its form and transport go. -/
def asks (s : State) (via : Transport) (svc : Nat) (r : DReq) : Bool :=
  (s.chan .A).up && !(s.chan .A).ringBusy via && viaOffered (s.chan .A).sys.mode via && (s.chan .A).sys.reeveState == 0 && !(s.chan .A).overLimit via &&
  decide (r.len ≤ 8192) && reqOk svc r && (svc != 2 || decide ((s.chan .A).sys.mode ≠ .m2))

theorem test_hyp_dictionary :
    (let s := served .m7 fun c => { c with vote := { c.vote with gate := true } }
     let r : DReq := ⟨3#8, true, 8192, [⟨0x7000, 1, [], 0⟩]⟩
     ∃ d, (s.chan .A).desc .A .host 0x7000 1 = .ok d ∧ (s.chan .A).desc .A (.md .planeA 1#32 2#32) 0x7000 1 = .ok d ∧ (s.chan .A).desc .A (.notify .planeA 1#32) 0x7000 1 = .ok d ∧ d.proxy = false ∧ d.top = false ∧ d.decl = some decl1 ∧ d.wmask = 0 ∧ isProxyIndex 0x7000 = false ∧ (s.chan .A).readBar d = 0#32 ∧
      readRange (s.chan .A).sys.mode 0x7000 = true ∧ (s.chan .A).sys.mode ≠ .m4 ∧ (s.chan .A).sl.task decl1.task = some task1 ∧
      (s.chan .A).votedEntry 0x7000 1 = true ∧ (s.chan .A).votedRead = 0 ∧
      ((∀ svc ∈ [1, 2, 3, 4, 5, 6], asks s .host svc r = true) ∧ asks s (.md .planeA 1#32 2#32) 1 r = true ∧ asks s (.notify .planeA 1#32) 3 r = true ∧ Ch.A = portCh .planeA ∧ (s.chan .A).portOn .planeA = true ∧ (s.chan .A).ecn.mdDue = [] ∧
       (elemsOctets decl1.typ decl1.count ((task1.declWords decl1.area).drop decl1.word)).length ≤ 4096)) ∧
    ((served .m7 id).chan .A).votedRead = 1 ∧
    (let s := served .m7 id
     let r : DReq := ⟨3#8, true, 16, [⟨0x1410, 2 + 1, leB 4 5, 0⟩]⟩
     asks s .host 2 r = true ∧ (s.chan .A).sys.mode = .m7) := by
  refine ⟨⟨_, rfl, rfl, rfl, ?_⟩, ?_, ?_⟩ <;> decide +kernel

theorem test_hyp_hallmark :
    let s := (served .m4 id).upd .B fun c => { voter c with sys := { (voter c).sys with reeveState := 0, mode := .m4 } }
    let es : List DEntry := [⟨0x1040, 4, leB 4 (0#32 : Word).toNat, 0⟩]
    asks s .host 2 ⟨3#8, true, 16, es⟩ = true ∧ firstFailure (s.writeChecks .A .host es) es = none ∧ (s.chan .A).upd.find [0, 1] .trial = none ∧
      2 ≤ s.participants.length ∧ s.seqCh = some .A ∧ s.reach .A .A 4 = true := by decide +kernel

/-- A program image of one block in an open transfer to slot P0. -/
def man1 : Manifest := { factoryManifest with kind := 2, imglen := 100, nblk := 1 }
def peer1 : Peer := ⟨6, 0#32⟩
def recv1 : Recv := ⟨peer1, 2, man1, []⟩
def send1 : Send := ⟨peer1, 2, manImgid man1, 1, 0, 0#64, true, 0, []⟩
def hdr1 (block reason : Nat) : BrigadeHdr := ⟨manImgid man1, block, 63, reason, 0#64, true, none⟩

theorem test_hyp_transfers :
    (hdr1 0 0).dict = none ∧ { hdr1 0 0 with ok := false }.ok = false ∧ (hdr1 0 0).ok = true ∧
    ((pairUp id).chan .A).brigadeOn .A peer1 = true ∧ (pairUp id).offerReason .A peer1 { man1 with magic := 0#32 } ≠ 0 ∧
    ((on id).chan .A).upd.recv.find? (fun y => y.peer == peer1 && manImgid y.man == (hdr1 0 0).imgid) = none ∧
    (let c := (pairUp fun c => { c with upd := { c.upd with recv := [recv1], slots := modAt (fun _ => ⟨.partial_, some man1, [], 0, false⟩) 2 c.upd.slots } }).chan .A
     c.up = true ∧ c.sys.reeveState = 0 ∧ c.brigadeOn .A peer1 = true ∧ c.upd.recv = [recv1] ∧ recv1.peer = peer1 ∧ manImgid recv1.man = (hdr1 0 0).imgid ∧ c.recvNext recv1 ≤ (hdr1 0 0).block ∧ (hdr1 0 0).block ≤ c.recvNext recv1 + 3 ∧
      (hdr1 0 0).block < recv1.man.nblk ∧ (hdr1 0 0).piece < 64 ∧ (List.replicate 1024 (0#8 : Byte)).length = 1024 ∧
      (c.upd.slot recv1.slot).block (hdr1 0 0).block = none ∧ recv1.pieces = []) ∧
    (let c := (pairUp fun c => { c with upd := { c.upd with sends := [send1], slots := modAt (fun _ => ⟨.good, some man1, [(0, [])], 0, false⟩) 2 c.upd.slots } }).chan .A
     c.upd.sends = [send1] ∧ send1.peer = peer1 ∧ send1.imgid = (hdr1 1 0).imgid ∧ (hdr1 1 0).block = send1.nblk ∧ (hdr1 1 0).reason ≠ 10 ∧ (hdr1 1 10).reason = 10 ∧ (c.upd.slot send1.slot).man = some man1 ∧ c.brigadePort peer1 = true ∧
      send1.started = true ∧ send1.nblk = send1.next + 1 ∧ (c.upd.slot send1.slot).block send1.next = some []) ∧
    (let c := (pairUp fun c => { c with upd := { c.upd with verify := [4], slots := modAt (fun _ => ⟨.partial_, some man1, [(0, [])], 0, false⟩) 4 c.upd.slots } }).chan .A
     c.upd.slots.length = 12 ∧ 4 < 12 ∧ 4 ∈ c.upd.verify ∧ (c.upd.slot 4).st = .partial_ ∧ (c.upd.slot 4).lacks = [] ∧ c.up = true ∧ c.sys.reeveState = 0 ∧ c.sys.mode ≠ .m3) := by
  refine ⟨rfl, rfl, rfl, by decide, by decide +kernel, rfl, by decide +kernel, by decide +kernel, by decide⟩

/-- A customer key, and a program image for its slot. -/
def key1 : List Byte := List.replicate 32 7#8
def man2 : Manifest := { factoryManifest with kind := 2, keyslot := 1, imglen := 100, nblk := 1, sha := key1 }

/-- Channels A and B run with that key fused in A. -/
def keyed : State := pairUp fun c => { c with sys := { c.sys with mode := .m7 }, upd := { c.upd with custKey := some key1, custFuse := some (sha256 key1) } }

/-- An accepted OFFER: every reason of Table 15-7 is absent where the signature verifies (log entry 11 leaves the verification opaque). -/
theorem test_hyp_offerAccepted (h : Config.ed25519 key1 man2.raw man2.sig = true) :
    keyed.offerReason .A peer1 man2 = 0 ∧ ((keyed.chan .A).brigadeOn .A peer1 = true ∧ ∀ k ∈ [Ch.A, .B, .C], (keyed.chan k).upd.slots.length = 12) := by
  have hk : (keyed.chan .A).key man2.keyslot = some key1 := by decide +kernel
  have hs : (keyed.chan .A).sigOk man2 = true := by unfold Chan.sigOk; rw [hk]; exact h
  refine ⟨?_, by decide +kernel⟩
  unfold State.offerReason
  simp only [hs]
  decide +kernel

/-- Channels A and B in M4 with A's update state changed. -/
def updating (f : UpdBlk → UpdBlk) : State :=
  (State.reset.upd .B fun c => { voter c with sys := { (voter c).sys with reeveState := 0, mode := .m4 } }).upd .A fun c =>
    { voter c with sys := { (voter c).sys with reeveState := 0, mode := .m4 }, upd := f c.upd }

/-- Slot n with an image of a kind. -/
def slotAs (n : Nat) (st : SlotSt) (kind : Nat) (u : UpdBlk) : UpdBlk :=
  { u with slots := modAt (fun _ => ⟨st, some { factoryManifest with kind := kind }, [], 0, true⟩) n u.slots }

theorem test_hyp_updateCommands :
    (let s := updating (slotAs 1 .verified 1)
     (s.chan .A).up = true ∧ (s.chan .A).sys.reeveState = 0 ∧ 2 ≤ s.participants.length ∧ s.seqCh = some .A ∧ s.reach .A .A 4 = true ∧ (s.chan .A).sys.mode = .m4 ∧ (s.chan .A).upd.fwVerified = some 1 ∧ (s.chan .A).upd.find [0, 1] .trial = none ∧
      ((((s.chan .A).upd.slot 1).man.map (·.mincfmt)).getD 0) ≤ (s.chan .A).runCfmt) ∧
    (let s := updating (slotAs 2 .verified 2)
     let m := { factoryManifest with kind := 2 }
     (s.chan .A).upd.find [2, 3] .verified = some 2 ∧ ((s.chan .A).upd.slot 2).man = some m ∧ m.fwver ≤ (s.chan .A).runFw ∧ (s.chan .A).programOk 2 = true) ∧
    (let s := updating (slotAs 1 .trial 1)
     let m := { factoryManifest with kind := 1 }
     (s.chan .A).upd.find [0, 1] .trial = some 1 ∧ ((s.chan .A).upd.slot 1).man = some m ∧ manImgid m = manImgid m) ∧
    (let s := updating (slotAs 4 .verified 4)
     ((s.chan .A).upd.slot 4).st = .verified ∧ ((s.chan .A).upd.slot 4).man = some { factoryManifest with kind := 4 } ∧ (s.chan .A).upd.custFuse = none) ∧
    (let c := (pairUp fun c => { c with sys := { c.sys with mode := .m6 } }).chan .A; c.up = true ∧ c.sys.reeveState = 0 ∧ c.sys.mode = .m6) ∧
    (let c := (updating id).chan .A
     c.verdict .reeve true 0x400E0040 = .served ∧ c.verdict .reeve true 0x400E0054 = .served ∧ 4 ≤ c.sys.mode.num ∧ c.sys.mode.num ≤ 10 ∧ c.upd.fuses < 256 ∧ 256 ≤ 256) ∧
    ((updating fun u => { u with busy := true }).chan .A).upd.busy = true ∧
    (let s := (State.reset.updAll fun _ c => { voter c with
        sys := { (voter c).sys with mode := .m3 }
        tb := { c.tb with acc := BitVec.ofNat 96 (10000000000 * 4294967296) }
        upd := { c.upd with recovered := true } })
     s.mode = .m3 ∧ 2 ≤ (allCh.filter fun x => (s.chan x).upd.recovered).length ∧
      (∀ x ∈ [Ch.A, .B, .C], (s.chan x).upd.recv = [] ∧ (s.chan x).upd.quietAt + 10000000000 ≤ (s.chan x).now) ∧ (s.chan .A).sys.cstate ≠ .off) := by
  refine ⟨by decide +kernel, by decide +kernel, by decide +kernel, by decide +kernel, by decide, by decide +kernel, by decide, by decide +kernel⟩

theorem test_hyp_chronicle :
    (let c := (inMode .m7 id).chan .A
     15 < 16 ∧ c.verdict (.core 15) true (0x400C0100 + 4 * 15) = .served ∧ c.sys.mode.runs = true ∧ c.sys.cstate = .voting ∧ c.chron.flush = false ∧ c.chron.queue.length < 16 ∧
      128 ≤ (0x800001E8#32 : Word).toNat / 16777216 ∧ (0x800001E8#32 : Word).toNat % 65536 ≤ 488 ∧ (0x7F000000#32 : Word).toNat / 16777216 < 128) ∧
    (let c := (inMode .m7 fun c => { c with chron := { c.chron with ready := true, queue := [[1#8]], head := 0x3FFFFE } }).chan .A
     c.chron.ready = true ∧ c.chron.queue = [[1#8]] ∧ c.chron.head + [1#8].length < 0x400000 ∧ [(1#8 : Byte)].length ≤ ringFree c.chron.head c.chron.ring) ∧
    (let c := (on voter).chan .A; c.sys.cstate ≠ .off ∧ c.sys.cstate ≠ .held ∧ c.chron.ready = false ∧ c.chron.torn = none) ∧
    (let c := (on fun c => { voter c with chron := { c.chron with ctl0 := [], torn := some ⟨0, false, []⟩ } }).chan .A
     ctlOk c.chron.ctl0 = false ∧ ctlOk c.chron.ctl1 = true ∧ c.chron.torn = some ⟨0, false, []⟩ ∧ CRec.crcOk ⟨0, false, []⟩ = true ∧ CRec.crcOk ⟨0, false, [1#8]⟩ = false) ∧
    (let c := (pairUp fun c => { c with host := { c.host with legacy := true } }).chan .A
     c.host.legacy = true ∧ c.up = true ∧ c.sys.reeveState = 0 ∧ c.tb.tickRun = true) ∧
    (let c := (inMode .m6 fun c => { c with sys := { c.sys with reeveState := 0 } }).chan .A
     c.up = true ∧ c.sys.mode = .m6 ∧ c.sys.reeveState = 0 ∧ c.desc .A (.legacy 0) 0x3FFF 1 = .error abNoObject) ∧
    (let c := (inMode .m6 fun c => { c with sys := { c.sys with reeveState := 0 } }).chan .A
     ∃ d, c.desc .A (.legacy 0) 0x3000 2 = .ok d ∧ d.top = false ∧ d.decl = none ∧ d.proxy = false ∧ d.rmask.testBit 6 = true ∧ c.votedEntry 0x3000 2 = false ∧
      c.up = true ∧ c.sys.mode = .m6 ∧ c.sys.reeveState = 0) ∧
    (let c := (inMode .m7 fun c => { c with sys := { c.sys with reeveState := 0 } }).chan .A
     c.verdict (.core 0) false 0x40020000 = .served ∧ hasShadow (.core 0) = true ∧ c.verdict .reeve true 0x40020100 = .served ∧ c.verdict .reeve true 0x40000030 = .served ∧
      c.sys.reeveState = 0) := by
  refine ⟨by decide, by decide, by decide, by decide +kernel, ⟨rfl, rfl, rfl, rfl⟩, by decide, ⟨_, rfl, ?_⟩, by decide⟩
  decide +kernel

/-- Channel A in M7 with its lane locked and its host port changed. -/
def laned (f : HostBlk → HostBlk) : State := inMode .m7 fun c => { c with
  clk := { c.clk with laneLock := true }
  sys := { c.sys with reeveState := 0 }
  host := f c.host }

theorem test_hyp_host :
    (let c := (laned id).chan .A
     c.laneOn = true ∧ c.host.outst = [] ∧ 0x1000 ≤ 0x1000 ∧ 0x2FFC < 0x3000 ∧ 0x2FFC % 4 = 0 ∧ c.host.busy = false ∧ c.host.ready = false ∧ c.host.req = [] ∧
      c.sys.reeveState = 0 ∧ c.sys.mode ≠ .m2 ∧ viaOffered c.sys.mode .host = true ∧ hostMsgMode c.sys.mode = true ∧ c.host.houtQ = []) ∧
    ((laned fun h => { h with busy := true }).chan .A).host.busy = true ∧ ((laned fun h => { h with ready := true }).chan .A).host.ready = true ∧ ((laned fun h => { h with inBusy := true }).chan .A).host.inBusy = true ∧
    (let r : Route := ⟨1, 5, false, false, false, 32#8, 0, 9#32, 10#32, 0, 0, 4, 0#32⟩
     let c := ((laned fun h => { h with hin := [(0, 9#32)] }).upd .A fun c => { c with bridge := { c.bridge with routes := [r] } }).chan .A
     c.host.inBusy = false ∧ c.host.inMsg = some ⟨9#32, 0, 0#8, 0, []⟩ ∧ c.bridgeOn = true ∧ c.bridge.queue.length < 256 ∧ c.bridge.routes = [r] ∧ r.read = false ∧
      r.sport = laneBport .A ∧ r.sid = 9#32 ∧ r.nmove = 0 ∧ r.event = false ∧ c.dportsOf r = [laneBport .A]) ∧
    (let s := State.reset.updAll fun _ c => voter c
     (s.chan .A).sys.hrst = false ∧ (s.chan .A).sys.cstate ≠ .off ∧ s.ticking = true ∧
      ∀ k ∈ [Ch.B, .C], (s.chan k).tb.tickRun = true ∧ (s.chan k).sys.cstate ≠ .off ∧ (s.chan k).sys.cstate ≠ .held) ∧
    (let s := (State.reset.updAll fun _ c => voter c).upd .A fun c => { c with sys := { c.sys with hrst := true } }
     (s.chan .A).sys.hrst = true) := by
  refine ⟨by decide, by decide, by decide, by decide, by decide +kernel, by decide, by decide⟩

/-! Ill-formed commands: one for each check of WellFormed -/

/-- A pair record with one word too many. -/
def rec257 : PairRecord := ⟨pstat true 0 0 0, List.replicate 257 0#32, [], 0, 0, 0#64⟩

/-- The state after a command. -/
def after (i : Instr) (s : State) : State := match exec i s with | .next t => t | _ => s

theorem test_illFormed_operands :
    (Instr.tkSid .A 16 0).wf = false ∧ (Instr.tkSid .A 15 32).wf = false ∧ (Instr.tkSid .A 15 31).wf = true ∧
    (Instr.inputFreezeComplete .A 64).wf = false ∧ (Instr.comparatorMismatch .A 8 1#13).wf = false ∧
    (Instr.coreLoadStore .A .reeve true 3 0 0#32 0 false).wf = false ∧ (Instr.coreLoadStore .A .reeve true 4 4294967296 0#32 0 false).wf = false ∧
    (Instr.coreLoadStore .A (.core 16) true 4 0 0#32 0 false).wf = false ∧ (Instr.reeveKick .A (.engine 8)).wf = false ∧
    (Instr.boundaryMessageReceive .A .A true 0).wf = false ∧ (Instr.linkUp .A .next 4 0).wf = false ∧
    (Instr.csrTimeRead .A 0 0 4096).wf = false ∧ (Instr.debugTriggerWrite .A 0 4 0#32 0#32).wf = false ∧
    (Instr.debugRegisterRead .A 0 (.gpr 32)).wf = false ∧ (Instr.debugRegisterRead .A 0 (.csr 4096)).wf = false ∧
    (Instr.watchQualification .A [250]).wf = false ∧ (Instr.monitorWindow .A [1]).wf = false ∧
    (Instr.assayStepComplete .A ⟨true, [.ok], [], false⟩).wf = false ∧ (Instr.assayStepComplete .A ⟨true, [], [⟨3, 0, 0, false⟩], false⟩).wf = false := by decide

theorem test_illFormed_networks :
    (Instr.framePassage .r1 { frame with bell := 256 }).wf = false ∧ (Instr.framePassage .r1 { frame with wins := [⟨256, false, false, 1, 0#32, [], true⟩] }).wf = false ∧
    (Instr.framePassage .r1 frame).wf = true ∧ (Instr.pdTelegramReceive .a { gram with data := List.replicate 359 0#32 }).wf = false ∧
    (Instr.switchForward .a .p0 ⟨281474976710656, 0, 0⟩ false 0).wf = false ∧ (Instr.switchForward .a .p0 ⟨0, 281474976710656, 0⟩ false 0).wf = false ∧ (Instr.switchForward .a .p0 ⟨0, 0, 4⟩ false 0).wf = false ∧ (Instr.mvbMasterFrame 16 0).wf = false ∧
    (Instr.mvbSlaveFrame 0 true true (List.replicate 33 0#8) 0).wf = false ∧ (Instr.timeMark .A .r1 8).wf = false ∧
    (Instr.proxyReadRequest .A (.ring .r1 64) 0#8 0x4000 1).wf = false ∧ (Instr.proxyReadRequest .A (.legacy 3) 0#8 0x4000 1).wf = false ∧
    (Instr.downstreamAccessStart .A 32).wf = false ∧ (Instr.postedWriteDelivery .A 0 8).wf = false ∧ (Instr.sidebandPulseEnd .A 8).wf = false ∧
    (Instr.hostMessageAnswer .A ⟨0#32, 256, 0#8, 0, []⟩).wf = false ∧ (Instr.quenchExpiry .A 18).wf = false ∧ (Instr.outputFinding .A 0 (.stuckOn 12)).wf = false ∧
    (Instr.transistorUntested .A 0 12).wf = false ∧ (Instr.standbyTest .A (.h1 8 true)).wf = false ∧ (Instr.standbyTest .A (.h3 18 0 true true)).wf = false ∧
    (Instr.alignmentInstant .A 0#32 []).wf = false ∧ (Instr.pairRecordReceive .A .r1 0#32 rec257 true).wf = false := by decide +kernel

theorem test_illFormed_services :
    (Instr.dictRead .A .host ⟨0#8, true, 65536, []⟩).wf = false ∧ (Instr.dictRead .A .host ⟨0#8, true, 8, [⟨65536, 0, [], 0⟩]⟩).wf = false ∧
    (Instr.dictRead .A .host ⟨0#8, true, 8, [⟨0x1000, 256, [], 0⟩]⟩).wf = false ∧ (Instr.dictRead .A .host ⟨0#8, true, 8, [⟨0x1000, 1, [], 0⟩]⟩).wf = true ∧
    (Instr.brigadePiece .A ⟨256, 0#32⟩ (hdr1 0 0) []).wf = false ∧ (Instr.brigadePiece .A peer1 { hdr1 0 0 with piece := 65536 } []).wf = false ∧
    (Instr.brigadeOffer .A peer1 (hdr1 0 0) { factoryManifest with raw := [] }).wf = false ∧ (Instr.brigadeOffer .A peer1 (hdr1 0 0) factoryManifest).wf = false ∧ (Instr.imageVerification .A 12).wf = false ∧
    (Instr.fuseAdvance .A .reeve 512 true).wf = false ∧ (Instr.chronPost .A .reeve 17 0#32).wf = false ∧ (Instr.legacyMessage .A 3 []).wf = false ∧
    (Instr.laneRead .A ⟨true, 0#8, 0, 0, []⟩).wf = false ∧ (Instr.laneRead .A ⟨true, 0#8, 65, 0, []⟩).wf = false ∧ (Instr.laneRead .A ⟨true, 0#8, 1, 2, []⟩).wf = false ∧
    (Instr.laneRead .A ⟨true, 0#8, 64, 0xFFFC, []⟩).wf = true ∧ (Instr.hMbxDoor .A 65536).wf = false ∧ (Instr.registerWrite .A .reeve 4294967296 0#32).wf = false ∧
    (Instr.journalBlockErased .A 64).wf = false := by decide +kernel

/-! Values from the spec's worked examples and tables -/

/-- R222, R129: the published check values of the CRCs over "123456789". -/
theorem test_crc_check_values :
    let m : List Byte := [0x31, 0x32, 0x33, 0x34, 0x35, 0x36, 0x37, 0x38, 0x39]
    crc32 m = 0xCBF43926#32 ∧ crc32c m = 0xE3069283#32 ∧ crc16 m = 0x29B1#16 ∧ crc64 m = 0x62EC59E3F1A4F00A#64 := by decide +kernel

/-- Table 4-11: the bits of an illegal tk.ldin, tk.stout and tk.next, as mtval shows them. -/
theorem test_xtok_encodings : encI 0 10 9 0x00C#12 = 0x00C4850B#32 ∧ encS 0 11 5 0x004#12 = 0x0055822B#32 ∧ encR 8 10 0 0 = 0x1000750B#32 := by decide

/-- The first step in the Tarrow unit (ch. 03): s, the residual, f and the rate. -/
theorem test_first_step :
    stepOf 1748213906417082317 250000 = 1748213906417000000 ∧
    (let t := (TimeBlk.init).servo 82317; t.f = 1286 ∧ t.rate = 42444) := by decide +kernel

/-- R81, R82: 1,024 watch periods of 7.62 MHz last 16,798 cycles of the 125 MHz reference; 6.8 and 9.2 MHz bound the count. -/
theorem test_watch_frequency : watchHz 16798 = 7619954 ∧ watchInRange 18823 = true ∧ watchInRange 18824 = false ∧ watchInRange 13914 = true ∧ watchInRange 13913 = false := by decide

/-- A timer of 5,000 us (ch. 05, a timer across an overrun): running 2,000 us after its start, expired from 5,000 us on. -/
theorem test_timer_across_overrun :
    let go (ns : Nat) : Word := (((after (.tkTmst .A 0 6 5) ((running inSlice).upd .A fun c =>
        { c with sl := { c.sl with tasks := [{ task1 with inst := task1.inst.map fun i => { i with stamp := 1000000 + ns, timers := [⟨1#32, 5000#32, 1000000⟩] } }] } })).chan .A).core 0).reg 6
    go 2000000 = 1#32 ∧ go 5000000 = 2#32 ∧ go 4999999 = 1#32 := by decide

/-- An upset in cell B3 (Table 4-13): group G10 differs, GROUPS is 0x0400, the cell is halted and the pc is that of the store. -/
theorem test_upset_in_cell :
    let t := after (.comparatorMismatch .B 3 0x0400#13) (State.reset.upd .B fun c => { voter c with
        cells := modAt (fun (x : CellSt) => { x with mode := .bonded, core0 := { x.core0 with pc := 0x2000#32 } }) 3 c.cells })
    ((t.chan .B).cell 3).cap = some ⟨false, 0x0400#13, 0x2000#32⟩ ∧ ((t.chan .B).cell 3).mode = .halted ∧ (t.chan .B).sys.cmp.bits = 8#32 := by decide

/-- Register x0 discards what a load writes (R109). -/
theorem test_x0_discards :
    let t := after (.tkLdin .A 0 0 0 0#12) (running inSlice)
    ((t.chan .A).core 0).x = (inSlice CoreSt.init).x ∧ ((t.chan .A).core 0).pc = 4#32 := by decide

/-- tk.next takes the first slice of the cell's queue with a free handle; an empty queue gives 0 (Table 4-8). -/
theorem test_tk_next_empty :
    let t := after (.tkNext .A 0 5) (running id)
    ((t.chan .A).core 0).reg 5 = 0#32 ∧ ((t.chan .A).core 0).slice = 0#32 := by decide

/-- R253, Table 0-3 and R48: with two channels in TESTING the module is in M2, with fewer in M1, with none powered in M0. -/
theorem test_start_modes :
    (State.reset.upd .A (testing 1)).startMode = some .m1 ∧ ((State.reset.upd .A (testing 1)).upd .B (testing 1)).startMode = some .m2 ∧
    (State.reset.updAll fun _ c => { c with sys := { c.sys with cstate := .off } }).startMode = some .m0 := by decide

/-- Memory: a store of 4 octets is little-endian, and storing zeros again leaves the list empty (R26). -/
theorem test_store_little_endian :
    let t := after (.coreLoadStore .A (.core 0) true 4 0x10000000 0x11223344#32 0 false) (running id)
    (t.chan .A).mem = [(0x10000000, 0x44#8), (0x10000001, 0x33#8), (0x10000002, 0x22#8), (0x10000003, 0x11#8)] ∧
        ((after (.coreLoadStore .A (.core 0) true 4 0x10000000 0#32 0 false) ((running id).upd .A fun c => { c with mem := (t.chan .A).mem })).chan .A).mem = [] := by decide +kernel

/-- R126, Table 1-8: a capacity core may not write the integrity part of SRAM; the write traps with cause 7. -/
theorem test_capacity_write_refused :
    let t := after (.coreLoadStore .A (.core 1) true 4 0x10000000 1#32 0 false) splitCell
    (t.chan .A).mem = [] ∧ ((t.chan .A).core 1).mcause = 7#32 ∧ (t.chan .A).sys.viol.bits = 2#32 ∧ (t.chan .A).sys.vaddr = 0x10000000#32 := by decide

end Sys2Proof.Tests
end

section
/-! PROOFS. Messages damaged on a cross link (R35): what a receiver and a relay make of them. -/

namespace Sys2Proof.Machine
open Sys2Proof Sys2Proof.Safety

/-- The answer of a receiving command to a message whose check fails and whose loss leaves nothing but its count. -/
theorem next_recv_damaged {s : State} {rx tx : Ch} {p : XBody → Bool} {m : XMsg} {w : List XMsg} {f : XBody → State → State}
    (h : Arrives s rx tx p m w) : (.next (s.recv rx tx false p f) : Out) = .next ({ s with wire := w }.upd rx Chan.discard) :=
  congrArg Host.Outcome.next (State.recv_damaged f h)

/-- A damaged forwarded input is counted, and its items are missing at the receiver (R144). -/
theorem execForwardedInputReceive_damaged {s : State} {rx tx : Ch} {m : XMsg} {w : List XMsg} (h : Arrives s rx tx XBody.forwarded m w) :
    execForwardedInputReceive rx tx false s = .next ({ s with wire := w }.upd rx fun c => missBody m.body c.discard) :=
  congrArg Host.Outcome.next (State.recvOr_damaged missBody _ h)

/-- Over a link that carries its class, a relay passes a message on, or it reaches its receiver damaged. -/
theorem execXlinkSegmentRelay_direct {s : State} {k : Ch} {m : XMsg} {w : List XMsg} (ok : Bool)
    (h : relayNext k s.wire = some (m, w)) (hd : s.direct k m.rx m.body.cls = true) :
    execXlinkSegmentRelay k ok s = if ok then .next { s with wire := w ++ [{ m with way := .relayed k }] }
      else .next ({ s with wire := w }.upd m.rx fun c => missBody m.body c.discard) := by
  unfold execXlinkSegmentRelay
  rw [h]
  simp [hd]

/-- Settles O16: each receiving command is a `State.recv` of its kind of message, and the relay one case of `execXlinkSegmentRelay`. -/
theorem damagedMessagesAreDiscardedAndCounted : Obligations.DamagedMessagesAreDiscardedAndCounted := by
  unfold Obligations.DamagedMessagesAreDiscardedAndCounted
  intro s rx tx m w at_ count lost
  exact ⟨next_recv_damaged, next_recv_damaged, execForwardedInputReceive_damaged, next_recv_damaged, next_recv_damaged, next_recv_damaged,
    next_recv_damaged, next_recv_damaged, next_recv_damaged,
    fun k h hd => ⟨execXlinkSegmentRelay_direct true h hd, execXlinkSegmentRelay_direct false h hd⟩⟩

end Sys2Proof.Machine
end

section
/-! PROOFS. Accesses outside every region of Table 1-8 (R40): the fabric's verdict, what it leaves, and each initiator's own error. -/

namespace Sys2Proof.Machine
open Sys2Proof Sys2Proof.Safety

/-! The verdict -/

/-- An address of a region of Table 1-8 other than the reeve SRAM. -/
def inRegion (a : Nat) : Prop :=
  (0 ≤ a ∧ a ≤ 0xFFFF) ∨ (0x10000000 ≤ a ∧ a ≤ 0x10FFFFFF) ∨ (0x20000000 ≤ a ∧ a ≤ 0x203FFFFF) ∨ (0x40000000 ≤ a ∧ a ≤ 0x4012FFFF) ∨
    (0x80000000 ≤ a ∧ a ≤ 0xBFFFFFFF) ∨ (0xC0000000 ≤ a ∧ a ≤ 0xCFFFFFFF) ∨ (0xD0000000 ≤ a ∧ a ≤ 0xD07FFFFF)

/-- An address of the reeve SRAM. -/
def inReeveSram (a : Nat) : Prop := 0x08000000 ≤ a ∧ a ≤ 0x081FFFFF

theorem inRange_eq_true {lo hi a : Nat} : inRange lo hi a = true ↔ lo ≤ a ∧ a ≤ hi := by simp [inRange]
theorem inRange_eq_false {lo hi a : Nat} : inRange lo hi a = false ↔ ¬ (lo ≤ a ∧ a ≤ hi) := by
  rw [← inRange_eq_true, Bool.not_eq_true]

/-- A core is an integrity or a capacity initiator, never the reeve. -/
theorem Chan.tag_core_ne (c : Chan) (h : Nat) : c.tag (.core h) ≠ 2 := by
  unfold Chan.tag
  dsimp only
  split <;> decide

/-- Outside every region an access is unmapped, and in the reeve SRAM too for every initiator but the reeve (R40; log entry 86). -/
theorem Chan.verdict_unmapped (c : Chan) {ini : Initiator} (wr : Bool) {a : Nat} (ha : ¬ inRegion a) (hs : ¬ inReeveSram a ∨ c.tag ini ≠ 2) :
    c.verdict ini wr a = .unmapped := by
  simp only [inRegion, not_or] at ha
  obtain ⟨rom, sram, image, regs, dram, flash, mram⟩ := ha
  have image1 : ¬ (0x20000000 ≤ a ∧ a ≤ 0x202FFFFF) := by omega
  have image2 : ¬ (0x20300000 ≤ a ∧ a ≤ 0x203FFFFF) := by omega
  unfold Chan.verdict
  simp only [inRange_eq_false.2 rom, inRange_eq_false.2 sram, inRange_eq_false.2 image1, inRange_eq_false.2 image2, inRange_eq_false.2 regs,
    inRange_eq_false.2 dram, inRange_eq_false.2 flash, inRange_eq_false.2 mram, Bool.false_eq_true, if_false]
  rcases hs with hs | hs
  · rw [if_neg (mt inRange_eq_true.1 hs)]
  · rw [if_neg hs, ite_self]

/-! What an unmapped access leaves -/

@[simp] theorem Chan.missed_mem (c : Chan) (ini : Initiator) (wr : Bool) (a : Nat) : (c.missed ini wr a).mem = c.mem := rfl
@[simp] theorem Chan.missed_cells (c : Chan) (ini : Initiator) (wr : Bool) (a : Nat) : (c.missed ini wr a).cells = c.cells := rfl
@[simp] theorem Chan.missed_dbg (c : Chan) (ini : Initiator) (wr : Bool) (a : Nat) : (c.missed ini wr a).dbg = c.dbg := rfl
@[simp] theorem Chan.missed_viol (c : Chan) (ini : Initiator) (wr : Bool) (a : Nat) : (c.missed ini wr a).sys.viol = c.sys.viol := by cases ini <;> rfl
@[simp] theorem Chan.missed_vaddr (c : Chan) (ini : Initiator) (wr : Bool) (a : Nat) : (c.missed ini wr a).sys.vaddr = c.sys.vaddr := by cases ini <;> rfl
@[simp] theorem Chan.missed_unmap (c : Chan) (ini : Initiator) (wr : Bool) (a : Nat) : (c.missed ini wr a).sys.unmap = satInc c.sys.unmap := by
  cases ini <;> rfl

/-- No other channel, no octet of memory, no violation flag and no captured address changed; one more unmapped access is counted. -/
def UnmappedCounted (ch : Ch) (s t : State) : Prop :=
  OnlyChan ch s t ∧ (t.chan ch).mem = (s.chan ch).mem ∧ (t.chan ch).sys.viol = (s.chan ch).sys.viol ∧
    (t.chan ch).sys.vaddr = (s.chan ch).sys.vaddr ∧ (t.chan ch).sys.unmap = satInc (s.chan ch).sys.unmap

/-- A next state with the memory as it was and the system block of a missed access has counted it. -/
theorem unmappedCounted_of_missed {ch : Ch} {s t : State} (ini : Initiator) (wr : Bool) (a : Nat) (ho : OnlyChan ch s t)
    (hm : (t.chan ch).mem = (s.chan ch).mem) (hy : (t.chan ch).sys = ((s.chan ch).missed ini wr a).sys) : UnmappedCounted ch s t := by
  refine ⟨ho, hm, ?_, ?_, ?_⟩ <;> rw [hy]
  · exact Chan.missed_viol _ ini wr a
  · exact Chan.missed_vaddr _ ini wr a
  · exact Chan.missed_unmap _ ini wr a

/-- A missed access alone, of the reeve or a port engine. -/
theorem missed_counts (s : State) (ch : Ch) (ini : Initiator) (wr : Bool) (a : Nat) : UnmappedCounted ch s (s.upd ch fun c => c.missed ini wr a) :=
  unmappedCounted_of_missed ini wr a (onlyChan_of_upd ch s _) (by simp) (by rw [State.upd_chan_self])

/-! The access of each initiator -/

section
variable {s : State} {ch : Ch} (wr : Bool) {n a : Nat} (v : Word) (hn : n = 1 ∨ n = 2 ∨ n = 4) (hal : a % n = 0) (ha : a < 4294967296)
  (hr : ¬ inRegion a)

include hn in
theorem sizeOk_of_width : sizeOk n = true := by rcases hn with e | e | e <;> subst e <;> rfl

theorem aligned_of_mod (h : a % n = 0) : aligned a n = true := by simp [aligned, h]

include hn hal ha hr in
/-- A core's unmapped access is counted, and the core takes the trap of a refused one. -/
theorem coreAccess_unmapped {h : Nat} (rd : Nat) (sg : Bool) (g : CoreGoes s ch h) (hh : (s.chan ch).hit h (if wr then 1 else 0) a = none) :
    execCoreLoadStore ch (.core h) wr n a v rd sg s = .next (s.tick.upd ch fun c =>
      (c.missed (.core h) wr a).exception h (if wr then 7 else 5) (BitVec.ofNat 32 a)) := by
  rw [coreAccess_goes g wr v rd sg hn ha hh, Chan.verdict_unmapped _ wr hr (.inr (Chan.tag_core_ne _ h))]
  simp [aligned_of_mod hal, Chan.notServed]

include hal hr in
/-- An unmapped access of the reeve or a port engine is counted. -/
theorem plainAccess_unmapped (ini : Initiator) (hs : ¬ inReeveSram a) :
    s.plainAccess ch ini wr n a v = s.upd ch fun c => c.missed ini wr a := by
  unfold State.plainAccess
  rw [Chan.verdict_unmapped _ wr hr (.inl hs)]
  simp [aligned_of_mod hal, Chan.notServed]

include hn hal ha hr in
/-- An unmapped access that the running reeve makes. -/
theorem reeveAccess_unmapped (rd : Nat) (sg : Bool) (hs : ¬ inReeveSram a) (hup : (s.chan ch).up = true) (hrv : (s.chan ch).sys.reeveState = 0) :
    execCoreLoadStore ch .reeve wr n a v rd sg s = .next (s.upd ch fun c => c.missed .reeve wr a) := by
  simp only [execCoreLoadStore, sizeOk_of_width hn, Nat.mod_eq_of_lt ha, Bool.not_true, Bool.false_eq_true, if_false]
  rw [guardC_true (by simp [hup, hrv]), plainAccess_unmapped wr v hal hr .reeve hs]

include hn hal ha hr in
/-- An unmapped access that a port engine of a channel that is up makes. -/
theorem engineAccess_unmapped {k : Nat} (rd : Nat) (sg : Bool) (hs : ¬ inReeveSram a) (hup : (s.chan ch).up = true) (hk : k < 8) :
    execCoreLoadStore ch (.engine k) wr n a v rd sg s = .next (s.upd ch fun c => c.missed (.engine k) wr a) := by
  simp only [execCoreLoadStore, sizeOk_of_width hn, Nat.mod_eq_of_lt ha, Bool.not_true, Bool.false_eq_true, if_false]
  rw [guardC_true (by simp [hup, hk]), plainAccess_unmapped wr v hal hr (.engine k) hs]

/-- A debug module that the DMI reaches performs its action. -/
theorem Chan.dmi_served {c : Chan} (f : Chan → Chan) (hon : c.sys.cstate ≠ .off) (htap : c.tapCut = false) (hm9 : c.sys.mode = .m9)
    (hlog : c.dbg.log.length < 256) : c.dmi f = f { c with dbg := { c.dbg with active := true, dmiOp := 0 } } := by
  unfold Chan.dmi
  rw [if_neg (by simp [hon, htap]), if_neg (by simp [hm9]), if_neg (by omega)]

include hn hal hr in
/-- An unmapped system bus access is counted, answered with bus error 2 and logged. -/
theorem sysBus_unmapped (hs : ¬ inReeveSram a) (hon : (s.chan ch).sys.cstate ≠ .off) (htap : (s.chan ch).tapCut = false)
    (hm9 : (s.chan ch).sys.mode = .m9) (hlog : (s.chan ch).dbg.log.length < 256) :
    s.sysBus ch wr n a v = s.upd ch fun c =>
      (({ c with dbg := { c.dbg with active := true, dmiOp := 0, sberror := 2 } } : Chan).missed .debug wr a).logAct c.dbg.hartsel
        (if wr then 7 else 6) (BitVec.ofNat 32 a) (if wr then v else 0#32) := by
  unfold State.sysBus
  simp only [Chan.dmi_served _ hon htap hm9 hlog, Chan.verdict_unmapped _ wr hr (.inl hs), sizeOk_of_width hn, aligned_of_mod hal, hon, htap, hm9,
    Nat.not_le.2 hlog, State.upd_upd, Chan.notServed, ne_eq, not_true_eq_false, decide_false, Bool.or_false, Bool.not_true, Bool.false_eq_true, if_false]
  exact State.upd_congr rfl

end

/-! The next state of each initiator -/

/-- The trap of a core on an access outside every region. -/
theorem missed_exception_counts {s : State} {ch : Ch} {h : Nat} (wr : Bool) (a : Nat) (o : (s.chan ch).owns h) :
    let cause := if wr then 7 else 5
    let t := s.tick.upd ch fun c => (c.missed (.core h) wr a).exception h cause (BitVec.ofNat 32 a)
    UnmappedCounted ch s t ∧ ((t.chan ch).core h).x = ((s.chan ch).core h).x ∧ ((t.chan ch).core h).mcause = BitVec.ofNat 32 cause ∧
      ((t.chan ch).core h).mtval = BitVec.ofNat 32 a ∧ ((t.chan ch).core h).mepc = ((s.chan ch).core h).pc ∧
      (((s.chan ch).cell (h / 2)).mode = .bonded → ((t.chan ch).core h).slice = 0#32) := by
  intro cause t
  have hf : isSliceFault cause = true := by cases wr <;> rfl
  obtain ⟨⟨cs, sl, e⟩, ⟨_, _, _, _, hk, -, -⟩, hb, -⟩ :=
    Chan.exception_shape (c := (s.chan ch).missed (.core h) wr a) cause (BitVec.ofNat 32 a) o
  have ht : t.chan ch = ((s.chan ch).missed (.core h) wr a).exception h cause (BitVec.ofNat 32 a) := State.upd_chan_self _ _ _
  have hcore : ((s.chan ch).missed (.core h) wr a).core h = (s.chan ch).core h := rfl
  refine ⟨unmappedCounted_of_missed (.core h) wr a (onlyChan_of_tick_upd ch s _) (by rw [ht, e]; rfl) (by rw [ht, e]), ?_, ?_, ?_, ?_,
    fun hm => ht ▸ hb hm hf⟩
  all_goals rw [ht, hk]; simp [hcore]

/-- The debug module's answer to a system bus access outside every region: bus error 2 and one more log entry (log entry 92). -/
theorem sysBus_unmapped_counts {s : State} {ch : Ch} {n a : Nat} (wr : Bool) (v : Word) (hn : n = 1 ∨ n = 2 ∨ n = 4) (hal : a % n = 0)
    (hr : ¬ inRegion a) (hs : ¬ inReeveSram a) (hon : (s.chan ch).sys.cstate ≠ .off) (htap : (s.chan ch).tapCut = false)
    (hm9 : (s.chan ch).sys.mode = .m9) (hlog : (s.chan ch).dbg.log.length < 256) :
    let t := s.sysBus ch wr n a v
    UnmappedCounted ch s t ∧ (t.chan ch).dbg.sberror = 2 ∧ (t.chan ch).cells = (s.chan ch).cells ∧
      (t.chan ch).dbg.log.length = (s.chan ch).dbg.log.length + 1 := by
  rw [sysBus_unmapped wr v hn hal hr hs hon htap hm9 hlog]
  refine ⟨unmappedCounted_of_missed .debug wr a (onlyChan_of_upd ch s _) ?_ ?_, ?_, ?_, ?_⟩
  all_goals rw [State.upd_chan_self]
  · rfl
  · rfl
  all_goals simp [Chan.logAct]

/-- Settles O55: each initiator's access is unmapped, so it is counted, and the initiator gets its own error. -/
theorem accessesOutsideEveryRegion : Obligations.AccessesOutsideEveryRegion := by
  unfold Obligations.AccessesOutsideEveryRegion
  intro s ch wr sg n a h rd k v hn hal ha c inside sram known same hr
  refine ⟨fun g hh => ?core, fun hs hup hrv => ?reeve, fun hs hup hk => ?engine, fun hs hon htap hm9 hlog i hi => ?debug⟩
  case core =>
    obtain ⟨hsame, hx, hcause, htval, hepc, hslice⟩ := missed_exception_counts wr a (coreGoes_owns g)
    have hcause' : BitVec.ofNat 32 (if wr then 7 else 5) = if wr then 7#32 else 5#32 := apply_ite (BitVec.ofNat 32) _ _ _
    exact ⟨_, coreAccess_unmapped wr v hn hal ha hr rd sg g hh, hsame, hx, hcause.trans hcause', htval, hepc, hslice⟩
  case reeve =>
    refine ⟨_, reeveAccess_unmapped wr v hn hal ha hr rd sg hs hup hrv, missed_counts s ch .reeve wr a, ?_, ?_⟩
    all_goals rw [State.upd_chan_self]; rfl
  case engine =>
    refine ⟨_, engineAccess_unmapped wr v hn hal ha hr rd sg hs hup hk, missed_counts s ch (.engine k) wr a, ?_, ?_⟩
    all_goals rw [State.upd_chan_self]; rfl
  case debug =>
    have hmod : a % 4294967296 = a := Nat.mod_eq_of_lt ha
    have counts := fun w x => sysBus_unmapped_counts (s := s) w x hn hal hr hs hon htap hm9 hlog
    simp only [List.mem_cons, List.not_mem_nil, or_false] at hi
    rcases hi with rfl | rfl
    · exact ⟨_, congrArg (fun b => Host.Outcome.next (s.sysBus ch true n b v)) hmod, counts true v⟩
    · exact ⟨_, congrArg (fun b => Host.Outcome.next (s.sysBus ch false n b 0#32)) hmod, counts false 0#32⟩

end Sys2Proof.Machine
end

section
/-! PROOFS. The debug module's action log (R133, R134): no access lengthens it, an action adds at most one entry, a full log refuses every action, and a pop
hands the oldest entry to the chronicle. -/

namespace Sys2Proof.Machine
open Sys2Proof Sys2Proof.Safety

/-! Writes leave the log -/

theorem Chan.putByte_dbg (c : Chan) (a : Nat) (b : Byte) : (c.putByte a b).dbg = c.dbg := by
  unfold Chan.putByte Chan.putCtl
  dsimp only
  repeat' split
  all_goals rfl

theorem Chan.storeN_dbg : ∀ (n a v : Nat) (c : Chan), (c.storeN a n v).dbg = c.dbg
  | 0, _, _, _ => rfl
  | n + 1, a, v, c => (Chan.storeN_dbg n (a + 1) (v / 256) _).trans (c.putByte_dbg a _)

/-- Of the debug module a flag write clears flags only. -/
theorem Chan.clearFlags_dbgLog (c : Chan) (ch : Ch) (blk o : Nat) (w : Word) : (c.clearFlags ch blk o w).dbg.log = c.dbg.log := by
  unfold Chan.clearFlags
  repeat' split
  all_goals rfl

theorem Chan.setFields_dbg (c : Chan) (blk o : Nat) (w m : Word) : (c.setFields blk o w m).dbg = c.dbg := by
  unfold Chan.setFields
  split
  all_goals simp only [apply_ite Chan.dbg, Chan.writeClkout, Chan.setClkout, ite_self]

theorem Chan.chronPost_dbg (c : Chan) (n : Nat) (v : Word) : (c.chronPost n v).dbg = c.dbg := by
  unfold Chan.chronPost
  dsimp only
  repeat' split
  all_goals simp

theorem Chan.advanceFuses_dbg (c : Chan) (k : Nat) (ok : Bool) : (c.advanceFuses k ok).dbg = c.dbg := by
  unfold Chan.advanceFuses
  dsimp only
  repeat' split
  all_goals rfl

/-- Refusing a write that no transaction brought leaves the debug module. -/
theorem State.refuseOne_dbg (s : State) (ch : Ch) (tag : Byte) (ab : Word) : ((s.refuseOne ch none tag ab).chan ch).dbg = (s.chan ch).dbg := by
  unfold State.refuseOne State.answer
  dsimp only
  split <;> simp

theorem Chan.queueCmd_dbg (c : Chan) (ch : Ch) (k v : Nat) (via : Option Transport) (tag : Byte) : (c.queueCmd ch k v via tag).dbg = c.dbg := rfl

theorem State.modeCommand_dbg (s : State) (ch : Ch) (tag : Byte) (v : Nat) : ((s.modeCommand ch none tag v).chan ch).dbg = (s.chan ch).dbg := by
  unfold State.modeCommand
  dsimp only
  repeat' split
  all_goals simp [State.refuseOne_dbg, Chan.queueCmd_dbg]

theorem State.chgCommand_dbg (s : State) (ch : Ch) (tag : Byte) (v : Nat) : ((s.chgCommand ch none tag v).chan ch).dbg = (s.chan ch).dbg := by
  unfold State.chgCommand
  dsimp only
  repeat' split
  all_goals simp [State.refuseOne_dbg, Chan.queueCmd_dbg]

theorem State.syncCmd_dbg (s : State) (ch : Ch) (tag : Byte) (v : Nat) : ((s.syncCmd ch none tag v).chan ch).dbg = (s.chan ch).dbg := by
  unfold State.syncCmd
  dsimp only
  repeat' split
  all_goals simp [State.refuseOne_dbg, Chan.queueCmd_dbg]

theorem State.regWrite_dbgLog (s : State) (ch : Ch) (blk o : Nat) (w m : Word) : ((s.regWrite ch blk o w m).chan ch).dbg.log = (s.chan ch).dbg.log := by
  unfold State.regWrite
  dsimp only
  repeat' split
  all_goals simp [Chan.kick, State.modeCommand_dbg, State.chgCommand_dbg, State.syncCmd_dbg, Chan.advanceFuses_dbg, Chan.chronPost_dbg, Chan.setFields_dbg,
    Chan.clearFlags_dbgLog]

/-- A served write leaves the log as it was. -/
theorem State.busWrite_dbgLog (s : State) (ch : Ch) (a n : Nat) (v : Word) : ((s.busWrite ch a n v).chan ch).dbg.log = (s.chan ch).dbg.log := by
  unfold State.busWrite
  split
  · exact State.regWrite_dbgLog s ch _ _ _ _
  · rw [State.upd_chan_self, Chan.storeN_dbg]

/-! A read lengthens no log: at most it pops an entry -/

theorem Chan.latch_dbg (c : Chan) (ini : Initiator) (r : ShadowReg) : (c.latch ini r).dbg = c.dbg := by
  unfold Chan.latch
  split <;> rfl

theorem Chan.popLog_cons {c : Chan} {e : LogEntry} {l : List LogEntry} (h : c.dbg.log = e :: l) :
    c.popLog = ({ c with dbg := { c.dbg with log := l, log1 := e.whereW, log2 := e.data } } : Chan).log 0x0B (payW [e.word0, e.whereW, e.data]) := by
  unfold Chan.popLog
  rw [h]

theorem Chan.popLog_nil {c : Chan} (h : c.dbg.log = []) : c.popLog = c := by
  unfold Chan.popLog
  rw [h]

theorem Chan.popLog_dbgLog (c : Chan) : c.popLog.dbg.log = c.dbg.log.tail := by
  cases h : c.dbg.log with
  | nil => rw [Chan.popLog_nil h, h, List.tail_nil]
  | cons e l => rw [Chan.popLog_cons h, Chan.log_dbg, List.tail_cons]

theorem Chan.regSide_dbgLog_le (c : Chan) (ini : Initiator) (blk o : Nat) : (c.regSide ini blk o).dbg.log.length ≤ c.dbg.log.length := by
  unfold Chan.regSide
  split
  · rw [Chan.latch_dbg]
  · split
    · simp [Chan.popLog_dbgLog]
    · exact Nat.le_refl _

theorem State.busSide_dbgLog_le (s : State) (ch : Ch) (ini : Initiator) (a : Nat) :
    ((s.busSide ch ini a).chan ch).dbg.log.length ≤ (s.chan ch).dbg.log.length := by
  unfold State.busSide
  split
  · simpa using Chan.regSide_dbgLog_le _ _ _ _
  · exact Nat.le_refl _

/-! The program buffer -/

@[simp] theorem Chan.updPair_dbg (c : Chan) (h : Nat) (f : CoreSt → CoreSt) : (c.updPair h f).dbg = c.dbg := rfl

/-- An instruction of the program buffer changes its hart, stores, or reads with the read's side effect, so it lengthens no log. -/
theorem State.bufOp_dbgLog_le {s t : State} {ch : Ch} {h : Nat} {o : Op} (e : s.bufOp ch h o = some t) :
    (t.chan ch).dbg.log.length ≤ (s.chan ch).dbg.log.length := by
  unfold State.bufOp at e
  dsimp only at e
  repeat' split at e
  all_goals cases e
  all_goals simp [State.busWrite_dbgLog, State.busSide_dbgLog_le]

theorem State.bufRun_dbgLog_le (s : State) (ch : Ch) (h : Nat) (ws : List Nat) :
    ((s.bufRun ch h ws).1.chan ch).dbg.log.length ≤ (s.chan ch).dbg.log.length := by
  fun_induction State.bufRun s ch h ws
  case case3 run ih => exact ih.trans (State.bufOp_dbgLog_le run)
  case case8 run ih => exact ih.trans (State.bufOp_dbgLog_le run)
  all_goals exact Nat.le_refl _

/-! The DMI (R132, R134) -/

@[simp] theorem Chan.logAct_dbgLog_length (c : Chan) (h k : Nat) (w d : Word) : (c.logAct h k w d).dbg.log.length = c.dbg.log.length + 1 := by
  simp [Chan.logAct]

/-- What a channel does with an action while its log is full: cmderr 7 and LOG_FULL. -/
def Chan.refusedFull (c : Chan) : Chan := { c with dbg := { c.dbg with active := true, dmiOp := 0, cmderr := 7, flag := c.dbg.flag.raise 0 } }

/-- The DMI reaches the debug module of channel c. -/
def Chan.dmiReaches (c : Chan) : Prop := c.sys.cstate ≠ .off ∧ c.tapCut = false ∧ c.sys.mode = .m9

theorem Chan.dmi_full {c : Chan} (f : Chan → Chan) (hr : c.dmiReaches) (hfull : 256 ≤ c.dbg.log.length) : c.dmi f = c.refusedFull := by
  obtain ⟨hon, htap, hm9⟩ := hr
  unfold Chan.dmi
  rw [if_neg (by simp [hon, htap]), if_neg (by simp [hm9]), if_pos hfull]
  rfl

/-- A change of a channel that enters at most k actions in the log. -/
def LogsAtMost (k : Nat) (f : Chan → Chan) : Prop := ∀ c, (f c).dbg.log.length ≤ c.dbg.log.length + k

theorem logsAtMost_id (k : Nat) : LogsAtMost k id := fun _ => Nat.le_add_right _ _
theorem logsAtMost_cmdErr4 (k : Nat) : LogsAtMost k Chan.cmdErr4 := fun _ => Nat.le_add_right _ _

theorem State.upd_dbgLog_le {k : Nat} {f : Chan → Chan} (s : State) (ch : Ch) (hf : LogsAtMost k f) :
    ((s.upd ch fun _ => f (s.chan ch)).chan ch).dbg.log.length ≤ (s.chan ch).dbg.log.length + k := by
  rw [State.upd_chan_self]
  exact hf _

/-- Changing a core and entering it in the log. -/
theorem logsAtMost_updPair (h k : Nat) (f : Chan → CoreSt → CoreSt) (w d : Chan → Word) :
    LogsAtMost 1 fun c => (c.updPair h (f c)).logAct h k (w c) (d c) := by
  intro c
  simp

theorem logsAtMost_ifHalted {k : Nat} {f : Chan → Chan} (h : Nat) (hf : LogsAtMost k f) :
    LogsAtMost k fun c => if (c.core h).halted then f c else c.cmdErr4 := by
  intro c
  dsimp only
  split
  · exact hf c
  · exact logsAtMost_cmdErr4 k c

/-- The DMI enters what the action enters, and nothing where it does not serve it. -/
theorem logsAtMost_dmi {k : Nat} {f : Chan → Chan} (hf : LogsAtMost k f) : LogsAtMost k fun c => c.dmi f := by
  intro c
  dsimp only [Chan.dmi]
  repeat' split
  case isFalse.isFalse.isFalse => exact hf _
  all_goals exact Nat.le_add_right _ _

/-- Through the DMI no action takes a log past 256 entries. -/
theorem Chan.dmi_dbgLog_le {f : Chan → Chan} (hf : LogsAtMost 1 f) {c : Chan} (hc : c.dbg.log.length ≤ 256) : (c.dmi f).dbg.log.length ≤ 256 := by
  by_cases hroom : c.dbg.log.length < 256
  · exact (logsAtMost_dmi hf c).trans hroom
  · unfold Chan.dmi
    rw [if_pos (Nat.not_lt.1 hroom)]
    repeat' split
    all_goals exact hc

/-- An action on a hart, once the DMI serves it: `g` is what an unavailable hart leaves. -/
def Chan.hartAct (h : Nat) (g f : Chan → Chan) (c : Chan) : Chan :=
  let c := { c with dbg := { c.dbg with hartsel := h } }
  if !c.hartExists h then c else if c.hartUnavail h then g c else f c

theorem Chan.onHartOr_eq (c : Chan) (h : Nat) (g f : Chan → Chan) : c.onHartOr h g f = c.dmi (Chan.hartAct h g f) := rfl

theorem logsAtMost_hartAct {k : Nat} {f g : Chan → Chan} (h : Nat) (hg : LogsAtMost k g) (hf : LogsAtMost k f) :
    LogsAtMost k (Chan.hartAct h g f) := by
  intro c
  dsimp only [Chan.hartAct]
  repeat' split
  · exact Nat.le_add_right _ _
  · exact hg _
  · exact hf _

theorem logsAtMost_abstractCmd {k : Nat} {f : Chan → Chan} (h : Nat) (hf : LogsAtMost k f) : LogsAtMost k fun c => c.abstractCmd h f :=
  logsAtMost_dmi (logsAtMost_hartAct h (logsAtMost_cmdErr4 k) (logsAtMost_ifHalted h hf))

theorem Chan.badReg_dbgLog (c : Chan) (r : DbgReg) : (c.badReg r).dbg.log = c.dbg.log := by cases r <;> rfl

/-! What every debug action keeps -/

/-- From s to t the log of channel ch stays within 256 entries, and a full one that the DMI reaches refuses the action. -/
def LogBoundKept (ch : Ch) (s t : State) : Prop :=
  ((s.chan ch).dbg.log.length ≤ 256 → (t.chan ch).dbg.log.length ≤ 256) ∧
    ((s.chan ch).dmiReaches → 256 ≤ (s.chan ch).dbg.log.length → OnlyChan ch s t ∧ t.chan ch = (s.chan ch).refusedFull)

theorem logBoundKept_of_dmi {ch : Ch} {s t : State} {f : Chan → Chan} (ho : OnlyChan ch s t) (ht : t.chan ch = (s.chan ch).dmi f) (hf : LogsAtMost 1 f) :
    LogBoundKept ch s t :=
  ⟨fun hc => ht ▸ Chan.dmi_dbgLog_le hf hc, fun hr hfull => ⟨ho, ht.trans (Chan.dmi_full f hr hfull)⟩⟩

/-- With room in the log, one more entry is within its bound. -/
theorem logBoundKept_of_room {ch : Ch} {s t : State} (hroom : (s.chan ch).dbg.log.length < 256)
    (ht : (t.chan ch).dbg.log.length ≤ (s.chan ch).dbg.log.length + 1) : LogBoundKept ch s t :=
  ⟨fun _ => ht.trans hroom, fun _ hfull => absurd hfull (Nat.not_le.2 hroom)⟩

theorem logBoundKept_onHart {ch : Ch} {s t : State} {f : Chan → Chan} {h : Nat} (ho : OnlyChan ch s t) (ht : t.chan ch = (s.chan ch).onHart h f)
    (hf : LogsAtMost 1 f) : LogBoundKept ch s t :=
  logBoundKept_of_dmi ho (ht.trans (Chan.onHartOr_eq _ h id f)) (logsAtMost_hartAct h (logsAtMost_id 1) hf)

theorem logBoundKept_abstractCmd {ch : Ch} {s t : State} {f : Chan → Chan} {h : Nat} (ho : OnlyChan ch s t)
    (ht : t.chan ch = (s.chan ch).abstractCmd h f) (hf : LogsAtMost 1 f) : LogBoundKept ch s t :=
  logBoundKept_of_dmi ho (ht.trans (Chan.onHartOr_eq _ h Chan.cmdErr4 _)) (logsAtMost_hartAct h (logsAtMost_cmdErr4 1) (logsAtMost_ifHalted h hf))

/-! Each debug action -/

theorem execDebugHaltRequest_keeps (s : State) (ch : Ch) (h : Nat) : ∃ t, execDebugHaltRequest ch h s = .next t ∧ LogBoundKept ch s t :=
  ⟨_, rfl, logBoundKept_onHart (onlyChan_of_upd ch s _) (State.upd_chan_self _ _ _) (logsAtMost_updPair h 0 _ _ _)⟩

theorem execDebugResumeRequest_keeps (s : State) (ch : Ch) (h : Nat) : ∃ t, execDebugResumeRequest ch h s = .next t ∧ LogBoundKept ch s t :=
  ⟨_, rfl, logBoundKept_onHart (onlyChan_of_upd ch s _) (State.upd_chan_self _ _ _) (logsAtMost_updPair h 1 _ _ _)⟩

theorem execDebugStep_keeps (s : State) (ch : Ch) (h : Nat) : ∃ t, execDebugStep ch h s = .next t ∧ LogBoundKept ch s t :=
  ⟨_, rfl, logBoundKept_onHart (onlyChan_of_upd ch s _) (State.upd_chan_self _ _ _) (logsAtMost_updPair h 2 _ _ _)⟩

theorem execDebugRegisterRead_keeps (s : State) (ch : Ch) (h : Nat) (r : DbgReg) :
    ∃ t, execDebugRegisterRead ch h r s = .next t ∧ LogBoundKept ch s t := by
  refine ⟨_, rfl, logBoundKept_abstractCmd (onlyChan_of_upd ch s _) (State.upd_chan_self _ _ _) fun c => ?_⟩
  dsimp only
  split
  · simp [Chan.badReg_dbgLog]
  · rw [Chan.logAct_dbgLog_length]
    cases r with
    | csr n => dsimp only; split <;> exact Nat.le_refl _
    | _ => exact Nat.le_refl _

theorem execDebugRegisterWrite_keeps (s : State) (ch : Ch) (h : Nat) (r : DbgReg) (v : Word) :
    ∃ t, execDebugRegisterWrite ch h r v s = .next t ∧ LogBoundKept ch s t := by
  refine ⟨_, rfl, logBoundKept_abstractCmd (onlyChan_of_upd ch s _) (State.upd_chan_self _ _ _) fun c => ?_⟩
  dsimp only
  split
  · simp [Chan.badReg_dbgLog]
  · simp

theorem execDebugTriggerWrite_keeps (s : State) (ch : Ch) (h k : Nat) (v w : Word) :
    ∃ t, execDebugTriggerWrite ch h k v w s = .next t ∧ LogBoundKept ch s t := by
  refine ⟨_, rfl, logBoundKept_onHart (onlyChan_of_tick_upd ch s _) (State.upd_chan_self _ _ _) fun c => ?_⟩
  dsimp only
  split
  · exact Nat.le_succ _
  · simp

/-- The words run only with room in the log, and the run, which lengthens no log, is then entered once. -/
theorem execDebugProgramBufferExec_keeps (s : State) (ch : Ch) (p : BufRun) :
    ∃ t, execDebugProgramBufferExec ch p s = .next t ∧ LogBoundKept ch s t := by
  unfold execDebugProgramBufferExec
  dsimp only
  split
  · exact ⟨_, rfl, logBoundKept_abstractCmd (onlyChan_of_upd ch s _) (State.upd_chan_self _ _ _) (logsAtMost_id 1)⟩
  · next hserved =>
    simp only [Bool.not_eq_true', Bool.not_eq_false, Bool.and_eq_true, decide_eq_true_eq] at hserved
    obtain ⟨⟨⟨⟨⟨-, hroom⟩, -⟩, -⟩, -⟩, -⟩ := hserved
    refine ⟨_, rfl, logBoundKept_of_room hroom ?_⟩
    rw [State.upd_chan_self, Chan.logAct_dbgLog_length]
    refine Nat.succ_le_succ ((State.bufRun_dbgLog_le _ ch _ _).trans ?_)
    rw [State.upd_chan_self]
    exact logsAtMost_abstractCmd p.hart (logsAtMost_id 0) _

theorem Chan.notServed_dbg (c : Chan) (ini : Initiator) (wr : Bool) (a : Nat) (v : Verdict) : (c.notServed ini wr a v).dbg = c.dbg := by
  cases v <;> rfl

/-- The access itself lengthens no log; it is then entered once, and one of a wrong size or alignment not at all. -/
theorem State.sysBus_keeps (s : State) (ch : Ch) (wr : Bool) (n a : Nat) (v : Word) : LogBoundKept ch s (s.sysBus ch wr n a v) := by
  have quiet : LogsAtMost 0 fun c => { c with dbg := { c.dbg with sberror := 0 } } := fun _ => Nat.le_refl _
  have start := State.upd_dbgLog_le s ch (logsAtMost_dmi quiet)
  unfold State.sysBus
  dsimp only
  split
  · exact logBoundKept_of_dmi (onlyChan_of_upd ch s _) (State.upd_chan_self _ _ _) fun _ => Nat.le_succ _
  · next hreach =>
    simp only [decide_eq_true_eq, Bool.or_eq_true, not_or, Nat.not_le] at hreach
    refine logBoundKept_of_room hreach.2 ?_
    split
    · rw [State.upd_chan_self]
      exact start.trans (Nat.le_succ _)
    · split
      · rw [State.upd_chan_self]
        exact start.trans (Nat.le_succ _)
      · split
        · split <;> rw [State.upd_chan_self, Chan.logAct_dbgLog_length]
          · exact Nat.succ_le_succ ((congrArg List.length (State.busWrite_dbgLog _ ch a n v)).le.trans start)
          · exact Nat.succ_le_succ ((State.busSide_dbgLog_le _ ch .debug a).trans start)
        · rw [State.upd_chan_self, Chan.logAct_dbgLog_length, Chan.notServed_dbg]
          exact Nat.succ_le_succ start

/-! The pop (R134) -/

theorem Chan.post_queue_of_room {c : Chan} (t o : Nat) (p : List Byte) (hf : c.chron.flush = false) (hq : c.chron.queue.length < 16) :
    (c.post t o p).chron.queue = c.chron.queue ++ [c.recordBytes t o p] := by
  unfold Chan.post
  rw [if_neg (by simp [hf]), if_neg (Nat.not_le.2 hq)]

/-- A pop that the rights serve. -/
theorem execDebugLogPop_served {s : State} {ch : Ch} {ini : Initiator} (hv : (s.chan ch).verdict ini false 0x40110010 = .served) :
    execDebugLogPop ch ini s = .next (s.upd ch Chan.popLog) := by
  unfold execDebugLogPop onChan
  exact congrArg Host.Outcome.next (State.upd_congr (by simp only [Chan.access, blkBase]; rw [hv]))

/-- The pop of the oldest entry: what it takes and holds, what it posts, and what it leaves. -/
theorem Chan.popLog_oldest {c : Chan} {e : LogEntry} {l : List LogEntry} (h : c.dbg.log = e :: l) :
    c.popLog.dbg = { c.dbg with log := l, log1 := e.whereW, log2 := e.data } ∧
      (c.chron.flush = false → c.chron.queue.length < 16 →
        c.popLog.chron.queue = c.chron.queue ++ [c.recordBytes 0x0B 16 (payW [e.word0, e.whereW, e.data])]) ∧
      c.popLog.mem = c.mem ∧ c.popLog.cells = c.cells := by
  rw [Chan.popLog_cons h]
  exact ⟨Chan.log_dbg _ _ _, fun hf hq => Chan.post_queue_of_room 0x0B 16 _ hf hq, Chan.log_mem _ _ _, Chan.log_cells _ _ _⟩

/-! The statement -/

/-- Every debug action on a hart or on the system bus keeps the bound of the log. -/
theorem debugAction_keeps {s : State} {ch : Ch} {h trig : Nat} {r : DbgReg} {v w : Word} {ws : List Word} {i : Instr}
    (hi : i ∈ [.debugHaltRequest ch h, .debugResumeRequest ch h, .debugStep ch h, .debugRegisterRead ch h r, .debugRegisterWrite ch h r v,
      .debugProgramBufferExec ch ⟨h, ws⟩, .debugTriggerWrite ch h trig v w, .debugSystemBusRead ch 4 v.toNat, .debugSystemBusWrite ch 4 v.toNat w]) :
    ∃ t, exec i s = .next t ∧ LogBoundKept ch s t := by
  simp only [List.mem_cons, List.not_mem_nil, or_false] at hi
  rcases hi with rfl | rfl | rfl | rfl | rfl | rfl | rfl | rfl | rfl
  · exact execDebugHaltRequest_keeps s ch h
  · exact execDebugResumeRequest_keeps s ch h
  · exact execDebugStep_keeps s ch h
  · exact execDebugRegisterRead_keeps s ch h r
  · exact execDebugRegisterWrite_keeps s ch h r v
  · exact execDebugProgramBufferExec_keeps s ch ⟨h, ws⟩
  · exact execDebugTriggerWrite_keeps s ch h trig v w
  · exact ⟨_, rfl, s.sysBus_keeps ch false 4 _ 0#32⟩
  · exact ⟨_, rfl, s.sysBus_keeps ch true 4 _ w⟩

/-- Settles O31: a debug action keeps the bound and is refused by a full log, and a pop hands the oldest entry on. -/
theorem debugLogIsBounded : Obligations.DebugLogIsBounded := by
  unfold Obligations.DebugLogIsBounded
  intro s ch h trig r v w ws i
  refine ⟨fun hi => ?action, fun e l hlog hv => ?pop⟩
  case action =>
    obtain ⟨t, ht, hbound, hrefused⟩ := debugAction_keeps (s := s) hi
    refine ⟨fun u hc hu => ?_, fun hon htap hm9 hfull => ?_⟩
    · cases ht.symm.trans hu
      exact hbound hc
    · obtain ⟨ho, hch⟩ := hrefused ⟨hon, htap, hm9⟩ hfull
      refine ⟨t, ht, ho, ?_⟩
      rw [hch]
      exact ⟨rfl, rfl, rfl, rfl⟩
  case pop =>
    refine ⟨_, execDebugLogPop_served hv, onlyChan_of_upd ch s _, ?_⟩
    rw [State.upd_chan_self]
    exact Chan.popLog_oldest hlog

end Sys2Proof.Machine
end

section
/-! PROOFS. What every command keeps: the queue, the soundness of the messages in flight and, for a command confined to one channel, everything outside that
channel (R32 to R34; log entries 1 and 9). -/

namespace Sys2Proof.Machine
open Sys2Proof Sys2Proof.Safety

/-! Outcomes -/

/-- The outcome is a next state, and `P` holds of it. -/
def Answers (o : Out) (P : State → Prop) : Prop := ∃ t, o = .next t ∧ P t

theorem answers_next {P : State → Prop} {t : State} (h : P t) : Answers (.next t) P := ⟨t, rfl, h⟩
theorem Answers.imp {o : Out} {P Q : State → Prop} (h : Answers o P) (g : ∀ t, P t → Q t) : Answers o Q :=
  let ⟨t, e, p⟩ := h
  ⟨t, e, g t p⟩
theorem answers_guardC {P : State → Prop} {s t : State} (b : Bool) (hs : P s) (ht : P t) : Answers (guardC b s t) P := by
  refine answers_next ?_
  split
  · exact ht
  · exact hs

/-- The next state of an outcome has what every answer has. -/
theorem Answers.nextOf {o : Out} {P : State → Prop} (h : Answers o P) (s : State) : P (nextOf o s) := by
  obtain ⟨t, rfl, p⟩ := h
  exact p
theorem Answers.outState {o : Out} {P : State → Prop} (h : Answers o P) (s : State) : P (outState o s) := by
  obtain ⟨t, rfl, p⟩ := h
  exact p

/-! Commands confined to one channel -/

section
variable {ch : Ch} {s₀ s : State}

theorem onlyChan_ite {a b : State} {p : Prop} {_ : Decidable p} (ha : OnlyChan ch s₀ a) (hb : OnlyChan ch s₀ b) : OnlyChan ch s₀ (if p then a else b) := by
  split
  · exact ha
  · exact hb

theorem onlyChan_tick (h : OnlyChan ch s₀ s) : OnlyChan ch s₀ s.tick := h

theorem onlyChan_answer (h : OnlyChan ch s₀ s) (via : Option Transport) (tag : Byte) (r : Nat) (es : List REntry) :
    OnlyChan ch s₀ (s.answer ch via tag r es) := by
  unfold State.answer
  split
  · exact h
  · exact onlyChan_upd _ h

theorem onlyChan_refuseOne (h : OnlyChan ch s₀ s) (via : Option Transport) (tag : Byte) (ab : Word) : OnlyChan ch s₀ (s.refuseOne ch via tag ab) := by
  unfold State.refuseOne
  dsimp only
  split
  · exact onlyChan_answer (onlyChan_upd _ h) ..
  · exact onlyChan_answer h ..

/-! The command registers: refused with an answer, or waiting for the next boundary -/

theorem onlyChan_modeCommand (h : OnlyChan ch s₀ s) (via : Option Transport) (tag : Byte) (v : Nat) : OnlyChan ch s₀ (s.modeCommand ch via tag v) := by
  unfold State.modeCommand
  apply_rules [onlyChan_refuseOne, onlyChan_upd, onlyChan_ite]

theorem onlyChan_chgCommand (h : OnlyChan ch s₀ s) (via : Option Transport) (tag : Byte) (v : Nat) : OnlyChan ch s₀ (s.chgCommand ch via tag v) := by
  unfold State.chgCommand
  apply_rules [onlyChan_refuseOne, onlyChan_upd, onlyChan_ite]

theorem onlyChan_syncCmd (h : OnlyChan ch s₀ s) (via : Option Transport) (tag : Byte) (v : Nat) : OnlyChan ch s₀ (s.syncCmd ch via tag v) := by
  unfold State.syncCmd
  apply_rules [onlyChan_refuseOne, onlyChan_upd, onlyChan_ite]

theorem onlyChan_resetCmd (h : OnlyChan ch s₀ s) (via : Option Transport) (tag : Byte) (v : Nat) : OnlyChan ch s₀ (s.resetCmd ch via tag v) := by
  unfold State.resetCmd
  apply_rules [onlyChan_refuseOne, onlyChan_upd, onlyChan_ite]

/-! Bus accesses -/

theorem onlyChan_regWrite (h : OnlyChan ch s₀ s) (blk o : Nat) (w m : Word) : OnlyChan ch s₀ (s.regWrite ch blk o w m) := by
  unfold State.regWrite
  dsimp only
  repeat' split
  all_goals apply_rules [onlyChan_modeCommand, onlyChan_chgCommand, onlyChan_syncCmd, onlyChan_upd, onlyChan_tick]

theorem onlyChan_busWrite (h : OnlyChan ch s₀ s) (a n : Nat) (v : Word) : OnlyChan ch s₀ (s.busWrite ch a n v) := by
  unfold State.busWrite
  split
  · exact onlyChan_regWrite h ..
  · exact onlyChan_upd _ h

theorem onlyChan_busSide (h : OnlyChan ch s₀ s) (ini : Initiator) (a : Nat) : OnlyChan ch s₀ (s.busSide ch ini a) := by
  unfold State.busSide
  split
  · exact onlyChan_upd _ h
  · exact h

theorem onlyChan_memAccess (h : OnlyChan ch s₀ s) (n : Nat) (w : Bool) (k a : Nat) (data : Word) (rd : Nat) (sg : Bool) (len : Nat) :
    OnlyChan ch s₀ (s.memAccess ch n w k a data rd sg len) := by
  unfold State.memAccess
  dsimp only
  repeat' split
  all_goals apply_rules [onlyChan_upd, onlyChan_busWrite, onlyChan_busSide]

theorem onlyChan_coreAccess (h : OnlyChan ch s₀ s) (n : Nat) (w : Bool) (k a : Nat) (data : Word) (rd : Nat) (sg : Bool) :
    OnlyChan ch s₀ (s.coreAccess ch n w k a data rd sg) := onlyChan_memAccess (onlyChan_tick h) ..

theorem onlyChan_plainAccess (h : OnlyChan ch s₀ s) (ini : Initiator) (w : Bool) (n a : Nat) (data : Word) :
    OnlyChan ch s₀ (s.plainAccess ch ini w n a data) := by
  unfold State.plainAccess
  apply_rules [onlyChan_upd, onlyChan_busWrite, onlyChan_busSide, onlyChan_ite]
  all_goals split
  all_goals apply_rules [onlyChan_upd, onlyChan_busWrite, onlyChan_busSide, onlyChan_ite]

theorem onlyChan_sysBus (h : OnlyChan ch s₀ s) (w : Bool) (n a : Nat) (v : Word) : OnlyChan ch s₀ (s.sysBus ch w n a v) := by
  unfold State.sysBus
  apply_rules [onlyChan_upd, onlyChan_busWrite, onlyChan_busSide, onlyChan_ite]
  all_goals split
  all_goals apply_rules [onlyChan_upd, onlyChan_busWrite, onlyChan_busSide, onlyChan_ite]

/-! The program buffer -/

theorem onlyChan_bufOp (h : OnlyChan ch s₀ s) {n : Nat} {o : Op} {t : State} (e : s.bufOp ch n o = some t) : OnlyChan ch s₀ t := by
  have stay {f : Chan → Chan} (e : some (s.upd ch f) = some t) : OnlyChan ch s₀ t := Option.some.inj e ▸ onlyChan_upd f h
  cases o with
  | lui | opImm | op | mul | fenceI => exact stay e
  | fence => exact Option.some.inj e ▸ h
  | load =>
    unfold State.bufOp at e
    dsimp only at e
    split at e
    · cases e
      exact onlyChan_upd _ (onlyChan_busSide h ..)
    · cases e
  | store =>
    unfold State.bufOp at e
    dsimp only at e
    split at e
    · cases e
      exact onlyChan_busWrite h ..
    · cases e
  | csr =>
    unfold State.bufOp at e
    dsimp only at e
    split at e
    · cases e
    · split at e
      · cases e
      · exact stay e
  | auipc | jal | jalr | branch | ecall | ebreak | mret | wfi | xtok => exact absurd (show none = some t from e) (Option.some_ne_none t).symm

theorem onlyChan_bufRun (h : OnlyChan ch s₀ s) (n : Nat) (ws : List Nat) : OnlyChan ch s₀ (s.bufRun ch n ws).1 := by
  fun_induction State.bufRun s ch n ws
  case case3 run ih => exact ih (onlyChan_bufOp h run)
  case case8 run ih => exact ih (onlyChan_bufOp h run)
  all_goals exact h

end

/-! The shapes of the commands of one channel -/

section
variable (s : State) (ch : Ch)

theorem onChan_onlyChan (f : Chan → Chan) : Answers (onChan s ch f) (OnlyChan ch s) := answers_next (onlyChan_of_upd ch s f)
theorem onMill_onlyChan (r : Ring) (f : MillBlk → MillBlk) : Answers (onMill s r f) (OnlyChan (ringOwner r) s) := answers_next (onlyChan_of_upd _ s _)
theorem guardUpd_onlyChan (b : Bool) (f : Chan → Chan) : Answers (guardC b s (s.upd ch f)) (OnlyChan ch s) :=
  answers_guardC b (onlyChan_refl ch s) (onlyChan_of_upd ch s f)
theorem guardTickUpd_onlyChan (b : Bool) (f : Chan → Chan) : Answers (guardC b s (s.tick.upd ch f)) (OnlyChan ch s) :=
  answers_guardC b (onlyChan_refl ch s) (onlyChan_of_tick_upd ch s f)
theorem coreCmd_onlyChan (h : Nat) (f : Chan → Chan) : Answers (coreCmd s ch h f) (OnlyChan ch s) := guardUpd_onlyChan s ch _ _

theorem modeCommand_onlyChan (v : Nat) : Answers (.next (s.modeCommand ch none 0#8 v)) (OnlyChan ch s) :=
  answers_next (onlyChan_modeCommand (onlyChan_refl ch s) ..)
theorem chgCommand_onlyChan (v : Nat) : Answers (.next (s.chgCommand ch none 0#8 v)) (OnlyChan ch s) :=
  answers_next (onlyChan_chgCommand (onlyChan_refl ch s) ..)

/-- An access of a core, the reeve or a port engine. -/
theorem execCoreLoadStore_onlyChan (ini : Initiator) (w : Bool) (n a : Nat) (data : Word) (rd : Nat) (sg : Bool) :
    Answers (execCoreLoadStore ch ini w n a data rd sg s) (OnlyChan ch s) := by
  have h := onlyChan_refl ch s
  unfold execCoreLoadStore
  dsimp only
  split
  · exact answers_next h
  · cases ini with
    | core k => exact answers_guardC _ h (onlyChan_coreAccess h ..)
    | debug => exact answers_next h
    | _ => exact answers_guardC _ h (onlyChan_plainAccess h ..)

theorem execRegisterWrite_onlyChan (ini : Initiator) (a : Nat) (v : Word) : Answers (execRegisterWrite ch ini a v s) (OnlyChan ch s) := by
  have h := onlyChan_refl ch s
  unfold execRegisterWrite
  dsimp only
  split
  · exact answers_next h
  · cases ini with
    | core k => exact answers_guardC _ h (onlyChan_coreAccess h ..)
    | debug => exact answers_next h
    | _ => exact answers_guardC _ h (onlyChan_plainAccess h ..)

theorem execDebugProgramBufferExec_onlyChan (p : BufRun) : Answers (execDebugProgramBufferExec ch p s) (OnlyChan ch s) := by
  have h (f : Chan → Chan) := onlyChan_of_upd ch s f
  unfold execDebugProgramBufferExec
  dsimp only
  split
  · exact answers_next (h _)
  · exact answers_next (onlyChan_upd _ (onlyChan_bufRun (h _) ..))

/-- A lane read, answered at once or held for the vote. -/
theorem execLaneRead_onlyChan (p : LanePkt) : Answers (execLaneRead ch p s) (OnlyChan ch s) := by
  unfold execLaneRead
  dsimp only
  repeat' split
  · exact answers_next (onlyChan_refl ch s)
  · exact onChan_onlyChan s ch _
  all_goals exact answers_next (onlyChan_of_tick_upd ch s _)

theorem execBrigadeStatus_onlyChan (p : Peer) (x : BrigadeHdr) : Answers (execBrigadeStatus ch p x s) (OnlyChan ch s) := by
  unfold execBrigadeStatus
  repeat' split
  · exact answers_next (onlyChan_refl ch s)
  all_goals exact onChan_onlyChan s ch _

theorem execBrigadeRefuse_onlyChan (p : Peer) (x : BrigadeHdr) : Answers (execBrigadeRefuse ch p x s) (OnlyChan ch s) := by
  unfold execBrigadeRefuse
  repeat' split
  · exact answers_next (onlyChan_refl ch s)
  all_goals exact onChan_onlyChan s ch _

end

/-- A PTP message with an option that is not supported, or one that its plane's owner takes. -/
theorem ptp_onlyChan (s : State) (p : Plane) (b : Bool) (f : Chan → Chan) :
    Answers (if !b then ptpBad s p else onChan s (planeOwner p) f) (OnlyChan (planeOwner p) s) := by
  split
  · exact onChan_onlyChan s _ _
  · exact onChan_onlyChan s _ _

/-- A command with a home answers a next state in which only its home has changed. -/
theorem exec_onlyChan {i : Instr} {ch : Ch} (s : State) (hi : home i = some ch) : Answers (exec i s) (OnlyChan ch s) := by
  cases i
  case domainsInRegulation | powerFailFlush | feedLowWarning | feedOver | feedCurrentLimit | domainOutOfRegulation | dieHot | overtemperature |
      laneLock | rootPllLock | dividerStart | watchQualification | watchRecalibration | keepClockSwitched | multiplexerHang | clockStartRetry |
      assayStepAbandon | assayStepRetry | resyncTimeout | linkLost | linkUp | tkWaitResume | inputFreezeComplete | comparatorMismatch |
      signatureCompare | debugHaltRequest | debugResumeRequest | debugStep | debugRegisterRead | debugRegisterWrite | debugLogPop | tapIdcode |
      tapBypass | armWindowExpiry | trialLimitExpiry | probeSend | probeRequestReceive | timeMark | announceTimeout | switchForward | arpRequest |
      icmpEcho | mvbMasterFrame | sequenceGapTimeout | postedWriteDelivery | writeLifetimeExpiry | requestHoldExpiry | sidebandPulseEnd |
      trackTimeout | standbyTest | quenchExpiry | transistorTestStart | transistorTestEnd | transistorUntested | fieldSupplyLow |
      fieldSupplyRestored | permitInputFall | sdFramePulse | noclkDetect | syncPinEdge | journalCompaction | reeveKick | brigadeStatusTimer |
      brigadeResend | brigadeGiveUp | fuseAdvance | secHashStart | secHashDone | recordWrite | chronStartScan | capturedBit | disciplineHoldover |
      ecnPortLinkChange | mvbSinkTimeout | xlinkCodeViolation | journalBlockErased =>
    cases hi
    exact onChan_onlyChan s _ _
  case portUp | portUsable | loopChange | bypassRelaySwitched | probeResponseReceive | ringSampleBlockDiscard | withdrawHoldExpiry | backoffExpiry =>
    cases hi
    exact onMill_onlyChan s _ _
  case legacyTranslation | externalInterrupt | automaticRestart | proofTestDue | loadDigestTimeout | windowReturnDeadline | readYield | chronPost |
      operatingSecond | hMbxAck | hMsgAck | shadowLoRead =>
    cases hi
    exact guardUpd_onlyChan s _ _ _
  case tkTmstart | tkTmstop | customCsrAccess =>
    cases hi
    exact guardTickUpd_onlyChan s _ _ _
  case tkLdin | tkLdfr | tkLdrs | tkLdso | tkStout | tkStrs | tkRdrel | tkTmel | tkTmst | tkNext | tkSdone | tkWait | tkSid | tkPtag | tkPchk |
      fence | fenceI | wfi | csrTimeRead | ecall | ebreak | illegalInstruction | instructionAccessFault =>
    cases hi
    exact coreCmd_onlyChan s _ _ _
  case cmdStop | cmdRestart | cmdCommission | cmdMaintain | cmdRecover =>
    cases hi
    exact modeCommand_onlyChan s _ _
  case chgLoad | chgArm | chgCancel | chgRollback =>
    cases hi
    exact chgCommand_onlyChan s _ _
  case ptpAnnounce | ptpDelayResp =>
    cases hi
    exact ptp_onlyChan s _ _ _
  case coreLoadStore =>
    cases hi
    exact execCoreLoadStore_onlyChan s _ ..
  case registerWrite =>
    cases hi
    exact execRegisterWrite_onlyChan s _ ..
  case debugProgramBufferExec =>
    cases hi
    exact execDebugProgramBufferExec_onlyChan s _ _
  case debugSystemBusRead | debugSystemBusWrite =>
    cases hi
    exact answers_next (onlyChan_sysBus (onlyChan_refl _ s) ..)
  case debugTriggerWrite =>
    cases hi
    exact answers_next (onlyChan_of_tick_upd _ s _)
  case resetRequest =>
    cases hi
    exact answers_next (onlyChan_resetCmd (onlyChan_refl _ s) ..)
  case syncCommand =>
    cases hi
    exact answers_next (onlyChan_syncCmd (onlyChan_refl _ s) ..)
  case laneRead =>
    cases hi
    exact execLaneRead_onlyChan s _ _
  case brigadeStatus =>
    cases hi
    exact execBrigadeStatus_onlyChan s _ ..
  case brigadeRefuse =>
    cases hi
    exact execBrigadeRefuse_onlyChan s _ ..
  all_goals cases hi

/-- Settles O7: a command with a home answers a next state, and `exec_onlyChan` says what that leaves alone. -/
theorem channelCommandsStayInTheirChannel : Obligations.ChannelCommandsStayInTheirChannel := by
  unfold Obligations.ChannelCommandsStayInTheirChannel
  intro i s t ch hi ht
  obtain ⟨u, hu, h⟩ := exec_onlyChan s hi
  cases ht.symm.trans hu
  exact h

end Sys2Proof.Machine
end

/-! PROOFS. What every operation of the model keeps: the queue of waiting commands, and the soundness of the messages in flight (O4, O5, O6). -/

section
namespace Sys2Proof.Machine
open Sys2Proof Sys2Proof.Safety

/-- A fold that keeps a fact of its first component. -/
theorem foldl_fst {α β σ : Type} (P : σ → Prop) {f : σ × β → α → σ × β} {x : σ × β} (h : P x.1) (hf : ∀ x a, P x.1 → P (f x a).1) (l : List α) :
    P (l.foldl f x).1 := by
  induction l generalizing x with
  | nil => exact h
  | cons a l ih => exact ih (hf x a h)

/-! The execution of the cells at the idle clock stays in its channel (R35) -/

section
variable {ch : Ch} {s₀ s : State}

theorem onlyChan_nextOf {o : Out} (h : OnlyChan ch s₀ s) (g : Answers o (OnlyChan ch s)) : OnlyChan ch s₀ (nextOf o s) := onlyChan_trans h (g.nextOf s)

theorem onlyChan_foldl {α : Type} {f : State → α → State} (h : OnlyChan ch s₀ s) (hf : ∀ t x, OnlyChan ch s₀ t → OnlyChan ch s₀ (f t x))
    (l : List α) : OnlyChan ch s₀ (l.foldl f s) := by
  induction l generalizing s with
  | nil => exact h
  | cons x l ih => exact ih (hf s x h)

theorem onlyChan_compared (h : OnlyChan ch s₀ s) (n w : Nat) (o : Option Op) {f : State → State} (hf : ∀ t, OnlyChan ch s₀ t → OnlyChan ch s₀ (f t)) :
    OnlyChan ch s₀ (s.compared ch n w o f) :=
  onlyChan_ite (hf s h) (onlyChan_ite (onlyChan_upd _ h) (hf _ (onlyChan_upd _ h)))

theorem onlyChan_runXtok (h : OnlyChan ch s₀ s) (n f f7 rd rs1 rs2 : Nat) (imm : BitVec 12) :
    OnlyChan ch s₀ (s.runXtok ch n f f7 rd rs1 rs2 imm) := by
  refine onlyChan_nextOf h ?_
  split
  case h_8 =>
    split
    case h_1 | h_2 => exact guardTickUpd_onlyChan s ch _ _
    all_goals exact coreCmd_onlyChan s ch _ _
  all_goals exact coreCmd_onlyChan s ch _ _

theorem onlyChan_runOp (h : OnlyChan ch s₀ s) (n w len : Nat) (o : Op) : OnlyChan ch s₀ (s.runOp ch n w len o) := by
  have core (f : Chan → Chan) : OnlyChan ch s₀ (nextOf (coreCmd s ch n f) s) := onlyChan_nextOf h (coreCmd_onlyChan s ch n f)
  cases o with
  | load => exact onlyChan_ite h (onlyChan_memAccess h ..)
  | store => exact onlyChan_ite h (onlyChan_memAccess h ..)
  | fence => exact core _
  | fenceI => exact core _
  | ecall => exact core _
  | ebreak => exact core _
  | wfi => exact core _
  | xtok => exact onlyChan_runXtok h ..
  | _ => unfold State.runOp; exact onlyChan_upd _ h

theorem onlyChan_runHart (h : OnlyChan ch s₀ s) (n : Nat) : OnlyChan ch s₀ (s.runHart ch n) := by
  have resume {t : State} (ht : OnlyChan ch s₀ t) : OnlyChan ch s₀ (nextOf (execTkWaitResume ch n t) t) := onlyChan_nextOf ht (onChan_onlyChan t ch _)
  have interrupt {t : State} (ht : OnlyChan ch s₀ t) : OnlyChan ch s₀ (nextOf (execExternalInterrupt ch n t) t) :=
    onlyChan_nextOf ht (guardUpd_onlyChan t ch _ _)
  unfold State.runHart
  refine onlyChan_ite h (onlyChan_ite (onlyChan_compared h _ _ _ fun t ht => onlyChan_ite (resume ht) ht)
    (onlyChan_ite (onlyChan_compared h _ _ _ fun t ht => interrupt ht) ?_))
  split
  · exact onlyChan_upd _ h
  · split
    · exact onlyChan_compared h _ _ _ fun t ht => onlyChan_upd _ ht
    · dsimp only
      split
      · exact onlyChan_compared (onlyChan_upd _ h) _ _ _ fun t ht => onlyChan_upd _ ht
      · exact onlyChan_compared (onlyChan_upd _ h) _ _ _ fun t ht => onlyChan_runOp ht ..

theorem onlyChan_runCells (h : OnlyChan ch s₀ s) : OnlyChan ch s₀ (s.runCells ch) := by
  unfold State.runCells
  extract_lets -underBinder counted ran
  have hcounted : OnlyChan ch s₀ counted := onlyChan_upd _ h
  have hran : OnlyChan ch s₀ ran.1 := by
    refine foldl_fst (OnlyChan ch s₀) (x := (counted, _)) hcounted (fun x n hx => ?_) _
    split
    · exact hx
    · exact onlyChan_runHart hx ..
  exact onlyChan_ite h (onlyChan_foldl hran (fun _ _ hs => onlyChan_runHart hs ..) _)

end

/-! The queue and the messages in flight -/

/-- `t` has the queue of `s`, and its messages in flight are sound if those of `s` are. -/
structure Keeps (s t : State) : Prop where
  pending : t.pending = s.pending
  sound : WireSound s → WireSound t

theorem Keeps.refl (s : State) : Keeps s s := ⟨rfl, id⟩

theorem Keeps.trans {s t u : State} (h : Keeps s t) (g : Keeps t u) : Keeps s u := ⟨g.pending.trans h.pending, g.sound ∘ h.sound⟩

/-- A state with the queue and the messages of one that keeps them. -/
theorem Keeps.same {s t u : State} (h : Keeps s t) (hp : u.pending = t.pending) (hw : u.wire = t.wire) : Keeps s u :=
  ⟨hp.trans h.pending, fun g => by unfold WireSound; rw [hw]; exact h.sound g⟩

theorem keeps_of_onlyChan {ch : Ch} {s t : State} (h : OnlyChan ch s t) : Keeps s t := (Keeps.refl s).same h.2.2 h.2.1

theorem Keeps.onlyChan {ch : Ch} {s₀ s t : State} (h : Keeps s₀ s) (g : OnlyChan ch s t) : Keeps s₀ t := h.trans (keeps_of_onlyChan g)

theorem Keeps.upd {s₀ s : State} (h : Keeps s₀ s) (ch : Ch) (f : Chan → Chan) : Keeps s₀ (s.upd ch f) := h.same rfl rfl
theorem Keeps.updAll {s₀ s : State} (h : Keeps s₀ s) (f : Ch → Chan → Chan) : Keeps s₀ (s.updAll f) := h.same rfl rfl
theorem Keeps.updMill {s₀ s : State} (h : Keeps s₀ s) (r : Ring) (f : MillBlk → MillBlk) : Keeps s₀ (s.updMill r f) := h.same rfl rfl
theorem Keeps.tick {s₀ s : State} (h : Keeps s₀ s) : Keeps s₀ s.tick := h.same rfl rfl

theorem wireSound_append {s : State} {m : XMsg} (h : WireSound s) (hm : msgSound m = true) : WireSound { s with wire := s.wire ++ [m] } := by
  unfold WireSound at *
  simp [h, hm]

theorem Keeps.send {s₀ s : State} (h : Keeps s₀ s) (tx rx : Ch) (b : XBody) : Keeps s₀ (s.send tx rx b) := by
  refine h.trans ⟨State.send_pending .., fun g => ?_⟩
  have hs : (s.send tx rx b).wire.all msgSound = true := by
    rcases State.send_wire s tx rx b with e | ⟨hne, e⟩ | ⟨hne, hc, e⟩ <;> rw [e]
    · exact g
    · exact wireSound_append g (by simp [msgSound, hne])
    · exact wireSound_append g (by simp [msgSound, hne, hc])
  exact hs

theorem Keeps.sendBoth {s₀ s : State} (h : Keeps s₀ s) (tx : Ch) (b : XBody) : Keeps s₀ (s.sendBoth tx b) := (h.send ..).send ..

theorem Answers.ite {P : State → Prop} {a b : Out} {p : Prop} {_ : Decidable p} (ha : Answers a P) (hb : Answers b P) : Answers (if p then a else b) P := by
  split
  · exact ha
  · exact hb

theorem Keeps.ite {s₀ a b : State} {p : Prop} {_ : Decidable p} (ha : Keeps s₀ a) (hb : Keeps s₀ b) : Keeps s₀ (if p then a else b) := by
  split
  · exact ha
  · exact hb

theorem Keeps.foldl {α : Type} {f : State → α → State} {s₀ s : State} (h : Keeps s₀ s) (hf : ∀ t x, Keeps s₀ t → Keeps s₀ (f t x)) (l : List α) :
    Keeps s₀ (l.foldl f s) := by
  induction l generalizing s with
  | nil => exact h
  | cons x l ih => exact ih (hf s x h)

theorem Keeps.each {s₀ s : State} (h : Keeps s₀ s) {f : Ch → State → State} (hf : ∀ p t, Keeps s₀ t → Keeps s₀ (f p t)) : Keeps s₀ (s.each f) :=
  hf _ _ (hf _ _ (hf _ _ h))

theorem Keeps.taken {s₀ s : State} (h : Keeps s₀ s) {p : XMsg → Bool} {m : XMsg} {w : List XMsg} (e : wireTake p s.wire = some (m, w)) :
    Keeps s₀ { s with wire := w } := h.trans ⟨rfl, fun g => wireTake_all e g⟩

theorem Keeps.recvOr {s₀ s : State} (h : Keeps s₀ s) (rx tx : Ch) (ok : Bool) (p : XBody → Bool) (bad : XBody → Chan → Chan) {f : XBody → State → State}
    (hf : ∀ b t, Keeps s₀ t → Keeps s₀ (f b t)) : Keeps s₀ (s.recvOr rx tx ok p bad f) := by
  unfold State.recvOr
  split
  · exact h
  next m w e => exact Keeps.ite h (Keeps.ite (hf _ _ (h.taken e)) ((h.taken e).upd ..))

theorem Keeps.recv {s₀ s : State} (h : Keeps s₀ s) (rx tx : Ch) (ok : Bool) (p : XBody → Bool) {f : XBody → State → State}
    (hf : ∀ b t, Keeps s₀ t → Keeps s₀ (f b t)) : Keeps s₀ (s.recv rx tx ok p f) := h.recvOr rx tx ok p _ hf

/-- An outcome that keeps the queue and the messages, carried on from a state that does. -/
theorem Keeps.answers {s₀ s : State} {o : Out} (h : Keeps s₀ s) (g : Answers o (Keeps s)) : Keeps s₀ (nextOf o s) := h.trans (g.nextOf s)

end Sys2Proof.Machine
end

/-! PROOFS. The operations of the model keep the queue and the soundness of the messages in flight, one lemma per operation, in the order of the model. -/

section
namespace Sys2Proof.Machine
open Sys2Proof Sys2Proof.Safety

theorem Keeps.remode {s₀ s : State} (h : Keeps s₀ s) : Keeps s₀ s.remode := by
  unfold State.remode
  apply_rules [Keeps.updAll, Keeps.ite]
  all_goals split
  all_goals apply_rules [Keeps.updAll, Keeps.ite]

theorem Keeps.fullStart {s₀ s : State} (h : Keeps s₀ s) (cause : Nat) : Keeps s₀ (s.fullStart cause) := ⟨h.pending, fun _ => rfl⟩

theorem Keeps.flushStart {s₀ s : State} (h : Keeps s₀ s) : Keeps s₀ s.flushStart := by
  unfold State.flushStart
  apply_rules [Keeps.fullStart, Keeps.ite]

theorem Keeps.dropFinds {s₀ s : State} (h : Keeps s₀ s) (ch : Ch) : Keeps s₀ (s.dropFinds ch) := by
  unfold State.dropFinds
  apply_rules [Keeps.upd]

theorem Keeps.shareWindow {s₀ s : State} (h : Keeps s₀ s) (ch : Ch) (was : Bool) : Keeps s₀ (s.shareWindow ch was) := by
  unfold State.shareWindow
  apply_rules [Keeps.updAll, Keeps.ite]

theorem Keeps.answer {s₀ s : State} (h : Keeps s₀ s) (origin : Ch) (via : Option Transport) (tag : Byte) (rstat : Nat) (es : List REntry) :
    Keeps s₀ (s.answer origin via tag rstat es) := by
  unfold State.answer
  split
  all_goals apply_rules [Keeps.upd, Keeps.ite]

theorem Keeps.answerFrom {s₀ s : State} (h : Keeps s₀ s) (q origin : Ch) (via : Option Transport) (tag : Byte) (n rstat : Nat) (es : List REntry) :
    Keeps s₀ (s.answerFrom q origin via tag n rstat es) := by
  unfold State.answerFrom
  apply_rules [Keeps.answer, Keeps.ite]

theorem Keeps.enqueue {s₀ s : State} (h : Keeps s₀ s) (w : WaitTxn) : Keeps s₀ (s.enqueue w) := by
  unfold State.enqueue
  apply_rules [Keeps.answer, Keeps.upd, Keeps.ite]
  all_goals split
  all_goals apply_rules [Keeps.answer, Keeps.upd, Keeps.ite]

theorem Keeps.actRestart {s₀ s : State} (h : Keeps s₀ s) (q : Ch) (acts : List (Nat × Nat)) : Keeps s₀ (s.actRestart q acts) := by
  unfold State.actRestart
  apply_rules [Keeps.upd, Keeps.ite]

theorem Keeps.dropTxn {s₀ s : State} (h : Keeps s₀ s) (q : Ch) : Keeps s₀ (s.dropTxn q) := by
  unfold State.dropTxn
  apply_rules [Keeps.upd]

theorem Keeps.ackTxn {s₀ s : State} (h : Keeps s₀ s) (q : Ch) : Keeps s₀ (s.ackTxn q) := by
  unfold State.ackTxn
  split
  all_goals apply_rules [Keeps.answerFrom, Keeps.actRestart, Keeps.dropTxn, Keeps.ite]

theorem Keeps.abortTxn {s₀ s : State} (h : Keeps s₀ s) (q : Ch) (t : Txn) (ab : Word) (flag : Option Nat) : Keeps s₀ (s.abortTxn q t ab flag) := by
  unfold State.abortTxn
  apply_rules [Keeps.updAll, Keeps.answerFrom, Keeps.dropTxn, Keeps.ite]

theorem Keeps.commitReady {s₀ s : State} (h : Keeps s₀ s) (q : Ch) : Keeps s₀ (s.commitReady q) := by
  unfold State.commitReady
  split
  all_goals apply_rules [Keeps.abortTxn, Keeps.upd, Keeps.ite]

theorem Keeps.txnStep {s₀ s : State} (h : Keeps s₀ s) (ch : Ch) : Keeps s₀ (s.txnStep ch) := by
  unfold State.txnStep
  apply_rules [Keeps.commitReady, Keeps.ackTxn, Keeps.ite]

theorem Keeps.distributeTxn {s₀ s : State} (h : Keeps s₀ s) (q : Ch) (w : WaitTxn) : Keeps s₀ (s.distributeTxn q w) := by
  unfold State.distributeTxn
  apply_rules [Keeps.upd, Keeps.answerFrom, Keeps.updAll, Keeps.actRestart, Keeps.ite]
  all_goals split
  all_goals apply_rules [Keeps.upd, Keeps.answerFrom, Keeps.updAll, Keeps.actRestart, Keeps.ite]

theorem Keeps.recordDurable {s₀ s : State} (h : Keeps s₀ s) (ch : Ch) (j : JJob) (rest : List JJob) : Keeps s₀ (s.recordDurable ch j rest) := by
  unfold State.recordDurable
  dsimp only
  apply_rules [Keeps.upd, Keeps.ackTxn, Keeps.ite]
  all_goals split
  all_goals apply_rules [Keeps.upd, Keeps.ackTxn, Keeps.ite]

theorem Keeps.repairLive {s₀ s : State} (h : Keeps s₀ s) (ch : Ch) : Keeps s₀ (s.repairLive ch) := by
  unfold State.repairLive
  apply_rules [Keeps.upd, Keeps.ite]

theorem Keeps.acceptOffer {s₀ s : State} (h : Keeps s₀ s) (ch : Ch) (p : Peer) (m : Manifest) (n : Nat) : Keeps s₀ (s.acceptOffer ch p m n) := by
  unfold State.acceptOffer
  dsimp only
  apply_rules [Keeps.updAll, Keeps.upd]

theorem Keeps.takePiece {s₀ s : State} (h : Keeps s₀ s) (ch : Ch) (r : Recv) (block piece : Nat) (data : List Byte) :
    Keeps s₀ (s.takePiece ch r block piece data) := by
  unfold State.takePiece
  apply_rules [Keeps.upd, Keeps.sendBoth, Keeps.ite]

theorem Keeps.refuseOne {s₀ s : State} (h : Keeps s₀ s) (ch : Ch) (via : Option Transport) (tag : Byte) (ab : Word) :
    Keeps s₀ (s.refuseOne ch via tag ab) := by
  unfold State.refuseOne
  apply_rules [Keeps.upd, Keeps.answer, Keeps.ite]

theorem Keeps.orderAct {s₀ s : State} (h : Keeps s₀ s) (ch : Ch) (via : Option Transport) (tag : Byte) (es : List JEntry) (k op : Nat) :
    Keeps s₀ (s.orderAct ch via tag es k op) := by
  unfold State.orderAct
  apply_rules [Keeps.enqueue]

theorem Keeps.updCommand {s₀ s : State} (h : Keeps s₀ s) (ch : Ch) (via : Option Transport) (tag : Byte) (value : Nat) (fuseOk : Bool) :
    Keeps s₀ (s.updCommand ch via tag value fuseOk) := by
  unfold State.updCommand
  dsimp only
  repeat' split
  all_goals apply_rules [Keeps.refuseOne, Keeps.upd, Keeps.orderAct]

theorem Keeps.fwConfirm {s₀ s : State} (h : Keeps s₀ s) (ch : Ch) (via : Option Transport) (tag : Byte) (value : Word) :
    Keeps s₀ (s.fwConfirm ch via tag value) := by
  unfold State.fwConfirm
  apply_rules [Keeps.refuseOne, Keeps.upd, Keeps.orderAct, Keeps.ite]
  all_goals split
  all_goals apply_rules [Keeps.refuseOne, Keeps.upd, Keeps.orderAct, Keeps.ite]

theorem Keeps.syncCmd {s₀ s : State} (h : Keeps s₀ s) (ch : Ch) (via : Option Transport) (tag : Byte) (value : Nat) :
    Keeps s₀ (s.syncCmd ch via tag value) := by
  unfold State.syncCmd
  apply_rules [Keeps.refuseOne, Keeps.upd, Keeps.ite]

theorem Keeps.sdBoundary {s₀ s : State} (h : Keeps s₀ s) (ch : Ch) : Keeps s₀ (s.sdBoundary ch) := by
  unfold State.sdBoundary
  dsimp only
  apply_rules [Keeps.upd]

theorem Keeps.sdStart {s₀ s : State} (h : Keeps s₀ s) : Keeps s₀ s.sdStart := by
  unfold State.sdStart
  apply_rules [Keeps.sdBoundary]

theorem Keeps.sendPub {s₀ s : State} (h : Keeps s₀ s) (ch : Ch) (p : Pub) (pull : Option (Word × Word)) : Keeps s₀ (s.sendPub ch p pull) := by
  unfold State.sendPub
  apply_rules [Keeps.upd, Keeps.ite]

theorem Keeps.flushGate {s₀ s : State} (h : Keeps s₀ s) (ch : Ch) : Keeps s₀ (s.flushGate ch) := by
  unfold State.flushGate
  refine (h.upd ..).foldl (fun s g hs => ?_) _
  repeat' split
  all_goals apply_rules [Keeps.sendPub]

theorem Keeps.gated {s₀ s : State} (h : Keeps s₀ s) (ch : Ch) (p : Pub) (pull : Option (Word × Word)) : Keeps s₀ (s.gated ch p pull) := by
  unfold State.gated
  apply_rules [Keeps.sendPub, Keeps.upd, Keeps.ite]

theorem Keeps.ptpSample {s₀ s : State} (h : Keeps s₀ s) (p : Plane) (t1 corr : Int) (t2 cap : Nat) : Keeps s₀ (s.ptpSample p t1 corr t2 cap) := by
  unfold State.ptpSample
  apply_rules [Keeps.upd, Keeps.sendBoth, Keeps.ite]

theorem Keeps.mvbWrite {s₀ s : State} (h : Keeps s₀ s) (kinds : List Nat) : Keeps s₀ (s.mvbWrite kinds) := by
  unfold State.mvbWrite
  apply_rules [Keeps.upd, Keeps.ite]

theorem Keeps.fetchOwn {s₀ s : State} (h : Keeps s₀ s) (ch : Ch) (b : Binding) (len : Nat) : Keeps s₀ (s.fetchOwn ch b len).1 := by
  unfold State.fetchOwn
  dsimp only
  repeat' split
  all_goals exact h.same rfl rfl

theorem Keeps.giveWin {s₀ s : State} (h : Keeps s₀ s) (r : Ring) (f : MFrame) (x : MWin) : Keeps s₀ (s.giveWin r f x) :=
  h.foldl (fun _ _ hs => (hs.upd ..).sendBoth ..) _

theorem Keeps.takeWin {s₀ s : State} (h : Keeps s₀ s) (r : Ring) (f : MFrame) (x : MWin) : Keeps s₀ (s.takeWin r f x) := by
  unfold State.takeWin
  apply_rules [Keeps.upd, Keeps.giveWin, Keeps.ite]

theorem Keeps.readWin {s₀ s : State} (h : Keeps s₀ s) (r : Ring) (f : MFrame) (pos w : Nat) : Keeps s₀ (s.readWin r f pos w) := by
  unfold State.readWin
  split
  all_goals apply_rules [Keeps.updMill, Keeps.giveWin, Keeps.takeWin, Keeps.ite]

theorem Keeps.readMate {s₀ s : State} (h : Keeps s₀ s) (r : Ring) (f : MFrame) (w : Nat) : Keeps s₀ (s.readMate r f w) := by
  unfold State.readMate
  split
  all_goals apply_rules [Keeps.giveWin, Keeps.takeWin, Keeps.ite]

theorem Keeps.readGrant {s₀ s : State} (h : Keeps s₀ s) (r : Ring) (f : MFrame) : Keeps s₀ (s.readGrant r f) := by
  unfold State.readGrant
  dsimp only
  repeat' split
  all_goals apply_rules [Keeps.upd, Keeps.sendBoth]

theorem Keeps.ringSample {s₀ s : State} (h : Keeps s₀ s) (r : Ring) (f : MFrame) : Keeps s₀ (s.ringSample r f) := by
  unfold State.ringSample
  apply_rules [Keeps.updMill, Keeps.upd, Keeps.sendBoth, Keeps.ite]

theorem Keeps.firstPassage {s₀ s : State} (h : Keeps s₀ s) (r : Ring) (f : MFrame) (reads : Bool) : Keeps s₀ (s.firstPassage r f reads) := by
  unfold State.firstPassage
  extract_lets -underBinder s1 s2 read mates busy s3
  have h2 : Keeps s₀ s2 := (h.updMill ..).upd ..
  have hm : Keeps s₀ mates := (h2.foldl (fun _ _ hs => hs.readWin ..) _).foldl (fun _ _ hs => hs.readMate ..) _
  have h3 : Keeps s₀ s3 := h2.ite ((hm.readGrant ..).updMill ..)
  exact Keeps.ite (h3.ringSample ..) h3

theorem Keeps.ownReturn {s₀ s : State} (h : Keeps s₀ s) (r : Ring) (f : MFrame) : Keeps s₀ (s.ownReturn r f) := by
  unfold State.ownReturn
  apply_rules [Keeps.firstPassage, Keeps.updMill, Keeps.upd, Keeps.ite]

theorem Keeps.atBellringer {s₀ s : State} (h : Keeps s₀ s) (r : Ring) (f : MFrame) : Keeps s₀ (s.atBellringer r f) := by
  unfold State.atBellringer
  apply_rules [Keeps.upd, Keeps.ownReturn, Keeps.updMill, Keeps.ite]

theorem Keeps.atNode {s₀ s : State} (h : Keeps s₀ s) (r : Ring) (f : MFrame) : Keeps s₀ (s.atNode r f) := by
  unfold State.atNode
  apply_rules [Keeps.upd, Keeps.updMill, Keeps.firstPassage, Keeps.ite]

theorem Keeps.framePassage {s₀ s : State} (h : Keeps s₀ s) (r : Ring) (f : MFrame) : Keeps s₀ (s.framePassage r f) := by
  unfold State.framePassage
  apply_rules [Keeps.updMill, Keeps.atBellringer, Keeps.atNode, Keeps.ite]

theorem Keeps.forwardPosted {s₀ s : State} (h : Keeps s₀ s) (ch : Ch) (entry : Nat) (data : List Byte) (o : Ch) (ps : List Nat) :
    Keeps s₀ (s.forwardPosted ch entry data o ps) := by
  unfold State.forwardPosted
  apply_rules [Keeps.upd, Keeps.send, Keeps.ite]

theorem Keeps.acceptItem {s₀ s : State} (h : Keeps s₀ s) (ch : Ch) (r : Route) (item : List Byte) : Keeps s₀ (s.acceptItem ch r item) := by
  unfold State.acceptItem
  dsimp only
  repeat' split
  all_goals apply_rules [Keeps.upd, Keeps.forwardPosted]

theorem Keeps.bridgeItem {s₀ s : State} (h : Keeps s₀ s) (sport sid : Nat) (item : List Byte) : Keeps s₀ (s.bridgeItem sport sid item) := by
  unfold State.bridgeItem
  apply_rules [Keeps.acceptItem, Keeps.ite]
  all_goals split
  all_goals apply_rules [Keeps.acceptItem, Keeps.ite]

theorem Keeps.workDone {s₀ s : State} (h : Keeps s₀ s) (ch : Ch) (n : Nat) : Keeps s₀ (s.workDone ch n) := by
  unfold State.workDone
  split
  all_goals apply_rules [Keeps.upd, Keeps.ite]

theorem Keeps.sendCommit {s₀ s : State} (h : Keeps s₀ s) (ch : Ch) (n : Nat) : Keeps s₀ (s.sendCommit ch n) := by
  unfold State.sendCommit
  split
  all_goals apply_rules [Keeps.upd, Keeps.ite]

theorem Keeps.collect {s₀ s : State} (h : Keeps s₀ s) (ch : Ch) (n : Nat) : Keeps s₀ (s.collect ch n) := by
  unfold State.collect
  apply_rules [Keeps.upd, Keeps.sendCommit, Keeps.ite]

theorem Keeps.proxyRead {s₀ s : State} (h : Keeps s₀ s) (ch : Ch) (via back : Transport) (tag : Byte) (index sub : Nat) :
    Keeps s₀ (s.proxyRead ch via back tag index sub) := by
  unfold State.proxyRead
  dsimp only
  repeat' split
  all_goals apply_rules [Keeps.upd, Keeps.collect]

theorem Keeps.readDone {s₀ s : State} (h : Keeps s₀ s) (ch : Ch) (n : Nat) (data : List Byte) (token : Nat) : Keeps s₀ (s.readDone ch n data token) := by
  unfold State.readDone
  apply_rules [Keeps.workDone, Keeps.upd, Keeps.collect, Keeps.ite]

theorem Keeps.committedAck {s₀ s : State} (h : Keeps s₀ s) (ch : Ch) (n : Nat) : Keeps s₀ (s.committedAck ch n) := by
  unfold State.committedAck
  apply_rules [Keeps.workDone, Keeps.upd, Keeps.collect]

theorem Keeps.hostAnswer {s₀ s : State} (h : Keeps s₀ s) (lane : Ch) (m : HostMsg) : Keeps s₀ (s.hostAnswer lane m) := by
  unfold State.hostAnswer
  extract_lets -underBinder k n x named err
  have herr : Keeps s₀ err := h.upd ..
  repeat' split
  · exact herr
  · exact h.readDone ..
  · exact herr
  · exact h.committedAck ..
  · exact herr
  · exact (h.workDone ..).upd ..
  · exact ((h.workDone ..).upd ..).tick
  · exact herr
  · exact herr

theorem Keeps.awayRestart {s₀ s : State} (h : Keeps s₀ s) (ch : Ch) : Keeps s₀ (s.awayRestart ch) := by
  refine h.foldl (fun s w hs => ?_) _
  split
  · exact hs.upd ..
  · exact hs

theorem Keeps.bridgeWins {s₀ s : State} (h : Keeps s₀ s) (r : Ring) (f : MFrame) : Keeps s₀ (s.bridgeWins r f) := by
  refine h.foldl (fun s x hs => ?_) _
  dsimp only
  split
  · exact hs
  · exact (hs.upd ..).bridgeItem ..

theorem Keeps.framePass {s₀ s : State} (h : Keeps s₀ s) (r : Ring) (f : MFrame) : Keeps s₀ (s.framePass r f) := by
  unfold State.framePass
  apply_rules [Keeps.framePassage, Keeps.upd, Keeps.bridgeWins, Keeps.ite]

theorem Keeps.beginS7 {s₀ s : State} (h : Keeps s₀ s) : Keeps s₀ s.beginS7 := by
  unfold State.beginS7
  apply_rules [Keeps.updAll]

theorem Keeps.trialFails {s₀ s : State} (h : Keeps s₀ s) (floor : Nat) : Keeps s₀ (s.trialFails floor) := by
  unfold State.trialFails
  apply_rules [Keeps.upd, Keeps.updAll, Keeps.ite]

theorem Keeps.repairSlots {s₀ s : State} (h : Keeps s₀ s) : Keeps s₀ s.repairSlots := by
  unfold State.repairSlots
  dsimp only
  apply_rules [Keeps.updAll, Keeps.upd]

theorem Keeps.noticeDone {s₀ s : State} (h : Keeps s₀ s) (ch : Ch) (n : Nat) : Keeps s₀ (s.noticeDone ch n) := by
  unfold State.noticeDone
  dsimp only
  repeat' split
  all_goals apply_rules [Keeps.upd, Keeps.sendBoth]

theorem Keeps.chgCommand {s₀ s : State} (h : Keeps s₀ s) (ch : Ch) (via : Option Transport) (tag : Byte) (v : Nat) :
    Keeps s₀ (s.chgCommand ch via tag v) := by
  unfold State.chgCommand
  apply_rules [Keeps.refuseOne, Keeps.upd, Keeps.ite]

theorem Keeps.judgeLoad {s₀ s : State} (h : Keeps s₀ s) (ch : Ch) : Keeps s₀ (s.judgeLoad ch) := by
  unfold State.judgeLoad
  apply_rules [Keeps.upd]

theorem Keeps.confirmChg {s₀ s : State} (h : Keeps s₀ s) (ch : Ch) (via : Option Transport) (tag : Byte) (v : Word) :
    Keeps s₀ (s.confirmChg ch via tag v) := by
  unfold State.confirmChg
  apply_rules [Keeps.refuseOne, Keeps.enqueue, Keeps.ite]

theorem Keeps.changeFails {s₀ s : State} (h : Keeps s₀ s) (ch : Ch) (voting : List Ch) : Keeps s₀ (s.changeFails ch voting) := by
  unfold State.changeFails
  apply_rules [Keeps.upd, Keeps.ite]

theorem Keeps.pairGrant {s₀ s : State} (h : Keeps s₀ s) (ch : Ch) : Keeps s₀ (s.pairGrant ch) := by
  unfold State.pairGrant
  apply_rules [Keeps.upd, Keeps.ite]

theorem Keeps.pairAfter {s₀ s : State} (h : Keeps s₀ s) (ch : Ch) (before : List TaskRt) : Keeps s₀ (s.pairAfter ch before) := by
  unfold State.pairAfter
  apply_rules [Keeps.upd, Keeps.ite]

theorem Keeps.pairTick {s₀ s : State} (h : Keeps s₀ s) (ch : Ch) : Keeps s₀ (s.pairTick ch) := by
  unfold State.pairTick
  apply_rules [Keeps.upd, Keeps.ite]

theorem Keeps.modeCommand {s₀ s : State} (h : Keeps s₀ s) (ch : Ch) (via : Option Transport) (tag : Byte) (v : Nat) :
    Keeps s₀ (s.modeCommand ch via tag v) := by
  unfold State.modeCommand
  apply_rules [Keeps.refuseOne, Keeps.upd, Keeps.ite]

theorem Keeps.resetCmd {s₀ s : State} (h : Keeps s₀ s) (ch : Ch) (via : Option Transport) (tag : Byte) (v : Nat) :
    Keeps s₀ (s.resetCmd ch via tag v) := by
  unfold State.resetCmd
  apply_rules [Keeps.refuseOne, Keeps.upd, Keeps.ite]

theorem Keeps.forget {s₀ s : State} (h : Keeps s₀ s) (ch : Ch) : Keeps s₀ (s.forget ch) := by
  unfold State.forget
  apply_rules [Keeps.updAll]

theorem Keeps.dropWaiting {s₀ s : State} (h : Keeps s₀ s) (ch : Ch) : Keeps s₀ (s.dropWaiting ch) :=
  (h.upd ..).foldl (fun _ _ hs => hs.answer ..) _

theorem Keeps.takeIn {s₀ s : State} (h : Keeps s₀ s) (ch : Ch) : Keeps s₀ (s.takeIn ch) := by
  unfold State.takeIn
  dsimp only
  repeat' split
  all_goals apply_rules [Keeps.upd, Keeps.hostAnswer]

theorem Keeps.regWrite {s₀ s : State} (h : Keeps s₀ s) (ch : Ch) (blk o : Nat) (w m : Word) : Keeps s₀ (s.regWrite ch blk o w m) := by
  unfold State.regWrite
  split
  all_goals apply_rules [Keeps.upd, Keeps.modeCommand, Keeps.chgCommand, Keeps.syncCmd, Keeps.tick, Keeps.ite]

theorem Keeps.busSide {s₀ s : State} (h : Keeps s₀ s) (ch : Ch) (ini : Initiator) (a : Nat) : Keeps s₀ (s.busSide ch ini a) := by
  unfold State.busSide
  apply_rules [Keeps.upd, Keeps.ite]

theorem Keeps.busWrite {s₀ s : State} (h : Keeps s₀ s) (ch : Ch) (a n : Nat) (v : Word) : Keeps s₀ (s.busWrite ch a n v) := by
  unfold State.busWrite
  apply_rules [Keeps.regWrite, Keeps.upd, Keeps.ite]

theorem Keeps.memAccess {s₀ s : State} (h : Keeps s₀ s) (ch : Ch) (hart : Nat) (write : Bool) (n a : Nat) (data : Word) (rd : Nat) (signed : Bool)
    (len : Nat) : Keeps s₀ (s.memAccess ch hart write n a data rd signed len) := by
  unfold State.memAccess
  dsimp only
  repeat' split
  all_goals apply_rules [Keeps.upd, Keeps.busWrite, Keeps.busSide]

theorem Keeps.coreAccess {s₀ s : State} (h : Keeps s₀ s) (ch : Ch) (hart : Nat) (write : Bool) (n a : Nat) (data : Word) (rd : Nat) (signed : Bool) :
    Keeps s₀ (s.coreAccess ch hart write n a data rd signed) := by
  unfold State.coreAccess
  apply_rules [Keeps.tick, Keeps.memAccess, Keeps.ite]

theorem Keeps.plainAccess {s₀ s : State} (h : Keeps s₀ s) (ch : Ch) (ini : Initiator) (write : Bool) (n a : Nat) (data : Word) :
    Keeps s₀ (s.plainAccess ch ini write n a data) := by
  unfold State.plainAccess
  apply_rules [Keeps.busWrite, Keeps.busSide, Keeps.upd, Keeps.ite]
  all_goals split
  all_goals apply_rules [Keeps.busWrite, Keeps.busSide, Keeps.upd, Keeps.ite]

theorem Keeps.sysBus {s₀ s : State} (h : Keeps s₀ s) (ch : Ch) (write : Bool) (n a : Nat) (value : Word) : Keeps s₀ (s.sysBus ch write n a value) := by
  unfold State.sysBus
  apply_rules [Keeps.upd, Keeps.busWrite, Keeps.busSide, Keeps.ite]
  all_goals split
  all_goals apply_rules [Keeps.upd, Keeps.busWrite, Keeps.busSide, Keeps.ite]

theorem Keeps.legacyEval {s₀ s : State} (h : Keeps s₀ s) (ch : Ch) : Keeps s₀ (s.legacyEval ch) := by
  unfold State.legacyEval
  apply_rules [Keeps.upd, Keeps.ite]

theorem Keeps.legacyBoundary {s₀ s : State} (h : Keeps s₀ s) (ch : Ch) : Keeps s₀ (s.legacyBoundary ch) := by
  unfold State.legacyBoundary
  apply_rules [Keeps.upd, Keeps.legacyEval, Keeps.ite]

theorem Keeps.lcmd {s₀ s : State} (h : Keeps s₀ s) (ch : Ch) (v : Nat) : Keeps s₀ (s.lcmd ch v) := by
  unfold State.lcmd
  apply_rules [Keeps.modeCommand, Keeps.upd, Keeps.ite]
  all_goals split
  all_goals apply_rules [Keeps.modeCommand, Keeps.upd, Keeps.ite]

theorem Keeps.readParts {s₀ s : State} (h : Keeps s₀ s) (ch : Ch) (via : Transport) (svc : Nat) (req : DReq) (own : List (Nat × REntry))
    (prox : List (DEntry × Nat)) : Keeps s₀ (s.readParts ch via svc req own prox) :=
  (h.upd ..).foldl (fun _ _ hs => hs.proxyRead ..) _

theorem Keeps.serveRead {s₀ s : State} (h : Keeps s₀ s) (ch : Ch) (via : Transport) (svc : Nat) (req : DReq) (deny : Bool) :
    Keeps s₀ (s.serveRead ch via svc req deny) := by
  unfold State.serveRead
  dsimp only
  repeat' split
  all_goals apply_rules [Keeps.upd, Keeps.proxyRead, Keeps.readParts]

theorem Keeps.readCall {s₀ s : State} (h : Keeps s₀ s) (ch : Ch) (via : Transport) (svc : Nat) (req : DReq) : Keeps s₀ (s.readCall ch via svc req) := by
  unfold State.readCall
  apply_rules [Keeps.upd, Keeps.serveRead, Keeps.ite]

theorem Keeps.serveHeld {s₀ s : State} (h : Keeps s₀ s) (ch : Ch) : Keeps s₀ (s.serveHeld ch) := (h.upd ..).foldl (fun _ _ hs => hs.serveRead ..) _

theorem Keeps.refuseHeld {s₀ s : State} (h : Keeps s₀ s) (ch : Ch) : Keeps s₀ (s.refuseHeld ch) := (h.upd ..).foldl (fun _ _ hs => hs.serveRead ..) _

theorem execBrigadeOffer_keeps (s : State) (ch : Ch) (peer : Peer) (hd : BrigadeHdr) (m : Manifest) : Answers (execBrigadeOffer ch peer hd m s) (Keeps s) := by
  have h := Keeps.refl s
  unfold execBrigadeOffer
  apply_rules [answers_next, Keeps.upd, Keeps.acceptOffer, Answers.ite, Keeps.ite]
  all_goals split
  all_goals apply_rules [answers_next, Keeps.upd, Keeps.acceptOffer, Answers.ite, Keeps.ite]

theorem execBrigadePiece_keeps (s : State) (ch : Ch) (peer : Peer) (hd : BrigadeHdr) (data : List Byte) :
    Answers (execBrigadePiece ch peer hd data s) (Keeps s) := by
  have h := Keeps.refl s
  unfold execBrigadePiece
  dsimp only
  apply_rules [answers_next, Keeps.upd, Keeps.takePiece, Answers.ite, Keeps.ite]
  all_goals split
  all_goals apply_rules [answers_next, Keeps.upd, Keeps.takePiece, Answers.ite, Keeps.ite]

theorem execBrigadeEnd_keeps (s : State) (ch : Ch) (peer : Peer) (hd : BrigadeHdr) : Answers (execBrigadeEnd ch peer hd s) (Keeps s) := by
  have h := Keeps.refl s
  unfold execBrigadeEnd
  split
  · exact answers_next h
  · split
    · exact answers_next (h.upd ..)
    · split
      · exact answers_next (h.upd ..)
      · exact answers_next ((((h.upd ..).foldl (fun _ _ hs => hs.send ..) _).foldl (fun _ _ hs => hs.send ..) _).updAll ..)

theorem Keeps.brigadeWrite {s₀ s : State} (h : Keeps s₀ s) (ch : Ch) (via : Option Transport) (tag : Byte) (from_ : Transport) (b : List Byte) :
    Keeps s₀ (s.brigadeWrite ch via tag from_ b) := by
  unfold State.brigadeWrite
  split
  · exact h.refuseOne ..
  · dsimp only
    split
    · exact h.trans ((execBrigadeOffer_keeps s ..).outState s)
    · exact h.trans ((execBrigadePiece_keeps s ..).outState s)
    · exact h.onlyChan ((execBrigadeStatus_onlyChan s ..).outState s)
    · exact h.trans ((execBrigadeEnd_keeps s ..).outState s)
    · exact h.onlyChan ((execBrigadeRefuse_onlyChan s ..).outState s)
    · exact h.trans ((execBrigadeEnd_keeps s ..).outState s)

theorem Keeps.commandWrite {s₀ s : State} (h : Keeps s₀ s) (ch : Ch) (via : Option Transport) (tag : Byte) (from_ : Transport) (e : DEntry) :
    Keeps s₀ (s.commandWrite ch via tag from_ e) := by
  unfold State.commandWrite
  split
  all_goals apply_rules [Keeps.modeCommand, Keeps.chgCommand, Keeps.confirmChg, Keeps.resetCmd, Keeps.syncCmd, Keeps.updCommand, Keeps.fwConfirm, Keeps.brigadeWrite, Keeps.ite]

theorem Keeps.putStateWrite {s₀ s : State} (h : Keeps s₀ s) (ch : Ch) (w : StateWrite) : Keeps s₀ (s.putStateWrite ch w) := by
  unfold State.putStateWrite
  apply_rules [Keeps.updAll, Keeps.ite]

theorem Keeps.runCall {s₀ s : State} (h : Keeps s₀ s) (ch : Ch) (x : Call) : Keeps s₀ (s.runCall ch x) := by
  unfold State.runCall
  repeat' split
  · exact h
  · exact (h.upd ..).foldl (fun _ _ hs => hs.putStateWrite ..) _
  · exact h
  · exact (h.upd ..).enqueue ..

theorem Keeps.runCalls {s₀ s : State} (h : Keeps s₀ s) (ch : Ch) : Keeps s₀ (s.runCalls ch) := h.foldl (fun _ _ hs => hs.runCall ..) _

theorem Keeps.partCommand {s₀ s : State} (h : Keeps s₀ s) (ch : Ch) (via : Transport) (tag : Byte) (id k : Nat) (e : DEntry) :
    Keeps s₀ (s.partCommand ch via tag id k e) := by
  unfold State.partCommand
  apply_rules [Keeps.commandWrite, Keeps.upd, Keeps.ite]

theorem Keeps.applyWrite {s₀ s : State} (h : Keeps s₀ s) (ch : Ch) (via : Transport) (req : DReq) : Keeps s₀ (s.applyWrite ch via req) := by
  unfold State.applyWrite
  extract_lets -underBinder c n js deeds acts sws cmds s1 store
  have h1 : Keeps s₀ s1 := by
    refine h.foldl (fun s x hs => ?_) _
    split
    · exact hs.upd ..
    · exact hs
  clear_value cmds sws
  repeat' split
  · exact h1.upd ..
  · exact (h1.upd ..).enqueue ..
  · exact h1.commandWrite ..
  · exact h1.putStateWrite ..
  · exact ((h1.upd ..).foldl (fun _ _ hs => hs.partCommand ..) _).runCalls ..

theorem Keeps.writeCall {s₀ s : State} (h : Keeps s₀ s) (ch : Ch) (via : Transport) (req : DReq) : Keeps s₀ (s.writeCall ch via req) := by
  unfold State.writeCall
  dsimp only
  repeat' split
  all_goals apply_rules [Keeps.upd, Keeps.applyWrite]

theorem Keeps.dictCall {s₀ s : State} (h : Keeps s₀ s) (ch : Ch) (via : Transport) (svc : Nat) (req : DReq) : Keeps s₀ (s.dictCall ch via svc req) := by
  unfold State.dictCall
  apply_rules [Keeps.upd, Keeps.tick, Keeps.readCall, Keeps.writeCall, Keeps.ite]
  all_goals split
  all_goals apply_rules [Keeps.upd, Keeps.tick, Keeps.readCall, Keeps.writeCall, Keeps.ite]

theorem Keeps.mdFrame {s₀ s : State} (h : Keeps s₀ s) (p : NetPort) (hd : MdHead) {f : State → State} (hf : ∀ t, Keeps s₀ t → Keeps s₀ (f t)) :
    Keeps s₀ (s.mdFrame p hd f) := by
  unfold State.mdFrame
  dsimp only
  repeat' split
  · exact h
  · exact h.upd ..
  · exact h
  · exact hf s h

theorem Keeps.serveMail {s₀ s : State} (h : Keeps s₀ s) (r : Ring) : Keeps s₀ (s.serveMail r) := (h.updMill ..).foldl (fun _ _ hs => hs.dictCall ..) _

theorem Keeps.legacyCall {s₀ s : State} (h : Keeps s₀ s) (ch : Ch) (kind : Nat) (msg : List Byte) : Keeps s₀ (s.legacyCall ch kind msg) := by
  unfold State.legacyCall
  apply_rules [Keeps.upd, Keeps.dictCall, Keeps.ite]

theorem Keeps.sendSnapshot {s₀ s : State} (h : Keeps s₀ s) (ch : Ch) : Keeps s₀ (s.sendSnapshot ch) := by
  unfold State.sendSnapshot
  apply_rules [Keeps.sendBoth]

theorem Keeps.serveLane {s₀ s : State} (h : Keeps s₀ s) (ch : Ch) (v : Nat) : Keeps s₀ (s.serveLane ch v) := by
  unfold State.serveLane
  dsimp only
  apply_rules [Keeps.upd]

theorem Keeps.mbxDoor {s₀ s : State} (h : Keeps s₀ s) (ch : Ch) (len : Nat) : Keeps s₀ (s.mbxDoor ch len) := by
  unfold State.mbxDoor
  apply_rules [Keeps.upd, Keeps.dictCall, Keeps.ite]

theorem Keeps.msgDoor {s₀ s : State} (h : Keeps s₀ s) (ch : Ch) : Keeps s₀ (s.msgDoor ch) := by
  unfold State.msgDoor
  dsimp only
  repeat' split
  all_goals apply_rules [Keeps.upd, Keeps.bridgeItem, Keeps.hostAnswer]

theorem Keeps.windowAct {s₀ s : State} (h : Keeps s₀ s) (ch : Ch) (o : Nat) (w : Word) : Keeps s₀ (s.windowAct ch o w) := by
  unfold State.windowAct
  apply_rules [Keeps.lcmd, Keeps.mbxDoor, Keeps.upd, Keeps.legacyCall, Keeps.msgDoor, Keeps.ite]
  all_goals split
  all_goals apply_rules [Keeps.lcmd, Keeps.mbxDoor, Keeps.upd, Keeps.legacyCall, Keeps.msgDoor, Keeps.ite]

theorem Keeps.refuseReads {s₀ s : State} (h : Keeps s₀ s) (ch : Ch) : Keeps s₀ (s.refuseReads ch) := by
  unfold State.refuseReads
  apply_rules [Keeps.refuseHeld, Keeps.serveLane]

theorem Keeps.openGate {s₀ s : State} (h : Keeps s₀ s) (ch : Ch) : Keeps s₀ (s.openGate ch) := by
  unfold State.openGate
  apply_rules [Keeps.upd, Keeps.flushGate, Keeps.mvbWrite, Keeps.serveHeld, Keeps.serveLane, Keeps.ite]

theorem Keeps.confirm {s₀ s : State} (h : Keeps s₀ s) (ch : Ch) : Keeps s₀ (s.confirm ch) := by
  unfold State.confirm
  dsimp only
  apply_rules [Keeps.upd, Keeps.openGate]

theorem Keeps.decideResync {s₀ s : State} (h : Keeps s₀ s) (ch m : Ch) : Keeps s₀ (s.decideResync ch m) := by
  unfold State.decideResync
  apply_rules [Keeps.upd, Keeps.ite]

theorem Keeps.judgeRetained {s₀ s : State} (h : Keeps s₀ s) (ch : Ch) : Keeps s₀ (s.judgeRetained ch) := by
  unfold State.judgeRetained
  dsimp only
  repeat' split
  all_goals apply_rules [Keeps.upd, Keeps.decideResync, Keeps.refuseReads]

theorem Keeps.judge {s₀ s : State} (h : Keeps s₀ s) (ch : Ch) : Keeps s₀ (s.judge ch) := by
  unfold State.judge
  extract_lets -underBinder c0 missing bits s1 res s2 lagging s3
  have h1 : Keeps s₀ s1 := h.upd ..
  have h2 : Keeps s₀ s2 := by
    refine Keeps.ite (Keeps.ite ((h1.upd ..).confirm ..) (h1.refuseReads ..)) (Keeps.ite ((h1.decideResync ..).refuseReads ..) ?_)
    clear_value res
    cases res
    · exact h1.confirm ..
    · exact (h1.upd ..).refuseReads ..
    · exact (h1.upd ..).refuseReads ..
    · exact (h1.upd ..).refuseReads ..
  have h3 : Keeps s₀ s3 := by
    clear_value lagging
    cases lagging with
    | none => exact h2
    | some p => exact h2.decideResync ..
  exact Keeps.ite h (Keeps.ite (h.upd ..) (h3.judgeRetained ..))

theorem Keeps.matched {s₀ s : State} (h : Keeps s₀ s) (ch : Ch) : Keeps s₀ (s.matched ch) := by
  unfold State.matched
  apply_rules [Keeps.upd, Keeps.openGate, Keeps.ite]

theorem Keeps.matchEarly {s₀ s : State} (h : Keeps s₀ s) (ch : Ch) : Keeps s₀ (s.matchEarly ch) := by
  unfold State.matchEarly
  apply_rules [Keeps.matched, Keeps.ite]

theorem Keeps.askPages {s₀ s : State} (h : Keeps s₀ s) (ch src : Ch) (n cc : Nat) (pages : List (Nat × Nat)) : Keeps s₀ (s.askPages ch src n cc pages) := by
  unfold State.askPages
  split
  · exact h
  · exact h.foldl (fun _ _ hs => hs.send ..) _

theorem Keeps.rerequest {s₀ s : State} (h : Keeps s₀ s) (ch src : Ch) : Keeps s₀ (s.rerequest ch src) := by
  unfold State.rerequest
  repeat' split
  all_goals apply_rules [Keeps.send]

theorem Keeps.recvTimers {s₀ s : State} (h : Keeps s₀ s) (ch : Ch) (ok : Bool) (p : XBody → Bool) {f : XBody → State → State}
    (hf : ∀ b t, Keeps s₀ t → Keeps s₀ (f b t)) : Keeps s₀ (s.recvTimers ch ok p f) := by
  unfold State.recvTimers
  split
  · exact h.recv _ _ _ _ hf
  · exact ⟨(h.recv _ _ _ _ hf).pending, h.sound⟩

theorem Keeps.discipline {s₀ s : State} (h : Keeps s₀ s) (ch : Ch) : Keeps s₀ (s.discipline ch) := by
  unfold State.discipline
  dsimp only
  apply_rules [Keeps.upd]

theorem Keeps.sourceChange {s₀ s : State} (h : Keeps s₀ s) (ch : Ch) : Keeps s₀ (s.sourceChange ch) := by
  unfold State.sourceChange
  apply_rules [Keeps.upd, Keeps.ite]

theorem Keeps.timeStep {s₀ s : State} (h : Keeps s₀ s) (ch : Ch) : Keeps s₀ (s.timeStep ch) := by
  unfold State.timeStep
  dsimp only
  apply_rules [Keeps.discipline, Keeps.sourceChange, Keeps.upd]

theorem Keeps.isolation {s₀ s : State} (h : Keeps s₀ s) (ch : Ch) : Keeps s₀ (s.isolation ch) := by
  unfold State.isolation
  extract_lets -underBinder s1
  have h1 : Keeps s₀ s1 := Keeps.ite (h.upd ..) h
  exact h1.foldl (fun s p hs => Keeps.ite (hs.upd ..) hs) _

theorem Keeps.takeOuts {s₀ s : State} (h : Keeps s₀ s) (ch : Ch) : Keeps s₀ (s.takeOuts ch) := by
  unfold State.takeOuts
  split
  · exact h
  · exact h.foldl (fun _ _ hs => hs.ite (hs.upd ..)) _

theorem Keeps.dropWrites {s₀ s : State} (h : Keeps s₀ s) (ch : Ch) : Keeps s₀ (s.dropWrites ch) :=
  (h.upd ..).foldl (fun _ _ hs => Keeps.ite ((hs.upd ..).answer ..) hs) _

theorem Keeps.enterMode {s₀ s : State} (h : Keeps s₀ s) (ch : Ch) (p : Proposal) (off : Bool) : Keeps s₀ (s.enterMode ch p off) := by
  unfold State.enterMode
  apply_rules [Keeps.upd, Keeps.dropWrites, Keeps.enqueue, Keeps.sendSnapshot, Keeps.ite]

theorem Keeps.rejectLeft {s₀ s : State} (h : Keeps s₀ s) (o : Ch) (cc : Nat) : Keeps s₀ (s.rejectLeft o cc) := h.foldl (fun _ _ hs => hs.refuseOne ..) _

theorem Keeps.toHeld {s₀ s : State} (h : Keeps s₀ s) (ch : Ch) (cause : Nat) (recover : Bool) : Keeps s₀ (s.toHeld ch cause recover) := by
  unfold State.toHeld
  extract_lets -underBinder cc s1 alone keep
  have h1 : Keeps s₀ s1 := h.foldl (fun _ _ hs => hs.rejectLeft ..) _
  split
  · exact h1.upd ..
  · exact (h1.updAll ..).fullStart ..

theorem Keeps.answerCmds {s₀ s : State} (h : Keeps s₀ s) (o : Ch) (kind cc : Nat) (taken : Option Nat) : Keeps s₀ (s.answerCmds o kind cc taken) :=
  h.foldl (fun _ _ hs => Keeps.ite (hs.answer ..) (hs.refuseOne ..)) _

theorem Keeps.lostToHeld {s₀ s : State} (h : Keeps s₀ s) (ch : Ch) : Keeps s₀ (s.lostToHeld ch) := by
  unfold State.lostToHeld
  dsimp only
  apply_rules [Keeps.answerCmds, Keeps.rejectLeft, Keeps.upd, Keeps.remode, Keeps.flushStart]

theorem Keeps.modeStep {s₀ s : State} (h : Keeps s₀ s) (ch : Ch) : Keeps s₀ (s.modeStep ch) := by
  unfold State.modeStep
  extract_lets -underBinder s1 c cc ps chosen taken
  have h1 : Keeps s₀ s1 := h.takeOuts ..
  clear_value chosen taken
  repeat' split
  · exact h1
  · exact h1.lostToHeld ..
  · exact (h1.answerCmds ..).enterMode ..
  · exact (h1.answerCmds ..).upd ..
  · exact (h1.foldl (fun _ _ hs => hs.answerCmds ..) _).toHeld ..
  · exact ((h1.answerCmds ..).upd ..).enterMode ..

theorem Keeps.firstMode {s₀ s : State} (h : Keeps s₀ s) (ch : Ch) : Keeps s₀ (s.firstMode ch) := by
  unfold State.firstMode
  split
  all_goals apply_rules [Keeps.enterMode, Keeps.ite]

theorem Keeps.otherCmds {s₀ s : State} (h : Keeps s₀ s) (ch : Ch) : Keeps s₀ (s.otherCmds ch) := by
  refine h.foldl (fun s k hs => ?_) _
  dsimp only
  split
  · exact hs
  · exact (hs.upd ..).answerCmds ..

theorem Keeps.runCells {s₀ s : State} (h : Keeps s₀ s) (ch : Ch) : Keeps s₀ (s.runCells ch) := h.onlyChan (onlyChan_runCells (onlyChan_refl ch s))

theorem Keeps.applyWrites {s₀ s : State} (h : Keeps s₀ s) (ch : Ch) : Keeps s₀ (s.applyWrites ch) := by
  refine (h.upd ..).foldl (fun s w hs => ?_) _
  split
  all_goals apply_rules [Keeps.answer, Keeps.enqueue, Keeps.upd, Keeps.ite]

theorem Keeps.commitStep {s₀ s : State} (h : Keeps s₀ s) (ch : Ch) (changed : Bool) : Keeps s₀ (s.commitStep ch changed) := by
  unfold State.commitStep
  extract_lets -underBinder voting failed x sw early committed applied resubscribed switched
  have happlied : Keeps s₀ applied := ((h.changeFails ..).upd ..).applyWrites ..
  have hsw : Keeps s₀ switched := by
    refine Keeps.ite ?_ happlied
    split
    · exact (happlied.upd ..).sendBoth ..
    · exact happlied.upd ..
  clear_value switched
  split
  · exact Keeps.ite (hsw.foldl (fun _ _ hs => hs.send ..) _) hsw
  · exact hsw

theorem Keeps.sourceSends {s₀ s : State} (h : Keeps s₀ s) (ch : Ch) : Keeps s₀ (s.sourceSends ch) := by
  unfold State.sourceSends
  dsimp only
  split
  · exact h
  · refine Keeps.foldl (Keeps.ite (h.foldl (fun _ _ hs => hs.send ..) _) h) (fun s t hs => ?_) _
    exact Keeps.ite (hs.foldl (fun _ _ hs => hs.send ..) _) hs

theorem Keeps.releaseStep {s₀ s : State} (h : Keeps s₀ s) (ch : Ch) : Keeps s₀ (s.releaseStep ch) := by
  unfold State.releaseStep
  dsimp only
  apply_rules [Keeps.upd, Keeps.sourceSends]

theorem Keeps.distribute {s₀ s : State} (h : Keeps s₀ s) (ch : Ch) : Keeps s₀ (s.distribute ch).1 := (h.upd ..).foldl (fun _ _ hs => hs.refuseOne ..) _

theorem Keeps.lateNotices {s₀ s : State} (h : Keeps s₀ s) (ch : Ch) : Keeps s₀ (s.lateNotices ch) := by
  refine h.foldl (fun s t hs => ?_) _
  split
  all_goals apply_rules [Keeps.upd, Keeps.sendBoth, Keeps.ite]

theorem Keeps.sendMessage {s₀ s : State} (h : Keeps s₀ s) (ch : Ch) : Keeps s₀ (s.sendMessage ch) := by
  unfold State.sendMessage
  extract_lets -underBinder s1 c s2 x prop nums word s3 s4 s5
  have h1 : Keeps s₀ s1 := Keeps.ite (h.isolation ..) h
  have h2 : Keeps s₀ s2 := h1.upd ..
  have h5 : Keeps s₀ s5 := ((h1.distribute ..).sendBoth ..).upd ..
  repeat' split
  · exact h2.sendBoth ..
  · exact h2
  · exact h5.lateNotices ..

theorem Keeps.endOfCommit {s₀ s : State} (h : Keeps s₀ s) (ch : Ch) : Keeps s₀ (s.endOfCommit ch) := by
  unfold State.endOfCommit
  apply_rules [Keeps.refuseReads, Keeps.upd, Keeps.ite]

theorem Keeps.closeStep {s₀ s : State} (h : Keeps s₀ s) (ch : Ch) : Keeps s₀ (s.closeStep ch) := by
  unfold State.closeStep
  apply_rules [Keeps.upd, Keeps.shareWindow, Keeps.sdBoundary, Keeps.legacyBoundary, Keeps.mvbWrite, Keeps.sendBoth, Keeps.ite]
  all_goals split
  all_goals apply_rules [Keeps.upd, Keeps.shareWindow, Keeps.sdBoundary, Keeps.legacyBoundary, Keeps.mvbWrite, Keeps.sendBoth, Keeps.ite]

theorem Keeps.boundary {s₀ s : State} (h : Keeps s₀ s) (ch : Ch) : Keeps s₀ (s.boundary ch) := by
  unfold State.boundary
  extract_lets -underBinder first judged ended before begun old moded c changed marked others votes joined loaded voted paired timed released
  have hbegun : Keeps s₀ begun := ((h.ite (h.judge ch)).endOfCommit ch).upd ..
  have hmoded : Keeps s₀ moded := Keeps.ite (hbegun.firstMode ..) ((hbegun.pairGrant ..).modeStep ..)
  have hothers : Keeps s₀ others := Keeps.ite (hmoded.upd ..) ((hmoded.upd ..).otherCmds ..)
  have hloaded : Keeps s₀ loaded := Keeps.ite ((hothers.upd ..).judgeLoad ..) (hothers.upd ..)
  have hvoted : Keeps s₀ voted := Keeps.ite ((((hloaded.upd ..).commitStep ..).pairAfter ..).matchEarly ..) hothers
  have htimed : Keeps s₀ timed := (hvoted.pairTick ..).timeStep ..
  have hreleased : Keeps s₀ released := Keeps.ite (htimed.releaseStep ..) htimed
  exact Keeps.ite hmoded ((((hreleased.closeStep ..).runCalls ..).txnStep ..).sendMessage ..)

theorem Keeps.idle {s₀ s : State} (h : Keeps s₀ s) : Keeps s₀ s.idle := by
  unfold State.idle
  apply_rules [Keeps.runCells, Keeps.updAll]

end Sys2Proof.Machine
end

/-! PROOFS. Every command answers a next state and keeps the queue and the soundness of the messages in flight: O4, O5 and O6. -/

section
namespace Sys2Proof.Machine
open Sys2Proof Sys2Proof.Safety

theorem execFeedStartThreshold_keeps (s : State) (mv1 mv2 : Nat) : Answers (execFeedStartThreshold mv1 mv2 s) (Keeps s) := by
  have h := Keeps.refl s
  unfold execFeedStartThreshold
  dsimp only
  apply_rules [answers_guardC, Keeps.updAll, Keeps.remode, Keeps.flushStart, answers_next]

theorem execKeepInRegulation_keeps (s : State) (ch : Ch) : Answers (execKeepInRegulation ch s) (Keeps s) := by
  have h := Keeps.refl s
  unfold execKeepInRegulation
  exact answers_guardC _ h (by apply_rules [Keeps.upd, Keeps.remode])

theorem execFlushComplete_keeps (s : State) (ch : Ch) (mv1 mv2 : Nat) : Answers (execFlushComplete ch mv1 mv2 s) (Keeps s) := by
  have h := Keeps.refl s
  unfold execFlushComplete
  exact answers_guardC _ h (by apply_rules [Keeps.upd, Keeps.remode, Keeps.flushStart])

theorem execKeepLeavesRegulation_keeps (s : State) (ch : Ch) : Answers (execKeepLeavesRegulation ch s) (Keeps s) := by
  have h := Keeps.refl s
  unfold execKeepLeavesRegulation
  exact answers_guardC _ h (by apply_rules [Keeps.tick, Keeps.upd, Keeps.remode])

theorem execDomainShutdownDone_keeps (s : State) (ch : Ch) : Answers (execDomainShutdownDone ch s) (Keeps s) := by
  have h := Keeps.refl s
  unfold execDomainShutdownDone
  exact answers_guardC _ h (by apply_rules [Keeps.upd, Keeps.remode])

theorem execLaneLoss_keeps (s : State) (ch : Ch) : Answers (execLaneLoss ch s) (Keeps s) := by
  have h := Keeps.refl s
  unfold execLaneLoss
  dsimp only
  apply_rules [answers_guardC, Keeps.upd, Keeps.remode, answers_next]

theorem execHoldoverExpiry_keeps (s : State) (ch : Ch) : Answers (execHoldoverExpiry ch s) (Keeps s) := by
  have h := Keeps.refl s
  unfold execHoldoverExpiry
  exact answers_guardC _ h (by apply_rules [Keeps.upd, Keeps.remode])

theorem execRootPllLossOfLock_keeps (s : State) (ch : Ch) : Answers (execRootPllLossOfLock ch s) (Keeps s) := by
  have h := Keeps.refl s
  unfold execRootPllLossOfLock
  exact answers_guardC _ h (by apply_rules [Keeps.upd, Keeps.remode])

theorem execMonitorWindow_keeps (s : State) (ch : Ch) (counts : List Nat) : Answers (execMonitorWindow ch counts s) (Keeps s) := by
  have h := Keeps.refl s
  unfold execMonitorWindow
  exact answers_guardC _ h (by apply_rules [Keeps.upd, Keeps.remode])

theorem execFallbackShutdownDone_keeps (s : State) (ch : Ch) : Answers (execFallbackShutdownDone ch s) (Keeps s) := by
  have h := Keeps.refl s
  unfold execFallbackShutdownDone
  dsimp only
  apply_rules [answers_guardC, Keeps.upd, Keeps.remode, answers_next]

theorem execReeveRelease_keeps (s : State) (ch : Ch) (ga : Nat) (late : Bool) : Answers (execReeveRelease ch ga late s) (Keeps s) := by
  have h := Keeps.refl s
  unfold execReeveRelease
  apply_rules [answers_next, Keeps.tick, Keeps.upd, Keeps.remode, Answers.ite, Keeps.ite]

theorem execAssayStepComplete_keeps (s : State) (ch : Ch) (r : AssayFind) : Answers (execAssayStepComplete ch r s) (Keeps s) := by
  have h := Keeps.refl s
  unfold execAssayStepComplete
  apply_rules [answers_next, Keeps.upd, Keeps.beginS7, Answers.ite, Keeps.ite]

theorem execS7WaitLimit_keeps (s : State) : Answers (execS7WaitLimit s) (Keeps s) := by
  have h := Keeps.refl s
  unfold execS7WaitLimit
  exact answers_guardC _ h (by apply_rules [Keeps.beginS7])

theorem execStartImageVerification_keeps (s : State) (ch : Ch) : Answers (execStartImageVerification ch s) (Keeps s) := by
  have h := Keeps.refl s
  unfold execStartImageVerification
  apply_rules [answers_next, Keeps.upd, Keeps.trialFails, Answers.ite, Keeps.ite]

theorem execJournalScan_keeps (s : State) (ch : Ch) : Answers (execJournalScan ch s) (Keeps s) := by
  have h := Keeps.refl s
  unfold execJournalScan
  dsimp only
  split
  · exact answers_next h
  · exact answers_next ((h.upd ..).each fun p t ht => ht.repairLive ..)

theorem execStartDecision_keeps (s : State) : Answers (execStartDecision s) (Keeps s) := by
  have h := Keeps.refl s
  unfold execStartDecision
  dsimp only
  split
  · exact answers_next h
  · exact answers_next ((h.repairSlots.updAll ..).sdStart)

theorem execTickBoundary_keeps (s : State) (ch : Ch) : Answers (execTickBoundary ch s) (Keeps s) := by
  have h := Keeps.refl s
  unfold execTickBoundary
  dsimp only
  apply_rules [answers_guardC, Keeps.boundary, answers_next]

theorem execJudgementInstant_keeps (s : State) (ch : Ch) : Answers (execJudgementInstant ch s) (Keeps s) := by
  have h := Keeps.refl s
  unfold execJudgementInstant
  apply_rules [answers_next, Keeps.upd, Keeps.judge, Answers.ite, Keeps.ite]

theorem execBoundaryMessageReceive_keeps (s : State) (rx tx : Ch) (ok : Bool) (arrival : Nat) :
    Answers (execBoundaryMessageReceive rx tx ok arrival s) (Keeps s) := by
  have h := Keeps.refl s
  unfold execBoundaryMessageReceive
  refine answers_next (h.recv _ _ _ _ fun b t ht => ?_)
  split
  all_goals apply_rules [Keeps.boundary, Keeps.upd, Keeps.matched, Answers.ite, Keeps.ite]

theorem execCompletionNoticeReceive_keeps (s : State) (rx tx : Ch) (ok : Bool) : Answers (execCompletionNoticeReceive rx tx ok s) (Keeps s) := by
  have h := Keeps.refl s
  unfold execCompletionNoticeReceive
  refine answers_next (h.recv _ _ _ _ fun b t ht => ?_)
  split
  all_goals apply_rules [Keeps.upd, Answers.ite, Keeps.ite]

theorem execResyncPageSumList_keeps (s : State) (ch : Ch) (ok : Bool) : Answers (execResyncPageSumList ch ok s) (Keeps s) := by
  refine answers_next ((Keeps.refl s).recv _ _ _ _ fun b t ht => ?_)
  dsimp only
  repeat' split
  all_goals apply_rules [Keeps.upd, Keeps.askPages]

theorem execResyncPageRequest_keeps (s : State) (ch : Ch) (ok : Bool) : Answers (execResyncPageRequest ch ok s) (Keeps s) := by
  refine answers_next ((Keeps.refl s).recv _ _ _ _ fun b t ht => ?_)
  dsimp only
  repeat' split
  · exact ht
  · exact ht
  · exact (ht.upd ..).foldl (fun _ _ hs => hs.send ..) _
  · exact ht

theorem execResyncPageData_keeps (s : State) (ch : Ch) (ok : Bool) : Answers (execResyncPageData ch ok s) (Keeps s) := by
  refine answers_next (Keeps.recv (Keeps.ite (Keeps.refl s) ((Keeps.refl s).rerequest ..)) _ _ _ _ fun b t ht => ?_)
  split
  all_goals apply_rules [Keeps.upd, Answers.ite, Keeps.ite]

theorem execResyncTimerSnapshot_keeps (s : State) (ch : Ch) (ok : Bool) : Answers (execResyncTimerSnapshot ch ok s) (Keeps s) := by
  have h := Keeps.refl s
  unfold execResyncTimerSnapshot
  refine answers_next (h.recvTimers _ _ _ fun b t ht => ?_)
  split
  all_goals apply_rules [Keeps.upd, Answers.ite, Keeps.ite]

theorem execResyncTimerOperations_keeps (s : State) (ch : Ch) (ok : Bool) : Answers (execResyncTimerOperations ch ok s) (Keeps s) := by
  have h := Keeps.refl s
  unfold execResyncTimerOperations
  split
  · exact answers_next h
  · refine answers_next (h.recvTimers _ _ _ fun b t ht => ?_)
    repeat' split
    all_goals apply_rules [Keeps.upd]

theorem execForwardedInputReceive_keeps (s : State) (rx tx : Ch) (ok : Bool) : Answers (execForwardedInputReceive rx tx ok s) (Keeps s) := by
  have h := Keeps.refl s
  unfold execForwardedInputReceive
  refine answers_next (h.recvOr _ _ _ _ _ fun b t ht => ?_)
  split
  all_goals apply_rules [Keeps.upd, Keeps.shareWindow, Answers.ite, Keeps.ite]

/-- A sound message that waits at its relay is sound when the relay has passed it on. -/
theorem msgSound_relayed {m : XMsg} {r : Ch} (hw : m.way = .toRelay r) (h : msgSound m = true) : msgSound { m with way := .relayed r } = true := by
  unfold msgSound at h ⊢
  rwa [hw] at h

/-- The message that is relayed next waits at its relay, and is sound if all messages are. -/
theorem relayNext_relayed {s : State} {r : Ch} {m : XMsg} {w : List XMsg} (e : relayNext r s.wire = some (m, w)) (g : WireSound s) :
    msgSound { m with way := .relayed r } = true := by
  obtain ⟨hp, hm⟩ := wireTake_some e
  have hw : m.way = .toRelay r := by simpa using (Bool.and_eq_true_iff.mp hp).1
  exact msgSound_relayed hw (List.all_eq_true.mp g m hm)

theorem execXlinkSegmentRelay_keeps (s : State) (relay : Ch) (ok : Bool) : Answers (execXlinkSegmentRelay relay ok s) (Keeps s) := by
  have h := Keeps.refl s
  unfold execXlinkSegmentRelay
  dsimp only
  split
  · exact answers_next h
  next m w e =>
    have taken : Keeps s { s with wire := w } := h.taken e
    have passed : Keeps s { s with wire := w ++ [{ m with way := .relayed relay }] } :=
      ⟨rfl, fun g => wireSound_append (s := { s with wire := w }) (taken.sound g) (relayNext_relayed e g)⟩
    repeat' split
    · exact answers_next taken
    · exact answers_next passed
    · exact answers_next (taken.upd ..)

theorem execSliceCompleteReport_keeps (s : State) (ch : Ch) (hart : Nat) : Answers (execSliceCompleteReport ch hart s) (Keeps s) := by
  have h := Keeps.refl s
  unfold execSliceCompleteReport
  apply_rules [answers_next, Keeps.upd, Keeps.noticeDone, Answers.ite, Keeps.ite]

theorem execResetWindowExpiry_keeps (s : State) (ch : Ch) : Answers (execResetWindowExpiry ch s) (Keeps s) := by
  have h := Keeps.refl s
  unfold execResetWindowExpiry
  dsimp only
  repeat' split
  all_goals apply_rules [answers_guardC, Keeps.upd, Keeps.shareWindow, answers_next]

theorem execChangeVerification_keeps (s : State) (ch : Ch) : Answers (execChangeVerification ch s) (Keeps s) := by
  have h := Keeps.refl s
  unfold execChangeVerification
  apply_rules [answers_next, Keeps.upd, Keeps.sendBoth, Keeps.judgeLoad, Answers.ite, Keeps.ite]

theorem execLoadDigestReceive_keeps (s : State) (rx tx : Ch) (ok : Bool) : Answers (execLoadDigestReceive rx tx ok s) (Keeps s) := by
  have h := Keeps.refl s
  unfold execLoadDigestReceive
  refine answers_next (h.recv _ _ _ _ fun b t ht => ?_)
  split
  all_goals apply_rules [Keeps.upd, Keeps.judgeLoad, Answers.ite, Keeps.ite]

theorem execChangeConfirmation_keeps (s : State) (ch : Ch) (value : Word) : Answers (execChangeConfirmation ch value s) (Keeps s) := by
  have h := Keeps.refl s
  unfold execChangeConfirmation
  apply_rules [answers_next, Keeps.confirmChg]

theorem execPortDown_keeps (s : State) (r : Ring) (d : PortLoss) : Answers (execPortDown r d s) (Keeps s) := by
  have h := Keeps.refl s
  unfold execPortDown
  apply_rules [answers_guardC, Keeps.framePass, Keeps.serveMail, Keeps.updMill, answers_next, Answers.ite, Keeps.ite]
  all_goals split
  all_goals apply_rules [answers_guardC, Keeps.framePass, Keeps.serveMail, Keeps.updMill, answers_next, Answers.ite, Keeps.ite]

theorem execFramePassage_keeps (s : State) (r : Ring) (f : MFrame) : Answers (execFramePassage r f s) (Keeps s) := by
  have h := Keeps.refl s
  unfold execFramePassage
  apply_rules [answers_next, Keeps.framePass, Keeps.serveMail]

theorem execWindowFetch_keeps (s : State) (r : Ring) (binding : Nat) (late : Option Nat) : Answers (execWindowFetch r binding late s) (Keeps s) := by
  have h := Keeps.refl s
  unfold execWindowFetch
  dsimp only
  repeat' split
  all_goals apply_rules [answers_guardC, Keeps.fetchOwn, Keeps.upd, answers_next]

theorem execMailboxTimeout_keeps (s : State) (r : Ring) : Answers (execMailboxTimeout r s) (Keeps s) := by
  have h := Keeps.refl s
  unfold execMailboxTimeout
  dsimp only
  split
  · exact answers_next h
  · exact answers_guardC _ h ((h.upd ..).updAll ..)

theorem execPdTelegramDue_keeps (s : State) (p : Plane) (n : Nat) : Answers (execPdTelegramDue p n s) (Keeps s) := by
  have h := Keeps.refl s
  unfold execPdTelegramDue
  dsimp only
  repeat' split
  all_goals apply_rules [answers_guardC, Keeps.upd, Keeps.gated, answers_next]

theorem execPdTelegramReceive_keeps (s : State) (p : Plane) (t : Telegram) : Answers (execPdTelegramReceive p t s) (Keeps s) := by
  have h := Keeps.refl s
  unfold execPdTelegramReceive
  extract_lets -underBinder ch c s1 s2 old
  have h2 : Keeps s s2 := Keeps.ite ((h.upd ..).sendBoth ..) (h.upd ..)
  exact answers_guardC _ h (Keeps.ite ((h2.upd ..).bridgeItem ..) h2)

theorem execPdPullRequest_keeps (s : State) (p : Plane) (hd : PullHead) (replyComId replyIp : Word) :
    Answers (execPdPullRequest p hd replyComId replyIp s) (Keeps s) := by
  have h := Keeps.refl s
  unfold execPdPullRequest
  apply_rules [answers_guardC, Keeps.gated, Keeps.upd, answers_next, Answers.ite, Keeps.ite]
  all_goals split
  all_goals apply_rules [answers_guardC, Keeps.gated, Keeps.upd, answers_next, Answers.ite, Keeps.ite]

theorem execMdRequest_keeps (s : State) (p : NetPort) (hd : MdHead) (session : Word) (svc : Nat) (req : DReq) :
    Answers (execMdRequest p hd session svc req s) (Keeps s) :=
  answers_next ((Keeps.refl s).mdFrame _ _ fun _ ht => (ht.upd ..).dictCall ..)

theorem execMdNotify_keeps (s : State) (p : NetPort) (hd : MdHead) (session : Word) (svc : Nat) (req : DReq) :
    Answers (execMdNotify p hd session svc req s) (Keeps s) :=
  answers_next ((Keeps.refl s).mdFrame _ _ fun _ ht => ht.dictCall ..)

theorem execPtpSync_keeps (s : State) (p : Plane) (hd : PtpHead) (seq : Nat) (twoStep : Bool) (t1 corr : Int) (t2 : Nat) :
    Answers (execPtpSync p hd seq twoStep t1 corr t2 s) (Keeps s) := by
  have h := Keeps.refl s
  unfold execPtpSync
  apply_rules [answers_guardC, Keeps.upd, Keeps.ptpSample, answers_next, Answers.ite, Keeps.ite]

theorem execPtpFollowUp_keeps (s : State) (p : Plane) (hd : PtpHead) (seq : Nat) (t1 corr : Int) :
    Answers (execPtpFollowUp p hd seq t1 corr s) (Keeps s) := by
  have h := Keeps.refl s
  unfold execPtpFollowUp
  apply_rules [answers_guardC, Keeps.upd, Keeps.ptpSample, answers_next, Answers.ite, Keeps.ite]
  all_goals split
  all_goals apply_rules [answers_guardC, Keeps.upd, Keeps.ptpSample, answers_next, Answers.ite, Keeps.ite]

theorem execMvbSlaveFrame_keeps (s : State) (addr : Nat) (okA okB : Bool) (data : List Byte) (stamp : Nat) :
    Answers (execMvbSlaveFrame addr okA okB data stamp s) (Keeps s) := by
  have h := Keeps.refl s
  unfold execMvbSlaveFrame
  dsimp only
  repeat' split
  all_goals apply_rules [answers_guardC, Keeps.upd, Keeps.sendBoth, Keeps.bridgeItem, answers_next]

theorem execBridgeForwardReceive_keeps (s : State) (rx tx : Ch) (ok : Bool) : Answers (execBridgeForwardReceive rx tx ok s) (Keeps s) := by
  have h := Keeps.refl s
  unfold execBridgeForwardReceive
  refine answers_next (h.recv _ _ _ _ fun b t ht => ?_)
  split
  all_goals apply_rules [Keeps.upd, Answers.ite, Keeps.ite]

theorem execProxyReadRequest_keeps (s : State) (ch : Ch) (via : Transport) (tag : Byte) (index sub : Nat) :
    Answers (execProxyReadRequest ch via tag index sub s) (Keeps s) := by
  have h := Keeps.refl s
  unfold execProxyReadRequest
  exact answers_guardC _ h (by apply_rules [Keeps.proxyRead])

theorem execDownstreamAccessStart_keeps (s : State) (ch : Ch) (slot : Nat) : Answers (execDownstreamAccessStart ch slot s) (Keeps s) := by
  have h := Keeps.refl s
  unfold execDownstreamAccessStart
  dsimp only
  repeat' split
  all_goals apply_rules [answers_guardC, Keeps.upd, answers_next]

theorem execDownstreamReadComplete_keeps (s : State) (ch : Ch) (slot : Nat) (data : List Byte) (token : Nat) :
    Answers (execDownstreamReadComplete ch slot data token s) (Keeps s) := by
  have h := Keeps.refl s
  unfold execDownstreamReadComplete
  exact answers_guardC _ h (by apply_rules [Keeps.readDone])

theorem execDownstreamAccessFail_keeps (s : State) (ch : Ch) (slot : Nat) (abort : Word) : Answers (execDownstreamAccessFail ch slot abort s) (Keeps s) := by
  have h := Keeps.refl s
  unfold execDownstreamAccessFail
  exact answers_guardC _ h (by apply_rules [Keeps.workDone, Keeps.upd])

theorem execCollectTimerExpiry_keeps (s : State) (ch : Ch) (slot : Nat) : Answers (execCollectTimerExpiry ch slot s) (Keeps s) := by
  have h := Keeps.refl s
  unfold execCollectTimerExpiry
  apply_rules [answers_next, Keeps.workDone, Keeps.upd, Answers.ite, Keeps.ite]

theorem execCommitAcknowledge_keeps (s : State) (ch : Ch) (slot : Nat) : Answers (execCommitAcknowledge ch slot s) (Keeps s) := by
  have h := Keeps.refl s
  unfold execCommitAcknowledge
  exact answers_guardC _ h (by apply_rules [Keeps.committedAck])

theorem execCommitRefused_keeps (s : State) (ch : Ch) (slot : Nat) : Answers (execCommitRefused ch slot s) (Keeps s) := by
  have h := Keeps.refl s
  unfold execCommitRefused
  exact answers_guardC _ h (by apply_rules [Keeps.workDone, Keeps.upd])

theorem execCommitResend_keeps (s : State) (ch : Ch) (slot : Nat) : Answers (execCommitResend ch slot s) (Keeps s) := by
  have h := Keeps.refl s
  unfold execCommitResend
  exact answers_guardC _ h (by apply_rules [Keeps.sendCommit])

theorem execHostMessageAnswer_keeps (s : State) (ch : Ch) (m : HostMsg) : Answers (execHostMessageAnswer ch m s) (Keeps s) := by
  have h := Keeps.refl s
  unfold execHostMessageAnswer
  exact answers_guardC _ h (by apply_rules [Keeps.hostAnswer])

theorem execPairStatusReceive_keeps (s : State) (rx : Ch) (r : Ring) (wcyc : Word) (x : PairStatus) (ok : Bool) :
    Answers (execPairStatusReceive rx r wcyc x ok s) (Keeps s) := by
  have h := Keeps.refl s
  unfold execPairStatusReceive
  split
  · exact answers_guardC _ h ((h.upd ..).sendBoth ..)
  · refine answers_next (h.recv _ _ _ _ fun b t ht => ?_)
    split
    · exact ht.upd ..
    · exact ht

theorem execPairRecordReceive_keeps (s : State) (rx : Ch) (r : Ring) (wcyc : Word) (x : PairRecord) (ok : Bool) :
    Answers (execPairRecordReceive rx r wcyc x ok s) (Keeps s) := by
  have h := Keeps.refl s
  unfold execPairRecordReceive
  split
  · exact answers_guardC _ h ((h.upd ..).sendBoth ..)
  · refine answers_next (h.recv _ _ _ _ fun b t ht => ?_)
    split
    · exact ht.upd ..
    · exact ht

theorem execOutputFinding_keeps (s : State) (ch : Ch) (net : Nat) (f : Finding) : Answers (execOutputFinding ch net f s) (Keeps s) := by
  have h := Keeps.refl s
  unfold execOutputFinding
  exact answers_guardC _ h (by apply_rules [Keeps.upd, Keeps.shareWindow])

theorem execSdFrameBit_keeps (s : State) (ch : Ch) (k : Word) : Answers (execSdFrameBit ch k s) (Keeps s) := by
  have h := Keeps.refl s
  unfold execSdFrameBit
  dsimp only
  apply_rules [answers_guardC, Keeps.upd, Keeps.sendBoth, answers_next]

theorem execSdCheckReceive_keeps (s : State) (rx tx : Ch) (ok : Bool) : Answers (execSdCheckReceive rx tx ok s) (Keeps s) := by
  have h := Keeps.refl s
  unfold execSdCheckReceive
  refine answers_next (h.recv _ _ _ _ fun b t ht => ?_)
  split
  all_goals apply_rules [Keeps.upd, Answers.ite, Keeps.ite]

theorem execDictRead_keeps (s : State) (ch : Ch) (via : Transport) (req : DReq) : Answers (execDictRead ch via req s) (Keeps s) := by
  have h := Keeps.refl s
  unfold execDictRead
  apply_rules [answers_next, Keeps.dictCall]

theorem execDictWrite_keeps (s : State) (ch : Ch) (via : Transport) (req : DReq) : Answers (execDictWrite ch via req s) (Keeps s) := by
  have h := Keeps.refl s
  unfold execDictWrite
  apply_rules [answers_next, Keeps.dictCall]

theorem execDictInfo_keeps (s : State) (ch : Ch) (via : Transport) (req : DReq) : Answers (execDictInfo ch via req s) (Keeps s) := by
  have h := Keeps.refl s
  unfold execDictInfo
  apply_rules [answers_next, Keeps.dictCall]

theorem execDictNext_keeps (s : State) (ch : Ch) (via : Transport) (req : DReq) : Answers (execDictNext ch via req s) (Keeps s) := by
  have h := Keeps.refl s
  unfold execDictNext
  apply_rules [answers_next, Keeps.dictCall]

theorem execDictPeek_keeps (s : State) (ch : Ch) (via : Transport) (req : DReq) : Answers (execDictPeek ch via req s) (Keeps s) := by
  have h := Keeps.refl s
  unfold execDictPeek
  apply_rules [answers_next, Keeps.dictCall]

theorem execDictCommit_keeps (s : State) (ch : Ch) (via : Transport) (req : DReq) : Answers (execDictCommit ch via req s) (Keeps s) := by
  have h := Keeps.refl s
  unfold execDictCommit
  apply_rules [answers_next, Keeps.dictCall]

theorem execHallmarkConfirmation_keeps (s : State) (ch : Ch) (via : Transport) (tag : Byte) (value : Word) :
    Answers (execHallmarkConfirmation ch via tag value s) (Keeps s) := by
  have h := Keeps.refl s
  unfold execHallmarkConfirmation
  apply_rules [answers_next, Keeps.dictCall]

theorem execJournalTransactionDistribute_keeps (s : State) : Answers (execJournalTransactionDistribute s) (Keeps s) := by
  have h := Keeps.refl s
  unfold execJournalTransactionDistribute
  repeat' split
  all_goals apply_rules [answers_next, Keeps.distributeTxn]

theorem execJournalRecordDurable_keeps (s : State) (ch : Ch) (ok : Bool) : Answers (execJournalRecordDurable ch ok s) (Keeps s) := by
  have h := Keeps.refl s
  unfold execJournalRecordDurable
  dsimp only
  repeat' split
  all_goals apply_rules [answers_next, Keeps.recordDurable, Keeps.upd, Keeps.abortTxn]

theorem execPrepareReportReceive_keeps (s : State) (tx : Ch) : Answers (execPrepareReportReceive tx s) (Keeps s) := by
  have h := Keeps.refl s
  unfold execPrepareReportReceive
  dsimp only
  repeat' split
  all_goals apply_rules [answers_next, Keeps.upd, Keeps.commitReady, Keeps.abortTxn]

theorem execJournalCommitReceive_keeps (s : State) (ch : Ch) : Answers (execJournalCommitReceive ch s) (Keeps s) := by
  have h := Keeps.refl s
  unfold execJournalCommitReceive
  split
  all_goals apply_rules [answers_guardC, Keeps.upd, answers_next, Answers.ite, Keeps.ite]

theorem execParticipantTimeout_keeps (s : State) (ch : Ch) : Answers (execParticipantTimeout ch s) (Keeps s) := by
  have h := Keeps.refl s
  unfold execParticipantTimeout
  split
  all_goals apply_rules [answers_guardC, Keeps.upd, Keeps.abortTxn, Keeps.commitReady, answers_next, Answers.ite, Keeps.ite]

theorem execPartialAckTimeout_keeps (s : State) : Answers (execPartialAckTimeout s) (Keeps s) := by
  have h := Keeps.refl s
  unfold execPartialAckTimeout
  split
  all_goals apply_rules [answers_next, Keeps.upd, Keeps.ackTxn, Answers.ite, Keeps.ite]

theorem execSequencingReeveTakeover_keeps (s : State) (ch : Ch) : Answers (execSequencingReeveTakeover ch s) (Keeps s) := by
  have h := Keeps.refl s
  unfold execSequencingReeveTakeover
  apply_rules [answers_next, Keeps.upd, Keeps.updAll, Keeps.ackTxn, Keeps.abortTxn, Answers.ite, Keeps.ite]
  all_goals split
  all_goals apply_rules [answers_next, Keeps.upd, Keeps.updAll, Keeps.ackTxn, Keeps.abortTxn, Answers.ite, Keeps.ite]

theorem execSnapshotReceive_keeps (s : State) (rx tx : Ch) (ok : Bool) : Answers (execSnapshotReceive rx tx ok s) (Keeps s) := by
  have h := Keeps.refl s
  unfold execSnapshotReceive
  refine answers_next (h.recv _ _ _ _ fun b t ht => ?_)
  split
  all_goals apply_rules [Keeps.upd, Answers.ite, Keeps.ite]

theorem execSnapshotTimer_keeps (s : State) (ch : Ch) : Answers (execSnapshotTimer ch s) (Keeps s) := by
  have h := Keeps.refl s
  unfold execSnapshotTimer
  dsimp only
  apply_rules [answers_guardC, Keeps.sendSnapshot, answers_next]

theorem execReeveWatchdogTimeout_keeps (s : State) (ch : Ch) : Answers (execReeveWatchdogTimeout ch s) (Keeps s) := by
  have h := Keeps.refl s
  unfold execReeveWatchdogTimeout
  dsimp only
  apply_rules [answers_guardC, Keeps.awayRestart, Keeps.upd, Keeps.forget, Keeps.dropWaiting, answers_next]

theorem execReeveRestart_keeps (s : State) (ch : Ch) : Answers (execReeveRestart ch s) (Keeps s) := by
  have h := Keeps.refl s
  unfold execReeveRestart
  dsimp only
  split
  · refine answers_next (Keeps.takeIn (Keeps.foldl (h.upd ..) (fun t n ht => ?_) _) ..)
    exact Keeps.ite (ht.sendCommit ..) ht
  · exact answers_next h

theorem execBlockForwardReceive_keeps (s : State) (rx tx : Ch) (ok : Bool) : Answers (execBlockForwardReceive rx tx ok s) (Keeps s) := by
  have h := Keeps.refl s
  unfold execBlockForwardReceive
  refine answers_next (h.recv _ _ _ _ fun b t ht => ?_)
  split
  all_goals apply_rules [Keeps.upd, Answers.ite, Keeps.ite]

theorem execImageVerification_keeps (s : State) (ch : Ch) (slot : Nat) : Answers (execImageVerification ch slot s) (Keeps s) := by
  have h := Keeps.refl s
  unfold execImageVerification
  extract_lets -underBinder c x img has
  clear_value has
  split
  · exact answers_next h
  · split
    · refine answers_next (h.foldl (fun t n ht => ?_) _)
      split
      · exact ht.send ..
      · exact ht
    · exact answers_next (h.upd ..)

theorem execUpdActivate_keeps (s : State) (ch : Ch) : Answers (execUpdActivate ch s) (Keeps s) := by
  have h := Keeps.refl s
  unfold execUpdActivate
  apply_rules [answers_next, Keeps.updCommand]

theorem execUpdStore_keeps (s : State) (ch : Ch) : Answers (execUpdStore ch s) (Keeps s) := by
  have h := Keeps.refl s
  unfold execUpdStore
  apply_rules [answers_next, Keeps.updCommand]

theorem execUpdFallback_keeps (s : State) (ch : Ch) : Answers (execUpdFallback ch s) (Keeps s) := by
  have h := Keeps.refl s
  unfold execUpdFallback
  apply_rules [answers_next, Keeps.updCommand]

theorem execUpdErase_keeps (s : State) (ch : Ch) : Answers (execUpdErase ch s) (Keeps s) := by
  have h := Keeps.refl s
  unfold execUpdErase
  apply_rules [answers_next, Keeps.updCommand]

theorem execUpdAbort_keeps (s : State) (ch : Ch) : Answers (execUpdAbort ch s) (Keeps s) := by
  have h := Keeps.refl s
  unfold execUpdAbort
  apply_rules [answers_next, Keeps.updCommand]

theorem execUpdInstallKey_keeps (s : State) (ch : Ch) (fuseOk : Bool) : Answers (execUpdInstallKey ch fuseOk s) (Keeps s) := by
  have h := Keeps.refl s
  unfold execUpdInstallKey
  apply_rules [answers_next, Keeps.updCommand]

theorem execFirmwareConfirmation_keeps (s : State) (ch : Ch) (value : Word) : Answers (execFirmwareConfirmation ch value s) (Keeps s) := by
  have h := Keeps.refl s
  unfold execFirmwareConfirmation
  apply_rules [answers_next, Keeps.fwConfirm]

theorem execRecoveryComplete_keeps (s : State) : Answers (execRecoveryComplete s) (Keeps s) := by
  have h := Keeps.refl s
  unfold execRecoveryComplete
  dsimp only
  apply_rules [answers_guardC, Keeps.upd, Keeps.updAll, answers_next]

theorem execLcmdStop_keeps (s : State) (ch : Ch) : Answers (execLcmdStop ch s) (Keeps s) := by
  have h := Keeps.refl s
  unfold execLcmdStop
  apply_rules [answers_next, Keeps.lcmd]

theorem execLcmdRestart_keeps (s : State) (ch : Ch) : Answers (execLcmdRestart ch s) (Keeps s) := by
  have h := Keeps.refl s
  unfold execLcmdRestart
  apply_rules [answers_next, Keeps.lcmd]

theorem execLcmdClearHistory_keeps (s : State) (ch : Ch) : Answers (execLcmdClearHistory ch s) (Keeps s) := by
  have h := Keeps.refl s
  unfold execLcmdClearHistory
  apply_rules [answers_next, Keeps.lcmd]

theorem execLegacyMessage_keeps (s : State) (ch : Ch) (via : Nat) (msg : List Byte) : Answers (execLegacyMessage ch via msg s) (Keeps s) := by
  have h := Keeps.refl s
  unfold execLegacyMessage
  exact answers_guardC _ h (by apply_rules [Keeps.legacyCall])

theorem execLaneWrite_keeps (s : State) (ch : Ch) (p : LanePkt) : Answers (execLaneWrite ch p s) (Keeps s) := by
  have h := Keeps.refl s
  unfold execLaneWrite
  dsimp only
  repeat' split
  · exact answers_next h
  · exact answers_next (h.upd ..)
  · exact answers_next (h.upd ..)
  all_goals exact answers_next (((h.upd ..).foldl (fun _ _ hs => hs.windowAct ..) _).upd ..)

theorem execHMbxDoor_keeps (s : State) (ch : Ch) (len : Nat) : Answers (execHMbxDoor ch len s) (Keeps s) := by
  have h := Keeps.refl s
  unfold execHMbxDoor
  exact answers_guardC _ h (by apply_rules [Keeps.mbxDoor])

theorem execHMsgDoor_keeps (s : State) (ch : Ch) : Answers (execHMsgDoor ch s) (Keeps s) := by
  have h := Keeps.refl s
  unfold execHMsgDoor
  exact answers_guardC _ h (by apply_rules [Keeps.msgDoor])

theorem execHrstAssert_keeps (s : State) (ch : Ch) : Answers (execHrstAssert ch s) (Keeps s) := by
  have h := Keeps.refl s
  unfold execHrstAssert
  apply_rules [answers_next, Keeps.upd, Keeps.remode, Answers.ite, Keeps.ite]

theorem execHrstRelease_keeps (s : State) (ch : Ch) : Answers (execHrstRelease ch s) (Keeps s) := by
  have h := Keeps.refl s
  unfold execHrstRelease
  apply_rules [answers_next, Keeps.upd, Answers.ite, Keeps.ite]

theorem execAlignmentInstant_keeps (s : State) (ch : Ch) (raw : Word) (nets : List NetReading) : Answers (execAlignmentInstant ch raw nets s) (Keeps s) := by
  have h := Keeps.refl s
  unfold execAlignmentInstant
  apply_rules [answers_guardC, Keeps.upd, Keeps.dropFinds, Keeps.sendBoth, answers_next, Answers.ite, Keeps.ite]

theorem execSwitchDigestReceive_keeps (s : State) (rx tx : Ch) (ok : Bool) : Answers (execSwitchDigestReceive rx tx ok s) (Keeps s) := by
  have h := Keeps.refl s
  unfold execSwitchDigestReceive
  refine answers_next (h.recv _ _ _ _ fun b t ht => ?_)
  split
  all_goals apply_rules [Keeps.upd, Keeps.matched, Answers.ite, Keeps.ite]

/-- Every command answers a next state, with the queue it found and with messages as sound as they were. -/
theorem exec_keeps (i : Instr) (s : State) : Answers (exec i s) (Keeps s) := by
  cases hi : home i with
  | some ch => exact (exec_onlyChan s hi).imp fun _ h => keeps_of_onlyChan h
  | none =>
    cases i
    case feedStartThreshold => exact execFeedStartThreshold_keeps s ..
    case keepInRegulation => exact execKeepInRegulation_keeps s ..
    case flushComplete => exact execFlushComplete_keeps s ..
    case keepLeavesRegulation => exact execKeepLeavesRegulation_keeps s ..
    case domainShutdownDone => exact execDomainShutdownDone_keeps s ..
    case laneLoss => exact execLaneLoss_keeps s ..
    case holdoverExpiry => exact execHoldoverExpiry_keeps s ..
    case rootPllLossOfLock => exact execRootPllLossOfLock_keeps s ..
    case monitorWindow => exact execMonitorWindow_keeps s ..
    case fallbackShutdownDone => exact execFallbackShutdownDone_keeps s ..
    case reeveRelease => exact execReeveRelease_keeps s ..
    case assayStepComplete => exact execAssayStepComplete_keeps s ..
    case s7WaitLimit => exact execS7WaitLimit_keeps s ..
    case startImageVerification => exact execStartImageVerification_keeps s ..
    case journalScan => exact execJournalScan_keeps s ..
    case startDecision => exact execStartDecision_keeps s ..
    case tickBoundary => exact execTickBoundary_keeps s ..
    case judgementInstant => exact execJudgementInstant_keeps s ..
    case boundaryMessageReceive => exact execBoundaryMessageReceive_keeps s ..
    case completionNoticeReceive => exact execCompletionNoticeReceive_keeps s ..
    case resyncPageSumList => exact execResyncPageSumList_keeps s ..
    case resyncPageRequest => exact execResyncPageRequest_keeps s ..
    case resyncPageData => exact execResyncPageData_keeps s ..
    case resyncTimerSnapshot => exact execResyncTimerSnapshot_keeps s ..
    case resyncTimerOperations => exact execResyncTimerOperations_keeps s ..
    case forwardedInputReceive => exact execForwardedInputReceive_keeps s ..
    case xlinkSegmentRelay => exact execXlinkSegmentRelay_keeps s ..
    case sliceCompleteReport => exact execSliceCompleteReport_keeps s ..
    case resetWindowExpiry => exact execResetWindowExpiry_keeps s ..
    case changeVerification => exact execChangeVerification_keeps s ..
    case loadDigestReceive => exact execLoadDigestReceive_keeps s ..
    case changeConfirmation => exact execChangeConfirmation_keeps s ..
    case portDown => exact execPortDown_keeps s ..
    case framePassage => exact execFramePassage_keeps s ..
    case windowFetch => exact execWindowFetch_keeps s ..
    case mailboxTimeout => exact execMailboxTimeout_keeps s ..
    case pdTelegramDue => exact execPdTelegramDue_keeps s ..
    case pdTelegramReceive => exact execPdTelegramReceive_keeps s ..
    case pdPullRequest => exact execPdPullRequest_keeps s ..
    case mdRequest => exact execMdRequest_keeps s ..
    case mdNotify p hd session svc req => exact execMdNotify_keeps s p hd session svc req
    case ptpSync => exact execPtpSync_keeps s ..
    case ptpFollowUp => exact execPtpFollowUp_keeps s ..
    case mvbSlaveFrame => exact execMvbSlaveFrame_keeps s ..
    case bridgeForwardReceive => exact execBridgeForwardReceive_keeps s ..
    case proxyReadRequest => exact execProxyReadRequest_keeps s ..
    case downstreamAccessStart => exact execDownstreamAccessStart_keeps s ..
    case downstreamReadComplete => exact execDownstreamReadComplete_keeps s ..
    case downstreamAccessFail => exact execDownstreamAccessFail_keeps s ..
    case collectTimerExpiry => exact execCollectTimerExpiry_keeps s ..
    case commitAcknowledge => exact execCommitAcknowledge_keeps s ..
    case commitRefused => exact execCommitRefused_keeps s ..
    case commitResend => exact execCommitResend_keeps s ..
    case hostMessageAnswer => exact execHostMessageAnswer_keeps s ..
    case pairStatusReceive => exact execPairStatusReceive_keeps s ..
    case pairRecordReceive => exact execPairRecordReceive_keeps s ..
    case outputFinding => exact execOutputFinding_keeps s ..
    case sdFrameBit => exact execSdFrameBit_keeps s ..
    case sdCheckReceive => exact execSdCheckReceive_keeps s ..
    case dictRead => exact execDictRead_keeps s ..
    case dictWrite => exact execDictWrite_keeps s ..
    case dictInfo => exact execDictInfo_keeps s ..
    case dictNext => exact execDictNext_keeps s ..
    case dictPeek => exact execDictPeek_keeps s ..
    case dictCommit => exact execDictCommit_keeps s ..
    case hallmarkConfirmation => exact execHallmarkConfirmation_keeps s ..
    case journalTransactionDistribute => exact execJournalTransactionDistribute_keeps s ..
    case journalRecordDurable => exact execJournalRecordDurable_keeps s ..
    case prepareReportReceive => exact execPrepareReportReceive_keeps s ..
    case journalCommitReceive => exact execJournalCommitReceive_keeps s ..
    case participantTimeout => exact execParticipantTimeout_keeps s ..
    case partialAckTimeout => exact execPartialAckTimeout_keeps s ..
    case sequencingReeveTakeover => exact execSequencingReeveTakeover_keeps s ..
    case snapshotReceive => exact execSnapshotReceive_keeps s ..
    case snapshotTimer => exact execSnapshotTimer_keeps s ..
    case reeveWatchdogTimeout => exact execReeveWatchdogTimeout_keeps s ..
    case reeveRestart => exact execReeveRestart_keeps s ..
    case brigadeOffer => exact execBrigadeOffer_keeps s ..
    case brigadePiece => exact execBrigadePiece_keeps s ..
    case brigadeEnd => exact execBrigadeEnd_keeps s ..
    case blockForwardReceive => exact execBlockForwardReceive_keeps s ..
    case imageVerification => exact execImageVerification_keeps s ..
    case updActivate => exact execUpdActivate_keeps s ..
    case updStore => exact execUpdStore_keeps s ..
    case updFallback => exact execUpdFallback_keeps s ..
    case updErase => exact execUpdErase_keeps s ..
    case updAbort => exact execUpdAbort_keeps s ..
    case updInstallKey => exact execUpdInstallKey_keeps s ..
    case firmwareConfirmation => exact execFirmwareConfirmation_keeps s ..
    case recoveryComplete => exact execRecoveryComplete_keeps s ..
    case lcmdStop => exact execLcmdStop_keeps s ..
    case lcmdRestart => exact execLcmdRestart_keeps s ..
    case lcmdClearHistory => exact execLcmdClearHistory_keeps s ..
    case legacyMessage => exact execLegacyMessage_keeps s ..
    case laneWrite => exact execLaneWrite_keeps s ..
    case hMbxDoor => exact execHMbxDoor_keeps s ..
    case hMsgDoor => exact execHMsgDoor_keeps s ..
    case hrstAssert => exact execHrstAssert_keeps s ..
    case hrstRelease => exact execHrstRelease_keeps s ..
    case alignmentInstant => exact execAlignmentInstant_keeps s ..
    case switchDigestReceive => exact execSwitchDigestReceive_keeps s ..
    all_goals cases hi

/-- A step answers a next state with the queue's rest, and with messages as sound as they were. -/
theorem step_keeps (s : State) : Answers (step s) (fun t => t.pending = s.pending.tail ∧ (WireSound s → WireSound t)) := by
  unfold step
  split
  next e => exact answers_next ⟨by rw [(Keeps.refl s).idle.pending, e]; rfl, (Keeps.refl s).idle.sound⟩
  next i r e => exact (exec_keeps i _).imp fun t h => ⟨by rw [h.pending, e]; rfl, h.sound⟩

theorem Answers.of_eq {o : Out} {P : State → Prop} {t : State} (h : Answers o P) (e : o = .next t) : P t := by
  obtain ⟨u, hu, hp⟩ := h
  cases e.symm.trans hu
  exact hp

/-- Settles O4: `exec_keeps` for the commands, `step_keeps` for the step. -/
theorem everyCommandKeepsTheQueue : Obligations.EveryCommandKeepsTheQueue :=
  ⟨fun i s _ e => ((exec_keeps i s).of_eq e).pending, fun s _ e => ((step_keeps s).of_eq e).1⟩

/-- Settles O5: no arm of `exec` answers anything but a next state. -/
theorem noCommandStopsTheModule : Obligations.NoCommandStopsTheModule := fun s =>
  have ⟨t, ht, _⟩ := step_keeps s
  ⟨t, ht⟩

/-- Settles O6: `step_keeps` on the messages in flight. -/
theorem everyStepKeepsMessagesSound : Obligations.EveryStepKeepsMessagesSound := fun s _ g e => ((step_keeps s).of_eq e).2 g

end Sys2Proof.Machine
end

/-! PROOFS. The step, the clock of an empty queue and the reset state (R18; log entry 3). -/

section
namespace Sys2Proof.Machine
open Sys2Proof Sys2Proof.Safety

/-- Settles O1: the definition of a step on a queue with a front. -/
theorem stepRunsFrontCommand : Obligations.StepRunsFrontCommand := fun _ _ _ => rfl

/-! One clock of a channel in which no core is live -/

@[simp] theorem CellSt.count_mode (x : CellSt) : x.count.mode = x.mode := by
  unfold CellSt.count
  split <;> rfl

@[simp] theorem CellSt.count_core0_halted (x : CellSt) : x.count.core0.halted = x.core0.halted := by
  unfold CellSt.count
  split <;> rfl

@[simp] theorem CellSt.count_core1_halted (x : CellSt) : x.count.core1.halted = x.core1.halted := by
  unfold CellSt.count
  split <;> rfl

@[simp] theorem CellSt.count_core0_freed (x : CellSt) : x.count.core0.freed = x.core0.freed := by
  unfold CellSt.count
  split <;> rfl

@[simp] theorem CellSt.count_core1_freed (x : CellSt) : x.count.core1.freed = x.core1.freed := by
  unfold CellSt.count
  split <;> rfl

/-- The cycle counters of a channel's clocked cells advance; a channel without its clock stays as it is. -/
def Chan.countCells (c : Chan) : Chan := if c.up && c.clk.divRun then { c with cells := c.cells.map CellSt.count } else c

theorem Chan.cell_map_count (c : Chan) (n : Nat) : ({ c with cells := c.cells.map CellSt.count } : Chan).cell n = (c.cell n).count := by
  simp only [Chan.cell, List.getElem?_map]
  cases c.cells[n]? <;> rfl

theorem Chan.coreLive_map_count (c : Chan) (n : Nat) : ({ c with cells := c.cells.map CellSt.count } : Chan).coreLive n = c.coreLive n := by
  simp only [Chan.coreLive, Chan.core, Chan.cell_map_count]
  split <;> simp

theorem State.runHart_dead {s : State} {ch : Ch} {n : Nat} (h : (s.chan ch).coreLive n = false) : s.runHart ch n = s := by
  unfold State.runHart
  simp [h]

theorem Chan.asksToGlean_dead {c : Chan} {n : Nat} (h : c.coreLive n = false) : c.asksToGlean n = false := by
  simp [Chan.asksToGlean, Chan.coreRuns, h]

theorem State.runCells_dead {s : State} {ch : Ch} (h : ∀ n, (s.chan ch).coreLive n = false) : (s.runCells ch).chan ch = (s.chan ch).countCells := by
  unfold State.runCells Chan.countCells
  cases hu : (s.chan ch).up && (s.chan ch).clk.divRun with
  | false => simp
  | true =>
    have dead (n : Nat) : ((s.upd ch fun c => { c with cells := c.cells.map CellSt.count }).chan ch).coreLive n = false := by
      rw [State.upd_chan_self, Chan.coreLive_map_count]
      exact h n
    simp only [Bool.not_true, Bool.false_eq_true, if_false, if_true]
    rw [List.foldl_fixed' (a := (_, [])) fun n => by rw [Chan.asksToGlean_dead (dead n), State.runHart_dead (dead n)]; rfl]
    simp

/-- The clock of a channel whose cores are not live: no other channel's execution reaches it. -/
theorem State.idle_dead {s : State} {ch : Ch} (h : ∀ n, (s.chan ch).clockTick.coreLive n = false) : s.idle.chan ch = (s.chan ch).clockTick.countCells := by
  have other (t : State) {x : Ch} (hx : ch ≠ x) : (t.runCells x).chan ch = t.chan ch := (onlyChan_runCells (onlyChan_refl x t)).1 ch hx
  have self {t : State} (ht : t.chan ch = (s.chan ch).clockTick) : (t.runCells ch).chan ch = (s.chan ch).clockTick.countCells := by
    rw [State.runCells_dead (by rwa [ht]), ht]
  have start : (s.updAll fun _ c => c.clockTick).chan ch = (s.chan ch).clockTick := State.updAll_chan ..
  simp only [State.idle, allCh, List.foldl_cons, List.foldl_nil]
  cases ch
  · rw [other _ (by decide), other _ (by decide), self start]
  · rw [other _ (by decide), self ((other _ (by decide)).trans start)]
  · exact self ((other _ (by decide)).trans ((other _ (by decide)).trans start))

theorem Chan.sendNext_shape (c : Chan) (g : Nat) : ∃ e o, c.sendNext g = { c with ecn := e, sent := o } := by
  unfold Chan.sendNext
  split
  · exact ⟨_, _, rfl⟩
  · split <;> exact ⟨_, _, rfl⟩

theorem Chan.drain_shape (c : Chan) : ∃ e o, c.drain = { c with ecn := e, sent := o } := by
  obtain ⟨e, o, h⟩ := c.sendNext_shape 0
  obtain ⟨e', o', h'⟩ := (c.sendNext 0).sendNext_shape 1
  unfold Chan.drain
  split
  · exact ⟨e', o', by rw [h', h]⟩
  · exact ⟨_, _, rfl⟩

theorem Chan.clockTick_shape (c : Chan) : ∃ t e o, c.clockTick = { c with tb := t, ecn := e, sent := o } := by
  unfold Chan.clockTick
  repeat' split
  · exact ⟨_, _, _, rfl⟩
  · obtain ⟨e, o, h⟩ := ({ c with tb := c.tb.clocks 1 } : Chan).drain_shape
    exact ⟨_, e, o, h⟩
  · exact ⟨_, _, _, rfl⟩

@[simp] theorem Chan.clockTick_coreLive (c : Chan) (n : Nat) : c.clockTick.coreLive n = c.coreLive n := by
  obtain ⟨t, e, o, h⟩ := c.clockTick_shape
  rw [h]
  rfl

theorem Chan.coreLive_of_small {c : Chan} (h : ∀ n, n < 16 → c.coreLive n = false) (n : Nat) : c.coreLive n = false := by
  by_cases hn : n < 16
  · exact h n hn
  · simp [Chan.coreLive, hn]

theorem CellSt.count_eq (x : CellSt) : x.count = if x.mode = .bonded ∨ x.mode = .split then
    { x with core0 := { x.core0 with cycle := x.core0.cycle + 4#64 }, core1 := { x.core1 with cycle := x.core1.cycle + 4#64 } } else x := by
  unfold CellSt.count CoreSt.count
  simp only [Bool.or_eq_true, decide_eq_true_eq]

@[simp] theorem Chan.drain_up (c : Chan) : c.drain.up = c.up := by
  obtain ⟨e, o, h⟩ := c.drain_shape
  rw [h]
  rfl

@[simp] theorem Chan.drain_clk (c : Chan) : c.drain.clk = c.clk := by
  obtain ⟨e, o, h⟩ := c.drain_shape
  rw [h]

@[simp] theorem Chan.drain_cells (c : Chan) : c.drain.cells = c.cells := by
  obtain ⟨e, o, h⟩ := c.drain_shape
  rw [h]

theorem Chan.clock_stopped {c : Chan} (h : c.clk.divRun = false) : c.clockTick.countCells = c := by
  simp [Chan.clockTick, Chan.countCells, h]

theorem Chan.clock_down {c : Chan} (h : c.clk.divRun = true) (hu : c.up = false) :
    c.clockTick.countCells = { c with tb := { c.tb with align := c.tb.align + 1 } } := by
  unfold Chan.clockTick Chan.countCells
  simp only [h, hu, Bool.not_true, Bool.false_eq_true, if_false]
  exact if_neg (by rw [show ({ c with tb := { c.tb with align := c.tb.align + 1 } } : Chan).up = c.up from rfl, hu]; simp)

theorem Chan.clock_up {c : Chan} (h : c.clk.divRun = true) (hu : c.up = true) :
    c.clockTick.countCells = { ({ c with tb := c.tb.clocks 1 } : Chan).drain with cells := c.cells.map CellSt.count } := by
  unfold Chan.clockTick Chan.countCells
  simp only [h, hu, Bool.not_true, Bool.false_eq_true, if_false, if_true]
  rw [if_pos]
  · simp
  · rw [Chan.drain_up, Chan.drain_clk]
    exact Bool.and_eq_true_iff.mpr ⟨hu, h⟩

/-- Settles O2: no core runs in such a channel, and the execution of another channel's cells does not reach it. -/
theorem emptyQueuePassesOneClock : Obligations.EmptyQueuePassesOneClock := by
  unfold Obligations.EmptyQueuePassesOneClock
  intro s hq
  refine ⟨s.idle, by simp [step, hq], ?_, (Keeps.refl s).idle.pending.trans hq, fun ch hc => ?_⟩
  · have wire (t : State) (x : Ch) : (t.runCells x).wire = t.wire := (onlyChan_runCells (onlyChan_refl x t)).2.1
    simp [State.idle, allCh, wire]
  · rw [State.idle_dead (fun n => by simpa using Chan.coreLive_of_small hc n)]
    split
    next hd => exact Chan.clock_stopped hd
    next hd =>
      replace hd : (s.chan ch).clk.divRun = true := by simpa using hd
      split
      next hu => exact Chan.clock_down hd hu
      next hu =>
        rw [Chan.clock_up hd (by simpa using hu), funext CellSt.count_eq]
        simp only [TimeBlk.clocks, Nat.one_mul]

/-- Settles O3: the reset state, evaluated. -/
theorem resetLeaves : Obligations.ResetLeaves := by
  unfold Obligations.ResetLeaves
  refine ⟨rfl, rfl, rfl, fun ch => ?_⟩
  have hc : State.reset.chan ch = Chan.init := by cases ch <;> rfl
  have cell (n : Nat) : Chan.init.cell n = CellSt.init := by
    simp only [Chan.cell, Chan.init, List.getElem?_replicate]
    split <;> rfl
  have core (n : Nat) : Chan.init.core n = CoreSt.init := by
    simp only [Chan.core, cell]
    split <;> rfl
  rw [hc]
  refine ⟨rfl, rfl, rfl, rfl, rfl, rfl, rfl, rfl, rfl, rfl, fun n => ?_⟩
  rw [cell, core]
  exact ⟨rfl, rfl, rfl, rfl, rfl⟩

end Sys2Proof.Machine
end

/-! PROOFS. Feeds, power, clocks and their faults (R57, R80 to R86, R475 to R481): O8 to O12. -/

section
namespace Sys2Proof.Machine
open Sys2Proof Sys2Proof.Safety

/-! A command on one channel, by what it makes of that channel -/

theorem onChan_next {s : State} {ch : Ch} {f g : Chan → Chan} (h : f (s.chan ch) = g (s.chan ch)) : onChan s ch f = .next (s.upd ch g) :=
  congrArg Host.Outcome.next (State.upd_congr h)

/-- The next state of a command on one channel: what it makes of the channel, and nothing else changed. -/
theorem onChan_goes {s : State} {ch : Ch} {f : Chan → Chan} {P : State → Prop} (h : ∀ t : State, t.chan ch = f (s.chan ch) → OnlyChan ch s t → P t) :
    ∃ t, onChan s ch f = .next t ∧ P t := ⟨_, rfl, h _ (State.upd_chan_self ..) (onlyChan_of_upd ..)⟩

/-- The next state of a command on one channel whose guard holds. -/
theorem guardC_upd_goes {s : State} {ch : Ch} {b : Bool} {f : Chan → Chan} {P : State → Prop} (hb : b = true)
    (h : ∀ t : State, t.chan ch = f (s.chan ch) → OnlyChan ch s t → P t) : ∃ t, guardC b s (s.upd ch f) = .next t ∧ P t :=
  ⟨_, guardC_true hb, h _ (State.upd_chan_self ..) (onlyChan_of_upd ..)⟩

/-- Settles O8. -/
theorem feedAndHeatWarnings : Obligations.FeedAndHeatWarnings := by
  unfold Obligations.FeedAndHeatWarnings
  intro s ch f mv x hk
  refine ⟨fun h => onChan_next ?_, fun h => onChan_next ?_, onChan_next ?_, fun h => onChan_next ?_⟩
  · cases f <;> simp [hk, h]
  · simp [hk, h]
  · cases f <;> simp [hk]
  · simp [hk, h]

/-! Power (R475 to R481) -/

theorem Chan.startClocks_held {c : Chan} (h : c.sys.cstate = .held) (hd : c.pwr.dom = 0x1F#5) (hr : c.sys.hrst = false) :
    c.startClocks = { c with clk := { c.clk with cdrEn := true, retryDue := false } } := by
  unfold Chan.startClocks
  simp [h, hd, hr]

@[simp] theorem Chan.cutWrite_mem (c : Chan) (n : Nat) : (c.cutWrite n).mem = c.mem := by
  unfold Chan.cutWrite
  dsimp only
  repeat' split
  all_goals rfl

/-- Settles O9. -/
theorem powerUpAndDown : Obligations.PowerUpAndDown := by
  unfold Obligations.PowerUpAndDown
  intro s ch
  refine ⟨fun mv1 mv2 hm hc => ⟨_, guardC_true (by simpa using hm), State.flushStart_held _ _ ?_⟩, fun hd => ⟨_, guardC_true (by rw [hd]; rfl), ?_⟩,
    fun hd hc hr => onChan_next ?_, fun hd => ⟨_, guardC_true hd, ?_⟩⟩
  · simp [hc]
  · simp only [State.remode_cstate, State.remode_pwr, State.remode_clk, State.remode_mram, State.upd_chan_self]
    exact ⟨rfl, rfl, rfl, rfl⟩
  · simp only [hd, hc]
    exact Chan.startClocks_held hc rfl hr
  · simp only [State.remode_cstate, State.remode_pwr, State.remode_mem, State.upd_chan_self]
    refine ⟨rfl, rfl, ?_⟩
    show ((s.tick.chan ch).cutWrite _).mem.filter _ = _
    rw [Chan.cutWrite_mem, State.tick_chan]
theorem Chan.leaveShut_shape (c : Chan) : ∃ cs sl v m d u b j f, c.leaveVoting.safeShutdown = { c with
    sys := { c.sys with cstate := if c.sys.cstate = .voting then .out else c.sys.cstate }
    cells := cs, sl := sl, vote := v, mill := m, sd := d, upd := u, bridge := b, dict := j, field := f } := by
  obtain ⟨cs, sl, v, m, d, u, b, j, h⟩ := c.leaveVoting_shape
  obtain ⟨f, hf⟩ := c.leaveVoting.safeShutdown_shape
  exact ⟨cs, sl, v, m, d, u, b, j, f, by rw [hf, h]⟩

theorem Chan.enterFlush_shape (c : Chan) (mv1 mv2 : Nat) : ∃ cs sl v m d u b j f r, c.enterFlush mv1 mv2 = { c with
    pwr := { c.pwr.feeds mv1 mv2 with flag := c.pwr.flag.raise 3 }
    sys := { c.sys with flushing := true, leaving := true, cstate := if c.sys.cstate = .voting then .out else c.sys.cstate }
    cells := cs, sl := sl, vote := v, mill := m, sd := d, upd := u, bridge := b, dict := j, field := f, chron := r } := by
  have shut (x : Chan) : ∃ cs sl v m d u b j f r,
      x.leaveVoting.safeShutdown.flushRecord x.leaveVoting.safeShutdown.sys.mode.num x.leaveVoting.safeShutdown.sys.cause
        x.leaveVoting.safeShutdown.sys.cstate.code mv1 mv2 = { x with
      sys := { x.sys with cstate := if x.sys.cstate = .voting then .out else x.sys.cstate }
      cells := cs, sl := sl, vote := v, mill := m, sd := d, upd := u, bridge := b, dict := j, field := f, chron := r } := by
    obtain ⟨cs, sl, v, m, d, u, b, j, f, h⟩ := x.leaveShut_shape
    rw [h]
    exact ⟨cs, sl, v, m, d, u, b, j, f, _, rfl⟩
  exact shut _

theorem Chan.domainFault_shape (c : Chan) : ∃ cs sl v m d u b j f, c.domainFault = { c with
    sys := { c.sys with shutting := true, leaving := true, flushing := false, cstate := if c.sys.cstate = .voting then .out else c.sys.cstate }
    cells := cs, sl := sl, vote := v, mill := m, sd := d, upd := u, bridge := b, dict := j, field := f } := by
  have shut (x : Chan) : ∃ f, x.safeShutdown = { x with field := f } := x.safeShutdown_shape
  obtain ⟨cs, sl, v, m, d, u, b, j, h⟩ := c.leaveVoting_shape
  unfold Chan.domainFault
  rw [h]
  obtain ⟨f, hf⟩ := shut _
  exact ⟨cs, sl, v, m, d, u, b, j, f, hf⟩

/-- Settles O10. -/
theorem flushAndDomainLoss : Obligations.FlushAndDomainLoss := by
  unfold Obligations.FlushAndDomainLoss
  intro s ch mv1 mv2 d x
  refine ⟨fun hu hf => onChan_goes fun t e o => ?_, fun hf => ⟨_, guardC_true hf, ?_⟩, fun hu hd hb => onChan_goes fun t e o => ?_,
    fun hs => ⟨_, guardC_true hs, ?_⟩, fun hx hu => onChan_goes fun t e o => ?_⟩
  · obtain ⟨_, _, _, _, _, _, _, _, _, _, h⟩ := (s.chan ch).enterFlush_shape mv1 mv2
    rw [if_pos (by simp [hu, hf]), h] at e
    rw [e]
    exact ⟨rfl, rfl, rfl, rfl, o⟩
  · have hh : (((s.upd ch fun c => c.endFlush mv1 mv2).remode).chan ch).sys.cstate = .held := by
      rw [State.remode_cstate, State.upd_chan_self]
      rfl
    refine ⟨State.flushStart_held _ _ hh, State.flushStart_flushing _ _ hh ?_⟩
    rw [State.remode_flushing, State.upd_chan_self]
    rfl
  · have hn : domBit d ≠ 0 := by cases d <;> simp_all [domBit]
    obtain ⟨_, _, _, _, _, _, _, _, _, h⟩ := ({ s.chan ch with pwr := { (s.chan ch).pwr with
      dom := (s.chan ch).pwr.dom &&& ~~~ (1#5 <<< domBit d), flag := (s.chan ch).pwr.flag.raise 4 } } : Chan).domainFault_shape
    rw [if_pos (by simp only [hu, hn, hb, ne_eq, not_false_eq_true, decide_true, Bool.and_self])] at e
    dsimp only at e
    rw [h] at e
    split at e <;> rw [e] <;> exact ⟨rfl, rfl, rfl, rfl, o⟩
  · rw [State.remode_cstate, State.upd_chan_self]
    rfl
  · obtain ⟨_, _, _, _, _, _, _, _, _, h⟩ := ({ s.chan ch with pwr := { (s.chan ch).pwr.temp x with flag := (s.chan ch).pwr.flag.raise 6 } } : Chan).domainFault_shape
    rw [if_pos (by simp [hu, hx]), h] at e
    rw [e]
    exact ⟨rfl, rfl, rfl, rfl, o⟩

/-! Clocks (R80 to R86) -/

/-- Settles O11. -/
theorem clockStartSequence : Obligations.ClockStartSequence := by
  unfold Obligations.ClockStartSequence
  intro s ch
  refine ⟨fun h1 h2 => onChan_next ?_, fun h1 h2 => onChan_next ?_, fun h1 h2 => onChan_next ?_,
    fun g h1 h2 h3 h4 => ⟨fun h => onChan_next ?_, fun h => onChan_next ?_⟩, fun n h1 h2 h3 h4 h5 h6 => onChan_next ?_,
    fun h1 h2 h3 h4 => onChan_next ?_⟩
  · simp [h1, h2]
  · simp [h1, h2]
  · simp [h1, h2, ClockBlk.newAttempt]
  · simp [h1, h2, h3, h4, h, watchHz, watchNum]
  · simp [h1, h2, h3, h4, h, ClockBlk.newAttempt]
  · simp [h1, h2, h3, h4, h5, h6]
  · simp only [h1, if_true]
    exact Chan.startClocks_held h2 h3 h4

/-- What a trip leaves of the clock system and the channel's state, qualified or not (R84, R85). -/
theorem Chan.trip_cases (c : Chan) (src : Nat) : (c.trip src).clk.tripSrc = src ∧ (c.trip src).clk.tripCount = min (c.clk.tripCount + 1) 255 ∧
    (c.clk.qual = true → (c.trip src).clk.falling = true ∧ (c.trip src).sys.cstate ≠ .voting ∧ (c.trip src).clk.pllLock = c.clk.pllLock) ∧
    (c.clk.qual = false → (c.trip src).sys.cstate = .held ∧ (c.trip src).clk.pllLock = false) := by
  cases hq : c.clk.qual with
  | true =>
    obtain ⟨_, _, _, _, _, _, _, _, h⟩ := c.trip_qual src hq
    rw [h]
    refine ⟨rfl, rfl, fun _ => ⟨rfl, ?_, rfl⟩, fun e => nomatch e⟩
    by_cases hv : c.sys.cstate = .voting <;> simp [hv]
  | false =>
    obtain ⟨h1, h2, h3⟩ := c.trip_unqual src hq
    refine ⟨h2, h3, (fun e => nomatch e), fun _ => ⟨h1, ?_⟩⟩
    unfold Chan.trip
    simp only [hq, Bool.false_eq_true, if_false]
    rfl

/-- A window whose counts all lie within tolerance, none of them zero, trips nothing (R83). -/
theorem Chan.monitorWindow_quiet {c : Chan} {g : List Nat} (hq : c.clk.qual = true)
    (h : ∀ x ∈ g.zip monitors, monWithin x.1 x.2.2.1 c.clk.cal x.2.2.2 = true ∧ x.1 ≠ 0) :
    c.monitorWindow g = { c with clk := { c.clk with prevOut := [] } } := by
  have dev : commonDeviation c.clk.cal g = false := by
    unfold commonDeviation
    simp only [Bool.and_eq_false_iff]
    refine .inr (List.any_eq_false.mpr fun x hx => ?_)
    simp [(h x hx).1]
  have out : (g.zip monitors).filter (fun x => !monWithin x.1 x.2.2.1 c.clk.cal x.2.2.2) = [] :=
    List.filter_eq_nil_iff.mpr fun x hx => by simp [(h x hx).1]
  have zero : (g.zip monitors).filter (fun x => decide (x.1 = 0)) = [] :=
    List.filter_eq_nil_iff.mpr fun x hx => by simp [(h x hx).2]
  unfold Chan.monitorWindow
  simp [hq, dev, out, zero]

theorem Chan.forceMux_six (c : Chan) : ∃ f, c.forceMux 6 = { c with
    clk := { c.clk with muxReq := c.clk.muxReq &&& ~~~(1#8 <<< 6), forced := c.clk.forced.raise 6, muxSel := c.clk.muxSel ||| (1#8 <<< 6), keepSrc := true }
    field := f } := by
  have shut (x : Chan) (g : Nat → NetRt → NetRt) : ∃ f, (x.mapNets g).safeShutdown = { x with field := f } := by
    obtain ⟨f, h⟩ := (x.mapNets g).safeShutdown_shape
    exact ⟨f, h⟩
  exact shut _ _

theorem Chan.loseDomain_clk (c : Chan) (n : Nat) : (c.loseDomain n).clk = c.clk := by
  unfold Chan.loseDomain
  dsimp only
  split <;> rfl

theorem Chan.loseDomain_assay (c : Chan) (n : Nat) : (c.loseDomain n).assay = c.assay := by
  unfold Chan.loseDomain
  dsimp only
  split <;> rfl

/-- Abandoning a step leaves the forced multiplexers and the lost domains as they are, and without a step that runs the requests as well. -/
theorem Chan.abandonStep_clk (c : Chan) : c.abandonStep.clk.forced = c.clk.forced ∧ c.abandonStep.clk.lostDom = c.clk.lostDom ∧
    (c.assay.result ≠ 3 → c.abandonStep.clk.muxReq = c.clk.muxReq) := by
  unfold Chan.abandonStep
  split
  · exact ⟨rfl, rfl, fun _ => rfl⟩
  next h =>
    have hr : c.assay.result = 3 := by
      by_contra hr
      simp [hr] at h
    refine ⟨?_, ?_, fun g => absurd hr g⟩
    all_goals
      dsimp only
      split <;> rfl

/-- A multiplexer other than the keep clock's that hangs (R86). -/
theorem Chan.forceMux_other (c : Chan) {n : Nat} (hn : n ≠ 6) : (c.forceMux n).clk.forced = c.clk.forced.raise n ∧
    (c.forceMux n).clk.lostDom = c.clk.lostDom ||| (1#8 <<< n) ∧
    (6 ≤ n ∨ c.assay.result ≠ 3 → (c.forceMux n).clk.muxReq = c.clk.muxReq &&& ~~~ (1#8 <<< n)) := by
  unfold Chan.forceMux
  rw [if_neg hn]
  dsimp only
  split
  next hl =>
    obtain ⟨h1, h2, h3⟩ := Chan.abandonStep_clk (Chan.loseDomain _ n)
    rw [h1, h2, Chan.loseDomain_clk]
    refine ⟨rfl, rfl, fun h => ?_⟩
    rw [h3 (by rw [Chan.loseDomain_assay]; exact h.resolve_left (by omega)), Chan.loseDomain_clk]
  next => simp [Chan.loseDomain_clk]

/-- Settles O12. -/
theorem clockLossAndFallback : Obligations.ClockLossAndFallback := by
  unfold Obligations.ClockLossAndFallback
  intro s ch
  refine ⟨fun h1 h2 => ⟨_, guardC_true h1, ?_⟩, fun h1 h2 => ⟨_, guardC_true h1, ?_⟩, fun h1 h2 h3 => ⟨_, guardC_true (by simp [h1, h2, h3]), ?_⟩,
    fun h1 h2 => ⟨_, guardC_true (by simp [h1, h2]), ?_⟩, fun g h1 h2 h3 h4 h5 => ⟨_, guardC_true (by simp [h1, h2, h3]), ?_⟩,
    fun h => onChan_goes fun t e o => ?_, fun n hn h => onChan_goes fun t e o => ?_, fun h1 h2 => ⟨_, guardC_true (by simp [h1, h2]), ?_⟩⟩
  · rw [State.remode_clk, State.remode_host, State.upd_chan_self]
    extract_lets c
    split
    next => exact ⟨rfl, rfl⟩
    next hq => exact absurd h2 hq
  · rw [State.remode_clk, State.remode_cstate, State.upd_chan_self]
    extract_lets c
    split
    next hq => exact absurd (h2.symm.trans hq) Bool.false_ne_true
    obtain ⟨k1, k2, -, k4⟩ := Chan.trip_cases (({ s.chan ch with clk := { (s.chan ch).clk with laneLock := false } } : Chan).laneDown) 0
    exact ⟨k1, k2, (k4 h2).1⟩
  · simp only [State.remode_clk, State.remode_cstate, State.upd_chan_self]
    obtain ⟨k1, k2, k3, k4⟩ := (s.chan ch).trip_cases 0
    exact ⟨k1, k2, fun q => ⟨(k3 q).1, (k3 q).2.1⟩, fun q => (k4 q).1⟩
  · simp only [State.remode_clk, State.remode_cstate, State.upd_chan_self]
    obtain ⟨k1, k2, k3, k4⟩ := ({ s.chan ch with clk := { (s.chan ch).clk with pllLock := false } } : Chan).trip_cases 1
    refine ⟨?_, k1, k2, fun q => ⟨(k3 q).1, (k3 q).2.1⟩, fun q => (k4 q).1⟩
    rcases Bool.eq_false_or_eq_true (s.chan ch).clk.qual with hq | hq
    · exact (k3 hq).2.2
    · exact (k4 hq).2
  · simp only [State.remode_clk, State.upd_chan_self, Chan.monitorWindow_quiet h4 h5]
  · rw [if_pos h] at e
    obtain ⟨f, hf⟩ := Chan.safeShutdown_shape { s.chan ch with clk := { (s.chan ch).clk with
      muxReq := (s.chan ch).clk.muxReq &&& 191#8, muxSel := (s.chan ch).clk.muxSel ||| 64#8, keepSrc := true } }
    rw [e, hf]
    exact ⟨rfl, rfl, rfl, o⟩
  · rw [if_pos (by simp only [hn, h, decide_true, Bool.and_self])] at e
    rw [e]
    by_cases h6 : n = 6
    · subst h6
      obtain ⟨f, hf⟩ := (s.chan ch).forceMux_six
      rw [hf]
      exact ⟨rfl, o, fun _ => rfl, fun h => absurd rfl h⟩
    · obtain ⟨k1, k2, k3⟩ := (s.chan ch).forceMux_other h6
      exact ⟨k1, o, k3, fun _ => k2⟩
  · rw [State.remode_cstate, State.upd_chan_self]
    rfl

end Sys2Proof.Machine
end

/-! PROOFS. The start from the release of the reeve to the start decision (R55 to R77, R194): O13 and O14. -/

section
namespace Sys2Proof.Machine
open Sys2Proof Sys2Proof.Safety

/-! Who takes part depends on the states, modes and links of the channels -/

theorem State.linked_congr {s t : State} (hx : ∀ p, (t.chan p).xl = (s.chan p).xl) (a b : Ch) : t.linked a b = s.linked a b := by
  have lend (p : Ch) (l : Link) : (t.chan p).lend l = (s.chan p).lend l := by
    cases l <;> simp only [Chan.lend, hx p]
  unfold State.linked
  split <;> simp only [lend]

theorem State.direct_congr {s t : State} (hx : ∀ p, (t.chan p).xl = (s.chan p).xl) (hs : ∀ p, (t.chan p).sys = (s.chan p).sys) (a b : Ch) (n : Nat) :
    t.direct a b n = s.direct a b n := by
  unfold State.direct
  rw [State.linked_congr hx]
  unfold State.carries State.view
  rw [hs a, hs b]

theorem State.reach_congr {s t : State} (hx : ∀ p, (t.chan p).xl = (s.chan p).xl) (hs : ∀ p, (t.chan p).sys = (s.chan p).sys) (a b : Ch) (n : Nat) :
    t.reach a b n = s.reach a b n := by
  simp only [State.reach, State.relays, State.direct_congr hx hs]

theorem State.starters_congr {s t : State} (hx : ∀ p, (t.chan p).xl = (s.chan p).xl) (hs : ∀ p, (t.chan p).sys = (s.chan p).sys) :
    t.starters = s.starters := by
  have hc : t.candidates = s.candidates := by simp only [State.candidates, State.view, hs]
  simp only [State.starters, hc, State.reach_congr hx hs]

theorem State.mem_candidates {s : State} {p : Ch} (h : p ∈ s.starters) : s.candidates.contains p = true := by
  simpa using (List.mem_filter.mp h).1

/-! Assay steps -/

theorem Chan.log_shape (c : Chan) (t : Nat) (p : List Byte) : ∃ k, c.log t p = { c with chron := k } := Chan.post_shape c t 16 p

theorem Chan.logAssay_shape (c : Chan) : ∃ k, c.logAssay = { c with chron := k } := Chan.log_shape ..

/-- What a step's findings leave as they are: all but the assay block, the retired cells kept in MRAM and the chronicle. -/
def AssayOnly (c d : Chan) : Prop := ∃ a m k, d = { c with assay := a, mram := m, chron := k } ∧ a.step = c.assay.step ∧ a.s6done = c.assay.s6done

theorem AssayOnly.refl (c : Chan) : AssayOnly c c := ⟨_, _, _, rfl, rfl, rfl⟩

theorem AssayOnly.trans {c d e : Chan} (h : AssayOnly c d) (g : AssayOnly d e) : AssayOnly c e := by
  obtain ⟨a, m, k, rfl, h1, h2⟩ := h
  obtain ⟨a', m', k', rfl, g1, g2⟩ := g
  exact ⟨a', m', k', rfl, g1.trans h1, g2.trans h2⟩

theorem assayOnly_retireTwice (c : Chan) : AssayOnly c c.retireTwice := by
  unfold Chan.retireTwice
  dsimp only
  split
  · exact ⟨_, _, _, rfl, rfl, rfl⟩
  · obtain ⟨k, h⟩ := Chan.logAssay_shape (c := _)
    rw [h]
    exact ⟨_, _, _, rfl, rfl, rfl⟩

theorem assayOnly_memFind (c : Chan) (f : MemFind) : AssayOnly c (c.memFind f) := by
  unfold Chan.memFind
  dsimp only
  split
  · obtain ⟨k, h⟩ := Chan.logAssay_shape (c := _)
    rw [h]
    exact ⟨_, _, _, rfl, rfl, rfl⟩
  · exact ⟨_, _, _, rfl, rfl, rfl⟩

theorem assayOnly_memFinds (p : MemFind → Prop) [DecidablePred p] (c : Chan) (l : List MemFind) :
    AssayOnly c (l.foldl (fun (c : Chan) f => if p f then c.memFind f else c) c) := by
  induction l generalizing c with
  | nil => exact AssayOnly.refl c
  | cons f l ih =>
    refine AssayOnly.trans ?_ (ih _)
    dsimp only
    split
    · exact assayOnly_memFind c f
    · exact AssayOnly.refl c

theorem assayOnly_cellFinds (c : Chan) (b : Bool) (l : List CellFind) : AssayOnly c (c.cellFinds b l) := ⟨_, _, _, rfl, rfl, rfl⟩

/-- The marks that a judged step sets besides its findings. -/
theorem AssayOnly.marked {c d : Chan} (h : AssayOnly c d) {f s : Bool} {n res : Nat} :
    AssayOnly c { d with assay := { d.assay with failed := f, stuckOn := s, attempts := n, result := res } } := h.trans ⟨_, _, _, rfl, rfl, rfl⟩

theorem assayOnly_stepResult (c : Chan) (r : AssayFind) : AssayOnly c (c.stepResult r) := by
  unfold Chan.stepResult
  refine AssayOnly.marked ?_
  split
  · exact assayOnly_cellFinds ..
  · exact (assayOnly_cellFinds ..).trans (assayOnly_retireTwice _)
  · exact assayOnly_memFinds (fun f => f.mem ≤ 1) c _
  · exact assayOnly_memFinds (fun f => f.mem = 2) c _
  · exact AssayOnly.refl c

theorem Chan.nextStep_lt {c : Chan} (h : c.assay.step < 6) : ∃ k, c.nextStep = { c with assay := { c.assay with step := c.assay.step + 1, result := 3 }, clk := k } := by
  unfold Chan.nextStep
  rw [if_pos h]
  exact ⟨_, rfl⟩

theorem Chan.nextStep_six {c : Chan} (h : c.assay.step = 6) : c.nextStep = { c with assay := { c.assay with s6done := true } } := by
  simp [Chan.nextStep, h]

theorem Chan.nextStep_seven {c : Chan} (h : c.assay.step = 7) : c.nextStep = c.endAssay := by simp [Chan.nextStep, h]

/-- A judged step, as long as S7 does not begin with it. -/
theorem assayStep_goes {s : State} {ch : Ch} {r : AssayFind} (hc : (s.chan ch).sys.cstate = .testing) (hr : (s.chan ch).assay.result = 3)
    (hw : (s.chan ch).assay.waiting = false) (h1 : 1 ≤ (s.chan ch).assay.step) {d : Chan} (hd : ((s.chan ch).stepResult r).nextStep = d) :
    exec (.assayStepComplete ch r) s = .next (s.upd ch fun _ => d) ∨ exec (.assayStepComplete ch r) s = .next ((s.upd ch fun _ => d).beginS7) ∧
      (s.upd ch fun _ => d).s7Begun = false ∧ ((s.upd ch fun _ => d).starters.all fun p => ((s.upd ch fun _ => d).chan p).assay.s6done) = true := by
  have e : (s.upd ch fun c => (c.stepResult r).nextStep) = s.upd ch fun _ => d := State.upd_congr hd
  show execAssayStepComplete ch r s = _ ∨ execAssayStepComplete ch r s = _ ∧ _
  unfold execAssayStepComplete
  dsimp only
  rw [if_neg (by simp [hc, hr, hw, h1]), e]
  split
  next h =>
    simp only [Bool.and_eq_true, Bool.not_eq_true'] at h
    exact .inr ⟨rfl, h.1.1, h.1.2⟩
  next => exact .inl rfl

theorem State.beginS7_s6done (s : State) (p : Ch) : (s.beginS7.chan p).assay.s6done = (s.chan p).assay.s6done := by
  unfold State.beginS7
  rw [State.updAll_chan]
  split
  · rfl
  · split <;> rfl

theorem State.beginS7_starter {s : State} {p : Ch} (h : p ∈ s.starters) :
    ((s.chan p).assay.s6done = true → (s.beginS7.chan p).assay.step = 7) ∧ ((s.chan p).assay.s6done = false → (s.beginS7.chan p).assay.missedS7 = true) := by
  unfold State.beginS7
  rw [State.updAll_chan, State.mem_candidates h]
  refine ⟨fun h6 => ?_, fun h6 => ?_⟩ <;> simp [h, h6]

theorem State.s7Begun_of {s : State} {ch : Ch} (h : 7 ≤ (s.chan ch).assay.step) : s.s7Begun = true := by
  unfold State.s7Begun
  exact List.any_eq_true.mpr ⟨ch, by cases ch <;> simp [allCh], by simpa using h⟩

/-! The release of the reeve -/

theorem Chan.logTrip_shape (c : Chan) : ∃ b k, c.logTrip = { c with clk := { c.clk with tripNew := b }, chron := k } := by
  unfold Chan.logTrip
  split
  · obtain ⟨k, h⟩ := Chan.log_shape (c := { c with clk := { c.clk with tripNew := false } }) (t := 0x06) (p := _)
    exact ⟨_, k, h⟩
  · exact ⟨_, _, rfl⟩

theorem Chan.restoreKeep_shape (c : Chan) : ∃ d u k, c.restoreKeep = { c with dict := d, upd := u, chron := k } := by
  unfold Chan.restoreKeep
  split
  · exact ⟨_, _, _, rfl⟩
  · split
    · dsimp only
      obtain ⟨k, h⟩ := Chan.log_shape (c := _) (t := 0x0F) (p := _)
      rw [h]
      exact ⟨_, _, _, rfl⟩
    · exact ⟨_, _, _, rfl⟩

theorem Chan.fallBack_shape (c : Chan) : ∃ u k, c.fallBack = { c with upd := u, chron := k } := by
  unfold Chan.fallBack
  split
  · exact ⟨_, _, rfl⟩
  · dsimp only
    obtain ⟨k, h⟩ := Chan.log_shape (c := _) (t := 0x10) (p := _)
    rw [h]
    exact ⟨_, _, rfl⟩

theorem Chan.convertFormat_shape (c : Chan) (b : Bool) : ∃ d u, c.convertFormat b = { c with dict := d, upd := u } := by
  unfold Chan.convertFormat
  dsimp only
  repeat' split
  all_goals exact ⟨_, _, rfl⟩

theorem Chan.bootSelect_shape (c : Chan) (b : Bool) : ∃ d u k, c.bootSelect b = { c with dict := d, upd := u, chron := k } := by
  unfold Chan.bootSelect
  split
  · exact c.restoreKeep_shape
  · split
    · obtain ⟨u, k, h⟩ := c.fallBack_shape
      obtain ⟨d, u', k', h'⟩ := c.fallBack.restoreKeep_shape
      exact ⟨d, u', k', by rw [h', h]⟩
    · obtain ⟨d, u, h⟩ := Chan.convertFormat_shape (c := _) (b := b)
      rw [h]
      exact ⟨_, _, _, rfl⟩

theorem Chan.releaseReeve_shape (c : Chan) (ga : Nat) (b : Bool) : ∃ w f k h d u r, c.releaseReeve ga b = { c with
    sys := { c.sys with cstate := .testing, released := true, reeveState := 0, kickTime := w, hrstSeen := f }
    assay := { c.assay with ga := ga % 64, step := 1, result := 3 }, clk := k, host := h, dict := d, upd := u, chron := r } := by
  have boot (x : Chan) : ∃ k d u r, x.logTrip.bootSelect b = { x with clk := k, dict := d, upd := u, chron := r } := by
    obtain ⟨_, _, h⟩ := x.logTrip_shape
    obtain ⟨d, u, r, h'⟩ := x.logTrip.bootSelect_shape b
    exact ⟨_, d, u, r, by rw [h', h]⟩
  obtain ⟨k, d, u, r, h⟩ := boot _
  exact ⟨_, _, k, _, d, u, r, h⟩

theorem State.remode_reeveState (s : State) (ch : Ch) : (s.remode.chan ch).sys.reeveState = (s.chan ch).sys.reeveState := by
  obtain ⟨_, _, _, _, h⟩ := State.remode_shape s ch
  rw [h]

theorem execReeveRelease_inTime {s : State} {ch : Ch} (h : (s.chan ch).releasable = true) (ga : Nat) :
    exec (.reeveRelease ch ga false) s = .next (s.tick.upd ch fun c => c.releaseReeve ga (Config.freeBit s.free)).remode := by
  show execReeveRelease ch ga false s = _
  simp [execReeveRelease, h]

theorem execReeveRelease_late {s : State} {ch : Ch} (h : (s.chan ch).releasable = true) (ga : Nat) :
    exec (.reeveRelease ch ga true) s = .next (s.upd ch fun c => { c with sys := { c.sys with modeFlag := c.sys.modeFlag.raise 2, barred := true } }) := by
  show execReeveRelease ch ga true s = _
  simp [execReeveRelease, h, onChan]

/-- A step below S6 judged in a channel that takes part: the next one runs, in that channel only (R66). -/
theorem assayStep_below_six {s : State} {ch : Ch} {r : AssayFind} (hc : (s.chan ch).sys.cstate = .testing) (hr : (s.chan ch).assay.result = 3)
    (hw : (s.chan ch).assay.waiting = false) (h1 : 1 ≤ (s.chan ch).assay.step) (h6 : (s.chan ch).assay.step < 6) (hd : (s.chan ch).assay.s6done = false)
    (hp : s.starters.contains ch = true) : ∃ t, exec (.assayStepComplete ch r) s = .next t ∧ (t.chan ch).assay.step = (s.chan ch).assay.step + 1 ∧
      (t.chan ch).assay.result = 3 ∧ OnlyChan ch s t := by
  obtain ⟨a, m, k, e, ha, hs⟩ := assayOnly_stepResult (s.chan ch) r
  obtain ⟨j, e'⟩ := Chan.nextStep_lt (c := (s.chan ch).stepResult r) (by rw [e]; exact ha ▸ h6)
  rw [e] at e'
  have quiet (t : State) (ht : t = s.upd ch fun _ => (((s.chan ch).stepResult r).nextStep)) : t.starters = s.starters := by
    refine State.starters_congr (fun p => ?_) (fun p => ?_) <;>
    · rw [ht, State.upd_chan]
      split
      next hp => rw [hp, e, e']
      next => rfl
  rcases assayStep_goes hc hr hw h1 (r := r) rfl with g | ⟨-, -, g⟩
  · refine ⟨_, g, ?_, ?_, onlyChan_of_upd ..⟩
    · rw [State.upd_chan_self, e, e', ← ha]
    · rw [State.upd_chan_self, e, e']
  · exfalso
    rw [quiet _ rfl] at g
    have h := List.all_eq_true.mp g ch (by simpa using hp)
    rw [State.upd_chan_self, e, e'] at h
    simp [hs, hd] at h

theorem assayStep_six {s : State} {ch : Ch} {r : AssayFind} (hc : (s.chan ch).sys.cstate = .testing) (hr : (s.chan ch).assay.result = 3)
    (hw : (s.chan ch).assay.waiting = false) (h6 : (s.chan ch).assay.step = 6) :
    ∃ t, exec (.assayStepComplete ch r) s = .next t ∧ (t.chan ch).assay.s6done = true := by
  obtain ⟨a, m, k, e, ha, -⟩ := assayOnly_stepResult (s.chan ch) r
  have e' := Chan.nextStep_six (c := (s.chan ch).stepResult r) (by rw [e]; exact ha.trans h6)
  have done : ((s.upd ch fun _ => ((s.chan ch).stepResult r).nextStep).chan ch).assay.s6done = true := by rw [State.upd_chan_self, e']
  rcases assayStep_goes hc hr hw (by omega) (r := r) rfl with g | ⟨g, -, -⟩
  · exact ⟨_, g, done⟩
  · exact ⟨_, g, by rw [State.beginS7_s6done, done]⟩

/-- S7 judged: the end of the assay, in that channel only (R66, R67). -/
theorem assayStep_seven {s : State} {ch : Ch} {r : AssayFind} (hc : (s.chan ch).sys.cstate = .testing) (hr : (s.chan ch).assay.result = 3)
    (hw : (s.chan ch).assay.waiting = false) (h7 : (s.chan ch).assay.step = 7) :
    exec (.assayStepComplete ch r) s = .next (s.upd ch fun _ => ((s.chan ch).stepResult r).endAssay) := by
  obtain ⟨a, m, k, e, ha, -⟩ := assayOnly_stepResult (s.chan ch) r
  have e' := Chan.nextStep_seven (c := (s.chan ch).stepResult r) (by rw [e]; exact ha.trans h7)
  rcases assayStep_goes hc hr hw (by omega) (r := r) e' with g | ⟨-, g, -⟩
  · exact g
  · have step : 7 ≤ ((s.upd ch fun _ => ((s.chan ch).stepResult r).endAssay).chan ch).assay.step := by
      rw [State.upd_chan_self, e]
      exact Nat.le_of_eq (ha.trans h7).symm
    rw [State.s7Begun_of step] at g
    exact absurd g (by decide)

theorem Chan.stepResult_seven {c : Chan} (h : c.assay.step = 7) (r : AssayFind) : c.stepResult r = { c with assay := { c.assay with
    failed := c.assay.failed || (!r.pass || r.stuckOn), stuckOn := c.assay.stuckOn || r.stuckOn, attempts := 0
    result := if c.assay.failed || (!r.pass || r.stuckOn) then 1 else 0 } } := by
  unfold Chan.stepResult
  rw [h]
  rfl

theorem Chan.abandonStep_goes {c : Chan} (h1 : 1 ≤ c.assay.step) (hr : c.assay.result = 3) (hw : c.assay.waiting = false) :
    c.abandonStep.assay.njCnt = min (c.assay.njCnt + 1) 255 ∧ (c.abandonStep.assay.waiting = true ↔ c.assay.attempts < 3) := by
  unfold Chan.abandonStep
  rw [if_neg (by simp [hr, hw]; omega)]
  dsimp only
  split
  next h => exact ⟨rfl, by simp; omega⟩
  next h => exact ⟨rfl, by simp; omega⟩

/-- Settles O13. -/
theorem releaseAndAssaySteps : Obligations.ReleaseAndAssaySteps := by
  unfold Obligations.ReleaseAndAssaySteps
  intro s ch ga r
  refine ⟨fun h => ⟨_, execReeveRelease_inTime h ga, ?_⟩, fun h => execReeveRelease_late h ga, fun hc hr hw _ h1 h6 hd hp => assayStep_below_six hc hr hw h1 h6 hd hp,
    fun hc hr hw h6 => assayStep_six hc hr hw h6, fun hc hr hw h7 => ⟨_, assayStep_seven hc hr hw h7, onlyChan_of_upd .., ?_, ?_⟩,
    fun hc hr hw h1 => onChan_goes fun t e o => ?_, fun hc hw => onChan_goes fun t e o => ?_, fun h1 h2 => ⟨_, guardC_true (by simp [h1, h2]), fun p hp => State.beginS7_starter hp⟩⟩
  · obtain ⟨_, _, _, _, _, _, _, h⟩ := (s.chan ch).releaseReeve_shape ga (Config.freeBit s.free)
    rw [State.remode_cstate, State.remode_assay, State.remode_reeveState, State.upd_chan_self, State.tick_chan, h]
    exact ⟨rfl, rfl, rfl, rfl, rfl⟩
  · intro hp hs hf
    rw [State.upd_chan_self, Chan.stepResult_seven h7]
    simp [Chan.endAssay, hp, hs, hf]
  · intro hp
    rw [State.upd_chan_self, Chan.stepResult_seven h7]
    simp [Chan.endAssay, hp, hc]
  · rw [if_pos (by simp [hc, hr, hw])] at e
    obtain ⟨k1, k2⟩ := Chan.abandonStep_goes h1 hr hw
    rw [e]
    exact ⟨k1, k2, o⟩
  · rw [if_pos (by simp [hc, hw])] at e
    rw [e]
    exact ⟨rfl, o⟩

/-! The start decision and what it waits for -/

theorem Chan.followStored_shape (c : Chan) : ∃ u, c.followStored = { c with upd := u } := by
  unfold Chan.followStored
  split
  · exact ⟨_, rfl⟩
  · dsimp only
    split
    · exact ⟨_, rfl⟩
    · exact ⟨_, rfl⟩

@[simp] theorem DictBlk.advance_ready (d : DictBlk) : d.advance.ready = d.ready := by
  unfold DictBlk.advance
  split <;> rfl

@[simp] theorem DictBlk.append_ready (d : DictBlk) (r : JRec) : (d.append r).ready = d.ready := by
  unfold DictBlk.append
  dsimp only
  split
  · rfl
  · exact d.advance_ready

theorem DictBlk.foldl_append_ready {α : Type} (f : α → JRec) (l : List α) (d : DictBlk) :
    (l.foldl (fun (d : DictBlk) i => d.append (f i)) d).ready = d.ready := by
  induction l generalizing d with
  | nil => rfl
  | cons i l ih => rw [List.foldl_cons, ih, DictBlk.append_ready]

theorem Chan.scanJournal_ready (c : Chan) (ch : Ch) (others : List (List JRec)) : (c.scanJournal ch others).dict.ready = true := by
  have follow (x : Chan) (h : Word) (hx : x.dict.ready = true) : ({ x.followStored with dict := { x.followStored.dict with hallmark := h } } : Chan).dict.ready = true := by
    obtain ⟨u, e⟩ := x.followStored_shape
    rw [e]
    exact hx
  exact follow _ _ rfl

theorem State.repairLive_ready (s : State) (x p : Ch) : ((s.repairLive x).chan p).dict.ready = (s.chan p).dict.ready := by
  unfold State.repairLive
  dsimp only
  split
  · rw [State.upd_chan]
    split
    next hp =>
      subst hp
      dsimp only
      obtain ⟨u, e⟩ := Chan.followStored_shape (c := _)
      rw [e]
      exact DictBlk.foldl_append_ready (fun i => _) _ _
    next => rfl
  · rfl

theorem Chan.translate_legacy {c : Chan} (h : (c.upd.storedSlot.bind (fun n => (c.upd.slot n).man)).map (·.kind) = some 3) :
    c.translate.compat.tstate ≠ 0 := by
  cases hn : c.upd.storedSlot with
  | none => simp [hn] at h
  | some n =>
    cases hm : (c.upd.slot n).man with
    | none => simp [hn, hm] at h
    | some m =>
      have hk : m.kind = 3 := by simpa [hn, hm] using h
      unfold Chan.translate
      simp only [hn, hm, hk, Option.bind_some, Option.map_some, ne_eq, not_true_eq_false, if_false]
      split <;> simp

theorem Chan.verifyStart_verified (c : Chan) (f : Nat) : (c.verifyStart f).assay.verified = true := rfl

theorem State.trialFails_verified {s : State} {ch : Ch} (h : (s.chan ch).assay.verified = true) (f : Nat) : ((s.trialFails f).chan ch).assay.verified = true := by
  unfold State.trialFails
  dsimp only
  split
  · rw [State.updAll_chan]
    split
    · obtain ⟨_, _, e⟩ := (s.chan ch).fallBack_shape
      obtain ⟨_, _, _, e'⟩ := (s.chan ch).fallBack.restoreKeep_shape
      split
      · rfl
      next hv => exact absurd (show (s.chan ch).fallBack.restoreKeep.assay.verified = true by rw [e', e]; exact h) hv
    · exact h
  · exact h

/-- What the start decision leaves in a channel that takes part. -/
theorem Chan.atDecision_fields (c : Chan) (ch : Ch) (d : Proposal) (elig : Bool) (mask : Nat) (h : Word) (ns : Nat) (p : Option Program) (ga : Option Nat)
    (pass : Bool) : (c.atDecision ch d elig mask h ns p ga pass).sys.decided = some d ∧ (c.atDecision ch d elig mask h ns p ga pass).tb.tickRun = true ∧
      (c.atDecision ch d elig mask h ns p ga pass).tb.started = false ∧ (c.atDecision ch d elig mask h ns p ga pass).tb.c = 0 := by
  unfold Chan.atDecision
  rw [Chan.log_sys, Chan.log_tb]
  exact ⟨rfl, rfl, rfl, rfl⟩

theorem execStartDecision_goes {s : State} (hp : 2 ≤ s.starters.length) (hm : s.mode = .m2)
    (h : ∀ p ∈ s.starters, (s.chan p).assayOver = true ∧ (s.chan p).assay.verified = true ∧ (s.chan p).dict.ready = true ∧ (s.chan p).sys.decided = none ∧
      (s.chan p).tb.tickRun = false) : ∃ t, exec .startDecision s = .next t ∧ t.wire = s.wire ∧ ∀ p ∈ s.starters, (t.chan p).sys.decided = some s.decision ∧
        (t.chan p).tb.tickRun = true ∧ (t.chan p).tb.started = false ∧ (t.chan p).tb.c = 0 := by
  have ready : (s.starters.all fun c => (s.chan c).assayOver && (s.chan c).assay.verified && (s.chan c).dict.ready && (s.chan c).sys.decided.isNone &&
      !(s.chan c).tb.tickRun) = true := List.all_eq_true.mpr fun p hp => by
    obtain ⟨h1, h2, h3, h4, h5⟩ := h p hp
    simp [h1, h2, h3, h4, h5]
  show ∃ t, execStartDecision s = .next t ∧ _
  unfold execStartDecision
  dsimp only
  rw [if_neg (by rw [ready]; simp [hp, hm])]
  refine ⟨_, rfl, ?_, fun p hp => ?_⟩
  · rw [(State.sdStart_shape _ .A).2]
    rfl
  · obtain ⟨⟨_, e⟩, -⟩ := State.sdStart_shape (s := _) (x := p)
    rw [e]
    have hc : s.starters.contains p = true := by simpa using hp
    simp only [State.updAll_chan, hc, Bool.not_true, Bool.and_false, Bool.false_eq_true, if_false, if_true]
    exact Chan.atDecision_fields ..

/-- Settles O14. -/
theorem imagesJournalAndStartDecision : Obligations.ImagesJournalAndStartDecision := by
  unfold Obligations.ImagesJournalAndStartDecision
  intro s ch
  refine ⟨fun h1 h2 h3 h4 h5 h6 => ?_, fun h1 h2 h3 h4 h5 h6 h7 h8 => guardC_upd_goes (by simp_all) fun t e o => ⟨?_, o⟩, fun h1 h2 h3 => ?_,
    fun h1 h2 h3 => execStartDecision_goes h1 h2 h3⟩
  · refine ⟨((s.upd ch fun c => c.verifyStart (s.secFloor ch)).trialFails (s.secFloor ch)), ?_, State.trialFails_verified (by simp [Chan.verifyStart_verified]) _⟩
    show execStartImageVerification ch s = _
    unfold execStartImageVerification
    dsimp only
    rw [if_neg (by simp_all)]
  · rw [e]
    exact Chan.translate_legacy h5
  · show ∃ t, execJournalScan ch s = .next t ∧ _
    unfold execJournalScan
    dsimp only
    rw [if_neg (by simp_all [Chan.up])]
    refine ⟨_, rfl, ?_⟩
    simp only [State.each, State.repairLive_ready, State.upd_chan_self, Chan.scanJournal_ready]

end Sys2Proof.Machine
end

/-! PROOFS. The cross links (R32 to R36): what a receiver makes of an intact message (O17 to O20), and the link ends and relays (O21). -/

section
namespace Sys2Proof.Machine
open Sys2Proof Sys2Proof.Safety

/-- A sender is at the receiver's next link or at its previous one. -/
theorem linkTo_cases {rx tx : Ch} (h : rx ≠ tx) : (tx = chNext rx ∧ linkTo rx tx = some .next) ∨ (tx ≠ chNext rx ∧ linkTo rx tx = some .prev) := by
  cases rx <;> cases tx <;> simp_all [linkTo, chNext, chPrev]

/-- The answer of a receiving command to an intact message. -/
theorem recv_next {s : State} {rx tx : Ch} {p : XBody → Bool} {m : XMsg} {w : List XMsg} {f : XBody → State → State} {t : State} (h : Arrives s rx tx p m w)
    (e : f m.body { s with wire := w } = t) : (.next (s.recv rx tx true p f) : Out) = .next t :=
  congrArg Host.Outcome.next ((State.recv_arrives f h).trans e)

theorem recvOr_next {s : State} {rx tx : Ch} {p : XBody → Bool} {m : XMsg} {w : List XMsg} {bad : XBody → Chan → Chan} {f : XBody → State → State} {t : State}
    (h : Arrives s rx tx p m w) (e : f m.body { s with wire := w } = t) : (.next (s.recvOr rx tx true p bad f) : Out) = .next t :=
  congrArg Host.Outcome.next ((State.recvOr_arrives bad f h).trans e)

/-- A message taken from the wire and one channel changed: the other channels are as before. -/
theorem others_of_taken (s : State) (w : List XMsg) (ch : Ch) (f : Chan → Chan) (x : Ch) (hx : x ≠ ch) :
    (({ s with wire := w } : State).upd ch f).chan x = s.chan x := State.upd_chan_other _ f hx

/-! Messages of a peer's boundary (R150, R178, R203) -/

/-- What a boundary message leaves at its receiver before any digest is compared. -/
theorem Chan.takeMsg_fields {rx tx : Ch} {l : Link} (hl : linkTo rx tx = some l) (c : Chan) (m : BMsg) :
    ((c.takeMsg l m).takeCarried m).lastOf rx tx = some m ∧
    ((c.takeMsg l m).takeCarried m).sys.cmds = c.sys.cmds ++ m.cmds.map (fun (x : PendCmd) => { x with via := none }) ∧
    ((c.takeMsg l m).takeCarried m).vote.dig = c.vote.dig ∧
    (m.c = c.tb.c → c.tb.started = true → ((c.takeMsg l m).takeCarried m).msgOf rx tx = some m) := by
  cases l
  all_goals
    refine ⟨?_, rfl, rfl, fun h1 h2 => ?_⟩
    · rw [Chan.lastOf, hl]
      rfl
    · rw [Chan.msgOf, hl]
      exact if_pos (by simp [h1, h2])

theorem TimeBlk.reach_c (t : TimeBlk) (n : Nat) : (t.reach n).c = t.c ∧ (t.reach n).started = t.started := by
  unfold TimeBlk.reach
  split <;> exact ⟨rfl, rfl⟩

theorem Chan.judgeLoad_ldig (c : Chan) (n p : Bool) : (c.judgeLoad n p).chg.ldig0 = c.chg.ldig0 ∧ (c.judgeLoad n p).chg.ldig1 = c.chg.ldig1 := by
  unfold Chan.judgeLoad
  dsimp only
  repeat' split
  all_goals exact ⟨rfl, rfl⟩

/-- Settles O17. -/
theorem peerMessagesAreTaken : Obligations.PeerMessagesAreTaken := by
  unfold Obligations.PeerMessagesAreTaken
  intro s rx tx w v at_ hne
  obtain ⟨l, hl, hn⟩ := linkTo_of_ne hne
  refine ⟨fun m h hd => ?_, fun n d h => recv_next h rfl, fun x h => recv_next h ?_, fun d cc b h => ?_, fun k d cc h hk => recv_next h ?_⟩
  · obtain ⟨h1, h2, h3, h4⟩ := Chan.takeMsg_fields hl ({ s.chan rx with tb := (s.chan rx).tb.reach at_ }) m
    obtain ⟨r1, r2⟩ := (s.chan rx).tb.reach_c at_
    refine ⟨{ s with wire := w }.upd rx fun c => ({ c with tb := c.tb.reach at_ }.takeMsg l m).takeCarried m, recv_next h ?_, rfl, rfl,
      others_of_taken _ _ _ _, ?_, ?_, fun k1 k2 => ?_⟩
    · dsimp only
      rw [hl]
      dsimp only
      rw [if_neg]
      rw [State.upd_chan_self, State.withWire_chan]
      simp [h3, hd]
    · rw [State.upd_chan_self, State.withWire_chan, h1]
    · rw [State.upd_chan_self, State.withWire_chan, h2]
    · rw [State.upd_chan_self, State.withWire_chan, h4 (k1.trans r1.symm) (r2.trans k2)]
  · rcases linkTo_cases hne with ⟨ht, hl⟩ | ⟨ht, hl⟩
    · dsimp only
      rw [hl]
      exact State.upd_congr (if_pos ht).symm
    · dsimp only
      rw [hl]
      exact State.upd_congr (if_neg ht).symm
  · refine ⟨_, recv_next h rfl, rfl, fun x hx => ?_, ?_⟩
    · dsimp only [State.judgeLoad]
      rw [State.upd_chan_other _ _ hx, State.upd_chan_other _ _ hx]
      rfl
    · dsimp only [State.judgeLoad]
      rw [State.upd_chan_self, State.upd_chan_self]
      rcases linkTo_cases hne with ⟨ht, hl⟩ | ⟨ht, hl⟩
      · rw [if_pos ht, hl, (Chan.judgeLoad_ldig ..).1]
      · rw [if_neg ht, hl, (Chan.judgeLoad_ldig ..).2]
  · rcases linkTo_cases hne with ⟨ht, hl⟩ | ⟨ht, hl⟩
    all_goals
      dsimp only
      rw [hl]
      dsimp only
      rw [if_neg (by
        rw [State.upd_chan_self, Bool.and_eq_true, decide_eq_true_eq, decide_eq_true_eq]
        exact fun g => hk g.2)]
    · exact State.upd_congr (if_pos ht).symm
    · exact State.upd_congr (if_neg ht).symm

/-! What a receiver forwards into its own store (R36, R144, R362) -/

theorem Chan.sdCompare_fields (c : Chan) (k crc : Word) (ps : Option (List (List Word)) × Option (List (List Word))) :
    (c.sdCompare k crc ps).sd.peer0 = c.sd.peer0 ∧ (c.sdCompare k crc ps).sd.got0 = c.sd.got0 ∧
    (c.sdCompare k crc ps).sd.peer1 = c.sd.peer1 ∧ (c.sdCompare k crc ps).sd.got1 = c.sd.got1 := by
  unfold Chan.sdCompare
  dsimp only
  repeat' split
  all_goals
    try rw [Chan.log_sd]
    exact ⟨rfl, rfl, rfl, rfl⟩

theorem Chan.sdCheck_next (c : Chan) (k crc : Word) (b : Bool) (ps : Option (List (List Word)) × Option (List (List Word))) :
    (c.sdCheck .next k crc b ps).sd.peer0 = crc ∧ (c.sdCheck .next k crc b ps).sd.got0 = some k := by
  unfold Chan.sdCheck
  dsimp only
  split
  · exact ⟨rfl, rfl⟩
  · obtain ⟨h1, h2, -, -⟩ := Chan.sdCompare_fields _ k crc ps
    rw [h1, h2]
    exact ⟨rfl, rfl⟩

theorem Chan.sdCheck_prev (c : Chan) (k crc : Word) (b : Bool) (ps : Option (List (List Word)) × Option (List (List Word))) :
    (c.sdCheck .prev k crc b ps).sd.peer1 = crc ∧ (c.sdCheck .prev k crc b ps).sd.got1 = some k := by
  unfold Chan.sdCheck
  dsimp only
  split
  · exact ⟨rfl, rfl⟩
  · obtain ⟨-, -, h1, h2⟩ := Chan.sdCompare_fields _ k crc ps
    rw [h1, h2]
    exact ⟨rfl, rfl⟩

theorem Chan.brigade_upd (c : Chan) (p : Peer) (t : Nat) (img : Word) (b n r : Nat) (m : W64) (d : List Byte) : (c.brigade p t img b n r m d).upd = c.upd := by
  unfold Chan.brigade
  split
  · rfl
  · dsimp only
    split <;> rfl

theorem foldl_upd {α : Type} {f : Chan → α → Chan} (hf : ∀ c x, (f c x).upd = c.upd) (l : List α) (c : Chan) : (l.foldl f c).upd = c.upd := by
  induction l generalizing c with
  | nil => rfl
  | cons x l ih => rw [List.foldl_cons, ih, hf]

theorem Chan.sendPieces_upd (c : Chan) (x : Send) : ∃ l, (c.sendPieces x).upd = { c.upd with sends := l } := by
  unfold Chan.sendPieces
  split
  · exact ⟨_, rfl⟩
  · dsimp only
    rw [foldl_upd fun c x => c.brigade_upd ..]
    exact ⟨_, rfl⟩

theorem Chan.pump_upd (c : Chan) (n : Nat) : ∃ l, (c.pump n).upd = { c.upd with sends := l } := by
  unfold Chan.pump
  generalize c.upd.sends.filter _ = xs
  induction xs generalizing c with
  | nil => exact ⟨_, rfl⟩
  | cons x xs ih =>
    obtain ⟨l, h⟩ := c.sendPieces_upd x
    obtain ⟨l', h'⟩ := ih (c.sendPieces x)
    exact ⟨l', by rw [List.foldl_cons, h', h]⟩

theorem atD_of_le {α : Type} (d : α) : ∀ {n : Nat} {l : List α}, l.length ≤ n → atD d n l = d
  | _, [], _ => by simp [atD]
  | n + 1, _ :: l, h => atD_of_le d (n := n) (l := l) (Nat.le_of_succ_le_succ h)

theorem UpdBlk.slot_updSlot {u : UpdBlk} {n : Nat} (f : ImgSlot → ImgSlot) (h : u.slot n ≠ ImgSlot.empty) : (u.updSlot n f).slot n = f (u.slot n) := by
  refine atD_modAt_self _ _ (lt_of_not_ge fun hn => h ?_)
  exact atD_of_le _ hn

theorem ImgSlot.block_stored (x : ImgSlot) (n : Nat) (d : List Byte) (m : List (Nat × List Byte)) (h : m = (x.blocks.filter (fun y => y.1 != n)) ++ [(n, d)]) :
    ({ x with blocks := m } : ImgSlot).block n = some d := by
  subst h
  have none : (x.blocks.filter (fun y => y.1 != n)).find? (fun b => b.1 == n) = none := by
    simp [List.find?_eq_none]
  simp [ImgSlot.block, List.find?_append, none]

theorem Chan.storeBlock_block {c : Chan} {q n : Nat} (d : List Byte) (h : c.upd.slot q ≠ ImgSlot.empty) : ((c.storeBlock q n d).upd.slot q).block n = some d := by
  unfold Chan.storeBlock
  dsimp only
  obtain ⟨l, e⟩ := Chan.pump_upd (c := _) (n := q)
  rw [e]
  have stored : ((c.upd.updSlot q fun x => { x with blocks := (x.blocks.filter (fun y => y.1 != n)) ++ [(n, d)] }).slot q).block n = some d := by
    rw [UpdBlk.slot_updSlot _ h]
    exact ImgSlot.block_stored _ n d _ rfl
  split <;> exact stored

/-- The slot that receives an image is no empty one. -/
theorem receiving_some {u : UpdBlk} {img : Word} {q : Nat}
    (h : (List.range 12).find? (fun n => ((u.slot n).man.map manImgid) == some img && (u.slot n).st == .partial_) = some q) : u.slot q ≠ ImgSlot.empty := by
  have hp := List.find?_some h
  intro e
  simp [e, ImgSlot.empty] at hp

theorem receiving_none {u : UpdBlk} {img : Word} (h : ∀ q < 12, (u.slot q).st ≠ .partial_) :
    (List.range 12).find? (fun n => ((u.slot n).man.map manImgid) == some img && (u.slot n).st == .partial_) = none := by
  simp only [List.find?_eq_none, List.mem_range]
  intro q hq
  simp [h q hq]

theorem Chan.enqueuePosted_goes {c : Chan} {e : Nat} {x : List Byte} {ds : List Nat} {y : Nat} (hd : ds ≠ []) (hq : c.bridge.queue.length < 256) :
    c.enqueuePosted e x ds y = c.br (fun b => { b with queue := b.queue ++ [⟨c.bridge.nextQid, e, x, ds, y⟩], nextQid := b.nextQid + 1 }) := by
  unfold Chan.enqueuePosted postedMax
  rw [if_neg (by simpa using hd), if_neg (by omega)]

/-- The item next in sequence of an entry of which nothing is held goes behind the posted writes (R276, R279). -/
theorem Chan.takeForwarded_inSequence {c : Chan} {e q : Nat} {ds : List Nat} {x : List Byte} {y : Nat} (ho : c.sys.cstate ≠ .out) (hb : c.bridgeOn = true)
    (hd : ds ≠ []) (hg : c.bridge.gaps = []) (hq : c.bridge.queue.length < 256) (hs : assocD 0 e c.bridge.expSeq = q) :
    (c.takeForwarded e q ds x y).bridge.gaps = [] ∧
    (c.takeForwarded e q ds x y).bridge.queue = c.bridge.queue ++ [⟨c.bridge.nextQid, e, x, ds, y⟩] := by
  unfold Chan.takeForwarded
  rw [if_neg ho, if_neg (by simp [hb])]
  simp only [Chan.br_bridge, hg, List.nil_append, List.length_singleton, Chan.closeGap, hs, List.find?_cons, BEq.rfl, Bool.and_self]
  rw [Chan.enqueuePosted_goes hd (by simpa using hq)]
  simp [hg]

/-- Settles O18. -/
theorem forwardedInputsAreTaken : Obligations.ForwardedInputsAreTaken := by
  unfold Obligations.ForwardedInputsAreTaken
  intro s rx tx w v hne
  refine ⟨fun i h => ⟨_, recvOr_next h rfl, rfl, others_of_taken _ _ _ _, fun h1 h2 => ?_, fun h1 => ?_⟩,
    fun g h => ⟨_, recvOr_next h rfl, rfl, others_of_taken _ _ _ _, ?_⟩, fun k crc nc h => ?_, fun img n d h hq => ?_, fun img n d q h hq => ?_,
    fun e q ds x y h ho => ⟨fun hb => ?_, fun hb hd hg hl hs => ?_⟩⟩
  · rw [State.upd_chan_self, State.withWire_chan, Chan.takeItem, if_neg (by simp [h1, h2])]
    rfl
  · rw [State.upd_chan_self, State.withWire_chan, Chan.takeItem, if_pos (by simpa using h1)]
  · rw [State.upd_chan_self]
    exact List.mem_cons_self
  · obtain ⟨l, hl, -⟩ := linkTo_of_ne hne
    refine ⟨{ s with wire := w }.upd rx fun c => c.sdCheck l k crc nc (State.peerWords { s with wire := w } rx k), recv_next h ?_, rfl, others_of_taken _ _ _ _, ?_⟩
    · dsimp only
      rw [hl]
    · rw [State.upd_chan_self, State.withWire_chan]
      rcases linkTo_cases hne with ⟨ht, hl'⟩ | ⟨ht, hl'⟩
      all_goals obtain rfl := Option.some.inj (hl.symm.trans hl')
      · rw [if_pos ht]
        exact Chan.sdCheck_next ..
      · rw [if_neg ht]
        exact Chan.sdCheck_prev ..
  · refine ⟨({ s with wire := w } : State), recv_next h ?_, rfl, fun x => rfl⟩
    refine State.upd_id ?_
    rw [State.withWire_chan, receiving_none hq]
  · refine ⟨_, recv_next h rfl, rfl, others_of_taken _ _ _ _, fun hb => ?_, fun hb => ?_⟩
    · rw [State.upd_chan_self, State.withWire_chan, hq]
      dsimp only
      rw [if_pos hb]
      exact Chan.storeBlock_block d (receiving_some hq)
    · rw [State.upd_chan_self, State.withWire_chan, hq]
      dsimp only
      rw [if_neg (by simp [hb])]
      rfl
  · refine ⟨({ s with wire := w } : State), recv_next h ?_, rfl, fun x => rfl⟩
    refine State.upd_id ?_
    simp [Chan.takeForwarded, ho, hb]
  · refine ⟨_, recv_next h rfl, rfl, others_of_taken _ _ _ _, ?_⟩
    rw [State.upd_chan_self, State.withWire_chan]
    exact Chan.takeForwarded_inSequence ho hb hd hg hl hs

/-! Link ends and relays -/

theorem Chan.lend_setEnd (c : Chan) (l : Link) (f : LinkEnd → LinkEnd) : (c.setEnd l f).lend l = f (c.lend l) := by cases l <;> rfl

/-- Settles O21. -/
theorem linkEndsAndRelay : Obligations.LinkEndsAndRelay := by
  unfold Obligations.LinkEndsAndRelay
  intro s ch l
  refine ⟨fun h1 h2 => onChan_next ?_, fun n h1 h2 => onChan_next ?_, fun p n h1 h2 h3 h4 => onChan_next ?_, fun h1 h2 => onChan_goes fun t e o => ?_,
    fun m w h hd => ?_, fun m w ok h hd => ?_⟩
  · rw [if_pos (by simp [h1, h2])]
    rfl
  · rw [if_neg (by simp [h1, h2]), if_pos rfl]
  · rw [if_neg (by simp [h1, h2]), if_neg h4, Nat.min_eq_left (by omega)]
  · rw [if_neg (by simp [h1])] at e
    rw [e, Chan.lend_setEnd]
    dsimp only
    rw [if_neg]
    · exact ⟨o, rfl, rfl, rfl⟩
    · have hf := List.length_filter_le (fun t => decide ((s.chan ch).now < t + 1000000)) ((s.chan ch).lend l).viol
      simp only [List.length_append, List.length_singleton, Bool.and_eq_true, decide_eq_true_eq, not_and]
      omega
  · show execXlinkSegmentRelay ch true s = _
    simp [execXlinkSegmentRelay, h, hd]
  · show execXlinkSegmentRelay ch ok s = _
    simp [execXlinkSegmentRelay, h, hd]

end Sys2Proof.Machine
end

/-! PROOFS. Resynchronisation (R185 to R187): what the resynchronising channel takes and its source answers (O19, O20). -/

section
namespace Sys2Proof.Machine
open Sys2Proof Sys2Proof.Safety

/-! The run and what it holds -/

theorem State.rsPeer_run {s : State} {ch : Ch} {r : RsRun} (h : (s.chan ch).vote.run = some r) : s.rsPeer ch false = r.src := by
  simp [State.rsPeer, h]

theorem State.rsPeer_serving {s : State} {ch m : Ch} {x : Nat × Nat} (h : (s.chan ch).vote.serving = some (m, x)) : s.rsPeer ch true = m := by
  simp [State.rsPeer, h]

theorem Chan.startAllHeld_none {c : Chan} {r : RsRun} (h : c.vote.run = some r) (hh : r.held = []) : c.startAllHeld = c := by
  simp [Chan.startAllHeld, h, hh]

/-- An instance with a page still wanted does not start. -/
theorem Chan.startHeld_wanting {c : Chan} {r : RsRun} {n : Nat} {w : Nat × Nat × Nat} (h : c.vote.run = some r) (hw : w ∈ r.want) (hn : w.1 = n) :
    c.startHeld n = c := by
  have wanted : r.want.any (fun w => w.1 == n) = true := List.any_eq_true.mpr ⟨w, hw, by simpa using hn⟩
  unfold Chan.startHeld
  rw [h]
  dsimp only
  split
  next r' t hr ht =>
    cases hr
    simp [wanted]
  next => rfl

theorem SliceBlk.task_updTask {e : SliceBlk} {n : Nat} {x : TaskRt} {f : TaskRt → TaskRt} (h : e.task n = some x) (hf : ∀ t, (f t).decl = t.decl) :
    (e.updTask n f).task n = some (f x) := by
  unfold SliceBlk.task SliceBlk.updTask at *
  rw [List.find?_map]
  have same : ((fun t : TaskRt => t.decl.num == n) ∘ fun t => if t.decl.num = n then f t else t) = fun t => t.decl.num == n := by
    funext t
    by_cases ht : t.decl.num = n <;> simp [ht, hf]
  rw [same, h]
  have hn : x.decl.num = n := by simpa using List.find?_some h
  simp [hn]

theorem State.foldl_send_chan {α : Type} (ch m x : Ch) (f : α → XBody) (l : List α) (s : State) :
    (l.foldl (fun (s : State) a => s.send ch m (f a)) s).chan x = s.chan x := by
  induction l generalizing s with
  | nil => rfl
  | cons a l ih => rw [List.foldl_cons, ih, State.send_chan]

theorem State.askPages_chan (s : State) (ch src x : Ch) (n cc : Nat) (ps : List (Nat × Nat)) : (s.askPages ch src n cc ps).chan x = s.chan x := by
  unfold State.askPages
  split
  · rfl
  · exact State.foldl_send_chan ..

theorem TaskRt.install_decl (t : TaskRt) (sd : List Bool) (d : PageData) : (t.install sd d).decl = t.decl := by
  unfold TaskRt.install
  dsimp only
  split <;> rfl

/-- A message with the direct way open joins the wire. -/
theorem State.send_direct {s : State} {tx rx : Ch} {b : XBody} (hne : tx ≠ rx) (h : s.direct tx rx b.cls = true) :
    s.send tx rx b = { s with wire := s.wire ++ [⟨tx, rx, .direct, b⟩] } := by
  unfold State.send
  rw [if_neg hne, if_pos h]

theorem State.foldl_send_direct {α : Type} {tx rx : Ch} (hne : tx ≠ rx) (f : α → XBody) (n : Nat) (hn : ∀ a, (f a).cls = n) (l : List α) {s : State}
    (h : s.direct tx rx n = true) :
    l.foldl (fun (s : State) a => s.send tx rx (f a)) s = { s with wire := s.wire ++ l.map (fun a => ⟨tx, rx, .direct, f a⟩) } := by
  induction l generalizing s with
  | nil => simp
  | cons a l ih =>
    rw [List.foldl_cons, State.send_direct hne ((hn a).symm ▸ h), ih (s := { s with wire := s.wire ++ [⟨tx, rx, .direct, f a⟩] })
      ((State.direct_congr (fun _ => rfl) (fun _ => rfl) tx rx n).trans h)]
    simp

/-- An intact message that brings timers or their operations. -/
theorem recvTimers_next {s : State} {ch src : Ch} {p : XBody → Bool} {m : XMsg} {w : List XMsg} {f : XBody → State → State} {t : State}
    (hs : s.rsPeer ch false = src) (h : Arrives s ch src p m w) (e : f m.body { s with wire := w } = t) : (.next (s.recvTimers ch true p f) : Out) = .next t := by
  unfold State.recvTimers
  rw [if_pos rfl, hs]
  exact recv_next h e

theorem Chan.updRun_run {c : Chan} {r : RsRun} (h : c.vote.run = some r) (f : RsRun → RsRun) : (c.updRun f).vote.run = some (f r) := by
  simp [Chan.updRun, h]

theorem Chan.startAllHeld_updRun {c : Chan} {r : RsRun} {f : RsRun → RsRun} (h : c.vote.run = some r) (hh : (f r).held = []) :
    (c.updRun f).startAllHeld = c.updRun f := Chan.startAllHeld_none (Chan.updRun_run h f) hh

theorem Chan.notice_run (c : Chan) (a : Ch) (n : Nat) : (c.notice a n).vote.run = c.vote.run := by
  simp only [Chan.notice]
  split <;> rfl

theorem Chan.accuse_run (c : Chan) (p : Ch) (n : Nat) : (c.accuse p n).vote.run = c.vote.run := by
  unfold Chan.accuse
  split
  · rfl
  · unfold Chan.logVote
    rw [Chan.log_vote, Chan.notice_run]

theorem Chan.resyncFailed_run (c : Chan) (ch : Ch) : (c.resyncFailed ch).vote.run = none := by
  unfold Chan.resyncFailed
  split
  next h => exact h
  next => rw [Chan.accuse_run]

/-- Starting an instance that was held changes what the run holds, and nothing of what it wants. -/
theorem Chan.startHeld_run {c : Chan} {r : RsRun} (h : c.vote.run = some r) (n : Nat) :
    ∃ l, (c.startHeld n).vote.run = some { r with held := l } := by
  unfold Chan.startHeld
  split
  next r' t hr ht =>
    obtain rfl := Option.some.inj (h.symm.trans hr)
    dsimp only
    split
    next i _ _ =>
      obtain ⟨⟨cs, sl, e⟩, -⟩ := Chan.startStage_shape _ { t with inst := some { i with avail := true, timers := c.tb.timers }, rsWork := t.rsPub, outWork := fixW t.decl.outLen [] }
        { i with avail := true, timers := c.tb.timers } 0
      rw [e]
      exact ⟨_, rfl⟩
    next => exact ⟨_, h⟩
  next => exact ⟨_, h⟩

theorem Chan.startHeld_want {c : Chan} {r : RsRun} {f : RsRun → RsRun} (h : c.vote.run = some r) (n : Nat) {w : Nat × Nat × Nat} (hw : w ∈ (f r).want) :
    ∃ q, ((c.updRun f).startHeld n).vote.run = some q ∧ w ∈ q.want := by
  obtain ⟨l, e⟩ := Chan.startHeld_run (Chan.updRun_run h f) n
  exact ⟨_, e, hw⟩

theorem Chan.startHeld_updRun {c : Chan} {r : RsRun} {f : RsRun → RsRun} {n a p : Nat} (h : c.vote.run = some r) (hw : (n, a, p) ∈ (f r).want) :
    (c.updRun f).startHeld n = c.updRun f := Chan.startHeld_wanting (Chan.updRun_run h f) hw rfl

/-- Settles O20. -/
theorem resynchronisationSourceAnswers : Obligations.ResynchronisationSourceAnswers := by
  unfold Obligations.ResynchronisationSourceAnswers
  intro s ch m w v k p n cc pages t hs hne hd h ht hi
  have peer : s.rsPeer ch true = m := State.rsPeer_serving hs
  subst peer
  refine ⟨_, recv_next h rfl, ?_⟩
  simp only [State.withWire_chan, hs, ht, hi, ne_eq, not_true_eq_false, if_false]
  rw [State.foldl_send_direct hne _ 3 (fun _ => rfl)]
  · refine ⟨by simp, ?_, fun x hx => ?_, ?_⟩
    · rw [State.withWire_chan, State.upd_chan_self]
      simp [hs]
    · rw [State.withWire_chan, State.upd_chan_other _ _ hx]
      rfl
    · rw [State.withWire_chan, State.upd_chan_self]
      rfl
  · refine (State.direct_congr (fun x => ?_) (fun x => ?_) _ _ _).trans hd <;>
    · rw [State.upd_chan]
      split <;> rfl

/-- Settles O19. -/
theorem resynchronisationMessages : Obligations.ResynchronisationMessages := by
  unfold Obligations.ResynchronisationMessages
  intro s ch src w v r hr hsrc hne
  have peer : s.rsPeer ch false = src := (State.rsPeer_run hr).trans hsrc
  refine ⟨fun cc p ts hh h => ?_, fun p ops hh hsn h => ?_, fun n cc p sums x y z h hx hy hz hne' => ?_, fun n cc d sd x y a p h hx hy hw hd => ?_,
    fun hl => onChan_goes fun t e o => ?_⟩
  · refine ⟨_, recvTimers_next peer h rfl, ?_⟩
    simp only [State.withWire_chan, hr]
    refine ⟨rfl, ?_⟩
    rw [State.upd_chan_self, Chan.startAllHeld_updRun (by exact hr) (by exact hh)]
    exact ⟨rfl, Chan.updRun_run hr _⟩
  · have go : exec (.resyncTimerOperations ch true) s = _ := if_neg (by simp [hr, hsn])
    refine ⟨_, go.trans (recvTimers_next peer h rfl), ?_⟩
    simp only [State.withWire_chan, hr, ne_eq, not_true_eq_false, if_false]
    refine ⟨rfl, ?_⟩
    rw [State.upd_chan_self, Chan.startAllHeld_updRun (by exact hr) (by exact hh)]
    exact ⟨rfl, Chan.updRun_run hr _⟩
  · have held : r.held.any (fun h => h.1 == n && h.2.1 == cc) = true := List.any_eq_true.mpr ⟨_, hy, by simp⟩
    subst peer
    refine ⟨_, exists_and_left.mpr ⟨recv_next h rfl, ?_⟩⟩
    simp only [State.withWire_chan, hr, hx, held, Bool.not_true, Bool.false_eq_true, if_false]
    rw [State.askPages_chan, State.upd_chan_self, State.upd_chan_self]
    refine Chan.startHeld_want hr n (List.mem_append_right _ (List.mem_map.mpr ⟨(z.1, z.2.1), List.mem_map.mpr ⟨z, ?_, rfl⟩, rfl⟩))
    exact List.mem_filter.mpr ⟨hz, by simpa using hne'⟩
  · have held : r.held.any (fun h => h.1 == n && h.2.1 == cc) = true := List.any_eq_true.mpr ⟨_, hy, by simp⟩
    have wanted : (n, a, p) ∈ r.want.filter (fun w => w != (n, d.area, d.page)) := by
      refine List.mem_filter.mpr ⟨hw, ?_⟩
      simp only [bne_iff_ne, ne_eq, Prod.mk.injEq, true_and]
      exact fun e => hd (by rw [e.1, e.2])
    subst peer
    refine ⟨_, { r with want := r.want.filter (fun w => w != (n, d.area, d.page)), pages := r.pages + 1 }, recv_next (s := s) h rfl, ?_⟩
    simp only [State.withWire_chan, hr, held, Bool.not_true, Bool.false_eq_true, if_false]
    refine ⟨rfl, ?_⟩
    rw [State.upd_chan_self, Chan.startHeld_updRun (by exact hr) (by exact wanted)]
    refine ⟨Chan.updRun_run hr _, trivial, wanted, ?_, SliceBlk.task_updTask hx fun t => t.install_decl sd d⟩
    simp [List.mem_filter]
  · simp only [hr, hl, if_true] at e
    rw [e]
    exact ⟨Chan.resyncFailed_run .., o⟩
end Sys2Proof.Machine
end


/-! PROOFS. The cores: image loads and stores, slices, timers, traps, CSRs, loads and stores, lock-step. -/

section
namespace Sys2Proof.Machine
open Sys2Proof Sys2Proof.Safety

/-- An instruction that only changes its core completes with that change. -/
theorem coreCmd_updPair {s : State} {ch : Ch} {h : Nat} {f : Chan → Chan} {k : CoreSt → CoreSt} {r : CoreSt} (g : CoreGoes s ch h)
    (e : f (s.chan ch) = (s.chan ch).updPair h k) (hr : k ((s.chan ch).core h) = r) :
    ∃ t, coreCmd s ch h f = .next t ∧ OnlyCell ch h s t ∧ (t.chan ch).core h = r := by
  rw [coreCmd_goes g, State.upd_congr (g := fun c => c.updPair h k) e]
  exact ⟨_, rfl, onlyCell_of_updPair s ch h k, by rw [State.upd_chan_self, Chan.core_updPair _ (coreGoes_owns g), hr]⟩

/-- An instruction that is retired completes one instruction on. -/
theorem coreCmd_retire {s : State} {ch : Ch} {h : Nat} {f : Chan → Chan} {k : CoreSt → CoreSt} {r : CoreSt} (g : CoreGoes s ch h)
    (e : f (s.chan ch) = (s.chan ch).retire h k) (hr : k ((s.chan ch).core h) = r) :
    ∃ t, coreCmd s ch h f = .next t ∧ OnlyCell ch h s t ∧ (t.chan ch).core h = stepped r :=
  coreCmd_updPair (k := fun x => stepped (k x)) g e (congrArg stepped hr)

/-- The same for an instruction that draws from the free-value counter. -/
theorem coreTick_retire {s : State} {ch : Ch} {h : Nat} {f : Chan → Chan} {k : CoreSt → CoreSt} {r : CoreSt} (g : CoreGoes s ch h)
    (e : f (s.chan ch) = (s.chan ch).retire h k) (hr : k ((s.chan ch).core h) = r) :
    ∃ t, guardC ((s.chan ch).coreRuns h) s (s.tick.upd ch (fun c => c.fetch ch h f)) = .next t ∧ OnlyCell ch h s t ∧
      (t.chan ch).core h = stepped r := by
  rw [coreTick_goes g, State.upd_congr (s := s.tick) (g := fun c => c.retire h k) e]
  exact ⟨_, rfl, onlyCell_of_tick_updPair s ch h (fun x => stepped (k x)), by rw [State.upd_chan_self, ← hr]; exact Chan.core_retire k (coreGoes_owns g)⟩

/-- An instruction that changes more of its channel than its core. -/
theorem coreCmd_next {s : State} {ch : Ch} {h : Nat} (g : CoreGoes s ch h) {f : Chan → Chan} {P : State → Prop}
    (k : ∀ t : State, t.chan ch = f (s.chan ch) → OnlyChan ch s t → P t) : ∃ t, coreCmd s ch h f = .next t ∧ P t := by
  rw [coreCmd_goes g]
  exact ⟨_, rfl, k _ (State.upd_chan_self ..) (onlyChan_of_upd ch s f)⟩

theorem Chan.imgLoad_ok {c : Chan} {h rd : Nat} {ix : Word} {l : List Word} (i : idxOk ix l.length = true) :
    c.imgLoad h rd ix l = c.retire h (fun k => k.setReg rd (atD 0#32 ix.toNat l)) := by
  simp [Chan.imgLoad, i]

/-- Settles O22: each load is retired with the word that its index selects in the slice's own image. -/
theorem imageLoads : Obligations.ImageLoads := by
  intro s ch h rd rs1 imm k i g hs c ix
  refine ⟨fun hi => coreCmd_retire g ((inSlice_withSlice hs _ _).trans (Chan.imgLoad_ok hi)) rfl,
    fun hi => coreCmd_retire g ((inSlice_withSlice hs _ _).trans (Chan.imgLoad_ok (by simpa using hi))) rfl,
    fun hi => coreCmd_retire g ((inSlice_withSlice hs _ _).trans (Chan.imgLoad_ok hi)) rfl,
    fun hi hst => coreCmd_retire (k := fun x => x.setReg rd (atD 0#32 ix.toNat k.stageOut)) g ((inSlice_withSlice hs _ _).trans ?_) rfl⟩
  dsimp only
  rw [if_neg (by simpa using hi), if_neg (Nat.not_le.mpr hst)]

theorem TaskRt.storeOut_keeps (x : TaskRt) (h : Word) (ix : Nat) (v : Word) : (x.storeOut h ix v).inImg = x.inImg ∧ (x.storeOut h ix v).qual = x.qual ∧
    (x.storeOut h ix v).outPub = x.outPub ∧ (x.storeOut h ix v).rsPub = x.rsPub ∧ (x.storeOut h ix v).rsWork = x.rsWork := by
  unfold TaskRt.storeOut
  dsimp only
  split <;> exact ⟨rfl, rfl, rfl, rfl, rfl⟩

/-- Settles O23: a store is retired and writes the one word of the task that its index selects. -/
theorem imageStores : Obligations.ImageStores := by
  intro s ch h rs1 rs2 imm k i g hs c ix
  refine ⟨fun hi => coreCmd_next g fun t e o => ?_, fun hi => coreCmd_next g fun t e o => ?_⟩
  · rw [inSlice_withSlice hs, if_neg (by simpa using hi)] at e
    rw [e]
    exact ⟨o, Chan.core_retire id (coreGoes_owns g), rfl, rfl, fun x => x.storeOut_keeps ..⟩
  · rw [inSlice_withSlice hs, if_neg (by simpa using hi)] at e
    rw [e]
    exact ⟨o, Chan.core_retire id (coreGoes_owns g), rfl, rfl⟩

/-- Settles O24: each of these is retired with the value, or the operation posted, that the slice's instance gives. -/
theorem releaseValuesAndTimers : Obligations.ReleaseValuesAndTimers := by
  intro s ch h rd rs1 rs2 imm k i g hs c
  refine ⟨fun hi => coreCmd_retire (k := fun x => x.setReg rd (relValue imm.toNat i.stamp i.relK (some k))) g ?_ rfl, fun h1 h2 => coreTick_retire g ((inSlice_withSlice hs _ _).trans (if_neg (by simp [h1, h2, c]))) rfl,
    fun h1 => coreTick_retire g ((inSlice_withSlice hs _ _).trans (if_neg h1)) rfl, coreCmd_retire g (inSlice_withSlice hs _ _) rfl,
    coreCmd_retire g (inSlice_withSlice hs _ _) ?_⟩
  · rw [if_neg (by simp; omega), if_neg hs.2.1, hs.2.2]
  · congr 1
    cases i.timers.find? _ with
    | none => rfl
    | some x => exact apply_ite (BitVec.ofNat 32) ..

/-! The slice queue -/

theorem Chan.takeSlice_shape (c : Chan) (h : Nat) : ∃ sl, (c.takeSlice h).1 = { c with sl := sl } := by
  unfold Chan.takeSlice
  dsimp only
  split <;> exact ⟨_, rfl⟩

theorem Chan.l0Slice_shape (c : Chan) (h : Word) : ∃ sl, c.l0Slice h = { c with sl := sl } := by
  unfold Chan.l0Slice
  split
  · split <;> exact ⟨_, rfl⟩
  · exact ⟨_, rfl⟩

/-- A completion notice changes the slice engine alone. -/
theorem State.noticeDone_shape (s : State) (ch : Ch) (n : Nat) : ∃ sl, ((s.noticeDone ch n).chan ch) = { s.chan ch with sl := sl } := by
  unfold State.noticeDone
  dsimp only
  split
  · exact ⟨_, rfl⟩
  · split
    · exact ⟨_, rfl⟩
    · split
      · exact ⟨_, rfl⟩
      · split
        · split
          · exact ⟨_, rfl⟩
          · rw [State.sendBoth_chan, State.upd_chan_self]
            exact ⟨_, rfl⟩
        · rw [State.upd_chan_self]
          exact ⟨_, rfl⟩

theorem Chan.availAll_tasks (cap : Bool) {α : Type} : ∀ (l : List α) (c : Chan), (l.foldl (fun (c : Chan) _ => c.availAll cap) c).sl.tasks = c.sl.tasks
  | [], _ => rfl
  | _ :: l, c => Chan.availAll_tasks cap l (c.availAll cap)

/-- A stage that becomes available sets the stage and the slices left of the instance of its task, and of no other. -/
theorem Chan.startStage_tasks (c : Chan) (t : TaskRt) (i : Inst) (st : Nat) : (c.startStage t i st).sl.tasks =
    (c.sl.updTask t.decl.num (fun x => x.updInst (fun y => { y with stage := st, left := (t.decl.stage st).slices }))).tasks := by
  unfold Chan.startStage
  dsimp only
  rw [Chan.availAll_tasks]
  dsimp only
  split <;> rfl

theorem SliceBlk.task_num {e : SliceBlk} {n : Nat} {k : TaskRt} (h : e.task n = some k) : k.decl.num = n := by
  simpa using List.find?_some h

theorem Chan.startStage_task {c : Chan} {t x : TaskRt} {i j : Inst} {st n : Nat} (h : c.sl.task n = some x) (hi : x.inst = some j) (hn : t.decl.num = n) :
    ∃ k, (c.startStage t i st).sl.task n = some k ∧ k.inst = some { j with stage := st, left := (t.decl.stage st).slices } := by
  refine ⟨x.updInst (fun y => { y with stage := st, left := (t.decl.stage st).slices }), ?_, by rw [TaskRt.updInst, hi]; rfl⟩
  rw [SliceBlk.task, Chan.startStage_tasks, hn]
  exact SliceBlk.task_updTask h fun _ => rfl

/-- What changes nothing of its channel but one cell. -/
theorem onlyCell_of_upd {s : State} {ch : Ch} {h : Nat} {f : Chan → Chan} (e : ∃ cs, f (s.chan ch) = { s.chan ch with cells := cs })
    (hc : ∀ m, m ≠ h / 2 → (f (s.chan ch)).cell m = (s.chan ch).cell m) : OnlyCell ch h s (s.upd ch f) := by
  refine ⟨onlyChan_of_upd ch s f, ?_, fun m g => ?_⟩
  · obtain ⟨cs, e⟩ := e
    rw [State.upd_chan_self, e]
  · rw [State.upd_chan_self, hc m g]

theorem Chan.owns_of_live {c : Chan} {h : Nat} (r : c.coreLive h = true) : c.owns h := by
  simp only [Chan.coreLive, Bool.and_eq_true, Bool.or_eq_true, beq_iff_eq] at r
  refine ⟨Chan.cell_listed fun e => ?_, ?_⟩
  · rw [e] at r
    simp [CellSt.init] at r
  · rcases r.1.1.2 with g | g
    · exact .inl g
    · exact .inr g.2

/-- A channel after the completion report of a core: its slice ended, the instruction retired, the slice counted as done. -/
def Chan.sliceReport (c : Chan) (h : Nat) : Chan :=
  (((c.updPair h (fun k => { k with waiting := .none, slice := 0#32, posts := [] })).retire h id).l0Slice (c.core h).slice).sliceDone
    (c.core h).slice (c.core h).posts

theorem sliceCompleteReport_next {s : State} {ch : Ch} {h : Nat} (hl : (s.chan ch).coreLive h = true) (hw : ((s.chan ch).core h).waiting = .sdone)
    (hz : ((s.chan ch).core h).slice ≠ 0#32) : exec (.sliceCompleteReport ch h) s =
      .next ((s.upd ch (fun c => c.sliceReport h)).noticeDone ch (hTask ((s.chan ch).core h).slice)) :=
  (if_neg (by simp [hl, hw, hz])).trans (by rw [State.upd_congr (g := fun c => c.sliceReport h) rfl])

theorem Chan.sliceReport_core {c : Chan} {h : Nat} (o : c.owns h) : ((c.sliceReport h).core h).slice = 0#32 ∧
    ((c.sliceReport h).core h).waiting = .none ∧ ((c.sliceReport h).core h).pc = (c.core h).pc + 4#32 ∧ (c.sliceReport h).mem = c.mem := by
  unfold Chan.sliceReport
  obtain ⟨sl, e⟩ := ((c.updPair h (fun k => { k with waiting := .none, slice := 0#32, posts := [] })).retire h id).l0Slice_shape (c.core h).slice
  rw [e]
  obtain ⟨⟨cs, sl', e1⟩, n⟩ := Chan.sliceDone_shape { (c.updPair h (fun k => { k with waiting := .none, slice := 0#32, posts := [] })).retire h id with sl := sl }
    (c.core h).slice (c.core h).posts
  have n := Chan.nearCells_core n h
  rw [show Chan.core { (c.updPair h (fun k => { k with waiting := .none, slice := 0#32, posts := [] })).retire h id with sl := sl } h = _ from
    (Chan.core_retire id (Chan.owns_updPair _ _ o)).trans (by rw [Chan.core_updPair _ o])] at n
  obtain ⟨sl1, po, wa, ir, e2, h1, h2⟩ := n
  rw [e2]
  refine ⟨?_, ?_, ?_, by rw [e1]; rfl⟩
  · rcases h1 with h1 | h1 <;> simp [h1, stepped]
  · rcases h2 with h2 | h2 <;> simp [h2, stepped]
  · simp [stepped]

/-- Settles O25: each instruction by the effect that it retires with or the wait that it begins; the released instance keeps its mark
through the start of its first stage. -/
theorem sliceQueueAndWaits : Obligations.SliceQueueAndWaits := by
  intro s ch h rd rs1 n
  refine ⟨fun g hz => coreCmd_next g fun t e o => ?_, fun g hz => coreCmd_updPair g (if_neg hz) rfl, fun hl hw hz => ?_,
    fun g hw => coreCmd_retire g (if_pos hw) rfl, fun g hw => coreCmd_updPair g (if_neg (by simp [hw])) rfl, fun hl hw ho => ?_,
    fun g => coreCmd_retire g rfl rfl, fun g => coreCmd_retire g rfl ?_, fun g => coreCmd_retire g rfl rfl, fun k i hk hi ha hb hr => ?_⟩
  · rw [if_neg (not_not.mpr hz)] at e
    obtain ⟨sl, hsl⟩ := (s.chan ch).takeSlice_shape h
    have own : ((s.chan ch).takeSlice h).1.owns h := by
      rw [hsl]
      exact coreGoes_owns g
    rw [e]
    refine ⟨o, ?_, ?_⟩
    · rw [Chan.core_retire _ own, hsl]
      rfl
    · show ((s.chan ch).takeSlice h).1.mem = _
      rw [hsl]
  · obtain ⟨hs, hn, hp, hm⟩ := Chan.sliceReport_core (Chan.owns_of_live hl)
    refine ⟨_, sliceCompleteReport_next hl hw hz, ?_⟩
    obtain ⟨sl, e⟩ := State.noticeDone_shape (s.upd ch (fun c => c.sliceReport h)) ch (hTask ((s.chan ch).core h).slice)
    rw [e, State.upd_chan_self]
    exact ⟨hs, hn, hp, hm⟩
  · have own := Chan.owns_of_live hl
    have ends : (s.chan ch).waitEnds h = true := by simp [Chan.waitEnds, hl, hw, ho]
    refine ⟨_, onChan_next (g := fun c => (c.updPair h (fun k => { k with waiting := .none })).retire h id) (if_pos ends), onlyCell_of_upd ⟨_, rfl⟩ fun m hm => ?_, ?_⟩
    · rw [Chan.retire, Chan.retireBy, Chan.cell_updPair_other _ hm, Chan.cell_updPair_other _ hm]
    · rw [State.upd_chan_self, Chan.core_retire _ (Chan.owns_updPair _ _ own), Chan.core_updPair _ own]
      rfl
  · simp only [Chan.tag, Chan.isCap, decide_eq_true_eq]
    split <;> rfl
  · have e : exec (.inputFreezeComplete ch n) s = _ := onChan_next (g := fun c => ({ c with sl := c.sl.updTask n (fun (x : TaskRt) =>
        { x with inst := some { i with avail := true } }) } : Chan).startStage { k with inst := some { i with avail := true } } { i with avail := true } 0) (by
      simp only [hk, hi, ha, hb, hr, Option.map_none, Option.getD_none, Bool.or_false, Bool.false_eq_true, if_false])
    obtain ⟨k', h1, h2⟩ := Chan.startStage_task (c := { s.chan ch with sl := (s.chan ch).sl.updTask n (fun (x : TaskRt) =>
      { x with inst := some { i with avail := true } }) }) (t := { k with inst := some { i with avail := true } }) (i := { i with avail := true }) (st := 0)
      (SliceBlk.task_updTask hk fun _ => rfl) rfl (SliceBlk.task_num hk :)
    exact ⟨_, k', _, e, onlyChan_of_upd .., by rw [State.upd_chan_self]; exact h1, h2, rfl⟩

/-! Traps, fences and CSRs -/

/-- An instruction that ends in an exception: what the trap saves and sets, with the slice ended by a slice fault of a bonded cell. -/
theorem coreCmd_exception {s : State} {ch : Ch} {h : Nat} {f : Chan → Chan} {cause : Nat} {v : Word} {P : State → Prop} (g : CoreGoes s ch h)
    (e : f (s.chan ch) = (s.chan ch).exception h cause v)
    (k : ∀ t, OnlyChan ch s t → (t.chan ch).mem = (s.chan ch).mem → ((t.chan ch).core h).near (((s.chan ch).core h).trap (BitVec.ofNat 32 cause) v) →
      (((s.chan ch).cell (h / 2)).mode = .bonded → isSliceFault cause = true → ((t.chan ch).core h).slice = 0#32) →
      (isSliceFault cause = false → (t.chan ch).core h = ((s.chan ch).core h).trap (BitVec.ofNat 32 cause) v) → P t) :
    ∃ t, coreCmd s ch h f = .next t ∧ P t := by
  refine coreCmd_next g fun t e1 o => ?_
  obtain ⟨⟨cs, sl, hm⟩, hn, hs, hk⟩ := Chan.exception_shape cause v (coreGoes_owns g)
  rw [e] at e1
  exact k t o (by rw [e1, hm]) (by rw [e1]; exact hn) (by rw [e1]; exact hs) (by rw [e1]; exact hk)

/-- Cores that are near differ in no register and no trap state. -/
theorem CoreSt.near_trap {a k : CoreSt} {cause v : Word} (n : a.near (k.trap cause v)) : a.x = k.x ∧ a.mepc = k.pc ∧ a.mcause = cause ∧ a.mtval = v ∧
    a.mpie = k.mie ∧ a.mie = false ∧ a.user = false ∧ a.mppM = !k.user ∧ a.pc = k.mtvec &&& 0xFFFFFFFC#32 := by
  obtain ⟨_, _, _, _, e, -, -⟩ := n
  rw [e]
  simp

/-- Settles O26: each is the exception with its cause, but for an EBREAK that enters debug mode. -/
theorem coreTraps : Obligations.CoreTraps := by
  intro s ch h b g c trapped
  have shut {f : Chan → Chan} {cause : Nat} {v : Word} (e : f (s.chan ch) = (s.chan ch).exception h cause v) (hs : isSliceFault cause = true) :
      ∃ t, coreCmd s ch h f = .next t ∧ trapped t (BitVec.ofNat 32 cause) v ∧ (((s.chan ch).cell (h / 2)).mode = .bonded → ((t.chan ch).core h).slice = 0#32) := by
    exact coreCmd_exception g e fun t o hm hn hb _ => ⟨⟨o, hm, CoreSt.near_trap hn⟩, fun m => hb m hs⟩
  refine ⟨coreCmd_exception g rfl fun t o hm hn _ hk => ⟨⟨o, hm, ?_⟩, ?_⟩, fun hd => shut (if_neg (by rw [hd]; decide)) rfl,
    fun hd => coreCmd_updPair g (if_pos hd) rfl, shut rfl rfl, shut rfl rfl⟩
  · rw [show (if c.user = true then 8#32 else 11#32) = BitVec.ofNat 32 (if c.user then 8 else 11) from (apply_ite (BitVec.ofNat 32) ..).symm]
    exact CoreSt.near_trap hn
  · rw [hk (by split <;> rfl), CoreSt.trap_slice]

/-- A CSR read of a core that may make it is retired with the value. -/
theorem Chan.csrExec_read {c : Chan} {ch : Ch} {h rd n : Nat} {bits v : Word} (hv : c.csrValue ch h n = some v) (ha : c.csrAllowed h n false = true) :
    c.csrExec ch h rd n none bits = c.retire h (fun k => (k.setReg rd v).latchTime n c.now) := by
  unfold Chan.csrExec
  rw [hv]
  exact if_neg (by simp [ha])

/-- A CSR write of a core that may make it is retired with the value read before and the write done. -/
theorem Chan.csrExec_write {c : Chan} {ch : Ch} {h rd n : Nat} {bits v w : Word} (hv : c.csrValue ch h n = some v) (ha : c.csrAllowed h n true = true) :
    c.csrExec ch h rd n (some w) bits =
      c.retire h (fun k => ((k.setReg rd v).latchTime n c.now).writeCsr ((c.cell (h / 2)).mode == .split) n w) := by
  unfold Chan.csrExec
  rw [hv]
  exact if_neg (by simp [ha])

/-- A core in user mode may not read a CSR of machine mode. -/
theorem Chan.csrExec_user {c : Chan} {ch : Ch} {h rd n : Nat} {bits : Word} (hu : (c.core h).user = true) (hn : n / 256 % 4 ≠ 0) :
    c.csrExec ch h rd n none bits = c.exception h 2 bits := by
  unfold Chan.csrExec
  split
  · rfl
  · rw [if_pos (by simp [Chan.csrAllowed, hu, hn])]

/-- In machine mode a core may read every CSR. -/
theorem Chan.csrAllowed_machine {c : Chan} {h n : Nat} (hu : (c.core h).user = false) (w : Bool) (hw : (w && n / 1024 == 3) = false) :
    c.csrAllowed h n w = true := by
  simp [Chan.csrAllowed, hu, hw]

/-- Settles O27: each is retired with its effect, waits, or takes the trap; a CSR access by what the CSR rules serve. -/
theorem fencesWaitsAndCsrs : Obligations.FencesWaitsAndCsrs := by
  intro s ch h rd csr v w
  refine ⟨fun g => coreCmd_retire g rfl rfl, fun g => coreCmd_retire g rfl rfl, fun g hu => ?_, fun g hu => ?_, fun g hu => ?_, fun g hu => ?_,
    fun g ha hv => ?_, fun g hu hn => ?_, fun g hu => ?_, fun hr hc ha => ?_⟩
  · rcases Bool.eq_false_or_eq_true (((s.chan ch).core h).meip && ((s.chan ch).core h).meie) with hm | hm
    · rw [if_pos hm]
      exact coreCmd_retire (k := id) g ((if_neg (by simp [hu])).trans (if_pos hm)) rfl
    · rw [if_neg (by simp [hm])]
      exact coreCmd_updPair g ((if_neg (by simp [hu])).trans (if_neg (by simp [hm]))) rfl
  · exact coreCmd_exception g (if_pos hu) fun t _ _ hn _ _ => ⟨(CoreSt.near_trap hn).2.2.1, (CoreSt.near_trap hn).2.1⟩
  · exact coreCmd_retire g ((if_pos rfl).trans (Chan.csrExec_read rfl (Chan.csrAllowed_machine hu false rfl))) rfl
  · exact coreCmd_retire g ((if_pos rfl).trans (Chan.csrExec_read rfl (Chan.csrAllowed_machine hu false rfl))) rfl
  · exact coreTick_retire g (Chan.csrExec_read hv ha) rfl
  · obtain ⟨-, hm, -, -⟩ := Chan.exception_shape 2 (encCsr rd csr false (Config.freeWord s.free)) (coreGoes_owns g)
    have near := CoreSt.near_trap hm
    refine ⟨_, coreTick_goes g _, ?_⟩
    rw [State.upd_chan_self, State.tick_chan, if_neg Bool.false_ne_true, Chan.csrExec_user hu hn]
    exact ⟨near.2.2.1, near.2.1, near.1⟩
  · obtain ⟨t, e, o, hk⟩ := coreTick_retire (ch := ch) (f := fun c => c.csrExec ch h 0 0x7C2 (some w) (encCsr 0 0x7C2 true (Config.freeWord s.free))) g
      (Chan.csrExec_write rfl (Chan.csrAllowed_machine hu true rfl)) rfl
    exact ⟨t, e, o, by rw [hk]; simp [stepped]; rfl, by rw [hk]; simp [stepped]; rfl⟩
  · have e : exec (.externalInterrupt ch h) s = .next (s.upd ch (fun c => c.updPair h (fun k => k.trap 0x8000000B#32 0#32))) :=
      (guardC_true hr).trans (congrArg _ (State.upd_congr (by rw [if_neg (by simp [hc]), if_pos (show CoreSt.acks _ = true from ha)])))
    refine ⟨_, e, onlyCell_of_updPair .., ?_⟩
    rw [State.upd_chan_self, Chan.core_updPair _ (Chan.owns_of_runs hr)]
    simp

/-! Loads and stores -/

theorem plainAddr_not_reg {a : Nat} (h : plainAddr a) : isReg a = false := by
  unfold plainAddr at h
  simp [isReg, inRange]
  omega

theorem plainAddr_add {a n i : Nat} (h : plainAddr a) (hn : n = 1 ∨ n = 2 ∨ n = 4) (ha : a % n = 0) (hi : i < n) : plainAddr (a + i) := by
  unfold plainAddr at h ⊢
  rcases hn with e | e | e <;> subst e <;> omega

theorem plainAddr_lt {a : Nat} (h : plainAddr a) : a < 4294967296 := by
  unfold plainAddr at h
  omega

theorem CoreSt.stepped_x (k : CoreSt) : (stepped k).x = k.x := by simp [stepped]

theorem Chan.core_retireBy {c : Chan} {h : Nat} (n : Nat) (f : CoreSt → CoreSt) (o : c.owns h) : (c.retireBy h n f).core h = (f (c.core h)).behind n :=
  Chan.core_updPair _ o

theorem CoreSt.behind_x (k : CoreSt) (n : Nat) : (k.behind n).x = k.x := by simp [CoreSt.behind]

theorem CoreSt.setReg_x (k j : CoreSt) (n : Nat) (v : Word) (h : j.x = k.x) : (j.setReg n v).x = (k.setReg n v).x := by
  unfold CoreSt.setReg
  split
  · exact h
  · simp [h]

theorem CoreSt.cacheLoad_x (k : CoreSt) (a n : Nat) : (k.cacheLoad a n).x = k.x := by
  unfold CoreSt.cacheLoad
  split <;> rfl

/-- A served store of plain memory. -/
theorem plainStore_next {s : State} {ch : Ch} {h n a : Nat} (data : Word) (rd : Nat) (sg : Bool) (g : CoreGoes s ch h) (hn : n = 1 ∨ n = 2 ∨ n = 4)
    (ha : a % n = 0) (hp : plainAddr a) (vs : (s.chan ch).verdict (.core h) true a = .served) (hs : (s.chan ch).hit h 1 a = none) :
    exec (.coreLoadStore ch (.core h) true n a data rd sg) s = .next ((s.tick.upd ch (fun c => c.storeN a n data.toNat)).upd ch
      (fun c => c.retireBy h (if Config.compressed s.free then 2 else 4) id)) := by
  refine (coreAccess_goes g true data rd sg hn (plainAddr_lt hp) hs).trans ?_
  rw [if_neg (by simp [aligned, ha]), vs]
  simp only [if_true, State.busWrite, plainAddr_not_reg hp, Bool.false_eq_true, if_false]

/-- A served load of plain memory. -/
theorem plainLoad_next {s : State} {ch : Ch} {h n a : Nat} (data : Word) (rd : Nat) (sg : Bool) (g : CoreGoes s ch h) (hn : n = 1 ∨ n = 2 ∨ n = 4)
    (ha : a % n = 0) (hp : plainAddr a) (vl : (s.chan ch).verdict (.core h) false a = .served) (hl : (s.chan ch).hit h 0 a = none) :
    exec (.coreLoadStore ch (.core h) false n a data rd sg) s = .next (s.tick.upd ch (fun c => c.retireBy h (if Config.compressed s.free then 2 else 4)
      (fun k => (k.cacheLoad a n).setReg rd (extend n sg (leN ((List.range n).map (fun i => (s.chan ch).byteAt (a + i)))))))) := by
  refine (coreAccess_goes g false data rd sg hn (plainAddr_lt hp) hl).trans ?_
  rw [if_neg (by simp [aligned, ha]), vl]
  simp only [State.busSide, State.busValue, plainAddr_not_reg hp, Bool.false_eq_true, if_false, State.tick_chan, Chan.loadN_eq]

/-- Settles O28: a served access of plain memory is the store of its octets, or the load of them, and the retirement of the core. -/
theorem storesThenLoadsOfPlainMemory : Obligations.StoresThenLoadsOfPlainMemory := by
  intro s ch h n a rd data sg g hn ha hp vs vl hs hl
  constructor
  · obtain ⟨m, e, h1, h2, h3⟩ := Chan.storeN_plain n (c := s.chan ch) (a := a) data.toNat fun i hi => plainAddr_add hp hn ha hi
    have own : ({ s.chan ch with mem := m } : Chan).owns h := coreGoes_owns g
    refine ⟨_, plainStore_next data rd sg g hn ha hp vs hs, onlyChan_trans (onlyChan_of_tick_upd ch s _) (onlyChan_of_upd ch _ _), ?_⟩
    rw [State.upd_chan_self, State.upd_chan_self, State.tick_chan, e]
    refine ⟨fun i hi => ?_, fun x hx => Chan.byteAt_congr (h2 x hx), h3, rfl, ?_⟩
    · exact (Chan.byteAt_plain (plainAddr_add hp hn ha hi)).trans (h1 i hi)
    · rw [Chan.core_retireBy _ _ own, CoreSt.behind_x]
      rfl
  · refine ⟨_, plainLoad_next data rd sg g hn ha hp vl hl, onlyCell_of_tick_updPair .., ?_⟩
    rw [State.upd_chan_self, State.tick_chan, Chan.core_retireBy _ _ (coreGoes_owns g), CoreSt.behind_x]
    exact CoreSt.setReg_x _ _ _ _ (CoreSt.cacheLoad_x ..)

theorem Chan.refuse_viol (c : Chan) (h : Nat) (w : Bool) (a : Word) (f : Nat) :
    ∃ y, c.refuse (.core h) w a.toNat (some f) = { c with sys := y } ∧ y.viol = c.sys.viol.raise f ∧
      (c.sys.viol.bits = 0#32 → y.vaddr = a) ∧ (c.sys.viol.bits ≠ 0#32 → y.vaddr = c.sys.vaddr) := by
  refine ⟨_, rfl, ?_⟩
  dsimp only
  split <;> rename_i z
  · exact ⟨rfl, fun _ => BitVec.ofNat_toNat .., fun n => absurd z n⟩
  · exact ⟨rfl, fun n => absurd n z, fun _ => rfl⟩

/-- Settles O29: a misaligned access and one that the rights refuse end in the exception; a refusal goes through the violation register first. -/
theorem refusedAccessesTrap : Obligations.RefusedAccessesTrap := by
  intro s ch h n rd f a data wr sg g hn hh
  constructor
  · intro ha hv
    refine ⟨_, coreAccess_goes g wr data rd sg hn a.isLt hh, ?_⟩
    rw [if_neg (by simp [aligned, ha]), hv]
    dsimp only
    obtain ⟨y, e, h1, h2, h3⟩ := (s.chan ch).refuse_viol h wr a f
    obtain ⟨⟨cs, sl, hm⟩, hn, -, -⟩ := Chan.exception_shape (c := { s.chan ch with sys := y }) (if wr then 7 else 5) (BitVec.ofNat 32 a.toNat)
      (show Chan.owns { s.chan ch with sys := y } h from coreGoes_owns g)
    obtain ⟨hx, -, hc, ht, -⟩ := CoreSt.near_trap hn
    rw [State.upd_chan_self, State.tick_chan, Chan.notServed, e]
    refine ⟨onlyChan_of_tick_upd ch s _, by rw [hm], hx, hc.trans (apply_ite ..), ht.trans (BitVec.ofNat_toNat ..), ?_⟩
    rw [hm]
    exact ⟨h1, h2, h3⟩
  · intro ha
    refine ⟨_, coreAccess_goes g wr data rd sg hn a.isLt hh, ?_⟩
    rw [if_pos (by simp [aligned, ha])]
    obtain ⟨⟨cs, sl, hm⟩, hn, -, -⟩ := Chan.exception_shape (if wr then 6 else 4) (BitVec.ofNat 32 a.toNat) (coreGoes_owns g)
    obtain ⟨hx, -, hc, ht, -⟩ := CoreSt.near_trap hn
    rw [State.upd_chan_self, State.tick_chan]
    exact ⟨onlyChan_of_tick_upd ch s _, by rw [hm], hx, hc.trans (apply_ite ..), ht.trans (BitVec.ofNat_toNat ..)⟩

/-! Lock-step -/

theorem Chan.post_chron (c : Chan) (typ origin : Nat) (p : List Byte) : ∃ x, c.post typ origin p = { c with chron := x } := by
  unfold Chan.post
  split
  · exact ⟨_, rfl⟩
  · split <;> exact ⟨_, rfl⟩

theorem Chan.notice_vote (c : Chan) (a : Ch) (n : Nat) : ∃ v, c.notice a n = { c with vote := v } := by
  unfold Chan.notice
  dsimp only
  split <;> exact ⟨_, rfl⟩

theorem foldl_modAt_other {α : Type} (p : Nat → Bool) (f : α → α) {n : Nat} (h : p n = false) : ∀ (l : List Nat) (cs : List α),
    (l.foldl (fun cs n => if p n then modAt f n cs else cs) cs)[n]? = cs[n]?
  | [], _ => rfl
  | a :: l, cs => by
    rw [List.foldl_cons, foldl_modAt_other p f h l]
    split <;> rename_i e
    · exact getElem?_modAt_other f cs fun z => by simp [← z, h] at e
    · rfl

/-- AVAIL_P of the bonded cells changes no cell that is not bonded. -/
theorem Chan.availAll_cell {c : Chan} {n : Nat} (h : (c.cell n).mode ≠ .bonded) : (c.availAll false).cell n = c.cell n := by
  refine congrArg (fun x => Option.getD x CellSt.init) (foldl_modAt_other _ _ ?_ _ _)
  exact Bool.and_eq_false_imp.mpr fun e => absurd (beq_iff_eq.mp e) h

/-- The end of an instance changes no cell whose cores hold no slice. -/
theorem Chan.dropInst_cell {c : Chan} {n m : Nat} (h0 : (c.cell n).core0.slice = 0#32) (h1 : (c.cell n).core1.slice = 0#32) :
    (c.dropInst m).cell n = c.cell n := by
  unfold Chan.dropInst
  unfold Chan.cell at h0 h1 ⊢
  dsimp only
  rw [List.getElem?_map]
  cases e : c.cells[n]? with
  | none => rfl
  | some x =>
    rw [e] at h0 h1
    simp only [Option.map_some, Option.getD_some] at h0 h1 ⊢
    simp only [h0, h1, ne_eq, not_true_eq_false, decide_false, Bool.false_and, Bool.false_eq_true, if_false]

/-- A slice fault changes no cell that is not bonded and holds no slice. -/
theorem Chan.sliceFault_cell {c : Chan} {n : Nat} (hm : (c.cell n).mode ≠ .bonded) (h0 : (c.cell n).core0.slice = 0#32) (h1 : (c.cell n).core1.slice = 0#32)
    (m : Nat) (h : Word) (cause : Nat) : (c.sliceFault m h cause).cell n = c.cell n := by
  unfold Chan.sliceFault
  split
  · rfl
  · split
    · rfl
    · dsimp only
      split
      · exact Chan.dropInst_cell h0 h1
      · exact Chan.availAll_cell hm

/-- A bonded cell after its halt: in reset, with its first capture. -/
def CellSt.halt (x : CellSt) (sig : Bool) (g : BitVec 13) : CellSt := { CellSt.init with mode := .halted, cap := some (x.cap.getD ⟨sig, g, x.core0.pc⟩) }

/-- What a mismatch leaves of a bonded cell: the cell in reset with the first capture, the flag and the halt kept. -/
theorem Chan.haltCell_bonded {c : Chan} {n : Nat} (hb : (c.cell n).mode = .bonded) (ch : Ch) (sig : Bool) (g : BitVec 13) :
    (c.haltCell ch n sig g).cell n = (c.cell n).halt sig g ∧
    (c.haltCell ch n sig g).sys.cmp = c.sys.cmp.raise (if sig then 8 + n else n) ∧
    (c.haltCell ch n sig g).mram.halts = c.mram.halts ++ [(n, c.mram.opsec)] := by
  have hl : n < c.cells.length := Chan.cell_listed fun e => by simp [e, CellSt.init] at hb
  unfold Chan.haltCell
  extract_lets x k hd debug cap _ x1 _ _ _ _ c1 c2 c3
  rw [if_neg (not_not.mpr hb)]
  have h1 : c1.cell n = (c.cell n).halt sig g := Chan.cell_updCell_self _ hl
  have h2 : c2.cell n = (c.cell n).halt sig g ∧ c2.sys = c1.sys ∧ c2.mram = c1.mram := by
    obtain ⟨y, e⟩ := c1.post_chron 0x08 17 (leB 1 n ++ leB 1 0 ++ leB 2 0 ++ payW [x1.capWord, k.pc, hd])
    exact ⟨by rw [show c2 = _ from e]; exact h1, by rw [show c2 = _ from e], by rw [show c2 = _ from e]⟩
  have h3 : c3.cell n = (c.cell n).halt sig g ∧ c3.sys = c1.sys ∧ c3.mram = c1.mram := by
    unfold c3
    split
    · exact h2
    · obtain ⟨⟨cs, sl, e⟩, -⟩ := c2.sliceFault_shape n hd (if sig then 0xF1 else 0xF0)
      refine ⟨?_, by rw [e]; exact h2.2.1, by rw [e]; exact h2.2.2⟩
      rw [Chan.sliceFault_cell (by rw [h2.1]; exact CellMode.noConfusion) (by rw [h2.1]; rfl) (by rw [h2.1]; rfl), h2.1]
  have h4 : (if c3.bondedCount < c3.sys.minBonded then c3.notice ch 0x05 else c3).cell n = c3.cell n ∧
      (if c3.bondedCount < c3.sys.minBonded then c3.notice ch 0x05 else c3).sys = c3.sys ∧
      (if c3.bondedCount < c3.sys.minBonded then c3.notice ch 0x05 else c3).mram = c3.mram := by
    split
    · obtain ⟨v, e⟩ := c3.notice_vote ch 0x05
      rw [e]
      exact ⟨rfl, rfl, rfl⟩
    · exact ⟨rfl, rfl, rfl⟩
  rw [h4.1, h4.2.1, h4.2.2, h3.1, h3.2.1, h3.2.2]
  exact ⟨rfl, rfl, rfl⟩

/-- A cell with the signatures compared and the request ended. -/
def CellSt.signed (x : CellSt) (a b : W64) : CellSt :=
  { x with core0 := { x.core0 with sig := a }, core1 := { x.core1 with sig := b }, sigReq := false }

theorem Chan.mode_signed {c : Chan} {n : Nat} (hb : (c.cell n).mode = .bonded) (a b : W64) :
    ((c.updCell n (fun y => y.signed a b)).cell n).mode = .bonded := by
  rw [Chan.cell_updCell_self _ (Chan.cell_listed fun e => by simp [e, CellSt.init] at hb)]
  exact hb

/-- Settles O30: the halt by what it leaves of a bonded cell; a comparison that agrees writes the signatures and ends the request. -/
theorem lockStepHaltsTheCell : Obligations.LockStepHaltsTheCell := by
  intro s ch n g hb
  have hl : n < (s.chan ch).cells.length := Chan.cell_listed fun e => by simp [e, CellSt.init] at hb
  have compared (hq : ((s.chan ch).cell n).sigReq = true) : exec (.signatureCompare ch n) s = onChan s ch (fun c =>
      if crc64 (wordBytes ((s.chan ch).cell n).snap0) = crc64 (wordBytes ((s.chan ch).cell n).snap1) then
        c.updCell n (fun y => y.signed (crc64 (wordBytes ((s.chan ch).cell n).snap0)) (crc64 (wordBytes ((s.chan ch).cell n).snap1)))
      else (c.updCell n (fun y => y.signed (crc64 (wordBytes ((s.chan ch).cell n).snap0)) (crc64 (wordBytes ((s.chan ch).cell n).snap1)))).haltCell ch n true 0#13) :=
    onChan_next (if_neg (by simp [hb, hq]))
  refine ⟨fun hg => ?_, fun hq he => ?_, fun hq he => ?_⟩
  · refine onChan_goes fun t e o => ?_
    obtain ⟨h1, h2, h3⟩ := Chan.haltCell_bonded hb ch false g
    rw [e, if_neg hg, h1]
    exact ⟨o, rfl, rfl, rfl, h2, h3⟩
  · rw [compared hq]
    refine ⟨_, onChan_next (g := fun c => c.updCell n (fun y => y.signed _ _)) (if_pos he), ?_, ?_⟩
    · exact onlyCell_of_upd ⟨_, rfl⟩ fun m hm => Chan.cell_updCell_other _ (by omega)
    · rw [State.upd_chan_self, Chan.cell_updCell_self _ hl, ← he]
      rfl
  · rw [compared hq]
    refine onChan_goes fun t e o => ?_
    rw [if_neg he] at e
    obtain ⟨h1, h2, -⟩ := Chan.haltCell_bonded (Chan.mode_signed hb _ _) ch true 0#13
    rw [e, h1]
    exact ⟨o, rfl, h2⟩

end Sys2Proof.Machine
end


/-! PROOFS. The debug module: actions on a hart, the program buffer, the system bus. -/

section
namespace Sys2Proof.Machine
open Sys2Proof Sys2Proof.Safety

/-- A channel whose debug module has taken up an action on hart `h`. -/
def Chan.dbgOn (c : Chan) (h : Nat) : Chan := { c with dbg := { c.dbg with active := true, dmiOp := 0, hartsel := h } }

theorem Chan.core_dbgOn (c : Chan) (h n : Nat) : (c.dbgOn h).core n = c.core n := rfl

theorem debugServes_owns {s : State} {ch : Ch} {h : Nat} (d : DebugServes s ch h) : (s.chan ch).owns h := by
  obtain ⟨-, -, -, -, -, hm⟩ := d
  refine ⟨Chan.cell_listed fun e => ?_, hm.imp id And.right⟩
  rw [e] at hm
  simp [CellSt.init] at hm

/-- An action on a hart that the debug module serves. -/
theorem Chan.onHartOr_served {s : State} {ch : Ch} {h : Nat} (d : DebugServes s ch h) (g f : Chan → Chan) :
    (s.chan ch).onHartOr h g f = f ((s.chan ch).dbgOn h) := by
  obtain ⟨hon, htap, hm9, hlog, hh, hm⟩ := d
  have hex : ((s.chan ch).dbgOn h).hartExists h = true := by
    rcases hm with m | ⟨-, m⟩ <;> simp [Chan.hartExists, hh, Chan.dbgOn, Chan.cell] at m ⊢ <;> simp [m]
  have hav : ((s.chan ch).dbgOn h).hartUnavail h = false := by
    rcases hm with m | ⟨m, -⟩ <;> simp [Chan.hartUnavail, Chan.dbgOn, Chan.cell] at m ⊢ <;> simp [m]
  unfold Chan.onHartOr
  rw [Chan.dmi_served _ hon htap hm9 hlog]
  show (if (!((s.chan ch).dbgOn h).hartExists h) = true then _ else if ((s.chan ch).dbgOn h).hartUnavail h = true then _ else f ((s.chan ch).dbgOn h)) = _
  rw [hex, hav]
  rfl

theorem Chan.onHart_served {s : State} {ch : Ch} {h : Nat} (d : DebugServes s ch h) (f : Chan → Chan) :
    (s.chan ch).onHart h f = f ((s.chan ch).dbgOn h) := Chan.onHartOr_served d id f

theorem Chan.abstractCmd_served {s : State} {ch : Ch} {h : Nat} (d : DebugServes s ch h) (hl : ((s.chan ch).core h).halted = true) (f : Chan → Chan) :
    (s.chan ch).abstractCmd h f = f ((s.chan ch).dbgOn h) := (Chan.onHartOr_served d _ _).trans (if_pos hl)

/-- One action of the kind on the hart has entered the log, and memory and the other channels are as before. -/
def Logged (ch : Ch) (h kind : Nat) (s t : State) : Prop :=
  OnlyChan ch s t ∧ (t.chan ch).mem = (s.chan ch).mem ∧ ∃ e, (t.chan ch).dbg.log = (s.chan ch).dbg.log ++ [e] ∧ e.kind = kind ∧ e.hart = h

/-- An action that changes its hart and is logged. -/
theorem logged_updPair {s t : State} {ch : Ch} {h kind : Nat} {f : CoreSt → CoreSt} {r : CoreSt} {x : DebugBlk} {w v : Word} (o : OnlyChan ch s t)
    (own : (s.chan ch).owns h) (e : t.chan ch = (({ s.chan ch with dbg := x } : Chan).updPair h f).logAct h kind w v)
    (hx : x.log = (s.chan ch).dbg.log) (hr : f ((s.chan ch).core h) = r) : Logged ch h kind s t ∧ (t.chan ch).core h = r := by
  rw [e]
  refine ⟨⟨o, by rw [e]; rfl, _, by rw [e, ← hx]; rfl, rfl, rfl⟩, ?_⟩
  rw [← hr]
  exact Chan.core_updPair (c := { s.chan ch with dbg := x }) f own

theorem decode32_ebreak : decode32 (115 + 65536 * 16) = some .ebreak := by decide
theorem decode32_addi : decode32 (33427 + 65536 * 162) = some (.opImm 0 false 5 5 10#32) := by decide

theorem State.bufRun_ebreak (s : State) (ch : Ch) (h : Nat) (r : List Nat) : s.bufRun ch h (115 :: 16 :: r) = (s, true) := by
  rw [State.bufRun, if_neg (by decide), decode32_ebreak]

theorem State.bufRun_addi (s : State) (ch : Ch) (h : Nat) (r : List Nat) : s.bufRun ch h (33427 :: 162 :: r) =
    (s.upd ch (fun c => c.updPair h (fun k => k.setReg 5 (k.reg 5 + 10#32)))).bufRun ch h r := by
  have plain (k : CoreSt) : k.plain 4 (.opImm 0 false 5 5 10#32) = some ((k.setReg 5 (k.reg 5 + 10#32)).behind 4) := rfl
  have e (k : CoreSt) : ({ k with x := ((k.plain 4 (.opImm 0 false 5 5 10#32)).getD k).x } : CoreSt) = k.setReg 5 (k.reg 5 + 10#32) := by
    rw [plain, Option.getD_some, CoreSt.behind_x]
    rfl
  have op : s.bufOp ch h (.opImm 0 false 5 5 10#32) = some (s.upd ch (fun c => c.updPair h (fun k => k.setReg 5 (k.reg 5 + 10#32)))) :=
    congrArg (fun f => some (s.upd ch (fun c => c.updPair h f))) (funext e)
  rw [State.bufRun, if_neg (by decide), decode32_addi]
  dsimp only
  rw [op]

/-- The half-words of a program buffer. -/
def halfWords (ws : List Word) : List Nat := ws.flatMap (fun w => [w.toNat % 65536, w.toNat / 65536])

theorem halfWords_cons (w : Word) (ws : List Word) : halfWords (w :: ws) = w.toNat % 65536 :: w.toNat / 65536 :: halfWords ws := rfl

theorem fixW_cons (n : Nat) (w : Word) (ws : List Word) : fixW (n + 1) (w :: ws) = w :: fixW n ws := by simp [fixW]

theorem debugServes_room {s : State} {ch : Ch} {h : Nat} (d : DebugServes s ch h) (hl : ((s.chan ch).core h).halted = true) :
    ((s.chan ch).sys.mode = .m9 && (s.chan ch).dbg.log.length < 256 && !((s.chan ch).sys.cstate = .off || (s.chan ch).tapCut) && (s.chan ch).hartExists h &&
      !(s.chan ch).hartUnavail h && ((s.chan ch).core h).halted) = true := by
  obtain ⟨hon, htap, hm9, hlog, hh, hm⟩ := d
  have hex : (s.chan ch).hartExists h = true := by
    rcases hm with m | ⟨-, m⟩ <;> simp [Chan.hartExists, hh, m]
  have hav : (s.chan ch).hartUnavail h = false := by
    rcases hm with m | ⟨m, -⟩ <;> simp [Chan.hartUnavail, m]
  simp [hon, htap, hm9, hlog, hex, hav, hl]

/-- A program buffer that runs on a halted hart: its words from the debug module on, and the action logged behind it. -/
theorem programBuffer_next {s : State} {ch : Ch} {h : Nat} (d : DebugServes s ch h) (hl : ((s.chan ch).core h).halted = true) (ws : List Word) :
    exec (.debugProgramBufferExec ch ⟨h, ws⟩) s =
      let s' := s.upd ch (fun c => { c.dbgOn h with dbg := { (c.dbgOn h).dbg with progbuf := fixW 8 ws } })
      let r := s'.bufRun ch h (halfWords (fixW 8 ws))
      .next (r.1.upd ch (fun c => ({ c with dbg := { c.dbg with cmderr := if r.2 then c.dbg.cmderr else 3 } }).logAct h 5 ((s.chan ch).core h).dpc 0#32)) := by
  refine (if_neg ?_).trans ?_
  · rw [debugServes_room d hl]
    decide
  · dsimp only
    rw [Chan.abstractCmd_served d hl]
    rfl

/-- Settles O32: each action by what the served hart does and the entry it makes; a program buffer by its decoded words up to EBREAK. -/
theorem debugActionsInMaintenance : Obligations.DebugActionsInMaintenance := by
  intro s ch h n v w hn d c logged
  have own := debugServes_owns d
  refine ⟨fun hl => onChan_goes fun t e o => ?_, fun hl => onChan_goes fun t e o => ?_, fun hl => onChan_goes fun t e o => ?_,
    fun hl => onChan_goes fun t e o => ?_, fun hl => onChan_goes fun t e o => ?_, fun hl ws => ?_, fun hl ws => ?_, fun k hk => ?_,
    onChan_goes fun t e o => ?_, onChan_goes fun t e o => ?_⟩
  · rw [Chan.onHart_served d] at e
    exact logged_updPair o own e rfl (if_neg (Bool.eq_false_iff.mp hl))
  · rw [Chan.onHart_served d] at e
    exact logged_updPair o own e rfl (if_pos hl)
  · rw [Chan.onHart_served d] at e
    exact logged_updPair o own e rfl (if_pos hl)
  · rw [Chan.abstractCmd_served d hl] at e
    simp only [show ((s.chan ch).dbgOn h).dbgRead ch h (.gpr n) = some (c.reg n) from if_pos hn] at e
    rw [e]
    exact ⟨⟨o, by rw [e]; rfl, _, by rw [e]; rfl, rfl, rfl⟩, rfl, rfl⟩
  · rw [Chan.abstractCmd_served d hl] at e
    simp only [Chan.dbgRead, hn, if_true] at e
    exact logged_updPair o own e rfl rfl
  · refine ⟨_, programBuffer_next d hl _, ?_⟩
    simp only [fixW_cons, halfWords_cons, show (0x00100073#32).toNat % 65536 = 115 from rfl, show (0x00100073#32).toNat / 65536 = 16 from rfl,
      State.bufRun_ebreak, State.upd_upd, State.upd_chan_self, if_true]
    exact ⟨⟨onlyChan_of_upd .., by rw [State.upd_chan_self]; rfl, _, by rw [State.upd_chan_self]; rfl, rfl, rfl⟩, rfl, rfl⟩
  · refine ⟨_, programBuffer_next d hl _, ?_⟩
    simp only [fixW_cons, halfWords_cons, show (0x00100073#32).toNat % 65536 = 115 from rfl, show (0x00100073#32).toNat / 65536 = 16 from rfl,
      show (0x00A28293#32).toNat % 65536 = 33427 from rfl, show (0x00A28293#32).toNat / 65536 = 162 from rfl,
      State.bufRun_addi, State.bufRun_ebreak, State.upd_upd, State.upd_chan_self, if_true]
    have core := Chan.core_updPair (c := (s.chan ch).dbgOn h) (fun k => k.setReg 5 (k.reg 5 + 10#32)) own
    refine ⟨⟨onlyChan_of_upd .., ?_, ?_⟩, core, ?_⟩
    · rw [State.upd_chan_self]
      rfl
    · rw [State.upd_chan_self]
      exact ⟨_, rfl, rfl, rfl⟩
    · rfl
  · have e : exec (.debugTriggerWrite ch h k v w) s = .next (s.tick.upd ch (fun c => ((c.dbgOn h).updPair h (fun x =>
        { x with trig := modAt (fun _ => ⟨v, w⟩) k x.trig })).logAct h 8 (BitVec.ofNat 32 k) (if Config.freeBit s.free then v else w))) := by
      refine congrArg _ (State.upd_congr (s := s.tick) ?_)
      rw [State.tick_chan, Chan.onHart_served d]
      exact if_neg (Nat.not_le.mpr hk)
    exact ⟨_, e, logged_updPair (onlyChan_of_tick_upd ch s _) own (State.upd_chan_self ..) rfl rfl⟩
  · rw [if_neg (by simp [d.1, d.2.1])] at e
    rw [e]
    exact ⟨rfl, rfl, o⟩
  · rw [if_neg (by simp [d.1, d.2.1])] at e
    rw [e]
    exact ⟨rfl, rfl, o⟩

theorem Chan.dmi_refused {c : Chan} (f : Chan → Chan) (hon : c.sys.cstate ≠ .off) (htap : c.tapCut = false) (hm : c.sys.mode ≠ .m9) :
    c.dmi f = { c with dbg := { c.dbg with dmiOp := 2, flag := c.dbg.flag.raise 1 } } := by
  unfold Chan.dmi
  rw [if_neg (by simp [hon, htap]), if_pos hm]

theorem Chan.onHartOr_refused {c : Chan} (h : Nat) (g f : Chan → Chan) (hon : c.sys.cstate ≠ .off) (htap : c.tapCut = false) (hm : c.sys.mode ≠ .m9) :
    c.onHartOr h g f = { c with dbg := { c.dbg with dmiOp := 2, flag := c.dbg.flag.raise 1 } } :=
  Chan.dmi_refused (Chan.hartAct h g f) hon htap hm

/-- Outside M9 the system bus performs nothing. -/
theorem State.sysBus_refused {s : State} {ch : Ch} (hon : (s.chan ch).sys.cstate ≠ .off) (htap : (s.chan ch).tapCut = false) (hm : (s.chan ch).sys.mode ≠ .m9)
    (wr : Bool) (n a : Nat) (v : Word) : s.sysBus ch wr n a v =
      s.upd ch (fun c => { c with dbg := { c.dbg with dmiOp := 2, flag := c.dbg.flag.raise 1 } }) := by
  unfold State.sysBus
  dsimp only
  rw [if_pos (by simp [hm]), Chan.dmi_refused _ hon htap hm]
  exact State.upd_congr rfl

section
variable {s : State} {ch : Ch} {h n a : Nat} (d : DebugServes s ch h) (hn : n = 1 ∨ n = 2 ∨ n = 4) (ha : a % n = 0) (hp : plainAddr a)
include d hn ha hp

/-- A served system bus write is stored and logged. -/
theorem State.sysBus_write (v : Word) (hv : (s.chan ch).verdict .debug true a = .served) : s.sysBus ch true n a v = s.upd ch (fun c =>
    let x := ({ c with dbg := { c.dbg with active := true, dmiOp := 0, sberror := 0 } } : Chan).storeN a n v.toNat
    ({ x with dbg := { x.dbg with sbdata := v } } : Chan).logAct x.dbg.hartsel 7 (BitVec.ofNat 32 a) v) := by
  obtain ⟨hon, htap, hm9, hlog, -⟩ := d
  have ver (x : DebugBlk) : ({ s.chan ch with dbg := x } : Chan).verdict .debug true a = .served := hv
  unfold State.sysBus
  simp only [Chan.dmi_served _ hon htap hm9 hlog, sizeOk_of_width hn, aligned_of_mod ha, hon, htap, hm9, State.busWrite, plainAddr_not_reg hp, ver,
    Nat.not_le.2 hlog, State.upd_upd, State.upd_chan_self, ne_eq, not_true_eq_false, decide_false, Bool.or_false, Bool.not_true, Bool.false_eq_true, if_false, if_true]
  exact State.upd_congr rfl

/-- A served system bus read keeps its value and is logged. -/
theorem State.sysBus_read (hv : (s.chan ch).verdict .debug false a = .served) : s.sysBus ch false n a 0#32 = s.upd ch (fun c =>
    ({ c with dbg := { c.dbg with active := true, dmiOp := 0, sberror := 0, sbdata := BitVec.ofNat 32 (c.loadN a n) } } : Chan).logAct
      c.dbg.hartsel 6 (BitVec.ofNat 32 a) (BitVec.ofNat 32 (c.loadN a n))) := by
  obtain ⟨hon, htap, hm9, hlog, -⟩ := d
  have ver (x : DebugBlk) : ({ s.chan ch with dbg := x } : Chan).verdict .debug false a = .served := hv
  have load (x : DebugBlk) : ({ s.chan ch with dbg := x } : Chan).loadN a n = (s.chan ch).loadN a n := by
    rw [Chan.loadN_eq, Chan.loadN_eq]
    rfl
  unfold State.sysBus
  simp only [Chan.dmi_served _ hon htap hm9 hlog, sizeOk_of_width hn, aligned_of_mod ha, hon, htap, hm9, State.busSide, State.busValue,
    plainAddr_not_reg hp, ver, load, Nat.not_le.2 hlog, State.upd_upd, State.upd_chan_self, ne_eq, not_true_eq_false, decide_false, Bool.or_false,
    Bool.not_true, Bool.false_eq_true, if_false]
  exact State.upd_congr rfl
end

/-- Settles O33: outside M9 the DMI refuses every action; in M9 a served system bus access is the store, or the load, of plain memory. -/
theorem debugBusAccesses : Obligations.DebugBusAccesses := by
  intro s ch h n a trig r v w ws
  refine ⟨fun i hi hon htap hm => ?_, fun d hn ha hp vs vl => ⟨?_, ?_⟩⟩
  · have act (F : Chan → Chan) {h : Nat} {g f : Chan → Chan} (e : F (s.chan ch) = (s.chan ch).onHartOr h g f) :
        ∃ t, onChan s ch F = .next t ∧ OnlyChan ch s t ∧
          t.chan ch = { s.chan ch with dbg := { (s.chan ch).dbg with dmiOp := 2, flag := (s.chan ch).dbg.flag.raise 1 } } :=
      ⟨_, rfl, onlyChan_of_upd .., (State.upd_chan_self ..).trans (e.trans (Chan.onHartOr_refused h g f hon htap hm))⟩
    have bus (wr : Bool) (a : Nat) (v : Word) : OnlyChan ch s (s.sysBus ch wr 4 a v) ∧ (s.sysBus ch wr 4 a v).chan ch =
        { s.chan ch with dbg := { (s.chan ch).dbg with dmiOp := 2, flag := (s.chan ch).dbg.flag.raise 1 } } := by
      rw [State.sysBus_refused hon htap hm]
      exact ⟨onlyChan_of_upd .., State.upd_chan_self ..⟩
    simp only [List.mem_cons, List.mem_nil_iff, or_false] at hi
    rcases hi with rfl | rfl | rfl | rfl | rfl | rfl | rfl | rfl | rfl
    · exact act _ rfl
    · exact act _ rfl
    · exact act _ rfl
    · exact act _ rfl
    · exact act _ rfl
    · refine ⟨_, if_pos (by simp [hm]), onlyChan_of_upd .., (State.upd_chan_self ..).trans (Chan.onHartOr_refused _ _ _ hon htap hm)⟩
    · exact ⟨_, rfl, onlyChan_of_tick_upd .., (State.upd_chan_self ..).trans (Chan.onHartOr_refused _ _ _ hon htap hm)⟩
    · exact ⟨_, rfl, bus false _ _⟩
    · exact ⟨_, rfl, bus true _ _⟩
  · obtain ⟨m, e, h1, h2, h3⟩ := Chan.storeN_plain n (c := { s.chan ch with dbg := { (s.chan ch).dbg with active := true, dmiOp := 0, sberror := 0 } })
      (a := a) v.toNat fun i hi => plainAddr_add hp hn ha hi
    have next : exec (.debugSystemBusWrite ch n a v) s = .next (s.sysBus ch true n a v) :=
      congrArg (fun a => Host.Outcome.next (s.sysBus ch true n a v)) (Nat.mod_eq_of_lt (plainAddr_lt hp))
    rw [State.sysBus_write d hn ha hp v vs] at next
    refine ⟨_, next, onlyChan_of_upd .., ?_⟩
    rw [State.upd_chan_self]
    dsimp only
    rw [e]
    refine ⟨fun i hi => ?_, fun x hx => ?_, rfl, h3, ?_⟩
    · exact (Chan.byteAt_plain (plainAddr_add hp hn ha hi)).trans (h1 i hi)
    · exact Chan.byteAt_congr (c := s.chan ch) (h2 x hx)
    · exact List.length_append
  · have next : exec (.debugSystemBusRead ch n a) s = .next (s.sysBus ch false n a 0#32) :=
      congrArg (fun a => Host.Outcome.next (s.sysBus ch false n a 0#32)) (Nat.mod_eq_of_lt (plainAddr_lt hp))
    rw [State.sysBus_read d hn ha hp vl] at next
    refine ⟨_, next, onlyChan_of_upd .., ?_⟩
    rw [State.upd_chan_self]
    exact ⟨rfl, rfl, congrArg (BitVec.ofNat 32) (Chan.loadN_eq ..), List.length_append⟩

/-! Mode and change commands -/

/-- A command that the state does not permit only raises the state-conflict flag. -/
theorem State.refuseOne_state (s : State) (ch : Ch) (tag : Byte) : s.refuseOne ch none tag abState = s.upd ch Chan.conflict := by
  rw [State.refuseOne, if_pos rfl]
  rfl

theorem State.modeCommand_waits {s : State} {ch : Ch} {v : Nat} (hu : (s.chan ch).up = true) (hr : (s.chan ch).sys.reeveState = 0) (hv : 1 ≤ v ∧ v ≤ 5) :
    s.modeCommand ch none 0#8 v =
      if (s.chan ch).tb.tickRun then s.upd ch (fun c => c.queueCmd ch 0 v none 0#8) else s.upd ch Chan.conflict := by
  unfold State.modeCommand
  rw [if_neg (by simp [hu]), if_neg (not_not.mpr hr), if_neg (by simp; omega), State.refuseOne_state]
  rcases Bool.eq_false_or_eq_true (s.chan ch).tb.tickRun with h | h <;> simp [h]

theorem State.chgCommand_waits {s : State} {ch : Ch} {v : Nat} (hu : (s.chan ch).up = true) (hr : (s.chan ch).sys.reeveState = 0) (hv : 1 ≤ v ∧ v ≤ 4) :
    ((chgMode (s.chan ch).sys.mode && (s.chan ch).chg.state.permits v) = true → (v = 1 → 8 ≤ (s.chan ch).sys.dramSplit) →
      s.chgCommand ch none 0#8 v = s.upd ch (fun c => c.queueCmd ch 1 v none 0#8)) ∧
    ((chgMode (s.chan ch).sys.mode && (s.chan ch).chg.state.permits v) = false → s.chgCommand ch none 0#8 v = s.upd ch Chan.conflict) := by
  unfold State.chgCommand
  dsimp only
  rw [if_neg (by simp [hu]), if_neg (not_not.mpr hr), if_neg (by simp; omega), State.refuseOne_state]
  refine ⟨fun hp hd => ?_, fun hp => if_pos (by simp [hp])⟩
  rw [if_neg (by simp [hp]), if_neg (by simp; omega)]

/-- Settles O34: a permitted command joins the waiting ones and any other is the conflict, by the checks that each goes through. -/
theorem modeAndChangeCommandsAreQueued : Obligations.ModeAndChangeCommandsAreQueued := by
  intro s ch hu hr wait conflict
  have modes (v : Nat) (hv : 1 ≤ v ∧ v ≤ 5) : ((s.chan ch).tb.tickRun = true → s.modeCommand ch none 0#8 v = wait 0 v) ∧
      ((s.chan ch).tb.tickRun = false → s.modeCommand ch none 0#8 v = conflict) := by
    rw [State.modeCommand_waits hu hr hv]
    exact ⟨fun h => by rw [if_pos h]; rfl, fun h => by rw [if_neg (by simp [h])]; rfl⟩
  have changes (v : Nat) (hv : 1 ≤ v ∧ v ≤ 4) : (((s.chan ch).sys.mode = .m7 ∨ (s.chan ch).sys.mode = .m8) → (s.chan ch).chg.state.permits v = true →
      (v = 1 → 8 ≤ (s.chan ch).sys.dramSplit) → s.chgCommand ch none 0#8 v = wait 1 v) ∧
      (((s.chan ch).sys.mode ≠ .m7 ∧ (s.chan ch).sys.mode ≠ .m8 ∨ (s.chan ch).chg.state.permits v = false) →
        s.chgCommand ch none 0#8 v = conflict) := by
    obtain ⟨yes, no⟩ := State.chgCommand_waits hu hr hv
    refine ⟨fun hm hp hd => yes (by simpa [chgMode, hp] using hm) hd, fun h => no ?_⟩
    rcases h with ⟨h7, h8⟩ | hp
    · simp [chgMode, h7, h8]
    · simp [hp]
  refine ⟨fun x hx => ?_, fun x hx => ?_, fun hm => ?_, fun hm hb => ?_, fun hm => ?_⟩
  · simp only [List.mem_cons, List.not_mem_nil, or_false] at hx
    rcases hx with rfl | rfl | rfl | rfl | rfl <;>
      exact ⟨fun h => congrArg Host.Outcome.next ((modes _ (by decide)).1 h), fun h => congrArg Host.Outcome.next ((modes _ (by decide)).2 h)⟩
  · simp only [List.mem_cons, List.not_mem_nil, or_false] at hx
    rcases hx with rfl | rfl | rfl | rfl <;>
      exact ⟨fun h1 h2 h3 => congrArg Host.Outcome.next ((changes _ (by decide)).1 h1 h2 h3), fun h => congrArg Host.Outcome.next ((changes _ (by decide)).2 h)⟩
  · exact congrArg Host.Outcome.next ((if_neg (by simp [hu])).trans ((if_neg (not_not.mpr hr)).trans ((if_neg (by simp [hm])).trans (if_neg (by decide)))))
  · have free : allCh.any (fun k => (s.chan k).field.win.isSome || (s.chan k).sys.cmds.any (fun (x : PendCmd) => x.kind == 2)) = false := by
      simpa [fun k => (hb k).1] using fun k _ => (hb k).2
    exact congrArg Host.Outcome.next ((if_neg (by simp [hu])).trans ((if_neg (not_not.mpr hr)).trans ((if_neg (by decide)).trans
      (if_neg (by rw [free]; simp [hm])))))
  · exact congrArg Host.Outcome.next ((if_neg (by simp [hu])).trans ((if_neg (not_not.mpr hr)).trans ((if_neg (by decide)).trans
      ((if_pos (by simp [hm])).trans (s.refuseOne_state ch 0#8)))))

/-! The mode timers -/

theorem Chan.closeWindow_shape (c : Chan) (r : Nat) : ∃ k, c.closeWindow r =
    { c with field := { c.field with win := none, rreason := r, flag := c.field.flag.raise 13, refused := satInc c.field.refused }, chron := k } :=
  Chan.log_shape ..

/-- A window closed in its own channel stays closed when the others are told. -/
theorem State.shareWindow_self (s : State) (ch : Ch) (was : Bool) : (s.shareWindow ch was).chan ch = s.chan ch := by
  unfold State.shareWindow
  split
  · rw [State.updAll_chan, if_neg (by simp)]
  · rfl

/-- Settles O35: each timer is the guard that its conditions meet; the window is closed in its own channel before the others are told. -/
theorem modeTimers : Obligations.ModeTimers := by
  intro s ch m
  refine ⟨fun ha hu hm hf hc hd ht => ?_, fun hu hd => ?_, fun w hw hu hd => ?_⟩
  · have e : execAutomaticRestart ch s = .next (s.upd ch (fun c => c.trigger
        (if (s.chan ch).cfgN 0x1012 3 ≤ (s.chan ch).hourOf (s.chan ch).mram.restarts then (⟨.m11, 0x0C⟩ : Proposal) else ⟨.m1, 0x08⟩).mode
        (if (s.chan ch).cfgN 0x1012 3 ≤ (s.chan ch).hourOf (s.chan ch).mram.restarts then (⟨.m11, 0x0C⟩ : Proposal) else ⟨.m1, 0x08⟩).cause)) := by
      unfold execAutomaticRestart
      simp only [ha]
      exact guardC_true (by simpa [hu, hm, hf, hd, ht] using hc)
    refine e.trans (congrArg Host.Outcome.next (State.upd_congr ?_))
    simp only [Chan.trigger, ht, List.nil_append]
  · refine guardC_upd_goes (by simp [hu, hd]) fun t e o => ?_
    obtain ⟨k, hk⟩ : ∃ k, Chan.logVote { s.chan ch with vote := { (s.chan ch).vote with flag := (s.chan ch).vote.flag.raise 8 } } 0 0 =
      { s.chan ch with vote := { (s.chan ch).vote with flag := (s.chan ch).vote.flag.raise 8 }, chron := k } := Chan.log_shape ..
    rw [e, hk]
    exact ⟨o, rfl⟩
  · have e : exec (.resetWindowExpiry ch) s = .next ((s.upd ch (fun c => c.closeWindow (if w.waiting || w.granted then 2 else 1))).shareWindow ch true) := by
      show execResetWindowExpiry ch s = _
      simp only [execResetWindowExpiry, hw]
      exact guardC_true (by simp [hu, hd])
    refine ⟨_, e, ?_⟩
    rw [State.shareWindow_self, State.upd_chan_self]
    obtain ⟨k, hk⟩ := Chan.closeWindow_shape (s.chan ch) (if w.waiting || w.granted then 2 else 1)
    rw [hk]
    exact ⟨rfl, rfl, rfl, rfl⟩

end Sys2Proof.Machine
end


/-! PROOFS. What an answer to a request changes; the journal, the reeve's supervision, the ring's ports and probes. -/

section
namespace Sys2Proof.Machine
open Sys2Proof Sys2Proof.Safety

/-! What an answer changes -/

theorem Chan.sendEth_shape (c : Chan) (p : NetPort) (q : Nat) (pcp udp : Option Nat) (b : EthBody) :
    ∃ e sn, c.sendEth p q pcp udp b = { c with ecn := e, sent := sn } := by
  unfold Chan.sendEth
  dsimp only
  split
  · split <;> exact ⟨_, _, rfl⟩
  · exact ⟨_, _, rfl⟩

theorem Chan.sendMe_shape (c : Chan) (p : NetPort) (src ses : Word) : ∃ e sn, c.sendMe p src ses = { c with ecn := e, sent := sn } := by
  obtain ⟨e, sn, h⟩ := Chan.sendEth_shape { c with ecn := { c.ecn with flag := c.ecn.flag.raise 8 } } p 3 (some 3) (some 17225) (.me src ses)
  exact ⟨e, sn, h⟩

theorem Chan.sendMp_shape (c : Chan) (p : NetPort) (src ses : Word) (tag : Byte) (svc rstat : Nat) (es : List REntry) :
    ∃ e sn, c.sendMp p src ses tag svc rstat es = { c with ecn := e, sent := sn } := by
  unfold Chan.sendMp
  dsimp only
  split
  · exact ⟨_, _, rfl⟩
  · split
    · obtain ⟨e, sn, h⟩ := Chan.sendMe_shape { c with ecn := c.ecn.mdOver src ses tag } p src ses
      exact ⟨e, sn, h⟩
    · obtain ⟨e, sn, h⟩ := Chan.sendEth_shape { c with ecn := c.ecn.mdOver src ses tag } p 3 (some 3) (some 17225) (.mp src ses tag svc rstat es)
      exact ⟨e, sn, h⟩

theorem Chan.attn_shape (c : Chan) (was : Bool) : ∃ sn, c.attn was = { c with sent := sn } := by
  unfold Chan.attn
  dsimp only
  split <;> exact ⟨_, rfl⟩

/-- From c to c' the channel changed in nothing but what an answer writes. -/
def Chan.Answered (c c' : Chan) : Prop := ∃ u d h m cm e sn,
  c' = { c with sys := { c.sys with unanswered := u }, dict := d, host := h, mill := m, compat := cm, ecn := e, sent := sn }

/-- The parts that an answer writes, read off the channel after it. -/
theorem Chan.answered_of {c c' : Chan} (h : c' = { c with
    sys := { c.sys with unanswered := c'.sys.unanswered }, dict := c'.dict, host := c'.host, mill := c'.mill, compat := c'.compat, ecn := c'.ecn, sent := c'.sent }) :
    c.Answered c' := ⟨_, _, _, _, _, _, _, h⟩

theorem Chan.answered_refl (c : Chan) : c.Answered c := ⟨_, _, _, _, _, _, _, rfl⟩

theorem Chan.answered_trans {a b c : Chan} (h : a.Answered b) (g : b.Answered c) : a.Answered c := by
  obtain ⟨u, d, h, m, cm, e, sn, rfl⟩ := h
  obtain ⟨u', d', h', m', cm', e', sn', rfl⟩ := g
  exact ⟨u', d', h', m', cm', e', sn', rfl⟩

theorem Chan.answered_attn (c : Chan) (was : Bool) : c.Answered (c.attn was) := by
  obtain ⟨sn, h⟩ := c.attn_shape was
  rw [h]
  exact ⟨_, _, _, _, _, _, _, rfl⟩

theorem Chan.answered_sendMp (c : Chan) (p : NetPort) (src ses : Word) (tag : Byte) (svc rstat : Nat) (es : List REntry) :
    c.Answered (c.sendMp p src ses tag svc rstat es) := by
  obtain ⟨e, sn, h⟩ := c.sendMp_shape p src ses tag svc rstat es
  rw [h]
  exact ⟨_, _, _, _, _, _, _, rfl⟩

theorem Chan.answered_sendMe (c : Chan) (p : NetPort) (src ses : Word) : c.Answered (c.sendMe p src ses) := by
  obtain ⟨e, sn, h⟩ := c.sendMe_shape p src ses
  rw [h]
  exact ⟨_, _, _, _, _, _, _, rfl⟩

theorem Chan.answered_replyBy (c : Chan) (via : Transport) (tag : Byte) (svc rstat : Nat) (es : List REntry) :
    c.Answered (c.replyBy via tag svc rstat es) := by
  cases via with
  | host =>
    unfold Chan.replyBy
    exact Chan.answered_trans (Chan.answered_of rfl) (Chan.answered_attn _ _)
  | md p src ses =>
    unfold Chan.replyBy
    exact Chan.answered_trans (Chan.answered_of rfl) (Chan.answered_sendMp ..)
  | legacy k =>
    by_cases h : k = 0
    · subst h
      exact Chan.answered_of rfl
    · unfold Chan.replyBy
      dsimp only
      rw [if_neg h]
      exact Chan.answered_of rfl
  | ring r n => exact Chan.answered_of rfl
  | capacity => exact Chan.answered_of rfl
  | notify _ _ => exact Chan.answered_of rfl
  | part _ _ => exact Chan.answered_of rfl

/-- An answer changes the channel in nothing but what it writes, whatever it goes back by. -/
theorem Chan.answered_reply (c : Chan) (via : Transport) (tag : Byte) (svc rstat : Nat) (es : List REntry) : c.Answered (c.reply via tag svc rstat es) := by
  unfold Chan.reply
  split
  · split
    · exact Chan.answered_refl c
    · dsimp only
      split
      · exact Chan.answered_trans ⟨_, _, _, _, _, _, _, rfl⟩ (Chan.answered_replyBy ..)
      · exact ⟨_, _, _, _, _, _, _, rfl⟩
  · exact Chan.answered_replyBy ..

theorem Chan.answered_foldl {α : Type} {f : Chan → α → Chan} (hf : ∀ c x, Chan.Answered c (f c x)) : ∀ (l : List α) (c : Chan), c.Answered (l.foldl f c)
  | [], c => Chan.answered_refl c
  | x :: l, c => Chan.answered_trans (hf c x) (Chan.answered_foldl hf l (f c x))

theorem Chan.answered_answerAll (c : Chan) : c.Answered c.answerAll := by
  refine Chan.answered_foldl (fun c x => ?_) _ c
  split
  · exact Chan.answered_trans ⟨_, _, _, _, _, _, _, rfl⟩ (Chan.answered_sendMe ..)
  · exact Chan.answered_reply ..
  · exact Chan.answered_reply ..

/-! The journal -/

theorem Chan.beginRecord_up {c : Chan} (h : c.sys.flushing = false) (kind n : Nat) (es : List JEntry) (acts : List (Nat × Nat)) :
    c.beginRecord kind n es acts = { c with dict := { c.dict with jobs := c.dict.jobs ++ [⟨⟨kind, n, es, 0, true, acts⟩, false⟩] } } := if_neg (by simp [h])

theorem Chan.beginRecord_live (c : Chan) (kind n : Nat) (es : List JEntry) (acts : List (Nat × Nat)) : (c.beginRecord kind n es acts).dict.live = c.dict.live := by
  unfold Chan.beginRecord
  split <;> rfl

theorem Chan.foldl_beginRecord {α : Type} (kind n : Nat) (f : α → List JEntry) : ∀ (l : List α) {c : Chan}, c.sys.flushing = false →
    l.foldl (fun (c : Chan) i => c.beginRecord kind n (f i)) c =
      { c with dict := { c.dict with jobs := c.dict.jobs ++ l.map (fun i => ⟨⟨kind, n, f i, 0, true, []⟩, false⟩) } }
  | [], c, _ => by simp
  | i :: l, c, h => by
    rw [List.foldl_cons, Chan.foldl_beginRecord kind n f l (by rw [Chan.beginRecord_up h]; exact h), Chan.beginRecord_up h]
    simp

/-- What the end of transaction n by its sequencing reeve q leaves of a channel: a participant that it reaches drops the PREPARE and programs ABORT. -/
def State.endPrep (s : State) (q : Ch) (n : Nat) (k : Ch) (c : Chan) : Chan :=
  if s.participants.contains k && s.reach q k 4 && c.dict.holds n then ({ c with dict := { c.dict with prep := none } } : Chan).beginRecord 3 n [] else c

theorem State.endPrep_live (s : State) (q : Ch) (n : Nat) (k : Ch) (c : Chan) : (s.endPrep q n k c).dict.live = c.dict.live := by
  unfold State.endPrep
  split
  · exact Chan.beginRecord_live ..
  · rfl

theorem State.endPrep_holds {s : State} {q k : Ch} {n : Nat} {c : Chan} (hp : s.participates k = true) (hr : s.reach q k 4 = true)
    (hh : c.dict.holds n = true) (hf : c.sys.flushing = false) : (s.endPrep q n k c).dict.prep = none ∧
      (s.endPrep q n k c).dict.jobs = c.dict.jobs ++ [⟨⟨3, n, [], 0, true, []⟩, false⟩] := by
  have mem : s.participants.contains k = true := by
    simp only [State.participants, List.contains_iff_mem, List.mem_filter]
    exact ⟨by cases k <;> decide, hp⟩
  unfold State.endPrep
  rw [if_pos (by rw [mem, hr, hh]; rfl), Chan.beginRecord_up (by exact hf)]
  exact ⟨rfl, rfl⟩

/-- The dictionary of a channel, but for the transaction in progress, is what it was before that was dropped. -/
theorem State.dropTxn_dict (s : State) (q k : Ch) : ((s.dropTxn q).chan k).dict.live = (s.chan k).dict.live ∧
    ((s.dropTxn q).chan k).dict.prep = (s.chan k).dict.prep ∧ ((s.dropTxn q).chan k).dict.jobs = (s.chan k).dict.jobs := by
  unfold State.dropTxn
  by_cases h : k = q
  · subst h
    rw [State.upd_chan_self]
    exact ⟨rfl, rfl, rfl⟩
  · rw [State.upd_chan_other _ _ h]
    exact ⟨rfl, rfl, rfl⟩

/-- The end of a transaction of all participants with nobody to answer. -/
theorem State.abortTxn_silent {s : State} {q : Ch} {t : Txn} (hv : t.via = none) (hp : t.participants = s.participants) (ab : Word) :
    s.abortTxn q t ab none = (s.updAll (s.endPrep q t.num)).dropTxn q := by
  have quiet (u : State) (es : List REntry) : u.answerFrom q t.origin t.via t.tag t.n 1 es = u := by
    unfold State.answerFrom
    rw [hv]
    split <;> rfl
  unfold State.abortTxn
  dsimp only
  rw [quiet]
  congr 2
  funext ch c
  rw [State.endPrep, hp]
  split <;> rfl

/-- A takeover of a transaction with no COMMIT in any journal and nobody to answer. -/
theorem sequencingReeveTakeover_next {s : State} {ch : Ch} {x : Prep} (hq : s.seqCh = some ch) (ht : (s.chan ch).dict.txn = none) (hx : s.heldTxn ch = some x)
    (hv : x.txn.via = none) (hr : ∀ p, ∀ r ∈ (s.chan p).dict.recs, r.kind = 2 → r.txn ≠ x.num) : exec (.sequencingReeveTakeover ch) s =
    .next ((s.updAll (s.endPrep ch x.num)).dropTxn ch) := by
  have none_has : allCh.any (fun p => s.talks p ch && (s.chan p).dict.recs.any (fun r => r.kind == 2 && r.txn == x.num && r.ok)) = false := by
    simpa using fun p _ _ r hm hk hn => absurd hn (hr p r hm hk)
  refine (if_neg (by simp [hq, ht])).trans ?_
  rw [hx]
  dsimp only
  rw [if_neg (by rw [none_has]; decide), State.abortTxn_silent (by rw [hv]; exact ite_self _) rfl]

/-- Settles O38: the takeover is the abort of a transaction without COMMIT, with nobody left to answer; compaction is a queue of SNAPSHOT records. -/
theorem journalUpkeep : Obligations.JournalUpkeep := by
  intro s ch b x
  refine ⟨fun hq ht hx hv hr => ⟨_, sequencingReeveTakeover_next hq ht hx hv hr, ?_, fun k => ?_, fun k hp hk hh hf => ?_⟩,
    fun ho hf hc hr hp ht hj hb hfl => onChan_goes fun t e o => ?_, fun hc ho hj => ?_⟩
  · rw [State.dropTxn, State.upd_chan_self]
  · rw [(State.dropTxn_dict ..).1, State.updAll_chan, State.endPrep_live]
  · rw [(State.dropTxn_dict ..).2.1, (State.dropTxn_dict ..).2.2, State.updAll_chan]
    exact State.endPrep_holds hp hk hh hf
  · simp only [ho] at e
    rw [if_pos (by simp [hf, hc, hr, hp, ht, hj, hb, hfl]), Chan.foldl_beginRecord (c := { s.chan ch with dict := { (s.chan ch).dict with compact := true } }) _ _ _ _ hfl] at e
    rw [e]
    refine ⟨o, rfl, rfl, fun j hj' => ?_⟩
    simp only [hj, List.nil_append, List.mem_map] at hj'
    obtain ⟨i, -, rfl⟩ := hj'
    exact ⟨rfl, by simp⟩
  · exact onChan_next (if_pos (by simpa [hc, ho] using hj))

/-! The reeve's supervision -/

theorem Chan.updSlotN_shape (c : Chan) (n : Nat) (f : Slot → Slot) : ∃ b, c.updSlotN n f = { c with bridge := b } := ⟨_, rfl⟩

/-- The reads that another reeve held for this one change bridges alone. -/
theorem State.awayRestart_shape (s : State) (ch k : Ch) : ∃ b, (s.awayRestart ch).chan k = { s.chan k with bridge := b } := by
  refine List.foldlRecOn (motive := fun u : State => ∃ b, u.chan k = { s.chan k with bridge := b }) _ _ ⟨_, rfl⟩ fun u h w _ => ?_
  obtain ⟨b, h⟩ := h
  split
  · rename_i j n _
    by_cases e : k = j
    · subst e
      rw [State.upd_chan_self, h]
      exact ⟨_, rfl⟩
    · rw [State.upd_chan_other _ _ e, h]
      exact ⟨_, rfl⟩
  · exact ⟨b, h⟩

/-- A slot freed changes the bridge alone, and so does the end of the reeve's work for it, but for the mailboxes of its ring. -/
theorem Chan.bridgeRestart_shape (c : Chan) : ∃ b m, c.bridgeRestart = { c with bridge := b, mill := m } := by
  unfold Chan.bridgeRestart
  obtain ⟨b, h⟩ : ∃ b, (List.range 32).foldl (fun (c : Chan) n => if (c.bridge.slot n).state = .pending then c.freeSlot n else c) c = { c with bridge := b } := by
    refine List.foldlRecOn (motive := fun d : Chan => ∃ b, d = { c with bridge := b }) _ _ ⟨_, rfl⟩ fun d h n _ => ?_
    obtain ⟨b, rfl⟩ := h
    split <;> exact ⟨_, rfl⟩
  dsimp only
  rw [h]
  exact ⟨_, _, rfl⟩

/-- A log entry, the answers and the restart of the bridge write nothing of the mode, the reeve, the vote, the cells or memory. -/
theorem Chan.downAnswers_keeps (c : Chan) (t : Nat) (p : List Byte) : ∃ u, (c.log t p).answerAll.bridgeRestart.sys = { c.sys with unanswered := u } ∧
    (c.log t p).answerAll.bridgeRestart.vote = c.vote ∧ (c.log t p).answerAll.bridgeRestart.cells = c.cells ∧
    (c.log t p).answerAll.bridgeRestart.mem = c.mem := by
  obtain ⟨k, h1⟩ := c.log_shape t p
  obtain ⟨u, d, h, m, cm, e, sn, h2⟩ := Chan.answered_answerAll (c.log t p)
  obtain ⟨b, m', h3⟩ := (c.log t p).answerAll.bridgeRestart_shape
  rw [h3, h2, h1]
  exact ⟨u, rfl, rfl, rfl, rfl⟩

/-- What the loss of its reeve leaves of a channel. -/
theorem Chan.reeveDown_keeps (c : Chan) : c.reeveDown.sys.reeveState ≠ 0 ∧ c.reeveDown.sys.mode = c.sys.mode ∧
    c.reeveDown.sys.cstate = c.sys.cstate ∧ c.reeveDown.sys.reeveRestarts = min (c.sys.reeveRestarts + 1) 65535 ∧ c.reeveDown.vote.reads = [] ∧
    c.reeveDown.cells = c.cells ∧ c.reeveDown.mem = c.mem := by
  unfold Chan.reeveDown
  extract_lets hist lost _ _ _ _ c1
  obtain ⟨u, h1, h2, h3, h4⟩ := c1.downAnswers_keeps 0x05 (payW [c1.reeveStat])
  rw [h1, h2, h3, h4]
  refine ⟨?_, rfl, rfl, rfl, rfl, rfl, rfl⟩
  show (if lost then 2 else 1) ≠ 0
  split <;> decide

/-- What waited at a channel whose reeve is lost is answered in the other channels alone. -/
theorem State.dropWaiting_self {s : State} {ch : Ch} (h : ∀ w ∈ (s.chan ch).dict.waiting, w.origin = ch → w.via = none) :
    (s.dropWaiting ch).chan ch = { s.chan ch with dict := { (s.chan ch).dict with waiting := [] } } := by
  unfold State.dropWaiting
  refine List.foldlRecOn (motive := fun u : State => u.chan ch = { s.chan ch with dict := { (s.chan ch).dict with waiting := [] } }) _ _
    (State.upd_chan_self ..) fun u hu w hw => ?_
  unfold State.answer
  split
  · exact hu
  · rename_i v e
    rw [State.upd_chan_other _ _ fun z => by simp [h w hw z.symm] at e]
    exact hu

/-- A channel whose reeve runs again, from a fresh kick. -/
def Chan.reeveUp (c : Chan) : Chan := ({ c with sys := { c.sys with reeveState := 0, reeveBusErr := false } } : Chan).kick

theorem State.recommit_idle {s : State} {ch : Ch} (h : ∀ n < 32, ((s.chan ch).bridge.slot n).state ≠ .committing) :
    (List.range 32).foldl (fun (s : State) n => if ((s.chan ch).bridge.slot n).state = .committing then s.sendCommit ch n else s) s = s := by
  refine List.foldlRecOn (motive := fun u : State => u = s) _ _ rfl fun u hu n hn => ?_
  rw [hu, if_neg (h n (List.mem_range.mp hn))]

theorem State.takeIn_idle {s : State} {ch : Ch} (h : (s.chan ch).host.inBusy = false) : s.takeIn ch = s := by
  unfold State.takeIn
  rw [h]
  rfl

/-- What waits for a reeve that is lost has nobody to answer. -/
theorem State.forget_shape (s : State) (ch : Ch) : ∃ d x, (s.forget ch).chan ch = { s.chan ch with dict := d, sys := { (s.chan ch).sys with cmds := x } } ∧
    ∀ w ∈ d.waiting, w.origin = ch → w.via = none := by
  refine ⟨_, _, State.updAll_chan .., fun w hw ho => ?_⟩
  obtain ⟨v, -, rfl⟩ := List.mem_map.mp hw
  split at ho
  · rw [if_pos (by assumption)]
  · contradiction

/-- Settles O39: each event by what it does; the loss of a reeve through the answers it gives, its restart with nothing to take up again. -/
theorem reeveSupervision : Obligations.ReeveSupervision := by
  intro s ch
  refine ⟨fun hv => ?_, fun hu hr hk => ?_, fun hu hr hb hh => ?_, fun hu => guardC_upd_goes hu fun t e o => ?_, fun hu hr hm h1 h2 => ?_⟩
  · refine onChan_next (g := Chan.kick) ?_
    unfold Chan.access
    rw [show (s.chan ch).verdict .reeve true (blkBase 0 + 0x74) = .served from hv]
  · refine ⟨_, guardC_true (by simp [hu, hr]; exact hk), ?_⟩
    obtain ⟨b, ha⟩ := State.awayRestart_shape s ch ch
    have hd := Chan.reeveDown_keeps ((s.awayRestart ch).chan ch)
    obtain ⟨d, x, hf, hw⟩ := State.forget_shape ((s.awayRestart ch).upd ch Chan.reeveDown) ch
    rw [State.dropWaiting_self (by rw [hf]; exact hw), hf, State.upd_chan_self]
    dsimp only
    rw [ha] at hd ⊢
    exact hd
  · have e : exec (.reeveRestart ch) s = .next (s.upd ch Chan.reeveUp) := by
      refine (if_pos (by simp [hu, hr])).trans (congrArg Host.Outcome.next ?_)
      exact (congrArg (fun u => State.takeIn u ch) (State.recommit_idle (by rw [State.upd_chan_self]; exact hb))).trans
        (State.takeIn_idle (by rw [State.upd_chan_self]; exact hh))
    refine ⟨_, e, ?_⟩
    rw [State.upd_chan_self]
    exact ⟨rfl, rfl, rfl⟩
  · rw [e]
    refine ⟨o, rfl, ?_, rfl⟩
    dsimp only
    split <;> rfl
  · have h3 : State.direct { s with wire := s.wire ++ [⟨ch, chNext ch, .direct, .snapshot (s.snapshotOf ch)⟩] } ch (chPrev ch) 4 = true :=
      (State.direct_congr (fun _ => rfl) (fun _ => rfl) ..).trans h2
    refine ⟨_, guardC_true (by simp [hu, hr, hm]), ?_⟩
    have n1 : ch ≠ chNext ch := by cases ch <;> decide
    have n2 : ch ≠ chPrev ch := by cases ch <;> decide
    rw [State.sendSnapshot, State.sendBoth, State.send_direct n1 h1, State.send_direct n2 h3]
    exact ⟨fun _ => rfl, by simp⟩

/-! The ring's ports and probes -/

/-- A change of a ring's block that sends nothing. -/
theorem onMill_next {s : State} {r : Ring} {f : MillBlk → MillBlk} {m : MillBlk} (h : f (s.chan (ringOwner r)).mill = m) :
    onMill s r f = .next (s.upd (ringOwner r) fun c => { c with mill := m, sent := c.sent ++ [] }) :=
  congrArg Host.Outcome.next (State.upd_congr (by rw [h, List.append_nil]))

theorem MillBlk.probeResult_outside (m : MillBlk) (p : RPort) {d : Int} (h : d < 0 ∨ 1200 < d) : m.probeResult p d = m.hit 18 :=
  if_pos (by simpa using h)

/-- A result within bounds, with eight before it, is the delay of its port. -/
theorem MillBlk.probeResult_kept (m : MillBlk) (p : RPort) {d : Int} (h0 : 0 ≤ d) (h1 : d ≤ 1200)
    (h8 : 8 ≤ (if p = .p0 then m.pres0 else m.pres1).length) : m.probeResult p d = m.setDelay p (d.toNat / 2) := by
  unfold MillBlk.probeResult
  rw [if_neg (by simp; omega)]
  refine if_pos ?_
  cases p <;> exact h8

/-- Settles O40: every event is one change of the ring's block, or one emission, chosen by the port and by what stands there. -/
theorem ringPortsAndProbes : Obligations.RingPortsAndProbes := by
  intro s r seq turn t1 t4 c m onRing
  refine ⟨fun ho => ⟨onMill_next (if_neg (by simp [show (s.chan (ringOwner r)).mill.open_ = true from ho])),
    onMill_next (if_neg (by simp [show (s.chan (ringOwner r)).mill.open_ = true from ho]))⟩, fun ho hl => ?_, fun ho hl => ?_, fun hw => ?_, fun hw => ?_,
    fun p f n hw => ?_, fun k hk hl => ?_, onMill_next rfl, fun p hl => ?_, fun p ho hl => ?_, fun p q hf => ⟨fun hd => ?_, fun h0 h1 h8 => ?_⟩⟩
  · exact onMill_next ((if_neg (by rw [show (s.chan (ringOwner r)).mill.open_ = true from ho, show (s.chan (ringOwner r)).mill.link0 = true from hl]; exact Bool.false_ne_true)).trans rfl)
  · exact onMill_next ((if_neg (by rw [show (s.chan (ringOwner r)).mill.open_ = true from ho, show (s.chan (ringOwner r)).mill.link1 = true from hl]; exact Bool.false_ne_true)).trans rfl)
  · refine (guardC_true (by simpa [MillBlk.wasUp] using hw)).trans (onMill_next rfl)
  · refine (guardC_true (by simpa [MillBlk.wasUp] using hw)).trans (onMill_next rfl)
  · exact ⟨_, rfl, guardC_true hw⟩
  · have want : m.wantLoop = k := by
      rcases hk with ⟨h0, h1, rfl⟩ | ⟨h0, h1, rfl⟩ | ⟨h, rfl⟩
      · simp [MillBlk.wantLoop, h0, h1]
      · simp [MillBlk.wantLoop, h0, h1]
      · cases hu : m.up1 <;> simp [MillBlk.wantLoop, h, hu]
    exact onMill_next ((if_neg (by rw [show (s.chan (ringOwner r)).mill.wantLoop = k from want]; exact hl)).trans (by rw [← want]; rfl))
  · have link : (s.chan (ringOwner r)).mill.linkAt p = true := by cases p <;> exact hl
    exact onChan_next (if_neg (by simp [link]))
  · have link : (s.chan (ringOwner r)).mill.linkAt p = true := by cases p <;> exact hl
    exact onChan_next (if_pos (by rw [show (s.chan (ringOwner r)).mill.open_ = true from ho, link]; rfl))
  · refine onMill_next ?_
    rw [hf]
    exact MillBlk.probeResult_outside _ p hd
  · refine onMill_next ?_
    rw [hf]
    refine (MillBlk.probeResult_kept _ p h0 h1 (by exact h8)).trans ?_
    cases p <;> rfl

end Sys2Proof.Machine
end


/-! PROOFS. The ring: the passage of a frame, windows and the ring's timers. -/

section
namespace Sys2Proof.Machine
open Sys2Proof Sys2Proof.Safety

/-! The passage of a frame -/

/-- The node of a frame that no shepherd cuts: its time, its header's check and the silence it ends (R234, R239). -/
def MillBlk.heardFrame (m : MillBlk) (f : MFrame) : MillBlk :=
  let m := if frameOk f then { m with validAt := some f.stamp } else m.hit 0
  { m with heard := m.heard || f.hcrcOk, badHcrc := m.badHcrc || !f.hcrcOk }

theorem foldl_minusRun_nil : ∀ l : List (Nat × Nat), l.foldl minusRun [] = []
  | [] => rfl
  | _ :: l => foldl_minusRun_nil l

/-- A node that asked for no octet, and does not write its windows, asked for none outside the shepherd's places. -/
theorem MillBlk.outside_nil (m : MillBlk) {f : MFrame} (h : f.reqs = []) : m.outside f false = [] := by
  unfold MillBlk.outside
  rw [h]
  exact foldl_minusRun_nil _

section
variable {s : State} {r : Ring} {f : MFrame} {m : MillBlk} (hm : (s.chan (ringOwner r)).mill = m) (hb : m.nstate ≠ .bypass) (hl : m.nstate ≠ .linking)
  (ho : m.nstate ≠ .originating) (hi : m.upAt f.inPort = true) (hu : m.upAt (m.outPort f.inPort) = true) (hh : f.hops < 130)
  (hd : m.mbDone = []) (hs : m.mbSent = []) (hr : f.reqs = [])

include hm hb hl ho hi hr in
theorem State.framePassage_open : s.framePassage r f = (s.updMill r (fun m => m.heardFrame f)).atNode r f := by
  have hup : s.updMill r (fun m => (({ (if frameOk f then { m with validAt := some f.stamp } else m.hit 0) with
      heard := (if frameOk f then { m with validAt := some f.stamp } else m.hit 0).heard || f.hcrcOk,
      badHcrc := (if frameOk f then { m with validAt := some f.stamp } else m.hit 0).badHcrc || !f.hcrcOk } : MillBlk)).shepherd
        (!((if frameOk f then { m with validAt := some f.stamp } else m.hit 0).outside f false).isEmpty)) = s.updMill r (fun m => m.heardFrame f) := by
    congr 1
    funext m
    rw [MillBlk.outside_nil _ hr]
    rfl
  unfold State.framePassage
  dsimp only
  rw [if_neg (by rw [hm]; simp [hb, hl, hi]), hm, if_neg ho]
  exact congrArg (fun u : State => u.atNode r f) hup

end

theorem MillBlk.mbSent_nil {m : MillBlk} (h : m.mbSent = []) : ({ m with mbSent := [] } : MillBlk) = m := by
  cases m
  cases h
  rfl

theorem MillBlk.mbDone_nil {m : MillBlk} (h : m.mbDone = []) : ({ m with mbDone := [] } : MillBlk) = m := by
  cases m
  cases h
  rfl

/-- With no mailbox message waiting and no window to read, a frame's passage is its ring part. -/
theorem framePassage_quiet {s t : State} {r : Ring} {f : MFrame} (ht : s.framePassage r f = t) (hd : (t.chan (ringOwner r)).mill.mbDone = [])
    (hs : (t.chan (ringOwner r)).mill.mbSent = []) (hread : (s.chan (ringOwner r)).mill.lastFrame = some (f.bell, f.cycle) ∨
      (t.chan (ringOwner r)).mill.lastFrame ≠ some (f.bell, f.cycle) ∨ (s.chan (ringOwner r)).mill.nstate = .listen) :
    exec (.framePassage r f) s = .next t := by
  have sent : t.upd (ringOwner r) (fun c => c.mailSent (ringCode r)) = t := by
    refine State.upd_id ?_
    unfold Chan.mailSent
    rw [hs, List.foldl_nil, MillBlk.mbSent_nil hs]
  have noRead : (decide ((s.chan (ringOwner r)).mill.lastFrame ≠ some (f.bell, f.cycle)) && decide ((t.chan (ringOwner r)).mill.lastFrame = some (f.bell, f.cycle)) &&
      ((s.chan (ringOwner r)).mill.nstate == .joined || (s.chan (ringOwner r)).mill.nstate == .withdrawn || (s.chan (ringOwner r)).mill.nstate == .originating)) = false := by
    rcases hread with h | h | h <;> simp [h]
  have pass : s.framePass r f = t := by
    unfold State.framePass
    dsimp only
    rw [ht, sent, noRead]
    rfl
  refine congrArg Host.Outcome.next ?_
  have done : t.updMill r (fun m => { m with mbDone := [] }) = t := State.upd_id (by dsimp only; rw [MillBlk.mbDone_nil hd])
  rw [pass, State.serveMail, hd, done]
  rfl

/-- A frame with a port to leave by, below the hop limit, is sent on. -/
theorem Chan.forward_open (c : Chan) {r : Ring} {f : MFrame} (wins : List MWin) (hh : f.hops < 130) (hu : c.mill.upAt (c.mill.outPort f.inPort) = true) :
    c.forward r f wins =
      let run := if c.mill.shepValid then frameRun (f.delay + c.mill.inDelay f + f.res) (f.hops + 1) (f.line || decide (c.mill.loop ≠ 0)) else frameRun f.delay f.hops f.line
      c.emit (.frame r (c.mill.outPort f.inPort) (sentOn f run (if c.mill.shepValid || f.rcrcOk then some (crc16 run) else none) wins)) := by
  unfold Chan.forward
  dsimp only
  rw [if_neg (by omega), if_neg (by simp [hu])]
  cases c.mill.shepValid <;> rfl

theorem MillBlk.heardFrame_bad (m : MillBlk) {f : MFrame} (h : f.hcrcOk = false) : m.heardFrame f = { m with flag := m.flag.raise 0, badHcrc := true } := by
  have hok : frameOk f = false := by simp [frameOk, h]
  unfold MillBlk.heardFrame
  simp only [hok, h, Bool.false_eq_true, if_false, Bool.or_false, Bool.not_false, Bool.or_true]
  rfl

theorem MillBlk.heardFrame_good (m : MillBlk) {f : MFrame} (h : f.hcrcOk = true) : m.heardFrame f =
    if frameOk f then { m with validAt := some f.stamp, heard := true } else { m with flag := m.flag.raise 0, heard := true } := by
  unfold MillBlk.heardFrame
  simp only [h, Bool.or_true, Bool.not_true, Bool.or_false]
  split <;> rfl

theorem MillBlk.heardFrame_keeps (m : MillBlk) (f : MFrame) : ∃ v x, m.heardFrame f = { m with
    validAt := v, flag := x, heard := m.heard || f.hcrcOk, badHcrc := m.badHcrc || !f.hcrcOk } := by
  unfold MillBlk.heardFrame
  split <;> exact ⟨_, _, rfl⟩

/-- The ports, the loop, the shepherd and the delays of two blocks are the same: a frame leaves both alike. -/
def MillBlk.samePorts (m n : MillBlk) : Prop :=
  n.up0 = m.up0 ∧ n.up1 = m.up1 ∧ n.loop = m.loop ∧ n.shepValid = m.shepValid ∧ n.delay0 = m.delay0 ∧ n.delay1 = m.delay1

theorem MillBlk.samePorts_out {m n : MillBlk} (h : m.samePorts n) (p : RPort) : n.outPort p = m.outPort p ∧ n.upAt p = m.upAt p := by
  obtain ⟨h0, h1, h2, -⟩ := h
  exact ⟨by simp only [MillBlk.outPort, h2], by cases p <;> simp only [MillBlk.upAt, h0, h1]⟩

theorem MillBlk.samePorts_heardFrame (m : MillBlk) (f : MFrame) : m.samePorts (m.heardFrame f) := by
  obtain ⟨v, x, h⟩ := m.heardFrame_keeps f
  rw [h]
  exact ⟨rfl, rfl, rfl, rfl, rfl, rfl⟩

/-- A channel with the frame sent on as it leaves the node m. -/
def Chan.frameGone (c : Chan) (r : Ring) (f : MFrame) (m : MillBlk) : Chan :=
  let run := if m.shepValid then frameRun (f.delay + m.inDelay f + f.res) (f.hops + 1) (f.line || decide (m.loop ≠ 0)) else frameRun f.delay f.hops f.line
  c.emit (.frame r (m.outPort f.inPort) (sentOn f run (if m.shepValid || f.rcrcOk then some (crc16 run) else none) f.wins))

theorem Chan.forward_gone {c : Chan} {r : Ring} {f : MFrame} {m : MillBlk} (hs : m.samePorts c.mill) (hh : f.hops < 130)
    (hu : m.upAt (m.outPort f.inPort) = true) : c.forward r f f.wins = c.frameGone r f m := by
  have out := (MillBlk.samePorts_out hs f.inPort).1
  have del : c.mill.inDelay f = m.inDelay f := by
    simp only [MillBlk.inDelay, hs.2.2.2.2.1, hs.2.2.2.2.2]
  rw [Chan.forward_open _ _ hh (by rw [out, (MillBlk.samePorts_out hs _).2]; exact hu), out, del, hs.2.2.1, hs.2.2.2.1]
  rfl

section
variable {s : State} {r : Ring} {f : MFrame} (hb : (s.chan (ringOwner r)).mill.nstate ≠ .bypass) (hl : (s.chan (ringOwner r)).mill.nstate ≠ .linking)
  (ho : (s.chan (ringOwner r)).mill.nstate ≠ .originating) (hi : (s.chan (ringOwner r)).mill.upAt f.inPort = true)
  (hu : (s.chan (ringOwner r)).mill.upAt ((s.chan (ringOwner r)).mill.outPort f.inPort) = true) (hh : f.hops < 130)
  (hd : (s.chan (ringOwner r)).mill.mbDone = []) (hs : (s.chan (ringOwner r)).mill.mbSent = []) (hr : f.reqs = [])

include hb hl ho hi hu hh hd hs hr in
/-- A frame that the node does not read leaves, and only the ring's block knows of it. -/
theorem framePassage_passes (hf : f.hcrcOk = false ∨ (s.chan (ringOwner r)).mill.lastFrame = some (f.bell, f.cycle)) :
    exec (.framePassage r f) s = .next (s.upd (ringOwner r) (fun c => ({ c with mill := c.mill.heardFrame f } : Chan).frameGone r f c.mill)) := by
  obtain ⟨v, x, hm⟩ := (s.chan (ringOwner r)).mill.heardFrame_keeps f
  have node : (s.updMill r (fun m => m.heardFrame f)).atNode r f =
      s.upd (ringOwner r) (fun c => ({ c with mill := c.mill.heardFrame f } : Chan).frameGone r f c.mill) := by
    unfold State.atNode
    dsimp only
    rw [if_pos ?_, State.updMill, State.upd_upd]
    · exact State.upd_congr (Chan.forward_gone (MillBlk.samePorts_heardFrame _ f) hh hu)
    · rw [State.updMill, State.upd_chan_self, hm]
      rcases hf with h | h <;> simp [h]
  refine framePassage_quiet ((State.framePassage_open rfl hb hl ho hi hr).trans node) ?_ ?_ ?_
  · rw [State.upd_chan_self, hm]
    exact hd
  · rw [State.upd_chan_self, hm]
    exact hs
  · by_cases hlast : (s.chan (ringOwner r)).mill.lastFrame = some (f.bell, f.cycle)
    · exact .inl hlast
    · refine .inr (.inl ?_)
      rw [State.upd_chan_self, hm]
      exact hlast
end

/-- BYTE marks set pending bits of cores and nothing else. -/
theorem Chan.byteMarks_shape (c : Chan) (n : Nat) : ∃ cs, c.byteMarks n = { c with cells := cs } := by
  refine List.foldlRecOn (motive := fun d : Chan => ∃ cs, d = { c with cells := cs }) _ _ ⟨_, rfl⟩ fun d h w _ => ?_
  obtain ⟨cs, rfl⟩ := h
  split <;> exact ⟨_, rfl⟩

/-- The node's registers after a frame that it processes (R229). -/
def MillBlk.firstSeen (m : MillBlk) (f : MFrame) : MillBlk :=
  let jump := match m.lastFrame with | some x => decide (f.cycle ≠ x.2 + 1#32) | none => false
  let m := if jump then m.hit 8 else m
  { m with
    lastFrame := some (f.bell, f.cycle)
    seen := ((f.bell, f.cycle) :: m.seen).take 16
    periodBell := if frameOk f then some f.bell else m.periodBell
    passed := true
    cycle := f.cycle
    line := if frameOk f then f.line else m.line
    res := f.res }

/-- A first passage of a frame whose windows are not read, on a ring that is no source of time. -/
theorem State.firstPassage_unread {s : State} {r : Ring} {f : MFrame} (hsrc : (s.chan (ringOwner r)).ringSource r = false) :
    s.firstPassage r f false = s.upd (ringOwner r) (fun c => ({ c with mill := c.mill.firstSeen f } : Chan).byteMarks f.octets) := by
  have seen : (s.updMill r (fun m => m.firstSeen f)).upd (ringOwner r) (fun c => c.byteMarks f.octets) =
      s.upd (ringOwner r) (fun c => ({ c with mill := c.mill.firstSeen f } : Chan).byteMarks f.octets) := State.upd_upd ..
  have source : ((s.upd (ringOwner r) (fun c => ({ c with mill := c.mill.firstSeen f } : Chan).byteMarks f.octets)).chan (ringOwner r)).ringSource r = false := by
    obtain ⟨cs, h⟩ := Chan.byteMarks_shape { s.chan (ringOwner r) with mill := (s.chan (ringOwner r)).mill.firstSeen f } f.octets
    rw [State.upd_chan_self, h]
    exact hsrc
  rw [← seen] at source ⊢
  exact if_neg (by rw [Bool.and_eq_true, Bool.and_eq_true]; exact fun h => Bool.noConfusion (source.symm.trans h.1.2))

theorem MillBlk.firstSeen_keeps (m : MillBlk) (f : MFrame) : ∃ x n pb l, m.firstSeen f = { m with
    flag := x, lastFrame := some (f.bell, f.cycle), seen := n, periodBell := pb, passed := true, cycle := f.cycle, line := l, res := f.res } := by
  refine ⟨(m.firstSeen f).flag, (m.firstSeen f).seen, (m.firstSeen f).periodBell, (m.firstSeen f).line, ?_⟩
  unfold MillBlk.firstSeen
  dsimp only
  split <;> split <;> rfl

/-- The node after a frame that it processed (R234, R239, R241): a listening one joins, and what it had to write is written. -/
def MillBlk.entered (m : MillBlk) (f : MFrame) (out : List (Nat × Nat)) : MillBlk :=
  let m := match m.nstate with
    | .listen => if frameOk f && m.forwards f then { m with nstate := .joined } else m
    | .backoff => { m with backValid := m.backValid || (frameOk f && m.forwards f) }
    | _ => m
  ({ m with bufs := [] }).shepherd (!out.isEmpty && (m.outside f false).isEmpty)

theorem MillBlk.entered_listen {m : MillBlk} {f : MFrame} (hn : m.nstate = .listen) (hok : frameOk f = true) (hf : m.forwards f = true) :
    m.entered f [] = { m with nstate := .joined, bufs := [] } := by
  unfold MillBlk.entered
  simp only [hn, hok, hf, Bool.and_self, if_true, List.isEmpty_nil, Bool.not_true, Bool.false_and, MillBlk.shepherd, Bool.false_eq_true, if_false]

/-- A frame that a listening node processes: first its registers, then its way out, then the node's state. -/
theorem State.atNode_listen {s : State} {r : Ring} {f : MFrame} {m : MillBlk} (hm : (s.chan (ringOwner r)).mill = m) (hn : m.nstate = .listen)
    (hok : frameOk f = true) (hr : f.reqs = []) (hsched : f.sched = m.sched) (hlast : m.lastFrame ≠ some (f.bell, f.cycle))
    (hseen : m.seen.contains (f.bell, f.cycle) = false) (hbell : m.periodBell = none ∨ m.periodBell = some f.bell) :
    s.atNode r f = ((s.firstPassage r f false).upd (ringOwner r) (fun c => c.forward r f f.wins)).updMill r (fun m => m.entered f []) := by
  have hcrc : f.hcrcOk = true := by
    simp only [frameOk, Bool.and_eq_true] at hok
    exact hok.1.1.1
  unfold State.atNode
  dsimp only
  rw [hm, if_neg (by rw [hcrc, hseen]; simpa using hlast), if_neg (not_not.mpr hsched), if_neg (by rcases hbell with h | h <;> simp [h]), hn,
    show (NState.listen == NState.joined) = false from rfl, MillBlk.outside_nil _ hr]
  rfl

section
variable {s : State} {r : Ring} {f : MFrame} (hn : (s.chan (ringOwner r)).mill.nstate = .listen) (hi : (s.chan (ringOwner r)).mill.upAt f.inPort = true)
  (hu : (s.chan (ringOwner r)).mill.upAt ((s.chan (ringOwner r)).mill.outPort f.inPort) = true) (hh : f.hops < 130)
  (hd : (s.chan (ringOwner r)).mill.mbDone = []) (hs : (s.chan (ringOwner r)).mill.mbSent = []) (hr : f.reqs = []) (hok : frameOk f = true)
  (hsched : f.sched = (s.chan (ringOwner r)).mill.sched) (hlast : (s.chan (ringOwner r)).mill.lastFrame ≠ some (f.bell, f.cycle))
  (hseen : (s.chan (ringOwner r)).mill.seen.contains (f.bell, f.cycle) = false)
  (hbell : (s.chan (ringOwner r)).mill.periodBell = none ∨ (s.chan (ringOwner r)).mill.periodBell = some f.bell) (hsrc : (s.chan (ringOwner r)).ringSource r = false)

include hn hi hu hh hd hs hr hok hsched hlast hseen hbell hsrc in
/-- A valid frame of its schedule that a listening node processes leaves and lets the node join. -/
theorem framePassage_joins : ∃ t, exec (.framePassage r f) s = .next t ∧ OnlyChan (ringOwner r) s t ∧ ∃ cs, t.chan (ringOwner r) =
    ({ s.chan (ringOwner r) with
      cells := cs
      mill := { ((s.chan (ringOwner r)).mill.heardFrame f).firstSeen f with nstate := .joined, bufs := [] } } : Chan).frameGone r f (s.chan (ringOwner r)).mill := by
  have ho : (s.chan (ringOwner r)).mill.nstate ≠ .originating := by simp [hn]
  obtain ⟨v, x, hm⟩ := (s.chan (ringOwner r)).mill.heardFrame_keeps f
  have first : (s.updMill r (fun m => m.heardFrame f)).firstPassage r f false = s.upd (ringOwner r) (fun c =>
      ({ c with mill := (c.mill.heardFrame f).firstSeen f } : Chan).byteMarks f.octets) := by
    rw [State.firstPassage_unread (by rw [State.updMill, State.upd_chan_self]; exact hsrc), State.updMill, State.upd_upd]
  obtain ⟨x', n, pb, l, hm'⟩ := ((s.chan (ringOwner r)).mill.heardFrame f).firstSeen_keeps f
  have ports : (s.chan (ringOwner r)).mill.samePorts (((s.chan (ringOwner r)).mill.heardFrame f).firstSeen f) := by
    rw [hm', hm]
    exact ⟨rfl, rfl, rfl, rfl, rfl, rfl⟩
  have fwd : (((s.chan (ringOwner r)).mill.heardFrame f).firstSeen f).forwards f = true := by
    rw [MillBlk.forwards, (MillBlk.samePorts_out ports _).2, (MillBlk.samePorts_out ports _).1, hu]
    simpa using hh
  have hst : (((s.chan (ringOwner r)).mill.heardFrame f).firstSeen f).nstate = .listen := by rw [hm', hm]; exact hn
  have node : ∃ t, (s.updMill r (fun m => m.heardFrame f)).atNode r f = t ∧ OnlyChan (ringOwner r) s t ∧ ∃ cs, t.chan (ringOwner r) =
    ({ s.chan (ringOwner r) with
      cells := cs
      mill := { ((s.chan (ringOwner r)).mill.heardFrame f).firstSeen f with nstate := .joined, bufs := [] } } : Chan).frameGone r f (s.chan (ringOwner r)).mill := by
    rw [State.atNode_listen (by rw [State.updMill, State.upd_chan_self]) (by rw [hm]; exact hn) hok hr (by rw [hm]; exact hsched) (by rw [hm]; exact hlast)
      (by rw [hm]; exact hseen) (by rw [hm]; exact hbell), first]
    obtain ⟨cs, hcs⟩ := Chan.byteMarks_shape { s.chan (ringOwner r) with mill := ((s.chan (ringOwner r)).mill.heardFrame f).firstSeen f } f.octets
    refine ⟨_, rfl, onlyChan_trans (onlyChan_trans (onlyChan_of_upd ..) (onlyChan_of_upd ..)) (onlyChan_of_upd ..), cs, ?_⟩
    rw [State.updMill, State.upd_chan_self, State.upd_chan_self, State.upd_chan_self, hcs,
      Chan.forward_gone (m := (s.chan (ringOwner r)).mill) (by exact ports) hh hu, ← MillBlk.entered_listen hst hok fwd]
    rfl
  obtain ⟨t, e, o, cs, ht⟩ := node
  refine ⟨t, framePassage_quiet ((State.framePassage_open rfl (by simp [hn]) (by simp [hn]) ho hi hr).trans e) ?_ ?_ (.inr (.inr hn)), o, cs, ht⟩
  · rw [ht, hm', hm]
    exact hd
  · rw [ht, hm', hm]
    exact hs
end

/-- Settles O41: a frame that is not read passes by its node's ports; one that a listening node processes passes and is entered. -/
theorem ringFramesPass : Obligations.RingFramesPass := by
  intro s r f c m run gone hb hl ho hi hu hh hd hs hr
  refine ⟨fun hn h1 h2 h3 h4 hsched hlast hseen hbell hsrc => ?_, fun hf => ?_, fun hlast hf => ?_⟩
  · have hok : frameOk f = true := by simp [frameOk, h1, h2, h3, h4]
    obtain ⟨t, e, o, cs, ht⟩ := framePassage_joins hn hi hu hh hd hs hr hok hsched hlast hseen hbell hsrc
    refine ⟨t, e, ⟨o, ?_⟩, ?_, ?_, ?_, ?_, ?_⟩
    all_goals rw [ht]
    · rfl
    · rfl
    · rfl
    · obtain ⟨v, x, hm⟩ := (s.chan (ringOwner r)).mill.heardFrame_keeps f
      obtain ⟨x', n, pb, l, hm'⟩ := ((s.chan (ringOwner r)).mill.heardFrame f).firstSeen_keeps f
      rw [hm', hm, h1]
      exact Bool.or_true _
    · rfl
    · rfl
  · refine ⟨_, framePassage_passes hb hl ho hi hu hh hd hs hr (.inl hf), ⟨onlyChan_of_upd .., ?_⟩, ?_, ?_⟩
    all_goals rw [State.upd_chan_self]
    · rfl
    · rfl
    · exact MillBlk.heardFrame_bad _ hf
  · refine ⟨_, framePassage_passes hb hl ho hi hu hh hd hs hr (.inr hlast), ⟨onlyChan_of_upd .., ?_⟩, ?_, ?_⟩
    all_goals rw [State.upd_chan_self]
    · rfl
    · rfl
    · exact MillBlk.heardFrame_good _ hf

/-! Windows, marks and the ring's timers -/

/-- What a joined node, or an originating one, fetches for a STATUS window that it may send. -/
theorem State.fetchOwn_status {s : State} {ch : Ch} {b : Binding} (hk : b.kind = 2) (hr : ringMode (s.chan ch).sys.mode = true) (hs : (s.chan ch).speaks = true)
    (len : Nat) : s.fetchOwn ch b len =
      (s, some (padTo len (wordBytes (fixW (len / 4) ((s.chan ch).statusWords (s.view .A) (s.view .B) (s.view .C)))))) := by
  have hsend : (s.chan ch).maySend 2 = true := hs
  unfold State.fetchOwn
  simp only [hr, hk, hsend, Bool.not_true, Bool.false_eq_true, if_false, State.content, if_true, show ¬ (2 = 0) by decide, decide_false, Bool.false_and]

/-- A STATUS window fetched by a joined node fills its buffer, and by an originating one leaves at once; `late` writes only its first octets. -/
theorem windowFetch_status {s : State} {r : Ring} {n : Nat} {b : Binding} {w : SWin} {late : Option Nat} {p : List Byte}
    (hb : (s.chan (ringOwner r)).mill.binds[n]? = some b) (hw : (s.chan (ringOwner r)).mill.win b.win = some w) (hk : b.kind = 2)
    (hr : ringMode (s.chan (ringOwner r)).sys.mode = true) (hs : (s.chan (ringOwner r)).speaks = true)
    (hp : (match late with
      | some k => padTo w.len ((padTo w.len (wordBytes (fixW (w.len / 4) ((s.chan (ringOwner r)).statusWords (s.view .A) (s.view .B) (s.view .C))))).take k)
      | none => padTo w.len (wordBytes (fixW (w.len / 4) ((s.chan (ringOwner r)).statusWords (s.view .A) (s.view .B) (s.view .C))))) = p) :
    ((s.chan (ringOwner r)).mill.nstate = .joined → exec (.windowFetch r n late) s = .next (s.upd (ringOwner r) (fun c => { c with
      mill := { c.mill with
        flag := c.mill.flag.raiseIf late.isSome 15
        bufs := c.mill.bufs.filter (fun (z : WinBuf) => z.win != w.num) ++ [⟨w.num, false, p, late.isSome⟩] } }))) ∧
    ((s.chan (ringOwner r)).mill.nstate = .originating → exec (.windowFetch r n late) s = .next (s.upd (ringOwner r) (fun c => { c with
      mill := { c.mill with flag := c.mill.flag.raiseIf late.isSome 15 }
      sent := c.sent ++ [.window r ⟨w.num, false, false, c.mill.addr, c.mill.origCycle.getD 0#32, p, !late.isSome⟩] }))) := by
  subst hp
  constructor
  all_goals
    intro hn
    show execWindowFetch r n late s = _
    simp only [execWindowFetch, hb, hw]
    rw [guardC_true (by rw [hn]; rfl), State.fetchOwn_status hk hr hs]
    refine congrArg Host.Outcome.next (State.upd_congr ?_)
    cases late
  · exact if_neg fun e => NState.noConfusion (hn.symm.trans e)
  · exact if_neg fun e => NState.noConfusion (hn.symm.trans e)
  · exact if_pos hn
  · exact if_pos hn

/-- A change of the ring's block alone. -/
theorem onMill_eq {s : State} {r : Ring} {f : MillBlk → MillBlk} {m : MillBlk} (h : f (s.chan (ringOwner r)).mill = m) :
    onMill s r f = .next (s.upd (ringOwner r) fun c => { c with mill := m }) := congrArg Host.Outcome.next (State.upd_congr (by rw [h]))

theorem MillBlk.hit_if (m : MillBlk) (b : Bool) (n : Nat) : (if b then m.hit n else m) = { m with flag := m.flag.raiseIf b n } := by
  cases b <;> rfl

/-- A mark sets its pending bit in both cores of a running cell. -/
theorem Chan.core_mark {c : Chan} {h : Nat} (hm : (c.cell (h / 2)).mode = .bonded ∨ (c.cell (h / 2)).mode = .split) (b : Nat) :
    (c.mark b).core h = { c.core h with irqP := (c.core h).irqP ||| (1#11 <<< (3 + b)) } := by
  have hl : h / 2 < c.cells.length := Chan.cell_listed fun e => by rw [e] at hm; simp [CellSt.init] at hm
  have cell : (c.mark b).cell (h / 2) = { c.cell (h / 2) with
      core0 := { (c.cell (h / 2)).core0 with irqP := (c.cell (h / 2)).core0.irqP ||| (1#11 <<< (3 + b)) }
      core1 := { (c.cell (h / 2)).core1 with irqP := (c.cell (h / 2)).core1.irqP ||| (1#11 <<< (3 + b)) } } := by
    unfold Chan.mark
    unfold Chan.cell at hm ⊢
    simp only [List.getElem?_map, List.getElem?_eq_getElem hl, Option.map_some, Option.getD_some] at hm ⊢
    exact if_pos (by simpa using hm)
  unfold Chan.core
  rw [cell]
  split <;> rfl

/-- Where no read of its channel runs, a lost mailbox transfer fails none. -/
theorem Chan.readsFailed_idle {c : Chan} (h : ∀ j < 32, (c.bridge.slot j).running = false) (p : Chan → Nat → Bool) (ab : Word) :
    (List.range 32).foldl (fun (c : Chan) n => if (c.bridge.slot n).running && p c n then c.readFailed n ab else c) c = c := by
  refine List.foldlRecOn (motive := fun d : Chan => d = c) _ _ rfl fun d hd n hn => ?_
  rw [hd, h n (List.mem_range.mp hn)]
  rfl

theorem State.updAll_id {s : State} {f : Ch → Chan → Chan} (h : ∀ x, f x (s.chan x) = s.chan x) : s.updAll f = s := by
  have ha : f .A s.ch.a = s.ch.a := h .A
  have hb : f .B s.ch.b = s.ch.b := h .B
  have hc : f .C s.ch.c = s.ch.c := h .C
  unfold State.updAll
  rw [ha, hb, hc]

/-- A channel whose mailbox transfer to node g.dest ended without acknowledgement. -/
def Chan.mailLost (c : Chan) (g : MbSeg) : Chan := { c with
  mill := { c.mill.hit 16 with mbOut := none, mbRetry := 0, mbSeq := (g.seq + 1) % 256, mbQueue := c.mill.mbQueue.filter (fun (x : MbSeg) => x.dest != g.dest) }
  bridge := { c.bridge with work := c.bridge.work.filter (fun w => !((g :: c.mill.mbQueue).any (fun (x : MbSeg) => x.dest == g.dest && x.work == some w))) }
  dict := { c.dict with ringOut := c.dict.ringOut.filter (fun o => o.2 != g.dest) } }

theorem mailboxTimeout_next {s : State} {r : Ring} {g : MbSeg} (hg : (s.chan (ringOwner r)).mill.mbOut = some g) (h64 : 64 ≤ (s.chan (ringOwner r)).mill.mbRetry)
    (hrun : ∀ x, ∀ j < 32, ((s.chan x).bridge.slot j).running = false) :
    exec (.mailboxTimeout r) s = .next (s.upd (ringOwner r) (fun c => c.mailLost g)) := by
  have idle : ∀ x, ∀ j < 32, (((s.upd (ringOwner r) (fun c => c.mailLost g)).chan x).bridge.slot j).running = false := fun x j hj => by
    by_cases hx : x = ringOwner r
    · rw [hx, State.upd_chan_self]
      exact hrun _ j hj
    · rw [State.upd_chan_other _ _ hx]
      exact hrun x j hj
  show execMailboxTimeout r s = _
  simp only [execMailboxTimeout, hg]
  rw [guardC_true (by simpa using h64)]
  exact congrArg Host.Outcome.next (State.updAll_id fun x => Chan.readsFailed_idle (idle x) _ _)

/-- Settles O42: each event through its guard, in the state that the statement names. -/
theorem ringWindowsAndTimers : Obligations.RingWindowsAndTimers := by
  intro s r n k o c m onRing
  refine ⟨fun b w hb hw hk hr hsp => ⟨fun hj => ⟨?_, ?_⟩, fun ho => ⟨?_, ?_⟩⟩, fun ho hc => guardC_upd_goes (by simp [show (s.chan (ringOwner r)).mill = m from rfl, ho, hc]) fun t e oc => ?_,
    fun hw hh => onMill_eq (if_pos (by simp [show (s.chan (ringOwner r)).mill = m from rfl, hw, hh])),
    fun hw hh => onMill_eq (if_pos (by simp [show (s.chan (ringOwner r)).mill = m from rfl, hw, hh])), fun hb => onMill_eq (if_pos hb),
    fun g hg h64 hrun => ?_, fun ch w hst hm h31 h30 => onChan_goes fun t e oc => ?_⟩
  · exact (windowFetch_status hb hw hk hr hsp rfl).1 hj
  · exact (windowFetch_status hb hw hk hr hsp rfl).1 hj
  · exact (windowFetch_status hb hw hk hr hsp rfl).2 ho
  · exact (windowFetch_status hb hw hk hr hsp rfl).2 ho
  · rw [e]
    exact ⟨oc, MillBlk.hit_if .., rfl⟩
  · refine ⟨_, mailboxTimeout_next hg h64 hrun, fun x hx => State.upd_chan_other _ _ hx, rfl, rfl, ?_⟩
    rw [State.upd_chan_self]
    exact ⟨rfl, rfl, rfl⟩
  · refine ⟨oc, ?_⟩
    have on : markOn w true = true := by simp [markOn, h31, h30]
    rw [hm, Option.getD_some, hst] at e
    dsimp only at e
    rw [on, Bool.and_self, if_pos rfl] at e
    rw [e]
    refine ⟨rfl, fun h hh hb => ?_⟩
    exact Chan.core_mark (c := { s.chan ch with tb := _ }) hb _

end Sys2Proof.Machine
end


/-! PROOFS. Time discipline, field inputs and outputs, the module pair. -/

section
namespace Sys2Proof.Machine
open Sys2Proof Sys2Proof.Safety

/-! The discipline -/

/-- The limit of a sample's offset (R99). -/
def TimeBlk.offsetLimit (t : TimeBlk) : Int := t.jumpNs + (if t.dstate = .settling then ((periodNs t.period / 2 : Nat) : Int) else 0)

theorem TimeBlk.correct_limit (t : TimeBlk) : (if t.dstate = .settling then ((periodNs t.period / 2 : Nat) : Int) + t.jumpNs else t.jumpNs) = t.offsetLimit := by
  unfold TimeBlk.offsetLimit
  split <;> omega

theorem TimeBlk.correct_used {t : TimeBlk} {o : Int} (h : (o.natAbs : Int) ≤ t.offsetLimit) :
    t.correct o = { t.servo o with dstate := if t.dstate = .settling && t.jumpNs < o.natAbs then .settling else .locked } := by
  rw [← TimeBlk.correct_limit] at h
  exact if_neg (Int.not_lt.mpr h)

theorem TimeBlk.correct_refused {t : TimeBlk} {o : Int} (h : t.offsetLimit < o.natAbs) : t.correct o = { t with flag := t.flag.raise 0 } := by
  rw [← TimeBlk.correct_limit] at h
  exact if_pos h

/-- Settles O54: a sample is refused beyond the limit and fed to the servo within it; holdover is the due case of its guard. -/
theorem disciplineServo : Obligations.DisciplineServo := by
  intro t o s ch b hd lim f1
  refine ⟨fun h => ?_, fun h => TimeBlk.correct_refused h, fun ht hu hl hn => ?_⟩
  · rw [TimeBlk.correct_used h]
    simp only [Bool.and_eq_true, decide_eq_true_eq]
    rfl
  · refine onChan_next ?_
    have due : (s.chan ch).tb.dstate = .settling ∨ (s.chan ch).tb.dstate = .locked := by rw [ht]; exact hd
    have last : (s.chan ch).tb.lastApplied = some b := by rw [ht]; exact hl
    rw [last]
    refine (if_pos (by simpa [hu, hn] using due)).trans ?_
    rw [ht]

/-! Inputs -/

theorem atD_eq_getD {α : Type} (d : α) : ∀ (i : Nat) (l : List α), atD d i l = l[i]?.getD d
  | _, [] => by simp [atD]
  | 0, _ :: _ => rfl
  | i + 1, _ :: l => by simpa [atD] using atD_eq_getD d i l

theorem getLsbD_foldl_toggle (p : Nat → Bool) {i : Nat} (hi : i < 32) : ∀ {l : List Nat} (w : Word), l.Nodup →
    (l.foldl (fun (w : Word) j => if p j then w ^^^ (1#32 <<< j) else w) w).getLsbD i = (w.getLsbD i ^^ (decide (i ∈ l) && p i))
  | [], w, _ => by simp
  | j :: l, w, h => by
    have one : (1#32 <<< j).getLsbD i = decide (i = j) := by
      rw [BitVec.getLsbD_shiftLeft]
      rcases Nat.lt_trichotomy i j with h | h | h
      · simp [h, h.ne]
      · simp [h ▸ hi, h]
      · simp [h.ne', Nat.sub_ne_zero_of_lt h, Nat.not_lt.mpr h.le]
    have head : (if p j then w ^^^ (1#32 <<< j) else w).getLsbD i = (w.getLsbD i ^^ (decide (i = j) && p i)) := by
      by_cases e : i = j
      · subst e
        split <;> rename_i hp <;> simp [hp, one]
      · split <;> simp [e, one]
    rw [List.foldl_cons, getLsbD_foldl_toggle p hi _ (List.nodup_cons.mp h).2, head]
    by_cases e : i = j
    · subst e
      simp [(List.nodup_cons.mp h).1]
    · simp [e]

theorem FieldBlk.getLsbD_newLvl (f : FieldBlk) (raw : Word) {i : Nat} (hi : i < 32) :
    (f.newLvl raw).getLsbD i = (f.lvl.getLsbD i ^^ f.flips raw i) := by
  unfold FieldBlk.newLvl
  rw [getLsbD_foldl_toggle (f.flips raw) hi _ List.nodup_range]
  simp [hi]

/-- An input that flips takes the raw level, for it differed from it. -/
theorem FieldBlk.flips_ne {f : FieldBlk} {raw : Word} {i : Nat} (h : f.flips raw i = true) : f.lvl.getLsbD i = !raw.getLsbD i := by
  by_cases e : raw.getLsbD i = f.lvl.getLsbD i
  · simp [FieldBlk.flips, FieldBlk.differed, e] at h
  · cases h1 : raw.getLsbD i <;> cases h2 : f.lvl.getLsbD i <;> simp_all

theorem FieldBlk.atD_counted (f : FieldBlk) (raw : Word) (dst : Bool) {l : List Word} {i : Nat} (hi : i < l.length) :
    atD 0#32 i (f.counted raw dst l) = atD 0#32 i l + (if f.flips raw i && f.lvl.getLsbD i != dst then 1#32 else 0#32) := by
  rw [atD_eq_getD, atD_eq_getD, FieldBlk.counted, List.getElem?_map, List.getElem?_zipIdx, List.getElem?_eq_getElem hi]
  simp only [Option.map_some, Option.getD_some, Nat.zero_add]
  split <;> simp

/-- A count advances at an edge towards its destination, while the tick counter runs. -/
theorem FieldBlk.atD_counting (f : FieldBlk) (raw : Word) (dst run : Bool) {l : List Word} {i : Nat} (hi : i < l.length) :
    atD 0#32 i (if run then f.counted raw dst l else l) = atD 0#32 i l + (if f.flips raw i && run && raw.getLsbD i == dst then 1#32 else 0#32) := by
  cases run
  · simp
  · rw [if_pos rfl, FieldBlk.atD_counted _ _ _ hi]
    cases h : f.flips raw i
    · simp
    · rw [FieldBlk.flips_ne h]
      cases raw.getLsbD i <;> cases dst <;> rfl

theorem TimeBlk.toInstant_tickRun (t : TimeBlk) : t.toInstant.tickRun = t.tickRun := rfl

theorem Chan.mapNets_shape (c : Chan) (f : Nat → NetRt → NetRt) : ∃ x y, c.mapNets f = { c with field := { c.field with nets := x, test := y } } := ⟨_, _, rfl⟩

theorem Chan.align_shape (c : Chan) (raw : Word) (nets : List NetReading) : ∃ x y, c.align raw nets = { c with
    field := { c.field with
      raw := raw, lvl := c.field.newLvl raw, nets := x, test := y
      filt := (List.range 32).map (fun i => if c.field.flips raw i then 0 else c.field.differed raw i) }
    sl := { c.sl with
      rise := if c.tb.tickRun then c.field.counted raw true c.sl.rise else c.sl.rise
      fall := if c.tb.tickRun then c.field.counted raw false c.sl.fall else c.sl.fall } } := by
  unfold Chan.align
  dsimp only
  split
  · exact ⟨_, _, rfl⟩
  · exact ⟨_, _, rfl⟩

/-- What an alignment instant leaves of its channel: levels, filter counts and edge counts from the field block before, the new set, the nets. -/
theorem alignmentInstant_next {s : State} {ch : Ch} (raw : Word) (nets : List NetReading) (hu : (s.chan ch).up = true) (hd : (s.chan ch).clk.divRun = true) :
    ∃ t, exec (.alignmentInstant ch raw nets) s = .next t ∧ (∀ k, k ≠ ch → t.chan k = s.chan k) ∧ t.pending = s.pending ∧
      ∃ x y st, t.chan ch = { s.chan ch with
        tb := (s.chan ch).tb.toInstant
        field := { (s.chan ch).field with
          raw := raw, lvl := (s.chan ch).field.newLvl raw, nets := x, test := y
          filt := (List.range 32).map (fun i => if (s.chan ch).field.flips raw i then 0 else (s.chan ch).field.differed raw i) }
        sl := { (s.chan ch).sl with
          sets := st
          rise := if (s.chan ch).tb.tickRun then (s.chan ch).field.counted raw true (s.chan ch).sl.rise else (s.chan ch).sl.rise
          fall := if (s.chan ch).tb.tickRun then (s.chan ch).field.counted raw false (s.chan ch).sl.fall else (s.chan ch).sl.fall } } ∧
        st.head?.map (·.levels) = some ((s.chan ch).field.newLvl raw) := by
  have chan : ∃ x y st, ((((s.upd ch (fun c => { c with tb := c.tb.toInstant }.align raw nets)).dropFinds ch).upd ch Chan.keepSet).chan ch) = { s.chan ch with
        tb := (s.chan ch).tb.toInstant
        field := { (s.chan ch).field with
          raw := raw, lvl := (s.chan ch).field.newLvl raw, nets := x, test := y
          filt := (List.range 32).map (fun i => if (s.chan ch).field.flips raw i then 0 else (s.chan ch).field.differed raw i) }
        sl := { (s.chan ch).sl with
          sets := st
          rise := if (s.chan ch).tb.tickRun then (s.chan ch).field.counted raw true (s.chan ch).sl.rise else (s.chan ch).sl.rise
          fall := if (s.chan ch).tb.tickRun then (s.chan ch).field.counted raw false (s.chan ch).sl.fall else (s.chan ch).sl.fall } } ∧
        st.head?.map (·.levels) = some ((s.chan ch).field.newLvl raw) := by
    rw [State.upd_chan_self, State.dropFinds, State.upd_chan_self, State.upd_chan_self]
    obtain ⟨x, y, hx⟩ := Chan.align_shape { s.chan ch with tb := (s.chan ch).tb.toInstant } raw nets
    obtain ⟨x', y', hx'⟩ := Chan.mapNets_shape (Chan.align { s.chan ch with tb := (s.chan ch).tb.toInstant } raw nets) (fun i n =>
      { n with finds := n.finds.filter (fun f => (s.upd ch (fun c => { c with tb := c.tb.toInstant }.align raw nets)).findCond ch i f) })
    rw [hx', hx]
    exact ⟨_, _, _, rfl, rfl⟩
  have others : OnlyChan ch s (((s.upd ch (fun c => { c with tb := c.tb.toInstant }.align raw nets)).dropFinds ch).upd ch Chan.keepSet) :=
    onlyChan_trans (onlyChan_trans (onlyChan_of_upd ..) (onlyChan_of_upd ..)) (onlyChan_of_upd ..)
  refine ⟨_, guardC_true (by simp [hu, hd]), ?_⟩
  dsimp only
  split
  · exact ⟨fun k hk => (State.sendBoth_chan ..).trans (others.1 k hk), (State.sendBoth_pending ..).trans others.2.2, by rw [State.sendBoth_chan]; exact chan⟩
  · exact ⟨others.1, others.2.2, chan⟩

/-- Settles O50: each bit, filter count and edge count of the instant is that of its own input. -/
theorem alignmentFiltersInputs : Obligations.AlignmentFiltersInputs := by
  intro s ch raw nets i hi hu hd hr hf f n flip
  obtain ⟨t, e, hk, hp, x, y, st, hc, hs⟩ := alignmentInstant_next raw nets hu hd
  have hflip : f.flips raw i = flip := rfl
  have hn : f.differed raw i = n := rfl
  refine ⟨t, e, hk, hp, ?_, ?_, ?_, ?_, ?_, ?_⟩
  all_goals rw [hc]
  · rw [FieldBlk.getLsbD_newLvl _ _ hi]
    cases h : flip
    · simp [hflip, h, f]
    · rw [FieldBlk.flips_ne (hflip.trans h), hflip, h]
      simp
  · rw [atD_eq_getD, List.getElem?_map, List.getElem?_range hi]
    rfl
  · refine (FieldBlk.atD_counting _ raw true _ (by rw [hr]; exact hi)).trans ?_
    rw [hflip, beq_true]
  · refine (FieldBlk.atD_counting _ raw false _ (by rw [hf]; exact hi)).trans ?_
    rw [hflip, beq_false]
  · exact hs

/-! The transistor test and a boundary stamp beyond the time base -/

/-- Channel A in M7 with its first transistor test due, and a boundary stamp of 2^64 ns, which the 96-bit accumulator of the time base cannot show. -/
def stampedPast : State := Tests.inMode .m7 fun c =>
  { c with field := { c.field with fsup := true }, tb := { c.tb with c := 6, bk := 18446744073709551616 } }

theorem stampedPast_due : (stampedPast.chan .A).field.nets.length = 18 ∧ (stampedPast.chan .A).sys.mode.runs = true ∧
    (stampedPast.chan .A).field.fsup = true ∧ (stampedPast.chan .A).field.test = none ∧ (stampedPast.chan .A).sys.cstate = .voting ∧
    (stampedPast.chan .A).field.released = false ∧
    (stampedPast.chan .A).tb.c % (3 * (stampedPast.chan .A).testM) = chCode .A * (stampedPast.chan .A).testM ∧
    (testOrder (stampedPast.chan .A).field.nextTest).find? (fun q => (stampedPast.chan .A).testable .A q) = some (0, 0) := by decide

/-- What a run notes as the times of the last test changes in channel A. -/
def testTimes (o : Out) : List (Nat × Nat) :=
  match o with | .next t => (t.chan .A).field.testChg | _ => []

theorem stampedPast_test : testTimes (exec (.transistorTestStart .A) stampedPast) = [(0, 25000)] := by decide

theorem stampedPast_claim : assocSet (12 * 0 + atD 0 0 (ownedBy .A)) (max (stampedPast.chan .A).now ((stampedPast.chan .A).tb.bk + 25000))
    (stampedPast.chan .A).field.testChg = [(0, 18446744073709576616)] := by decide

/-- Refutes O51: the start of a transistor test advances the time base to 25 us after the boundary stamp, and its accumulator wraps there at 2^64 ns; with the stamp 2^64 the time noted is 25,000 ns, not the later of the two times. -/
theorem not_fieldEvents : ¬ Obligations.FieldEvents := by
  intro h
  obtain ⟨hn, hm, hf, ht, hv, hr, hd, hp⟩ := stampedPast_due
  obtain ⟨-, -, hstart, -⟩ := h stampedPast .A 0 0 .over hn
  obtain ⟨t, he, -, hfield, -⟩ := hstart (0, 0) hm hf ht hv hr hd hp
  have hrun := stampedPast_test
  rw [he] at hrun
  have hclaim := congrArg FieldBlk.testChg hfield
  exact absurd (hrun.symm.trans (hclaim.trans stampedPast_claim)) (by decide)

end Sys2Proof.Machine
end


/-! PROOFS. The signal chain and the module pair. -/

section
namespace Sys2Proof.Machine
open Sys2Proof Sys2Proof.Safety

/-! What a message on the wire depends on -/

theorem State.send_wire_congr {s t : State} (hx : ∀ p, (t.chan p).xl = (s.chan p).xl) (hs : ∀ p, (t.chan p).sys = (s.chan p).sys)
    (hw : t.wire = s.wire) (a b : Ch) (x : XBody) : (t.send a b x).wire = (s.send a b x).wire := by
  have hr : t.relays a b x.cls = s.relays a b x.cls := by simp only [State.relays, State.direct_congr hx hs]
  unfold State.send
  rw [State.direct_congr hx hs, hr]
  split_ifs <;> simp only [hw]

theorem State.sendBoth_wire_congr {s t : State} (hx : ∀ p, (t.chan p).xl = (s.chan p).xl) (hs : ∀ p, (t.chan p).sys = (s.chan p).sys)
    (hw : t.wire = s.wire) (a : Ch) (x : XBody) : (t.sendBoth a x).wire = (s.sendBoth a x).wire := by
  refine State.send_wire_congr (fun p => ?_) (fun p => ?_) (State.send_wire_congr hx hs hw _ _ _) _ _ _
  · simp only [State.send_chan, hx]
  · simp only [State.send_chan, hs]

theorem State.upd_sendBoth_wire {s : State} {ch : Ch} {f : Chan → Chan} (hx : (f (s.chan ch)).xl = (s.chan ch).xl)
    (hs : (f (s.chan ch)).sys = (s.chan ch).sys) (x : XBody) : ((s.upd ch f).sendBoth ch x).wire = (s.sendBoth ch x).wire := by
  refine State.sendBoth_wire_congr (s := s) (t := s.upd ch f) (fun p => ?_) (fun p => ?_) rfl ch x
  · rw [State.upd_chan]
    split
    next h => rw [h, hx]
    next => rfl
  · rw [State.upd_chan]
    split
    next h => rw [h, hs]
    next => rfl

/-! The signal chain -/

theorem Chan.up_of_sdRuns {c : Chan} (h : c.sdRuns = true) : c.up = true := by
  unfold Chan.sdRuns at h
  exact (Bool.and_eq_true_iff.mp h).1

theorem atD_map {α : Type} (d : α) (f : α → α) (i : Nat) {l : List α} (h : i < l.length) : atD d i (l.map f) = f (atD d i l) := by
  simp [atD_eq_getD, h]

theorem atD_map_zipIdx {α : Type} (d : α) (f : α × Nat → α) (i : Nat) {l : List α} (h : i < l.length) :
    atD d i (l.zipIdx.map f) = f (atD d i l, i) := by
  simp [atD_eq_getD, h]

/-- What a bit without a frame bit, once framed, changes of a channel. -/
theorem Chan.sdBit_plain {c : Chan} (bits : BitVec 12) (h : c.sd.framed = true) :
    c.sdBit bits false false = { c with sd := { c.sd with
      since := c.sd.since + 1
      ins := c.sd.ins.zipIdx.map fun x => if x.1.cfg.en then x.1.take (bits.getLsbD x.2) else x.1
      flag := c.sd.flag.raiseN (oversBetween c.sd.ins (c.sd.ins.zipIdx.map fun x => if x.1.cfg.en then x.1.take (bits.getLsbD x.2) else x.1)) 5 } } := by
  unfold Chan.sdBit
  simp only [Bool.not_false, if_true, h]

theorem SdIn.take_ys {x : SdIn} {d : Bool} (h : (x.b + 1) % (16 * 2 ^ x.cfg.rcode) ≠ 0) : (x.take d).ys = x.ys ∧ (x.take d).b = x.b + 1 := by
  unfold SdIn.take
  exact ⟨(congrArg SdIn.ys (if_pos h)).trans rfl, (congrArg SdIn.b (if_pos h)).trans rfl⟩

/-- A delivered input: what the tick closed last becomes what the channel shows. -/
def SdIn.delivered (x : SdIn) : SdIn := { x with out := x.cur, status := x.curStat, last := atD x.last (x.cur.length - 1) x.cur }

/-- What a delivery changes where no check of its tick has come. -/
theorem Chan.sdDeliver_shape {c : Chan} {k : Word} (ps : Option (List (List Word)) × Option (List (List Word))) (h0 : c.sd.got0 ≠ some k) (h1 : c.sd.got1 ≠ some k) :
    ∃ chk run, c.sdDeliver k ps = { c with sd := { c.sd.mapOn SdIn.delivered with
      k := k, chk := chk, closed := none, delivered := true, got0 := none, got1 := none, disRun := run } } := by
  refine ⟨crc32c (wordBytes (((c.sd.mapOn SdIn.delivered).ins.filter (·.cfg.en)).flatMap fun x => x.out ++ [x.status])),
    if c.sd.got0 == some c.sd.k && c.sd.got1 == some c.sd.k then c.sd.disRun else 0, ?_⟩
  unfold Chan.sdDeliver
  extract_lets d words both early g0 g1 c1 c2
  have e0 : g0 = none := if_neg (by simp [d, SdBlk.mapOn, h0])
  have e1 : g1 = none := if_neg (by simp [d, SdBlk.mapOn, h1])
  have e2 : c2 = c1 := if_neg (by simp [e0])
  refine (if_neg (by simp [e1])).trans (e2.trans ?_)
  simp only [c1, e0]
  rfl

/-- What closing a tick changes of a channel: its chain alone, each enabled input closed. -/
theorem Chan.sdClose_shape (c : Chan) (len : Nat) : ∃ d fe flag, c.sdClose len = { c with sd := d } ∧
    d = { c.sd.mapOn (fun x => x.close c.sd.f len c.sd.synced fe c.sd.noclk) with
      lastL := min len 65535, closed := some len, moveErr := c.sd.moveErr - 1, noclk := false, flag := flag } :=
  ⟨_, _, _, rfl, rfl⟩

theorem SdBlk.atD_mapOn (d : SdBlk) (f : SdIn → SdIn) {i : Nat} (h : i < d.ins.length) :
    atD SdIn.init i (d.mapOn f).ins = if (atD SdIn.init i d.ins).cfg.en then f (atD SdIn.init i d.ins) else atD SdIn.init i d.ins :=
  atD_map SdIn.init (fun x => if x.cfg.en then f x else x) i h

/-- What the end of a tick makes of the machine: the chain `d'` of the delivery with its own report, and the check on its way. -/
theorem sdFrameBit_goes {s : State} {ch : Ch} {k : Word} {d' : SdBlk}
    (hg : ((s.chan ch).up && sdMode (s.chan ch).sys.mode && ((s.chan ch).sd.closed.isSome || (s.chan ch).sd.noclk)) = true)
    (hc : (if (s.chan ch).sd.closed.isSome then s.chan ch else (s.chan ch).sdClose (s.chan ch).sd.since).sdDeliver k (s.peerWords ch k) =
      { s.chan ch with sd := d' }) :
    ∃ t, exec (.sdFrameBit ch k) s = .next t ∧ (∀ x, x ≠ ch → t.chan x = s.chan x) ∧ t.pending = s.pending ∧
      t.chan ch = { s.chan ch with sd := { d' with rep := (d'.allNoclk, d'.rep.2) } } ∧
      t.wire = (s.sendBoth ch (.sdCheck k d'.chk d'.allNoclk)).wire := by
  have he : exec (.sdFrameBit ch k) s = .next ((s.upd ch fun c => { c with sd := { d' with rep := (d'.allNoclk, d'.rep.2) } }).sendBoth ch
      (.sdCheck k d'.chk d'.allNoclk)) := by
    refine (guardC_true hg).trans (congrArg Host.Outcome.next ?_)
    dsimp only
    rw [State.upd_chan_self, hc, State.upd_upd]
    exact congrArg (State.sendBoth · ch _) (State.upd_congr (by dsimp only; rw [hc]))
  refine ⟨_, he, fun x hx => ?_, ?_, ?_, ?_⟩
  · rw [State.sendBoth_chan, State.upd_chan_other _ _ hx]
  · rw [State.sendBoth_pending]; rfl
  · rw [State.sendBoth_chan, State.upd_chan_self]
  · exact State.upd_sendBoth_wire rfl rfl _

/-- Settles O53. -/
theorem signalChain : Obligations.SignalChain := by
  intro s ch bits k i hr c d nb onSd
  have hup := Chan.up_of_sdRuns hr
  have edge (hp : d.pinEn = true) : (c.sdRuns && c.sd.pinEn && true && (!d.pinFall) != c.sd.pinFall) = true := by
    simp [c, d, hr, show (s.chan ch).sd.pinEn = true from hp]
  refine ⟨fun hd hk hp => onChan_goes fun t e o => ?_, fun hf hi => onChan_goes fun t e o => ?_, fun hm h0 h1 hi => ⟨fun n hn => ?_, fun hn hk he => ?_⟩, ?_, fun hp => ⟨?_, ?_⟩⟩
  · have hb : (c.sdRuns && c.sd.drv && decide (c.sd.clkCh = some ch) && decide (c.sd.pulsed ≠ some nb)) = true := by
      simp only [Bool.and_eq_true, decide_eq_true_eq]
      exact ⟨⟨⟨hr, hd⟩, hk⟩, hp⟩
    have e := e.trans (if_pos hb)
    dsimp only [Chan.emit] at e
    exact ⟨o, by rw [e], by rw [e], by rw [e]⟩
  · have e := e.trans ((if_pos hr).trans (Chan.sdBit_plain bits hf))
    have hins : atD SdIn.init i (t.chan ch).sd.ins =
        if (atD SdIn.init i d.ins).cfg.en then (atD SdIn.init i d.ins).take (bits.getLsbD i) else atD SdIn.init i d.ins := by
      rw [e]; exact atD_map_zipIdx SdIn.init _ i hi
    refine ⟨o, by rw [e], by rw [e], by rw [e], by rw [e], hins, fun hen hb => ?_⟩
    rw [hins, if_pos hen]
    exact SdIn.take_ys hb
  · have hn : c.sd.closed = some n := hn
    obtain ⟨chk, run, hs⟩ := Chan.sdDeliver_shape (c := c) (s.peerWords ch k) h0 h1
    obtain ⟨t, he, hx, hp, ht, hw⟩ := sdFrameBit_goes (by simp [hup, show sdMode (s.chan ch).sys.mode = true from hm, show (s.chan ch).sd.closed = some n from hn])
      ((congrArg (Chan.sdDeliver · k _) (if_pos (by simp [show (s.chan ch).sd.closed = some n from hn]))).trans hs)
    have hin := SdBlk.atD_mapOn d SdIn.delivered hi
    refine ⟨t, he, hx, hp, by rw [ht], by rw [ht], by rw [ht], by rw [ht]; rfl, by rw [hw, ht]; rfl, fun he => ?_, fun he => ?_⟩
    · rw [ht]
      exact ⟨(congrArg SdIn.out (hin.trans (if_pos he))).trans rfl, (congrArg SdIn.status (hin.trans (if_pos he))).trans rfl⟩
    · rw [ht]
      exact hin.trans (if_neg (by simp [he]))
  · obtain ⟨d', fe, flag, hcl, hd'⟩ := Chan.sdClose_shape c d.since
    have hn : (s.chan ch).sd.closed = none := hn
    obtain ⟨chk, run, hs⟩ := Chan.sdDeliver_shape (c := { c with sd := d' }) (s.peerWords ch k) (by rw [hd']; exact h0) (by rw [hd']; exact h1)
    obtain ⟨t, ht, hx, hp, ht', -⟩ := sdFrameBit_goes (by simp [hup, show sdMode (s.chan ch).sys.mode = true from hm, show (s.chan ch).sd.noclk = true from hk])
      ((congrArg (Chan.sdDeliver · k _) ((if_neg (by simp [hn])).trans hcl)).trans hs)
    have hin := SdBlk.atD_mapOn d (fun x => x.close d.f d.since d.synced fe d.noclk) hi
    rw [if_pos he] at hin
    have hi' : i < d'.ins.length := by rw [hd']; simpa [SdBlk.mapOn] using hi
    have hin' := SdBlk.atD_mapOn d' SdIn.delivered hi'
    rw [show d'.ins = (d.mapOn fun x => x.close d.f d.since d.synced fe d.noclk).ins by rw [hd'], hin, if_pos (by exact he)] at hin'
    refine ⟨t, ht, hx, hp, by rw [ht', hd']; rfl, by rw [ht', hd']; rfl, ?_⟩
    rw [ht']
    refine (congrArg (fun x : SdIn => x.out.length) hin').trans ?_
    simp [SdIn.delivered, SdIn.close]
  · exact onChan_next (if_pos hr)
  · exact onChan_next ((if_pos (edge hp)).trans rfl)
  · refine onChan_next ((if_pos (edge hp)).trans ?_)
    have hn : (!decide (d.pulsed = some nb)) = decide (d.pulsed ≠ some nb) := decide_not.symm
    rw [← hn, ← beq_eq_decide]
    rfl

/-! The module pair -/

/-- What a pair message needs to be received (R301): the window of the ring's owner, or the owner's message on the link, which leaves `w` on the wire. -/
def PairGot (s : State) (ch : Ch) (r : Ring) (w : List XMsg) (q : XBody → Bool) (b : XBody) : Prop :=
  if decide (ch = ringOwner r) then (s.chan ch).speaks = true ∧ w = s.wire else ∃ m, Arrives s ch (ringOwner r) q m w ∧ m.body = b

/-- What a received pair message leaves: the ring's owner passes it on, another channel has taken it from the wire. -/
def State.pairTaken (s : State) (ch : Ch) (r : Ring) (w : List XMsg) (g : Chan → Chan) (b : XBody) : State :=
  if decide (ch = ringOwner r) then (s.upd ch g).sendBoth ch b else ({ s with wire := w } : State).upd ch g

section
variable {s : State} {ch : Ch} {r : Ring} {w : List XMsg}

theorem State.pairTaken_congr {g g' : Chan → Chan} (h : g (s.chan ch) = g' (s.chan ch)) (b : XBody) : s.pairTaken ch r w g b = s.pairTaken ch r w g' b := by
  unfold State.pairTaken
  rw [State.upd_congr h, State.upd_congr (s := { s with wire := w }) h]

theorem State.pairTaken_self (g : Chan → Chan) (b : XBody) : (s.pairTaken ch r w g b).chan ch = g (s.chan ch) := by
  unfold State.pairTaken
  split
  · rw [State.sendBoth_chan, State.upd_chan_self]
  · exact State.upd_chan_self ..

theorem State.pairTaken_other (g : Chan → Chan) (b : XBody) {x : Ch} (h : x ≠ ch) : (s.pairTaken ch r w g b).chan x = s.chan x := by
  unfold State.pairTaken
  split
  · rw [State.sendBoth_chan, State.upd_chan_other _ _ h]
  · exact State.upd_chan_other _ _ h

theorem pairStatus_next {cyc : Word} {ps : PairStatus} (h : PairGot s ch r w XBody.isPairStatus (.pairStatus r cyc ps)) :
    exec (.pairStatusReceive ch r cyc ps true) s = .next (s.pairTaken ch r w (fun c => c.pairStatusIn r cyc ps) (.pairStatus r cyc ps)) := by
  unfold PairGot at h
  unfold State.pairTaken
  by_cases ho : ch = ringOwner r
  · rw [if_pos (decide_eq_true ho)] at h ⊢
    exact (if_pos ho).trans (guardC_true (by simp [h.1]))
  · rw [if_neg (by simp [ho])] at h ⊢
    obtain ⟨m, hm, hb⟩ := h
    exact (if_neg ho).trans (recv_next hm (by rw [hb]))

theorem pairRecord_next {cyc : Word} {rec : PairRecord} (h : PairGot s ch r w XBody.isPairRecord (.pairRecord r cyc rec)) :
    exec (.pairRecordReceive ch r cyc rec true) s = .next (s.pairTaken ch r w (fun c => c.pairRecordIn r cyc rec) (.pairRecord r cyc rec)) := by
  unfold PairGot at h
  unfold State.pairTaken
  by_cases ho : ch = ringOwner r
  · rw [if_pos (decide_eq_true ho)] at h ⊢
    exact (if_pos ho).trans (guardC_true (by simp [h.1]))
  · rw [if_neg (by simp [ho])] at h ⊢
    obtain ⟨m, hm, hb⟩ := h
    exact (if_neg ho).trans (recv_next hm (by rw [hb]))

end

/-- A record number that continues the copy, or lies ahead of it by less than half the numbers, was not taken already. -/
theorem PairBlk.oldRecord_next (p : PairBlk) (k : Word) : p.oldRecord (nextXseq p.xseq) k = false := by
  unfold PairBlk.oldRecord nextXseq
  split <;> simp <;> omega

theorem PairBlk.oldRecord_ahead {p : PairBlk} {n : Nat} (k : Word) (h1 : p.xseq + 1 < n) (h2 : n < p.xseq + 32768) (_ : n ≤ 65535) :
    p.oldRecord n k = false ∧ n ≠ nextXseq p.xseq := by
  unfold PairBlk.oldRecord nextXseq
  constructor
  · rw [if_neg (by omega)]; simp; omega
  · split <;> omega

/-- The copy's start changes the pair function, the slices, the cells and the field block: there, the quench timers of availability-wired networks. -/
theorem Chan.startCopy_shape (c : Chan) (k : Word) : ∃ cs sl, c.startCopy k =
    { ({ c with cells := cs, sl := sl }).mapNets (fun i n => if c.wiring i = 1 then { n with quenchAt := none } else n) with
      pair := { c.pair with track := .copying, copyK := k, stTimers := [], stItems := [], endRec := none, xseq := 0, xcount := 1, copyAt := c.now } } := by
  have fold (l : List TaskRt) : ∀ d : Chan, ∃ cs sl, l.foldl (fun (c : Chan) (t : TaskRt) => if t.decl.cap then c else c.dropInst t.decl.num) d = { d with cells := cs, sl := sl } := by
    induction l with
    | nil => exact fun d => ⟨_, _, rfl⟩
    | cons t l ih =>
      intro d
      rw [List.foldl_cons]
      split
      · exact ih d
      · obtain ⟨cs, sl, h⟩ := ih (d.dropInst t.decl.num)
        exact ⟨cs, sl, h⟩
  obtain ⟨cs, sl, h⟩ := fold c.sl.tasks c
  refine ⟨cs, sl, ?_⟩
  unfold Chan.startCopy
  rw [h]
  rfl

theorem Chan.mapNets_net {c : Chan} (f : Nat → NetRt → NetRt) {i : Nat} (h : i < c.field.nets.length) :
    (c.mapNets f).net i = (c.net i).stamped c.now (f i (c.net i)) :=
  atD_map_zipIdx NetRt.init (fun x => x.1.stamped c.now (f x.2 x.1)) i h

theorem PairBlk.testedH1_last {p : PairBlk} {n : Nat} {todo : List Nat} (h : ∀ m ∈ todo, m = n ∨ ∃ x ∈ p.cycle1, x.1 = m) :
    p.testedH1 n true todo = { p with h1 := (p.cycle1.filter (fun x => x.1 != n)).all (fun x => x.2), cycle1 := [] } := by
  refine if_pos (List.all_eq_true.mpr fun m hm => ?_)
  by_cases e : m = n
  · simp [e]
  · obtain ⟨x, hx, hxm⟩ := (h m hm).resolve_left e
    exact List.any_eq_true.mpr ⟨x, List.mem_cons_of_mem _ (List.mem_filter.mpr ⟨hx, by simp [hxm, e]⟩), by simp [hxm]⟩

theorem PairBlk.testedH1_more {p : PairBlk} {n : Nat} {todo : List Nat} (h : ∃ m ∈ todo, m ≠ n ∧ ∀ x ∈ p.cycle1, x.1 ≠ m) :
    p.testedH1 n true todo = { p with cycle1 := (n, true) :: p.cycle1.filter (fun x => x.1 != n) } := by
  obtain ⟨m, hm, hn, hx⟩ := h
  refine if_neg fun ha => ?_
  obtain ⟨x, hxl, hxm⟩ := List.any_eq_true.mp (List.all_eq_true.mp ha m hm)
  have hxm := beq_iff_eq.mp hxm
  rcases List.mem_cons.mp hxl with rfl | hxf
  · exact hn hxm.symm
  · exact hx x (List.mem_filter.mp hxf).1 hxm

/-- What the channel knows of its partner once a status is kept. -/
def Chan.statusKept (c : Chan) (r : Ring) (cyc : Word) (ps : PairStatus) : Chan :=
  { c with pair := { c.pair with
    partner := (r, cyc, ps) :: c.pair.partner.filter (fun x => x.1 != r)
    progdiff := decide (ps.prog ≠ match c.sl.prog with | some q => BitVec.ofNat 64 (leAt q.sha 0 8) | none => 0#64) } }

theorem Chan.pairStatusIn_newer {c : Chan} {r : Ring} {cyc : Word} {ps : PairStatus} (hon : c.pair.cfg.on = true) (hup : c.up = true) (hwin : c.pair.cfg.pwin r ≠ 0)
    (h : c.pair.partner.find? (fun x => x.1 == r) = none ∨ ∃ v y, c.pair.partner.find? (fun x => x.1 == r) = some (r, v, y) ∧ laterW cyc v = true) :
    c.pairStatusIn r cyc ps = if (c.statusKept r cyc ps).pair.track = .tracking && !(c.statusKept r cyc ps).pair.progdiff &&
        ps.pdk = c.pair.pdk && ps.pdig ≠ c.pair.pdig then (c.statusKept r cyc ps).pr (fun p => (p.hit 6).toWaiting) else c.statusKept r cyc ps := by
  refine (if_pos (by simp [hon, hup, hwin])).trans ?_
  unfold Chan.takeStatus
  rcases h with h | ⟨v, y, h, hl⟩
  · rw [h]; rfl
  · rw [h]
    exact if_neg (by simp [hl])

theorem Chan.pairRecordIn_m5 {c : Chan} {r : Ring} {cyc : Word} {rec : PairRecord} (hon : c.pair.cfg.on = true) (hm : c.sys.mode = .m5) (hr : rec.status.recP = true)
    (hwin : c.pair.cfg.pwin r ≠ 0) : c.pairRecordIn r cyc rec = c.takeRecord cyc rec :=
  if_pos (by simp [hon, hm, hr, hwin])

theorem Chan.takeRecord_waiting {c : Chan} {cyc : Word} {rec : PairRecord} (h : c.pair.track = .waiting) (hreq : c.pair.req = true) (hx : rec.status.xseq = 0) :
    c.takeRecord cyc rec = (c.startCopy rec.status.klo).stageRecord cyc rec := by
  unfold Chan.takeRecord
  simp only [h]
  exact if_pos (by simp [hreq, hx])

theorem Chan.takeRecord_old {c : Chan} {cyc : Word} {rec : PairRecord} (h : c.pair.track = .copying)
    (ho : c.pair.oldRecord rec.status.xseq rec.status.klo = true) : c.takeRecord cyc rec = c := by
  unfold Chan.takeRecord
  simp only [h]
  exact if_pos ho

theorem Chan.takeRecord_next {c : Chan} {cyc : Word} {rec : PairRecord} (h : c.pair.track = .copying) (hx : rec.status.xseq = nextXseq c.pair.xseq) :
    c.takeRecord cyc rec = (c.pr fun p => { p with xseq := nextXseq c.pair.xseq, xcount := min (p.xcount + 1) 65535 }).stageRecord cyc rec := by
  have h0 : nextXseq c.pair.xseq ≠ 0 := by unfold nextXseq; split <;> omega
  unfold Chan.takeRecord
  simp only [h, hx, PairBlk.oldRecord_next]
  exact (if_neg h0).trans (if_pos trivial)

theorem Chan.takeRecord_gap {c : Chan} {cyc : Word} {rec : PairRecord} (h : c.pair.track = .copying) (h1 : c.pair.xseq + 1 < rec.status.xseq)
    (h2 : rec.status.xseq < c.pair.xseq + 32768) (h3 : rec.status.xseq ≤ 65535) : c.takeRecord cyc rec = c.pr fun p => (p.hit 5).toWaiting := by
  obtain ⟨ho, hn⟩ := PairBlk.oldRecord_ahead rec.status.klo h1 h2 h3
  have h0 : rec.status.xseq ≠ 0 := by omega
  unfold Chan.takeRecord
  simp only [h, ho]
  exact (if_neg h0).trans (if_neg hn)

theorem Chan.stageRecord_page {c : Chan} {cyc : Word} {rec : PairRecord} (h : rec.status.xkind = 1) : ∃ sl, c.stageRecord cyc rec = { c with sl := sl } := by
  unfold Chan.stageRecord
  simp only [h]
  exact ⟨_, rfl⟩

theorem Chan.stageRecord_retained {c : Chan} {cyc : Word} {rec : PairRecord} (h : rec.status.xkind = 1) (ha : rec.status.xarea = 2) :
    c.stageRecord cyc rec = { c with sl := c.sl.updTask rec.status.xtask fun (k : TaskRt) => { k with rsWork := putWords k.rsWork (256 * rec.status.xpage) rec.words } } := by
  unfold Chan.stageRecord
  simp only [h, ha]
  rfl

theorem NetRt.stamped_quench (now : Nat) (b : Prop) [Decidable b] (n : NetRt) :
    n.stamped now (if b then { n with quenchAt := none } else n) = if b then { n with quenchAt := none } else n := by
  unfold NetRt.stamped
  split <;> simp

/-- Settles O52. -/
theorem modulePair : Obligations.ModulePair := by
  intro s ch r cyc ps rec cor w c p own got after sta rcd mine hon hwin
  have on : c.pair.cfg.on = true := hon
  refine ⟨fun hup hg hnew => ?_, fun hm hrec hg => ?_,
    fun htr => onChan_goes fun t e o => ?_, fun hm hup => ⟨onChan_next ?_, fun n hn hb hs => onChan_goes fun t e o => ?_⟩⟩
  · have hin := Chan.pairStatusIn_newer (ps := ps) on hup hwin hnew
    have hne := pairStatus_next hg
    refine ⟨fun htr => hne.trans (congrArg Host.Outcome.next (State.pairTaken_congr ?_ _)), fun htr hprog hpdk hdig => ⟨_, hne, fun x hx => State.pairTaken_other _ _ hx, ?_⟩⟩
    · exact hin.trans (if_neg (by simp only [Chan.statusKept]; simp [show c.pair.track ≠ .tracking from htr]))
    · have hk : (c.statusKept r cyc ps).pair.progdiff = false := decide_eq_false (fun hn => hn hprog)
      have hin := hin.trans (if_pos (by
        rw [hk]
        simp [Chan.statusKept, show c.pair.track = .tracking from htr, show ps.pdk = c.pair.pdk from hpdk, show ps.pdig ≠ c.pair.pdig from hdig]))
      rw [State.pairTaken_self, hin]
      exact ⟨rfl, rfl, rfl⟩
  · have hin := Chan.pairRecordIn_m5 (cyc := cyc) on hm hrec hwin
    have hne := pairRecord_next hg
    refine ⟨fun htr hreq hx hk => ⟨_, hne, fun x hx => State.pairTaken_other _ _ hx, ?_⟩, fun htr hx hk ha => ?_, fun htr hx => ?_,
      fun htr h1 h2 h3 => ⟨_, hne, fun x hx => State.pairTaken_other _ _ hx, ?_⟩⟩
    · obtain ⟨cs, sl, hc⟩ := Chan.startCopy_shape c rec.status.klo
      obtain ⟨sl', hs⟩ := Chan.stageRecord_page (c := c.startCopy rec.status.klo) (cyc := cyc) hk
      have hin := hin.trans ((Chan.takeRecord_waiting htr hreq hx).trans hs)
      rw [hc] at hin
      rw [State.pairTaken_self, hin]
      refine ⟨rfl, fun i hi => ?_, rfl⟩
      refine (Chan.mapNets_net (c := { c with cells := cs, sl := sl }) (fun i n => if c.wiring i = 1 then { n with quenchAt := none } else n) hi).trans ?_
      exact NetRt.stamped_quench ..
    · refine hne.trans (congrArg Host.Outcome.next (State.pairTaken_congr (hin.trans ?_) _))
      exact (Chan.takeRecord_next htr hx).trans (Chan.stageRecord_retained hk ha)
    · refine hne.trans (congrArg Host.Outcome.next (State.pairTaken_congr (hin.trans (Chan.takeRecord_old htr ?_)) _))
      rcases hx with ⟨h0, hk⟩ | ⟨h0, hx⟩
      · exact (if_pos h0).trans (decide_eq_true hk)
      · exact (if_neg h0).trans (by simp only [hx]; simp [p])
    · rw [State.pairTaken_self, hin, Chan.takeRecord_gap htr h1 h2 h3]
      exact ⟨rfl, rfl, rfl, rfl, rfl⟩
  · have e := e.trans (if_pos htr)
    dsimp only [Chan.pr, PairBlk.hit, PairBlk.toWaiting] at e
    exact ⟨o, by rw [e], by rw [e], by rw [e], by rw [e]⟩
  · exact if_pos (by simp [show (s.chan ch).sys.mode = .m5 from hm, show (s.chan ch).pair.cfg.on = true from hon, show (s.chan ch).up = true from hup])
  · have e := e.trans (if_pos (by
      simp [show (s.chan ch).sys.mode = .m5 from hm, show (s.chan ch).pair.cfg.on = true from hon, show (s.chan ch).up = true from hup,
        show ((s.chan ch).cell n).mode = .bonded from hb, show ((s.chan ch).core (2 * n)).slice = 0#32 from hs]))
    have e : t.chan ch = { c with pair := p.testedH1 n true c.bondedCells } := e
    exact ⟨o, by rw [e], fun h => by rw [e]; exact PairBlk.testedH1_last h, fun h => by rw [e]; exact PairBlk.testedH1_more h⟩

end Sys2Proof.Machine
end


/-! PROOFS. The train networks: process data, time, ports and switch, MVB. -/

section
namespace Sys2Proof.Machine
open Sys2Proof Sys2Proof.Safety
/-! Publications (R253 to R258) -/

/-- The port of a plane. -/
def Plane.port (p : Plane) : NetPort := if p = .a then .planeA else .planeB

/-- The telegram of a publication, as a push or as a pull answer. -/
def State.pubBody (s : State) (o : Ch) (q : Pub) (pull : Option (Word × Word)) : EthBody :=
  let c := s.chan o
  let d := s.content o q.kind q.task q.ofs q.words
  let ssc := BitVec.ofNat 32 (q.cycles c.tb.c + 1)
  let d1 := if q.sdt then d ++ [ssc, Config.sdtCode c.ecn.consist q.smi ssc d] else d
  match pull with
  | some (id, dst) => .pp id dst (c.pubCount q) d1
  | none => .pd q.comId q.dst (c.pubCount q) d1 (if q.sdt then some ssc else none)

/-- A frame of process data at a front port. -/
def Chan.pubFrame (c : Chan) (p : Plane) (q : Pub) (b : EthBody) (g : RPort) : RPort × Emission :=
  (g, .eth (Plane.port p) [g] c.ecn.vlan (if c.ecn.vlan = 0 then none else some (if q.sdt then 6 else 5)) (some 17224) b)

/-- The network block once a publication's telegram `b` has entered the queues of the ports it leaves by. -/
def Chan.pubLeft (c : Chan) (p : Plane) (q : Pub) (b : EthBody) : EcnBlk :=
  (c.pubSent q).ecn.enter (if q.sdt then 1 else 2) ((c.ecn.leaves (Plane.port p) b).map (c.pubFrame p q b))

theorem State.sendPub_plane (s : State) (p : Plane) (q : Pub) (pull : Option (Word × Word)) :
    s.sendPub (planeOwner p) q pull = s.upd (planeOwner p) fun c => { c with ecn := c.pubLeft p q (s.pubBody (planeOwner p) q pull) } := by
  cases p <;> rfl

/-- The gate's answer to a publication that need not wait, and to one that waits (R181). -/
theorem State.gated_open {s : State} {o : Ch} {q : Pub} (pull : Option (Word × Word)) (h : q.kind ≠ 0 ∨ (s.chan o).vote.gate = true) :
    s.gated o q pull = s.sendPub o q pull :=
  if_pos (by simpa using h)

/-- A telegram that waits at the gate, or goes with all that wait there. -/
def VoteBlk.await (v : VoteBlk) (g : GateItem) : VoteBlk :=
  if v.shut then { v with gateQ := [], flag := (v.gateQ ++ [g]).foldl (fun (f : FlagReg) _ => f.raise 5) v.flag } else { v with gateQ := v.gateQ ++ [g] }

theorem State.gated_closed {s : State} {o : Ch} {q : Pub} (pull : Option (Word × Word)) (hk : q.kind = 0) (hg : (s.chan o).vote.gate = false) :
    s.gated o q pull = s.upd o fun c => { c with vote := c.vote.await (match pull with | some (id, dst) => .pp q.num id dst | none => .pub q.num) } := by
  refine (if_neg (by simp [hk, hg])).trans (State.upd_congr ?_)
  dsimp only
  unfold VoteBlk.await
  split
  · rfl
  · rfl

theorem TimeBlk.reach_counts (t : TimeBlk) (n : Nat) : (t.reach n).c = t.c ∧ (t.reach n).k = t.k := by
  unfold TimeBlk.reach
  split <;> exact ⟨rfl, rfl⟩

/-- The time base of the sender is not in its telegram. -/
theorem State.pubBody_reach (s : State) (o : Ch) (q : Pub) (pull : Option (Word × Word)) (n : Chan → Nat) :
    (s.upd o fun c => { c with tb := c.tb.reach (n c) }).pubBody o q pull = s.pubBody o q pull := by
  obtain ⟨hc, hk⟩ := (s.chan o).tb.reach_counts (n (s.chan o))
  have hv (x : Ch) : (s.upd o fun c => { c with tb := c.tb.reach (n c) }).view x = s.view x := by
    unfold State.view
    rw [State.upd_chan]
    split <;> rfl
  unfold State.pubBody State.content Chan.pubCount Chan.outWords Chan.outWord Chan.statusWords
  simp only [hv, State.upd_chan_self, hc, hk]

/-- A telegram that is due passes the gate at its transmit time. -/
theorem pdTelegramDue_next {s : State} {p : Plane} {n : Nat} {q : Pub} (hq : (s.chan (planeOwner p)).ecn.pub n = some q)
    (hon : (s.chan (planeOwner p)).pubOn q = true) (hst : (s.chan (planeOwner p)).tb.started = true) (hph : q.phase ≤ (s.chan (planeOwner p)).tb.c)
    (hc : ((s.chan (planeOwner p)).tb.c - q.phase) % q.cycle = 0) :
    exec (.pdTelegramDue p n) s = .next ((s.upd (planeOwner p) fun c => { c with tb := c.tb.reach (c.tb.bk + q.txOfs * 1000) }).gated (planeOwner p) q none) := by
  change execPdTelegramDue p n s = _
  unfold execPdTelegramDue
  simp only [hq]
  exact guardC_true (by simp [hon, hst, hph, hc])

theorem pdPullRequest_next {s : State} {p : Plane} {q : Pub} {x id dst : Word} (hq : (s.chan (planeOwner p)).ecn.pubs.find? (fun y => y.comId == x) = some q)
    (hon : (s.chan (planeOwner p)).pubOn q = true) :
    exec (.pdPullRequest p ⟨x, true⟩ id dst) s = .next (s.gated (planeOwner p) q (some (id, dst))) := by
  change execPdPullRequest p ⟨x, true⟩ id dst s = _
  unfold execPdPullRequest
  simp only [hq]
  exact guardC_true hon

/-! A telegram received (R257) -/

theorem Chan.srcSet_none {c : Chan} (hon : c.pair.cfg.on = false) (hs : c.pair.cfg.srcSets = []) (a : Word) : c.srcSet a = none :=
  if_neg (by simp [hon, hs])

/-- The item of a telegram at a subscription without SDTv2. -/
def pdItem (x : Telegram) (p : Plane) (u : ESub) : Item := ⟨1, if p = .a then 0 else 1, u.num, x.stamp, x.data, 0#32, false, true⟩

theorem Chan.takeTelegram_new {c : Chan} {p : Plane} {x : Telegram} {u : ESub} (hl : x.data.length = u.words) (hsdt : u.sdt = false)
    (hset : c.srcSet x.src = none) (hnew : c.ecn.lastSeq.find? (fun y => y.1 == u.num && y.2.1 == x.src) = none) :
    c.takeTelegram p x u = c.acceptPd x u none (pdItem x p u) := by
  unfold Chan.takeTelegram
  rw [if_neg (by simp [hl])]
  simp only [hset, hsdt, hnew]
  cases p <;> rfl

theorem Chan.telegram_taken {c : Chan} {p : Plane} {x : Telegram} {u : ESub} (hf : x.fcsOk = true) (hh : x.hdrOk = true) (hty : x.typeOk = true)
    (hsubs : c.ecn.subs = [u]) (hid : u.comId = x.comId) (hp : u.onPlane p = true) (hfil : u.filter = 0#32) :
    c.telegram p x = c.takeTelegram p x u := by
  unfold Chan.telegram
  rw [if_neg (by simp [hf]), if_neg (by simp [hh, hty]), hsubs]
  simp [hid, hp, Chan.filterOk, hfil]

/-- A telegram for no subscription, damaged or with a bad head, is judged in its plane's owner alone. -/
theorem pdTelegramReceive_alone {s : State} {p : Plane} {w : Telegram} (hsp : (s.chan (planeOwner p)).speaks = true) (hm : pdMode (s.chan (planeOwner p)).sys.mode = true)
    (hno : (s.chan (planeOwner p)).ecn.subs.any (fun y => y.comId == w.comId) = false) (hbad : (w.fcsOk && w.hdrOk && w.typeOk) = false) :
    exec (.pdTelegramReceive p w) s = .next (s.upd (planeOwner p) fun c => c.telegram p w) := by
  have hany : (s.chan (planeOwner p)).ecn.subs.any (fun (q : ESub) => q.comId == w.comId && q.onPlane p) = false := by
    rw [List.any_eq_false] at hno ⊢
    exact fun q hq h => hno q hq (Bool.and_eq_true_iff.mp h).1
  refine (guardC_true (by simp [hsp, hm])).trans (congrArg Host.Outcome.next ?_)
  refine (if_neg (by simp [hbad])).trans (if_neg (by simp [hany]))

/-- A bridge with no routes takes no item. -/
theorem State.bridgeItem_none {t : State} {k : Nat} {o : Ch} (ho : bportOwner k = o) (h : (t.chan o).bridge.routes = []) (i : Nat) (d : List Byte) :
    t.bridgeItem k i d = t := by
  subst ho
  unfold State.bridgeItem
  dsimp only
  rw [h]
  split <;> rfl

/-- A telegram for a subscription on its plane is judged in the plane's owner and goes on to both other channels; with no route, the bridge only notes its count. -/
theorem pdTelegramReceive_carried {s : State} {p : Plane} {x : Telegram} (hsp : (s.chan (planeOwner p)).speaks = true)
    (hm : pdMode (s.chan (planeOwner p)).sys.mode = true) (hr : (s.chan (planeOwner p)).bridge.routes = [])
    (hany : (s.chan (planeOwner p)).ecn.subs.any (fun (q : ESub) => q.comId == x.comId && q.onPlane p) = true)
    (ht : ((s.chan (planeOwner p)).telegram p x).bridge = (s.chan (planeOwner p)).bridge) :
    ∃ b, exec (.pdTelegramReceive p x) s = .next ((((s.upd (planeOwner p) fun c => c.telegram p x).sendBoth (planeOwner p) (.telegram p x)).upd (planeOwner p)
      fun c => { c with ecn := { c.ecn with bridged := b } })) := by
  change ∃ b, execPdTelegramReceive p x s = _
  unfold execPdTelegramReceive
  extract_lets ch c s1 s2 old
  have h2 : s2 = s1.sendBoth ch (.telegram p x) := if_pos hany
  have hc2 : s2.chan ch = c.telegram p x := by rw [h2, State.sendBoth_chan, State.upd_chan_self]
  have hg : (c.speaks && pdMode c.sys.mode) = true := by simp [c, ch, hsp, hm]
  rw [← h2]
  by_cases hb : (x.fcsOk && x.hdrOk && x.typeOk && !x.pp && decide (old ≠ some x.seq) && c.bridgeOn) = true
  · refine ⟨_, (guardC_true hg).trans (congrArg Host.Outcome.next ((if_pos hb).trans (State.bridgeItem_none (o := ch) (by cases p <;> rfl) ?_ _ _)))⟩
    rw [State.upd_chan_self, hc2]
    exact (congrArg BridgeBlk.routes ht).trans hr
  · refine ⟨(s2.chan ch).ecn.bridged, (guardC_true hg).trans (congrArg Host.Outcome.next ((if_neg hb).trans ?_))⟩
    exact ((State.upd_congr (g := fun c => c) (by rfl)).trans (State.upd_self ..)).symm

/-- Settles O43. -/
theorem processDataTelegrams : Obligations.ProcessDataTelegrams := by
  intro s p n q id dst x u o c port ssc data full k frame seen waits
  refine ⟨fun hq hon hst hph hc => ?_, fun hq hon => ?_, fun hsp hm => onChan_next ?_, fun hsp hm hno => ⟨fun hf => ?_, fun hf hbad => ?_⟩, ?_⟩
  · have hne := pdTelegramDue_next hq hon hst hph hc
    have hnum : q.num = n := by
      have h := List.find?_some hq
      exact beq_iff_eq.mp h
    have hg' : ((s.upd o fun c => { c with tb := c.tb.reach (c.tb.bk + q.txOfs * 1000) }).chan o).vote.gate = c.vote.gate := by rw [State.upd_chan_self]
    refine ⟨fun hg => ⟨_, hne, ?_⟩, fun hk hg => ⟨_, hne, ?_⟩⟩
    · rw [State.gated_open _ (by rw [hg']; exact hg), State.sendPub_plane, State.pubBody_reach s o q none fun c => c.tb.bk + q.txOfs * 1000, State.upd_upd]
      refine ⟨onlyChan_of_upd .., ?_, ?_⟩
      · rw [State.upd_chan_self]
      · rw [State.upd_chan_self]; rfl
    · rw [State.gated_closed _ hk (by rw [hg']; exact hg), State.upd_upd]
      refine ⟨onlyChan_of_upd .., ?_, ?_⟩
      · rw [State.upd_chan_self]
      · rw [State.upd_chan_self, ← hnum]; rfl
  · have hne := pdPullRequest_next (id := id) (dst := dst) hq hon
    refine ⟨fun hg => ⟨_, hne, ?_⟩, fun hk hg => ⟨_, hne, ?_⟩⟩
    · rw [State.gated_open _ hg, State.sendPub_plane]
      refine ⟨onlyChan_of_upd .., ?_, ?_⟩
      · rw [State.upd_chan_self]
      · rw [State.upd_chan_self]; rfl
    · rw [State.gated_closed _ hk hg]
      refine ⟨onlyChan_of_upd .., ?_, ?_⟩
      · rw [State.upd_chan_self]
      · rw [State.upd_chan_self]; rfl
  · simp [Chan.ecnFlag, FlagReg.raiseIf, show (s.chan (planeOwner p)).speaks = true from hsp, show pdMode (s.chan (planeOwner p)).sys.mode = true from hm]
  · refine (pdTelegramReceive_alone (w := x) hsp hm hno (by simp [hf])).trans (congrArg Host.Outcome.next (State.upd_congr ?_))
    exact if_pos (by simp [hf])
  · refine (pdTelegramReceive_alone (w := x) hsp hm hno (by rcases hbad with h | h <;> simp [h])).trans (congrArg Host.Outcome.next (State.upd_congr ?_))
    exact (if_neg (by simp [hf])).trans (if_pos (by rcases hbad with h | h <;> simp [h]))
  · intro hsp hm hf hh hty hr hsubs hid hp hfil hsdt hl hon hsrc hnew
    have ht : (s.chan (planeOwner p)).telegram p x = (s.chan (planeOwner p)).acceptPd x u none (pdItem x p u) :=
      (Chan.telegram_taken hf hh hty hsubs hid (by cases p <;> exact hp) hfil).trans (Chan.takeTelegram_new hl hsdt (Chan.srcSet_none hon hsrc _) hnew)
    obtain ⟨b, he⟩ := pdTelegramReceive_carried (x := x) hsp hm hr (by rw [hsubs]; simp [hid, show u.onPlane p = true by cases p <;> exact hp]) (by rw [ht]; rfl)
    refine ⟨_, he, fun k hk => ?_, ?_, ?_, ?_, ?_, ?_⟩
    · rw [State.upd_chan_other _ _ hk, State.sendBoth_chan, State.upd_chan_other _ _ hk]
    · exact (State.sendBoth_pending _ _ _).trans rfl
    · exact State.upd_sendBoth_wire (by rw [ht]; rfl) (by rw [ht]; rfl) _
    all_goals
      rw [State.upd_chan_self, State.sendBoth_chan, State.upd_chan_self, ht]
      rfl

/-! Time from the planes (R262, R263) -/

theorem ptpBad_on {s : State} {p : Plane} (h : (s.chan (planeOwner p)).ptpOn = true) :
    ptpBad s p = .next (s.upd (planeOwner p) fun c => { c with ecn := { c.ecn with flag := c.ecn.flag.raise 1 } }) :=
  onChan_next (by simp only [Chan.ecnFlag, h, FlagReg.raiseIf, if_true])

/-- A Delay_Req at each front port of a plane with link. -/
def EcnBlk.asked (e : EcnBlk) (p : Plane) : EcnBlk :=
  e.enter 0 ((e.fronts (Plane.port p)).map fun x => (x, .eth (Plane.port p) [x] e.vlan (if e.vlan = 0 then none else some 7) (some 319) (.delayReq e.gm)))

theorem Chan.askDelay_shape (c : Chan) (p : Plane) : c.askDelay p = { c with ecn := c.ecn.asked p } := by
  cases p <;> rfl

/-- The sample of a plane's Sync (R98). -/
def EcnBlk.sample (e : EcnBlk) (p : Plane) (t1 corr : Int) (t2 cap : Nat) : DSample :=
  ⟨if p = .a then 1 else 2, t1 + corr + medianInt (e.delays.map (·.1)) - t2, cap, t2⟩

theorem State.ptpSample_formed {s : State} {p : Plane} {t2 : Nat} (t1 corr : Int) (cap : Nat) (hd : (s.chan (planeOwner p)).ecn.delayOk t2 = true)
    (hst : (s.chan (planeOwner p)).tb.started = true) :
    s.ptpSample p t1 corr t2 cap = (s.upd (planeOwner p) fun c => { c with
      ecn := { c.ecn with sampled := true, samples := satInc c.ecn.samples }
      tb := { c.tb with held := c.tb.held ++ [(s.chan (planeOwner p)).ecn.sample p t1 corr t2 cap] } }).sendBoth (planeOwner p)
        (.dsample ((s.chan (planeOwner p)).ecn.sample p t1 corr t2 cap)) := by
  refine (if_neg (by simp [hd])).trans ((if_pos hst).trans ?_)
  refine congrArg₂ (fun t d => State.sendBoth t (planeOwner p) d) (State.upd_congr ?_) (by cases p <;> rfl)
  dsimp only
  rw [if_pos hst]
  cases p <;> rfl

/-- What a sample taken from a Sync that waits no more leaves behind, with `f` done to the network block last. -/
theorem State.ptpSample_goes {s : State} {p : Plane} {t2 : Nat} (t1 corr : Int) (cap : Nat) (f : EcnBlk → EcnBlk) (hd : (s.chan (planeOwner p)).ecn.delayOk t2 = true)
    (hst : (s.chan (planeOwner p)).tb.started = true) {t : State}
    (ht : t = (((s.upd (planeOwner p) fun c => { c with ecn := { c.ecn with sync := none } }).ptpSample p t1 corr t2 cap).upd (planeOwner p)
      fun c => { c with ecn := f c.ecn })) :
    (∀ k, k ≠ planeOwner p → t.chan k = s.chan k) ∧ t.pending = s.pending ∧
      t.wire = (s.sendBoth (planeOwner p) (.dsample ((s.chan (planeOwner p)).ecn.sample p t1 corr t2 cap))).wire ∧
      t.chan (planeOwner p) = { s.chan (planeOwner p) with
        tb := { (s.chan (planeOwner p)).tb with held := (s.chan (planeOwner p)).tb.held ++ [(s.chan (planeOwner p)).ecn.sample p t1 corr t2 cap] },
        ecn := f { (s.chan (planeOwner p)).ecn with sync := none, sampled := true, samples := satInc (s.chan (planeOwner p)).ecn.samples } } := by
  rw [State.ptpSample_formed t1 corr cap (by rw [State.upd_chan_self]; exact hd) (by rw [State.upd_chan_self]; exact hst), State.upd_chan_self, State.upd_upd] at ht
  subst ht
  refine ⟨fun k hk => ?_, (State.sendBoth_pending _ _ _).trans rfl, State.upd_sendBoth_wire rfl rfl _, ?_⟩
  · rw [State.upd_chan_other _ _ hk, State.sendBoth_chan, State.upd_chan_other _ _ hk]
  · rw [State.upd_chan_self, State.sendBoth_chan, State.upd_chan_self]
    rfl

/-- The first master of a plane is selected anew. -/
theorem EcnBlk.select_first {e : EcnBlk} (m : Master) (hm : e.masters = [m]) (hs : e.sel = none) :
    e.select = { e with sel := some m, gm := m.gm, sync := none, sampled := false, delays := [], lastGm := some m.gm, flag := if e.lastGm = none ∨ e.lastGm = some m.gm then e.flag else e.flag.raise 9 } := by
  have hn : bestMaster e.masters = some m := by rw [hm]; rfl
  unfold EcnBlk.select
  simp only [hn, hs]
  cases e.lastGm with
  | none => simp [FlagReg.raiseIf]
  | some g =>
    by_cases h : m.gm = g
    · simp [FlagReg.raiseIf, h]
    · simp [FlagReg.raiseIf, h, Ne.symm h]

/-- Without masters none is selected. -/
theorem EcnBlk.select_none {e : EcnBlk} (hm : e.masters = []) (hs : e.sel ≠ none) :
    e.select = { e with sel := none, gm := 0#64, sync := none, sampled := false, delays := [] } := by
  obtain ⟨m, hs⟩ := Option.ne_none_iff_exists'.mp hs
  unfold EcnBlk.select
  simp only [hm, hs, bestMaster]
  simp [FlagReg.raiseIf]

/-- Settles O44. -/
theorem networkTime : Obligations.NetworkTime := by
  intro s p a gm delay t1 corr sc now t2 seq cap o c onEcn mid port ask sample
  have on (hon : c.ptpOn = true) (hsel : c.ecn.sel.isSome = true) (hg : c.ecn.gm = gm) :
      ((s.chan (planeOwner p)).ptpOn && (s.chan (planeOwner p)).ecn.sel.isSome && (s.chan (planeOwner p)).ecn.gm == gm) = true := by
    simp only [Bool.and_eq_true, beq_iff_eq]
    exact ⟨⟨hon, hsel⟩, hg⟩
  have ok (h0 : 0 ≤ mid) (h1 : mid ≤ 50000) (hd : c.ecn.delays.any (fun d => decide (t2 ≤ d.2 + 16000000000)) = true) : c.ecn.delayOk t2 = true := by
    simp only [EcnBlk.delayOk, Bool.and_eq_true, decide_eq_true_eq]
    exact ⟨⟨hd, h0⟩, h1⟩
  refine ⟨fun hon two => ⟨fun ha => ?_, ptpBad_on hon, ptpBad_on hon, ptpBad_on hon⟩, fun hon ha hdom hl hu hm hs => ?_, fun m hm hg hs => ?_,
    fun hon hsel hg => ⟨?_, ?_, fun hst h0 h1 hd => ⟨?_, fun hsync => ?_⟩⟩⟩
  · exact (if_pos (by simp [ha])).trans (ptpBad_on hon)
  · have hg : ((s.chan (planeOwner p)).ptpOn && decide (a.domain = (s.chan (planeOwner p)).ecn.domain) && decide (-3 ≤ a.logSync) && decide (a.logSync ≤ 0)) = true := by
      simp only [Bool.and_eq_true, decide_eq_true_eq]
      exact ⟨⟨⟨hon, hdom⟩, hl⟩, hu⟩
    have hf : c.ecn.masters.filter (fun (x : Master) => x.gm != a.gm) ++ [⟨a.gm, a.rank, a.logSync, a.utc⟩] = [⟨a.gm, a.rank, a.logSync, a.utc⟩] := by rw [hm]; rfl
    refine (if_neg (by simp [ha])).trans (onChan_next ((if_pos hg).trans ?_))
    change ({ c with ecn := EcnBlk.select { c.ecn with masters := _ } } : Chan) = _
    rw [hf]
    exact congrArg (fun e => ({ c with ecn := e } : Chan)) (EcnBlk.select_first (e := { c.ecn with masters := [⟨a.gm, a.rank, a.logSync, a.utc⟩] }) ⟨a.gm, a.rank, a.logSync, a.utc⟩ rfl hs)
  · have hf : c.ecn.masters.filter (fun (x : Master) => x.gm != gm) = [] := by rw [hm]; simp [hg]
    refine onChan_next ?_
    change ({ c with ecn := EcnBlk.select { c.ecn with masters := _ } } : Chan) = _
    rw [hf]
    exact congrArg (fun e => ({ c with ecn := e } : Chan)) (EcnBlk.select_none (e := { c.ecn with masters := [] }) rfl (by simp [hs]))
  · have hg : ((s.chan (planeOwner p)).ptpOn && (s.chan (planeOwner p)).ecn.sel.isSome && decide ((s.chan (planeOwner p)).ecn.gm = gm)) = true := by
      simp only [Bool.and_eq_true, decide_eq_true_eq]
      exact ⟨⟨hon, hsel⟩, hg⟩
    exact onChan_next (if_pos hg)
  · refine (guardC_true (on hon hsel hg)).trans (congrArg Host.Outcome.next ?_)
    rw [if_pos rfl, State.upd_upd]
    exact State.upd_congr (Chan.askDelay_shape _ p)
  · obtain ⟨hx, hp, hw, hc⟩ := State.ptpSample_goes t1 corr (c.tb.c + 1) (EcnBlk.asked · p) (ok h0 h1 hd) hst (t := _) rfl
    refine ⟨_, (guardC_true (on hon hsel hg)).trans (congrArg Host.Outcome.next ?_), hx, hp, hw, by rw [hc]; rfl, by rw [hc]; rfl, by rw [hc]⟩
    rw [if_neg (by simp)]
    exact congrArg (State.upd _ _) (funext fun c => Chan.askDelay_shape c p)
  · obtain ⟨hx, hp, hw, hc⟩ := State.ptpSample_goes t1 (sc + corr) cap id (ok h0 h1 hd) hst (t := _) rfl
    refine ⟨_, ?_, hx, hp, hw, by rw [hc]; rfl, by rw [hc], by rw [hc]⟩
    change execPtpFollowUp p ⟨gm, true⟩ seq t1 corr s = _
    unfold execPtpFollowUp
    rw [if_neg (by simp), show (s.chan (planeOwner p)).ecn.sync = some (gm, seq, sc, t2, cap) from hsync]
    refine (guardC_true ?_).trans (congrArg Host.Outcome.next (State.upd_self ..).symm)
    simp [show (s.chan (planeOwner p)).ptpOn = true from hon, show (s.chan (planeOwner p)).ecn.gm = gm from hg]

/-! The switch, ARP, ICMP and the links (R254, R255, R268, R270) -/

theorem EcnBlk.enter_room {e : EcnBlk} {q : Nat} {x : RPort} (m : Emission) (h : (atD [] (portNum x * 4 + q) e.queues).length < 64) :
    e.enter q [(x, m)] = { e with queues := modAt (· ++ [m]) (portNum x * 4 + q) e.queues } :=
  if_pos (decide_eq_true h)

theorem EcnBlk.enter_full {e : EcnBlk} {q : Nat} {x : RPort} (m : Emission) (h : 64 ≤ (atD [] (portNum x * 4 + q) e.queues).length) :
    e.enter q [(x, m)] = { e with flag := e.flag.raise 7 } :=
  if_neg fun hr => absurd (of_decide_eq_true hr) (Nat.not_lt.mpr h)

theorem EcnBlk.learn_macs (e : EcnBlk) (src : Nat) (x : RPort) :
    e.learn src x = { e with macs := if src.testBit 40 then e.macs else ((src, x) :: e.macs.filter (fun m => m.1 != src)).take 1024 } := by
  unfold EcnBlk.learn
  split <;> rfl

/-- What the module's own frame without priority changes: on the service port it leaves at once, on a plane it enters the last queue. -/
theorem Chan.sendEth_plain (c : Chan) (n : NetPort) (udp : Option Nat) (b : EthBody) : c.sendEth n 3 none udp b = { c with
    sent := c.sent ++ (if n = .service ∧ c.ecn.up1 = true then [.eth n [.p1] 0 none udp b] else [])
    ecn := if n = .service then c.ecn else c.ecn.enter 3 ((c.ecn.leaves n b).map fun x => (x, .eth n [x] c.ecn.vlan none udp b)) } := by
  unfold Chan.sendEth
  by_cases h : n = .service
  · subst h
    cases hu : c.ecn.up1
    · simp [EcnBlk.fronts, hu]
    · simp [EcnBlk.fronts, hu, Chan.emit]
  · simp [h]

/-- A frame in a queue is one that stood there, or a membership report of one of the groups `gs`. -/
def QueuedReports (gs : List Word) (e e' : EcnBlk) : Prop :=
  e'.up0 = e.up0 ∧ e'.up1 = e.up1 ∧ ∀ j, ∀ y ∈ atD [] j e'.queues, y ∈ atD [] j e.queues ∨ ∃ n xs v m, y = .eth n xs v none none (.igmp m) ∧ m ∈ gs

theorem QueuedReports.refl (gs : List Word) (e : EcnBlk) : QueuedReports gs e e := ⟨rfl, rfl, fun _ _ h => .inl h⟩

theorem mem_atD_modAt {α : Type} {m y : α} : ∀ {l : List (List α)} {n j : Nat}, y ∈ atD [] j (modAt (· ++ [m]) n l) → y ∈ atD [] j l ∨ y = m
  | [], _, _, h => .inl (by simpa [modAt] using h)
  | x :: xs, 0, 0, h => by simpa [modAt, atD] using h
  | x :: xs, 0, j + 1, h => .inl h
  | x :: xs, n + 1, 0, h => .inl h
  | x :: xs, n + 1, j + 1, h => mem_atD_modAt (l := xs) (n := n) (j := j) h

theorem QueuedReports.enter {gs : List Word} {e₀ e : EcnBlk} (h : QueuedReports gs e₀ e) {m : Word} (hm : m ∈ gs) (n : NetPort) (v : Nat) (xs : List RPort) :
    QueuedReports gs e₀ (e.enter 3 (xs.map fun x => (x, .eth n [x] v none none (.igmp m)))) := by
  unfold EcnBlk.enter
  rw [List.foldl_map]
  refine List.foldlRecOn (motive := QueuedReports gs e₀) _ _ h fun d hd x _ => ?_
  obtain ⟨h0, h1, hq⟩ := hd
  split
  · refine ⟨h0, h1, fun j y hy => ?_⟩
    rcases mem_atD_modAt hy with hy | rfl
    · exact hq j y hy
    · exact .inr ⟨n, [x], v, m, rfl, hm⟩
  · exact ⟨h0, h1, hq⟩

/-- The reports of joined groups enter the queues, and nothing else changes. -/
theorem Chan.joinGroups_shape (c : Chan) (p : Plane) : ∃ e, c.joinGroups p = { c with ecn := e } ∧ QueuedReports (c.ecn.subs.map (·.group)) c.ecn e := by
  refine List.foldlRecOn (motive := fun d : Chan => ∃ e, d = { c with ecn := e } ∧ QueuedReports (c.ecn.subs.map (·.group)) c.ecn e) _ _
    ⟨_, rfl, QueuedReports.refl _ _⟩ fun d hd g hg => ?_
  obtain ⟨e, rfl, hq⟩ := hd
  have hmem : g ∈ c.ecn.subs.map (·.group) := by
    obtain ⟨q, hq, rfl⟩ := List.mem_map.mp (List.mem_eraseDups.mp hg)
    exact List.mem_map_of_mem (List.mem_filter.mp hq).1
  rw [Chan.sendEth_plain]
  refine ⟨_, ?_, hq.enter hmem (match p with | .a => .planeA | .b => .planeB) e.vlan (e.fronts (match p with | .a => .planeA | .b => .planeB))⟩
  cases p
  · simp [EcnBlk.leaves, EthBody.dst]
  · simp [EcnBlk.leaves, EthBody.dst]

/-- What a changed link of network block `e` brings: in a plane with link in a mode with process data, the reports of joined groups. -/
def Chan.reported (c : Chan) (ch : Ch) (up : Bool) : Chan :=
  match ch with
  | .C => c
  | .A => if up && pdMode c.sys.mode then c.joinGroups .a else c
  | .B => if up && pdMode c.sys.mode then c.joinGroups .b else c

theorem Chan.reported_shape (c : Chan) (ch : Ch) (up : Bool) :
    ∃ e, c.reported ch up = { c with ecn := e } ∧ QueuedReports (c.ecn.subs.map (·.group)) c.ecn e ∧ (up = false → e = c.ecn) := by
  have stay : ∃ e, c = { c with ecn := e } ∧ QueuedReports (c.ecn.subs.map (·.group)) c.ecn e ∧ (up = false → e = c.ecn) :=
    ⟨_, rfl, QueuedReports.refl _ _, fun _ => rfl⟩
  have join (p : Plane) : ∃ e, (if up && pdMode c.sys.mode then c.joinGroups p else c) = { c with ecn := e } ∧
      QueuedReports (c.ecn.subs.map (·.group)) c.ecn e ∧ (up = false → e = c.ecn) := by
    obtain ⟨e, he, hq⟩ := c.joinGroups_shape p
    split
    next h => exact ⟨e, he, hq, fun hu => absurd (Bool.and_eq_true_iff.mp h).1 (by simp [hu])⟩
    next => exact stay
  cases ch
  · exact join .a
  · exact join .b
  · exact stay

/-- The state of a link, as the channel's network block shows it. -/
def Chan.withLink (c : Chan) (ch : Ch) (port : RPort) (up : Bool) : Chan :=
  match port with
  | .p0 => if ch = .C then c else { c with ecn := { c.ecn with up0 := up } }
  | .p1 => { c with ecn := { c.ecn with up1 := up } }

/-- A link that goes down, or comes up where its port works, is shown and reported. -/
theorem ecnPortLinkChange_next {s : State} {ch : Ch} {up : Bool}
    (hup : up = true → (s.chan ch).speaks = true ∧ (if ch = .C then serviceMode (s.chan ch).sys.mode else planeMode (s.chan ch).sys.mode) = true) (port : RPort) :
    exec (.ecnPortLinkChange ch port up) s = .next (s.upd ch fun c => (c.withLink ch port up).reported ch up) := by
  refine onChan_next ((if_neg ?_).trans rfl)
  cases up
  · simp
  · obtain ⟨h1, h2⟩ := hup rfl
    cases ch <;> simpa [h1] using h2

/-- The other front port, as a case distinction. -/
theorem otherPort_eq (g : RPort) : otherPort g = if g = .p0 then .p1 else .p0 := by cases g <;> rfl

/-- The network block once a frame that came in by front port `g` is in the queue of the other port, where it goes on. -/
def EcnBlk.switched (e : EcnBlk) (p : Plane) (g : RPort) (dst q : Nat) (ev : Bool) (res : Nat) : EcnBlk :=
  if e.goesOn dst g then e.enter q [(otherPort g, if ev then .ptpEvent p (otherPort g) res 0 else .planeFrame p (otherPort g) q)] else e

/-- A frame that came in by a front port of a working plane: learned there, and in the queue of the other port where it goes on. -/
theorem switchForward_next {s : State} {p : Plane} {g : RPort} {src dst q : Nat} (ev : Bool) (res : Nat) (hsp : (s.chan (planeOwner p)).speaks = true)
    (hm : planeMode (s.chan (planeOwner p)).sys.mode = true) (hq : q < 4) {e : EcnBlk}
    (he : e = { (s.chan (planeOwner p)).ecn.learn src g with sw := true, tc := true }) :
    exec (.switchForward p g ⟨src, dst, q⟩ ev res) s = .next (s.upd (planeOwner p) fun c => { c with ecn := e.switched p g dst q ev res }) := by
  refine onChan_next ((if_neg (by simp [hsp, hm, hq])).trans ?_)
  unfold EcnBlk.switched
  cases hg : e.goesOn dst g
  · refine (if_pos ((congrArg (!·) (he ▸ hg)).trans rfl)).trans (congrArg (fun e => ({ s.chan (planeOwner p) with ecn := e } : Chan)) ?_)
    rw [if_neg (by decide), he]
  · refine (if_neg fun h => absurd ((congrArg (!·) (he ▸ hg)).symm.trans h) (by decide)).trans (congrArg (fun e => ({ s.chan (planeOwner p) with ecn := e } : Chan)) ?_)
    rw [if_pos rfl, he]

theorem Chan.portOn_bad {c : Chan} {n : NetPort} (h : c.portOn n = true) (x : Chan) (plain : Bool) (hp : plain = false) :
    (if !(c.portOn n) then c else if !plain then c.ecnFlag true 1 else x) = { c with ecn := { c.ecn with flag := c.ecn.flag.raise 1 } } := by
  rw [hp, h]
  rfl

/-- The network block once the sender of an ARP request is learned: its address, and on a plane the port it is heard at. -/
def EcnBlk.heard (e : EcnBlk) (n : NetPort) (sender : Word) (mac : Nat) (g : RPort) : EcnBlk :=
  let e1 : EcnBlk := { e with neigh := (sender, mac) :: e.neigh.filter (fun x => x.1 != sender) }
  if n = .service then e1 else { e1 with macs := if mac.testBit 40 then e1.macs else ((mac, g) :: e1.macs.filter (fun m => m.1 != mac)).take 1024 }

/-- Learning a sender changes no link and no configuration. -/
theorem EcnBlk.heard_keeps (e : EcnBlk) (n : NetPort) (sender : Word) (mac : Nat) (g : RPort) :
    (e.heard n sender mac g).ip = e.ip ∧ (e.heard n sender mac g).up1 = e.up1 ∧ (e.heard n sender mac g).vlan = e.vlan := by
  unfold EcnBlk.heard
  dsimp only
  split <;> exact ⟨rfl, rfl, rfl⟩

theorem arpRequest_next {s : State} {n : NetPort} (hon : (s.chan (portOwner n)).portOn n = true) (ip sender : Word) (mac : Nat) (g : RPort) :
    exec (.arpRequest n ⟨ip, sender, mac, g, true⟩) s = .next (s.upd (portOwner n) fun c =>
      if ip == c.ecn.ip then ({ c with ecn := c.ecn.heard n sender mac g } : Chan).sendEth n 3 none none (.arp ip sender) else { c with ecn := c.ecn.heard n sender mac g }) := by
  refine onChan_next ((if_neg (by simp [hon])).trans ((if_neg (by simp)).trans ?_))
  have he : (if n = .service then ({ (s.chan (portOwner n)).ecn with neigh := (sender, mac) :: (s.chan (portOwner n)).ecn.neigh.filter (fun x => x.1 != sender) } : EcnBlk)
      else EcnBlk.learn { (s.chan (portOwner n)).ecn with neigh := (sender, mac) :: (s.chan (portOwner n)).ecn.neigh.filter (fun x => x.1 != sender) } mac g) =
      (s.chan (portOwner n)).ecn.heard n sender mac g := by
    unfold EcnBlk.heard
    rw [EcnBlk.learn_macs]
  dsimp only
  rw [he, (EcnBlk.heard_keeps ..).1]

/-- Settles O45. -/
theorem planePortsAndSwitch : Obligations.PlanePortsAndSwitch := by
  intro s p n g src dst q res mac ip from_ o c d
  refine ⟨?_, ?_, fun ch up hup => ?_⟩
  · intro hsp hm hq ev z e
    have he : e = { c.ecn.learn src g with sw := true, tc := true } := by rw [EcnBlk.learn_macs]
    have hne := switchForward_next (dst := dst) ev res hsp hm hq he
    rw [EcnBlk.switched, otherPort_eq g] at hne
    refine ⟨fun hg => ?_, fun hg hl => ?_, fun hg hl => ?_⟩
    · rw [hne, if_neg (by simp [hg])]
    · rw [hne, if_pos hg]
      exact congrArg (fun e => Host.Outcome.next (s.upd (planeOwner p) fun c => { c with ecn := e })) (EcnBlk.enter_room (e := e) (x := z) _ hl)
    · rw [hne, if_pos hg]
      exact congrArg (fun e => Host.Outcome.next (s.upd (planeOwner p) fun c => { c with ecn := e })) (EcnBlk.enter_full (e := e) (x := z) _ hl)
  · intro hon e1 e2 bad answered
    have hon : (s.chan (portOwner n)).portOn n = true := hon
    obtain ⟨hi, hu, hv⟩ := d.ecn.heard_keeps n from_ mac g
    have hicmp : exec (.icmpEcho n ip ⟨true, from_⟩) s = .next (s.upd (portOwner n) fun c => if ip == c.ecn.ip then c.sendEth n 3 none none (.icmp from_) else c) :=
      onChan_next ((if_neg (by simp [hon])).trans (if_neg (by simp)))
    refine ⟨fun hip => ⟨⟨_, arpRequest_next hon .., onlyChan_of_upd .., ?_⟩, ⟨_, hicmp, onlyChan_of_upd .., ?_⟩⟩,
      fun hip => ⟨(arpRequest_next hon ..).trans (congrArg Host.Outcome.next (State.upd_congr ?_)), ⟨_, hicmp, fun k => ?_, rfl⟩⟩, onChan_next ?_, onChan_next ?_⟩
    · rw [State.upd_chan_self, if_pos (beq_iff_eq.mpr hip), Chan.sendEth_plain]
      exact ⟨rfl, by dsimp only; rw [hu], by dsimp only; rw [hv]; rfl⟩
    · rw [State.upd_chan_self, if_pos (beq_iff_eq.mpr hip), Chan.sendEth_plain]
      exact ⟨rfl, rfl, rfl⟩
    · exact if_neg (by simpa using hip)
    · rw [State.upd_chan]
      split
      next h => subst h; exact if_neg (by simpa using hip)
      next => rfl
    · exact Chan.portOn_bad hon _ _ rfl
    · exact Chan.portOn_bad hon _ _ rfl
  · intro linked
    have link {t : State} {e : EcnBlk} (hs : e.subs = (s.chan ch).ecn.subs) (hq : e.queues = (s.chan ch).ecn.queues)
        (o : OnlyChan ch s t) (ht : t.chan ch = Chan.reported { s.chan ch with ecn := e } ch up) : linked t e := by
      obtain ⟨e', he, ⟨h0, h1, hy⟩, hd⟩ := Chan.reported_shape { s.chan ch with ecn := e } ch up
      rw [he] at ht
      dsimp only at hy
      rw [hs, hq] at hy
      exact ⟨o, by rw [ht], by rw [ht]; exact h0, by rw [ht]; exact h1, fun hu => by rw [ht, hd hu], by rw [ht]; exact hy⟩
    refine ⟨⟨_, ecnPortLinkChange_next hup .p1, link (e := { (s.chan ch).ecn with up1 := up }) rfl rfl (onlyChan_of_upd ..) (State.upd_chan_self ..)⟩,
      fun hc => ⟨_, ecnPortLinkChange_next hup .p0, link (e := { (s.chan ch).ecn with up0 := up }) rfl rfl (onlyChan_of_upd ..) ((State.upd_chan_self ..).trans ?_)⟩⟩
    exact congrArg (Chan.reported · ch up) (if_neg hc)

/-! MVB (R265 to R267) -/

theorem mvbMasterFrame_port {s : State} {p : MvbPort} (hon : (s.chan .C).mvbOn = true) (hf : p.fcode ≠ 15)
    (hp : (s.chan .C).mvb.ports.find? (fun y => y.addr == p.addr && y.fcode == p.fcode) = some p) {g : Chan → Chan}
    (hg : (if !p.source then { s.chan .C with mvb := { (s.chan .C).mvb with await := some p.addr } }
      else if !(s.chan .C).mvbMay p.kind then s.chan .C
      else match p.buf with
        | some b => if p.kind = 0 && ((s.chan .C).vote.state == .abstaining || (s.chan .C).vote.state == .resync || (s.chan .C).mvb.stale)
          then { s.chan .C with mvb := { (s.chan .C).mvb with flag := (s.chan .C).mvb.flag.raise 4 } } else (s.chan .C).emit (.mvbSlave p.addr b)
        | none => if p.kind = 0 then { s.chan .C with mvb := { (s.chan .C).mvb with flag := (s.chan .C).mvb.flag.raise 4 } } else s.chan .C) = g (s.chan .C)) :
    exec (.mvbMasterFrame p.fcode p.addr) s = .next (s.upd .C g) := by
  refine onChan_next ((if_neg (by simp [hon])).trans ((if_neg hf).trans ?_))
  rw [hp]
  exact hg

/-- The channel once an awaited slave frame was good: its port's buffer written, its item the newest. -/
def Chan.mvbTaken (c : Chan) (addr : Nat) (okA okB : Bool) (data : List Byte) (stamp : Nat) : Chan :=
  { c with
    mvb := { c.mvb.lines c.now okA okB with ports := c.mvb.ports.map fun (q : MvbPort) => if q.addr = addr then { q with buf := some data } else q }
    sl := { c.sl with items := mvbItem addr stamp data :: c.sl.items } }

theorem mvbSlaveFrame_good {s : State} {p : MvbPort} {okA okB : Bool} {data : List Byte} (stamp : Nat) (hon : (s.chan .C).mvbOn = true)
    (ha : (s.chan .C).mvb.await = some p.addr) (hp : (s.chan .C).mvb.ports.find? (fun y => y.addr == p.addr && !y.source) = some p)
    (hok : (if (s.chan .C).mvb.trustB then okB else okA) = true) (hl : data.length = fcodeLen p.fcode) (hr : (s.chan .C).bridge.routes = []) :
    exec (.mvbSlaveFrame p.addr okA okB data stamp) s =
      .next ((s.upd .C fun c => c.mvbTaken p.addr okA okB data stamp).sendBoth .C (.item (mvbItem p.addr stamp data))) := by
  change execMvbSlaveFrame p.addr okA okB data stamp s = _
  unfold execMvbSlaveFrame
  simp only [hp]
  have hgood : ((if (s.chan .C).mvb.trustB then okB else okA) && decide (data.length = fcodeLen p.fcode)) = true := by simp [hok, hl]
  refine (guardC_true (by simp [hon, ha])).trans (congrArg Host.Outcome.next ?_)
  rw [hgood, if_neg (by decide)]
  refine (State.bridgeItem_none (o := .C) rfl ?_ _ _).trans (congrArg (State.sendBoth · .C _) (State.upd_upd ..))
  rw [State.sendBoth_chan, State.upd_chan_self, State.upd_chan_self]
  exact hr

theorem mvbSlaveFrame_bad {s : State} {p : MvbPort} {okA okB : Bool} (data : List Byte) (stamp : Nat) (hon : (s.chan .C).mvbOn = true)
    (ha : (s.chan .C).mvb.await = some p.addr) (hp : (s.chan .C).mvb.ports.find? (fun y => y.addr == p.addr && !y.source) = some p)
    (hok : (if (s.chan .C).mvb.trustB then okB else okA) = false) :
    exec (.mvbSlaveFrame p.addr okA okB data stamp) s =
      .next ((s.upd .C fun c => { c with mvb := c.mvb.lines c.now okA okB }).sendBoth .C (.item { mvbItem p.addr stamp data with good := false })) := by
  change execMvbSlaveFrame p.addr okA okB data stamp s = _
  unfold execMvbSlaveFrame
  simp only [hp]
  refine (guardC_true (by simp [hon, ha])).trans (congrArg Host.Outcome.next ?_)
  rw [hok, Bool.false_and]
  rfl

/-- Settles O46. -/
theorem mvbDevice : Obligations.MvbDevice := by
  intro s p b data okA okB stamp c onC quiet
  refine ⟨fun hon => ?_, fun hon hf hp => ⟨fun hs hm hb => mvbMasterFrame_port hon hf hp ?_, fun hs => mvbMasterFrame_port hon hf hp (if_pos (by simp [hs]))⟩,
    fun hon ha hp => ⟨fun hok hl hr => ⟨_, mvbSlaveFrame_good stamp hon ha hp hok hl hr, ?_⟩, fun hok => ⟨_, mvbSlaveFrame_bad data stamp hon ha hp hok, ?_⟩⟩,
    fun a ha => onChan_next ?_⟩
  · exact onChan_next (f := _) ((if_neg (by simp [show (s.chan .C).mvbOn = true from hon])).trans ((if_pos rfl).trans (if_pos rfl)))
  · rw [if_neg (by simp [hs]), if_neg (by simp [show (s.chan .C).mvbMay p.kind = true from hm]), hb]
    rfl
  · refine ⟨fun k hk => ?_, State.upd_sendBoth_wire rfl rfl _, ?_⟩
    · rw [State.sendBoth_chan, State.upd_chan_other _ _ hk]
    · rw [State.sendBoth_chan, State.upd_chan_self]
      refine ⟨rfl, rfl, fun y hy hya => ?_, rfl⟩
      obtain ⟨q, -, rfl⟩ := List.mem_map.mp hy
      by_cases hq : q.addr = p.addr
      · rw [if_pos hq]
      · rw [if_neg hq] at hya; exact absurd hya hq
  · refine ⟨fun k hk => ?_, State.upd_sendBoth_wire rfl rfl _, ?_⟩
    · rw [State.sendBoth_chan, State.upd_chan_other _ _ hk]
    · rw [State.sendBoth_chan, State.upd_chan_self]
      exact ⟨rfl, rfl, rfl, rfl⟩
  · exact if_pos (by simp [show (s.chan .C).mvb.await = some a from ha])

end Sys2Proof.Machine
end


/-! PROOFS. The bridge: delayed reads and commits (R282 to R292). -/

section
namespace Sys2Proof.Machine
open Sys2Proof Sys2Proof.Safety

theorem modAt_modAt {α : Type} (f g : α → α) : ∀ (n : Nat) (l : List α), modAt f n (modAt g n l) = modAt (fun x => f (g x)) n l
  | 0, [] => rfl
  | _ + 1, [] => rfl
  | 0, _ :: _ => rfl
  | n + 1, x :: l => congrArg (x :: ·) (modAt_modAt f g n l)

/-! An answer neither reads nor changes the bridge -/

/-- The channel with another bridge. -/
def Chan.withBridge (c : Chan) (B : BridgeBlk) : Chan := { c with bridge := B }

/-- Two channels that differ in the bridge, split on one condition. -/
theorem ite_withBridge {p : Prop} [Decidable p] (B : BridgeBlk) (x y : Chan) : (if p then x.withBridge B else y.withBridge B) = (if p then x else y).withBridge B :=
  (apply_ite (Chan.withBridge · B) p x y).symm

theorem Chan.sendEth_bridge (c : Chan) (B : BridgeBlk) (p : NetPort) (q : Nat) (pcp udp : Option Nat) (b : EthBody) :
    (c.withBridge B).sendEth p q pcp udp b = (c.sendEth p q pcp udp b).withBridge B := by
  unfold Chan.sendEth
  refine Eq.trans ?_ (ite_withBridge B _ _)
  exact congrArg (fun x => if p = .service then x else _) (ite_withBridge B c (c.emit (.eth p (c.ecn.fronts p) 0 none udp b)))

theorem Chan.attn_bridge (c : Chan) (B : BridgeBlk) (was : Bool) : (c.withBridge B).attn was = (c.attn was).withBridge B :=
  ite_withBridge B c (c.emit (.attn (c.host.ready || c.host.hout.isSome)))

theorem Chan.sendMe_bridge (c : Chan) (B : BridgeBlk) (p : NetPort) (src ses : Word) : (c.withBridge B).sendMe p src ses = (c.sendMe p src ses).withBridge B :=
  Chan.sendEth_bridge { c with ecn := { c.ecn with flag := c.ecn.flag.raise 8 } } B p 3 (some 3) (some 17225) (.me src ses)

/-- The reply to a message-data request is past its due time. -/
def Chan.mdLate (c : Chan) (src ses : Word) (tag : Byte) : Bool :=
  c.ecn.mdDue.any fun o => o.1 == src && o.2.1 == ses && o.2.2.1 == tag && decide (o.2.2.2 < c.now)

/-- The channel once a message-data request is over. -/
def Chan.mdClosed (c : Chan) (src ses : Word) (tag : Byte) : Chan := { c with ecn := c.ecn.mdOver src ses tag }

theorem Chan.sendMp_eq (c : Chan) (p : NetPort) (src ses : Word) (tag : Byte) (svc rstat : Nat) (es : List REntry) :
    c.sendMp p src ses tag svc rstat es = if c.mdLate src ses tag then c.mdClosed src ses tag
      else if decide (8192 < (replyBytes svc tag rstat es).length) then (c.mdClosed src ses tag).sendMe p src ses
      else (c.mdClosed src ses tag).sendEth p 3 (some 3) (some 17225) (.mp src ses tag svc rstat es) := rfl

theorem Chan.sendMp_bridge (c : Chan) (B : BridgeBlk) (p : NetPort) (src ses : Word) (tag : Byte) (svc rstat : Nat) (es : List REntry) :
    (c.withBridge B).sendMp p src ses tag svc rstat es = (c.sendMp p src ses tag svc rstat es).withBridge B := by
  have hl : (c.withBridge B).mdLate src ses tag = c.mdLate src ses tag := rfl
  have hc : (c.withBridge B).mdClosed src ses tag = (c.mdClosed src ses tag).withBridge B := rfl
  rw [Chan.sendMp_eq (c.withBridge B), Chan.sendMp_eq c, hl, hc, Chan.sendMe_bridge, Chan.sendEth_bridge, ite_withBridge, ite_withBridge]

/-- What a channel notes of any reply before it is sent. -/
def Chan.replyNoted (c : Chan) (via : Transport) (tag : Byte) (svc rstat : Nat) : Chan :=
  { c with
    sys := { c.sys with unanswered := c.sys.unanswered.filter (fun u => !(u.1 == via && u.2.1 == tag && u.2.2.1 == svc)) }
    dict := { c.dict with
      served := if rstat = 0 then satInc c.dict.served else c.dict.served
      refused := if rstat = 0 then c.dict.refused else satInc c.dict.refused } }

/-- The host's mailbox once it holds a response. -/
def Chan.hostReplied (c : Chan) (tag : Byte) (svc rstat : Nat) (es : List REntry) : Chan :=
  { (c.replyNoted .host tag svc rstat).emit (.dictReply .host tag svc rstat es) with
    host := { c.host with rsp := replyBytes svc tag rstat es, ready := true, busy := false, serving := none } }

theorem Chan.replyBy_host (c : Chan) (tag : Byte) (svc rstat : Nat) (es : List REntry) :
    c.replyBy .host tag svc rstat es = (c.hostReplied tag svc rstat es).attn c.host.attnOn := rfl

theorem Chan.replyBy_md (c : Chan) (p : NetPort) (src ses : Word) (tag : Byte) (svc rstat : Nat) (es : List REntry) :
    c.replyBy (.md p src ses) tag svc rstat es = (c.replyNoted (.md p src ses) tag svc rstat).sendMp p src ses tag svc rstat es := rfl

theorem Chan.replyBy_bridge (c : Chan) (B : BridgeBlk) (via : Transport) (tag : Byte) (svc rstat : Nat) (es : List REntry) :
    (c.withBridge B).replyBy via tag svc rstat es = (c.replyBy via tag svc rstat es).withBridge B := by
  cases via with
  | md p src ses => exact Chan.sendMp_bridge (c.replyNoted (.md p src ses) tag svc rstat) B p src ses tag svc rstat es
  | host => exact Chan.attn_bridge (c.hostReplied tag svc rstat es) B c.host.attnOn
  | legacy k =>
    unfold Chan.replyBy
    dsimp only
    split <;> rfl
  | notify p x => rfl
  | part p x => rfl
  | ring p x => rfl
  | capacity => rfl

/-- A call once one more of its parts is settled: answered when that was the last. -/
def Chan.callSettled (c : Chan) (x y : Call) : Chan :=
  if y.over then ({ c with dict := { c.dict with calls := c.dict.calls.filter (fun z => z.id != x.id) } } : Chan).replyBy y.via y.tag y.svc
    (if y.failure.isSome then 1 else 0) y.answers
  else { c with dict := { c.dict with calls := c.dict.calls.map (fun z => if z.id = x.id then y else z) } }

theorem Chan.callSettled_bridge (c : Chan) (B : BridgeBlk) (x y : Call) : (c.withBridge B).callSettled x y = (c.callSettled x y).withBridge B := by
  unfold Chan.callSettled
  rw [← ite_withBridge, ← Chan.replyBy_bridge]
  rfl

theorem Chan.reply_part (c : Chan) (id k : Nat) (tag : Byte) (svc rstat : Nat) (es : List REntry) :
    c.reply (.part id k) tag svc rstat es = match c.dict.calls.find? (fun x => x.id == id) with
      | none => c
      | some x => c.callSettled { x with id := id } (x.settle k ((es.head?).getD ⟨0#32, 0, []⟩)) := rfl

theorem Chan.reply_bridge (c : Chan) (B : BridgeBlk) (via : Transport) (tag : Byte) (svc rstat : Nat) (es : List REntry) :
    (c.withBridge B).reply via tag svc rstat es = (c.reply via tag svc rstat es).withBridge B := by
  cases via with
  | part id k =>
    rw [Chan.reply_part (c.withBridge B), Chan.reply_part c, show (c.withBridge B).dict = c.dict from rfl]
    cases c.dict.calls.find? (fun x => x.id == id) with
    | none => rfl
    | some x => exact Chan.callSettled_bridge c B _ _
  | host => exact Chan.replyBy_bridge c B .host tag svc rstat es
  | md p src ses => exact Chan.replyBy_bridge c B (.md p src ses) tag svc rstat es
  | ring q node => exact Chan.replyBy_bridge c B (.ring q node) tag svc rstat es
  | capacity => exact Chan.replyBy_bridge c B .capacity tag svc rstat es
  | legacy k => exact Chan.replyBy_bridge c B (.legacy k) tag svc rstat es
  | notify p src => exact Chan.replyBy_bridge c B (.notify p src) tag svc rstat es

/-- The answers to several held requests. -/
def Chan.repliesTo (c : Chan) (hs : List (Transport × Byte)) (rstat : Nat) (e : REntry) : Chan :=
  hs.foldl (fun (c : Chan) (h : Transport × Byte) => c.reply h.1 h.2 1 rstat [e]) c

theorem Chan.repliesTo_bridge (B : BridgeBlk) (rstat : Nat) (e : REntry) : ∀ (hs : List (Transport × Byte)) (c : Chan),
    (c.withBridge B).repliesTo hs rstat e = (c.repliesTo hs rstat e).withBridge B
  | [], _ => rfl
  | h :: hs, c => by
    unfold Chan.repliesTo
    rw [List.foldl_cons, Chan.reply_bridge]
    exact Chan.repliesTo_bridge B rstat e hs _

theorem Chan.answered_repliesTo (c : Chan) (hs : List (Transport × Byte)) (rstat : Nat) (e : REntry) : c.Answered (c.repliesTo hs rstat e) :=
  Chan.answered_foldl (f := fun (c : Chan) (h : Transport × Byte) => c.reply h.1 h.2 1 rstat [e]) (fun c h => Chan.answered_reply c h.1 h.2 1 rstat [e]) hs c

/-- Answering the requests that a slot holds: the answers, and a slot that holds none. -/
theorem Chan.answerHeld_eq (c : Chan) (n : Nat) (e : REntry) :
    c.answerHeld n e = { c.repliesTo (c.bridge.slot n).held (if e.abort = 0#32 then 0 else 1) e with
      bridge := { c.bridge with slots := modAt (fun (y : Slot) => { y with held := [] }) n c.bridge.slots } } :=
  Chan.repliesTo_bridge { c.bridge with slots := modAt (fun (y : Slot) => { y with held := [] }) n c.bridge.slots } _ e _ c

theorem Chan.attn_sent (c : Chan) (was : Bool) : ∃ l, (c.attn was).sent = c.sent ++ l := by
  unfold Chan.attn
  dsimp only
  split
  · exact ⟨[], (List.append_nil _).symm⟩
  · exact ⟨_, rfl⟩

/-- The reply by the host's mailbox or a ring is the next thing the channel sends. -/
theorem Chan.reply_sent {c : Chan} {v : Transport} (h : v = .host ∨ ∃ q k, v = .ring q k) (tag : Byte) (svc rstat : Nat) (es : List REntry) :
    ∃ l, (c.reply v tag svc rstat es).sent = c.sent ++ .dictReply v tag svc rstat es :: l := by
  rcases h with rfl | ⟨q, k, rfl⟩
  · obtain ⟨l, hl⟩ := (c.hostReplied tag svc rstat es).attn_sent c.host.attnOn
    exact ⟨l, hl.trans (List.append_assoc ..)⟩
  · exact ⟨[], rfl⟩

/-! The delayed reads -/

/-- The reeve of the target's owner has no more work for slot `n` (R288). -/
def State.awayDone (s : State) (ch o : Ch) (n : Nat) : State :=
  if o = ch then s else s.upd o fun c => { c with bridge := { c.bridge with work := c.bridge.work.filter (fun w => w != .away ch n) } }

theorem State.workDone_eq {s : State} {ch : Ch} {n : Nat} {r : Route} (h : (s.chan ch).slotRoute n = some r) :
    s.workDone ch n = s.awayDone ch (bportOwner r.target) n := by
  unfold State.workDone
  rw [h]
  rfl

theorem State.awayDone_self (s : State) (ch o : Ch) (n : Nat) : (s.awayDone ch o n).chan ch = s.chan ch := by
  unfold State.awayDone
  split
  · rfl
  next h => exact State.upd_chan_other _ _ (Ne.symm h)

theorem BridgeBlk.slot_modAt {b : BridgeBlk} {n : Nat} (h : n < b.slots.length) (f : Slot → Slot) : atD Slot.init n (modAt f n b.slots) = f (b.slot n) :=
  atD_modAt_self Slot.init f h

/-- The bridge with slot `n` free and off the reeve's work list. -/
def BridgeBlk.freed (b : BridgeBlk) (n : Nat) : BridgeBlk :=
  { b with work := b.work.filter (fun w => w != .slot n), slots := modAt (fun _ => Slot.init) n b.slots }

/-- The end of a slot: what it holds is answered, a flag and a failure may be kept, and it is free. -/
theorem Chan.answerHeld_freed (c : Chan) (n : Nat) (e : REntry) (F : FlagReg → FlagReg) (G : List (Transport × Nat × Nat × Word) → List (Transport × Nat × Nat × Word))
    {rst : Nat} (hrst : (if e.abort = 0#32 then 0 else 1) = rst) :
    ((c.answerHeld n e).br fun b => { b with flag := F b.flag, failed := G b.failed }).freeSlot n =
      (c.repliesTo (c.bridge.slot n).held rst e).withBridge
        (BridgeBlk.freed { c.bridge with flag := F c.bridge.flag, failed := G c.bridge.failed } n) := by
  rw [Chan.answerHeld_eq, hrst]
  exact congrArg (fun l => Chan.withBridge _ { c.bridge with flag := F c.bridge.flag, failed := G c.bridge.failed, work := c.bridge.work.filter (fun w => w != .slot n), slots := l })
    (modAt_modAt ..)

theorem BridgeBlk.freed_slot {b : BridgeBlk} {n : Nat} (h : n < b.slots.length) : (b.freed n).slot n = Slot.init := BridgeBlk.slot_modAt h _

/-- What one answer under another bridge leaves. -/
theorem Chan.repliesTo_one {c d : Chan} {v : Transport} {tag : Byte} {rst : Nat} {e : REntry} {B B' : BridgeBlk}
    (h : d = ((c.withBridge B).repliesTo [(v, tag)] rst e).withBridge B') :
    (d.sent = (c.reply v tag 1 rst [e]).sent ∧ ((v = .host ∨ ∃ q k, v = .ring q k) → ∃ l, d.sent = c.sent ++ .dictReply v tag 1 rst [e] :: l)) ∧
      d.bridge = B' ∧ d.mem = c.mem := by
  rw [Chan.repliesTo_bridge] at h
  have hs : d.sent = (c.reply v tag 1 rst [e]).sent := by rw [h]; rfl
  obtain ⟨u, dd, hh, m, cm, ec, sn, hr⟩ := c.answered_repliesTo [(v, tag)] rst e
  refine ⟨⟨hs, fun hv => ?_⟩, by rw [h]; rfl, by rw [h, hr]; rfl⟩
  rw [hs]
  exact Chan.reply_sent hv tag 1 rst [e]

/-- A channel whose slot `n` has its answer (R284). -/
def Chan.readReady (c : Chan) (n : Nat) (data : List Byte) (tok : Nat) : Chan :=
  { c with bridge := { c.bridge with
    work := c.bridge.work.filter (fun w => w != .slot n)
    slots := modAt (fun (y : Slot) => { y with state := .ready, data := data, token := tok, until_ := some (c.now + c.bridge.collect * 10000) }) n c.bridge.slots } }

theorem State.readDone_eq {s : State} {ch : Ch} {n : Nat} {r : Route} (hr : (s.chan ch).slotRoute n = some r) (hev : r.event = false) (data : List Byte) (tok : Nat) :
    s.readDone ch n data tok = ((s.awayDone ch (bportOwner r.target) n).upd ch fun c => c.readReady n data tok).collect ch n := by
  unfold State.readDone
  rw [State.workDone_eq hr, hr]
  simp only [Option.bind_some, hev]
  rfl

theorem State.collect_none {s : State} {ch : Ch} {n : Nat} (h : ((s.chan ch).bridge.slot n).held = []) : s.collect ch n = s := if_pos (by rw [h]; rfl)

theorem Chan.readReady_slot {c : Chan} {n : Nat} (h : n < c.bridge.slots.length) (data : List Byte) (tok : Nat) :
    (c.readReady n data tok).bridge.slot n =
      { c.bridge.slot n with state := .ready, data := data, token := tok, until_ := some (c.now + c.bridge.collect * 10000) } :=
  BridgeBlk.slot_modAt h _

theorem Chan.readReady_route {c : Chan} {n : Nat} (h : n < c.bridge.slots.length) (data : List Byte) (tok : Nat) :
    (c.readReady n data tok).slotRoute n = c.slotRoute n := by
  unfold Chan.slotRoute
  rw [Chan.readReady_slot h]
  rfl

/-- A slot with its answer and no SIDE answers what it holds and is free (Table 10-5). -/
theorem State.collect_answered {s : State} {ch : Ch} {n : Nat} {r : Route} (hh : ((s.chan ch).bridge.slot n).held ≠ [])
    (hst : ((s.chan ch).bridge.slot n).state = .ready) (hr : (s.chan ch).slotRoute n = some r) (hs : r.side = false) :
    s.collect ch n = s.upd ch fun c => (c.repliesTo (c.bridge.slot n).held 0 ⟨0#32, 0, (c.bridge.slot n).data⟩).withBridge
      (BridgeBlk.freed { c.bridge with completed := satInc c.bridge.completed } n) := by
  refine (if_neg (by simpa using hh)).trans ((if_pos (by simp [hst, hr, hs])).trans (State.upd_congr ?_))
  refine (Chan.answerHeld_freed ((s.chan ch).br fun b => { b with completed := satInc b.completed }) n ⟨0#32, 0, ((s.chan ch).bridge.slot n).data⟩ id id (rst := 0) rfl).trans ?_
  change Chan.withBridge (Chan.repliesTo ((s.chan ch).withBridge { (s.chan ch).bridge with completed := satInc (s.chan ch).bridge.completed }) _ _ _) _ = _
  rw [Chan.repliesTo_bridge]
  rfl

/-- One with SIDE is committed at its target first. -/
theorem State.collect_committed {s : State} {ch : Ch} {n : Nat} {r : Route} (hh : ((s.chan ch).bridge.slot n).held ≠ [])
    (hst : ((s.chan ch).bridge.slot n).state = .ready) (hr : (s.chan ch).slotRoute n = some r) (hs : r.side = true) :
    s.collect ch n = (s.upd ch fun c => c.updSlotN n fun y => { y with state := .committing, until_ := some (c.now + c.bridge.collectNs) }).sendCommit ch n := by
  refine (if_neg (by simpa using hh)).trans ((if_neg (by simp [hst, hr, hs])).trans (if_pos hst))

/-! A delayed read starts (R284, R288) -/

theorem find_first {p : Nat → Bool} {n m : Nat} (hn : n < m) (hp : p n = true) (hlt : ∀ k < n, p k = false) : (List.range m).find? p = some n :=
  List.find?_range_eq_some.mpr ⟨hp, List.mem_range.mpr hn, fun k hk => by simp [hlt k hk]⟩

theorem State.proxyRead_first {s : State} {ch : Ch} {v : Transport} {tag : Byte} {idx sub n : Nat} {r : Route} (hon : (s.chan ch).bridgeOn = true)
    (hre : (s.chan ch).sys.reeveState = 0) (hr : (s.chan ch).readRoute ch v idx sub = some r) (hf : (s.chan ch).bridge.failed = []) (hw : (s.chan ch).bridge.work.length < 64)
    (hmine : ∀ m < 32, ((s.chan ch).bridge.slot m).state = .free ∨ ((s.chan ch).bridge.slot m).via ≠ some v ∨ ((s.chan ch).bridge.slot m).index ≠ idx ∨ ((s.chan ch).bridge.slot m).sub ≠ sub)
    (hn : n < 32) (hbusy : ∀ m < n, ((s.chan ch).bridge.slot m).state ≠ .free) (hfree : ((s.chan ch).bridge.slot n).state = .free) :
    s.proxyRead ch v v tag idx sub = s.upd ch fun c => (c.br (fun b => { b with work := b.work ++ [.slot n] })).updSlotN n (fun _ =>
      ⟨.pending, r.num, some v, idx, sub, [(v, tag)], none, [], 0, false,
        ((s.chan (bportOwner r.target)).bridge.queue.filter (fun (p : Posted) => p.dests.contains r.target && (s.chan ch).fromPort p.entry r.sport)).map (·.qid), c.now⟩) := by
  have h1 : (List.range 32).find? (fun m => ((s.chan ch).bridge.slot m).state != .free && ((s.chan ch).bridge.slot m).via == some v &&
      ((s.chan ch).bridge.slot m).index == idx && ((s.chan ch).bridge.slot m).sub == sub) = none := by
    refine List.find?_eq_none.mpr fun m hm h => ?_
    simp only [Bool.and_eq_true, bne_iff_ne, beq_iff_eq] at h
    obtain ⟨⟨⟨h0, h1⟩, h2⟩, h3⟩ := h
    rcases hmine m (List.mem_range.mp hm) with h | h | h | h
    · exact h0 h
    · exact h h1
    · exact h h2
    · exact h h3
  have h2 : (List.range 32).find? (fun m => ((s.chan ch).bridge.slot m).state == .free) = some n :=
    find_first hn (by simp [hfree]) fun k hk => by simp [hbusy k hk]
  unfold State.proxyRead
  rw [if_neg (by simp [hon]), if_neg (by simp [Chan.reeveOn, hre])]
  simp only [hr, hf, List.find?_nil, h1, h2]
  rw [if_neg (by simpa [workMax] using hw)]

/-- The ring's owner once its reeve makes the access of a slot. -/
def Chan.ringAsked (c : Chan) (w : Work) (r : Route) (n : Nat) : Chan :=
  ({ c.br (fun b => b.addWork w) with mill := c.mill.mbWork w (ringNode r.did) (requestOctets (if r.side then 5 else 1) n r.did []) } : Chan).emit
    (.ringRead (bportRing r.target) (ringNode r.did) (ringIndex r.did) (ringSub r.did) r.side n)

/-- A slot whose access is under way. -/
def Chan.slotStarted (c : Chan) (n : Nat) : Chan := (c.br (fun b => b.endWork (.slot n))).updSlotN n (fun y => { y with started := true })

theorem downstreamAccessStart_ring {s : State} {ch : Ch} {n : Nat} {r : Route} (hr : (s.chan ch).slotRoute n = some r)
    (hp : ((s.chan ch).bridge.slot n).state = .pending) (hst : ((s.chan ch).bridge.slot n).started = false)
    (hwait : s.slotWaits ch ((s.chan ch).bridge.slot n) r = false) (ht : r.target ≤ 1) (hon : (s.chan ch).bridgeOn = true)
    (hreach : s.slotReach ch (bportOwner r.target) r.target = true) (hw : (s.chan (bportOwner r.target)).bridge.work.length < 64) :
    exec (.downstreamAccessStart ch n) s = .next ((s.upd ch fun c => c.slotStarted n).upd (bportOwner r.target) fun c =>
      c.ringAsked (slotWork ch (bportOwner r.target) n) r n) := by
  change execDownstreamAccessStart ch n s = _
  unfold execDownstreamAccessStart
  simp only [hr]
  refine (guardC_true (by simp [hon, hp, hst, hwait, hreach])).trans (congrArg Host.Outcome.next ((if_neg ?_).trans ((if_neg ?_).trans ?_)))
  · simp [BridgeBlk.takes, workMax, hw]
  · simp only [Bool.and_eq_true, decide_eq_true_eq]; omega
  · exact congrArg (State.upd _ _) (funext fun c => if_pos ht)

theorem BridgeBlk.addWork_slot (b : BridgeBlk) (w : Work) (n : Nat) : (b.addWork w).slot n = b.slot n := by
  unfold BridgeBlk.addWork
  split <;> rfl

theorem slotStart_goes {s : State} {ch o : Ch} {n : Nat} {r : Route} (hlt : n < (s.chan ch).bridge.slots.length) :
    let t := (s.upd ch fun c => c.slotStarted n).upd o fun c => c.ringAsked (slotWork ch o n) r n
    (t.chan ch).bridge.slot n = { (s.chan ch).bridge.slot n with started := true } ∧
      (t.chan o).sent = (s.chan o).sent ++ [.ringRead (bportRing r.target) (ringNode r.did) (ringIndex r.did) (ringSub r.did) r.side n] ∧
      t.wire = s.wire ∧ ∀ k, k ≠ ch → k ≠ o → t.chan k = s.chan k := by
  have hslot (c : Chan) (h : n < c.bridge.slots.length) : ((c.slotStarted n).bridge).slot n = { c.bridge.slot n with started := true } :=
    BridgeBlk.slot_modAt h _
  refine ⟨?_, ?_, rfl, fun k h1 h2 => by rw [State.upd_chan_other _ _ h2, State.upd_chan_other _ _ h1]⟩
  · by_cases h : o = ch
    · subst h
      rw [State.upd_chan_self, State.upd_chan_self]
      exact (BridgeBlk.addWork_slot ..).trans (hslot _ hlt)
    · rw [State.upd_chan_other _ _ (Ne.symm h), State.upd_chan_self]
      exact hslot _ hlt
  · rw [State.upd_chan_self, State.upd_chan]
    split
    next h => subst h; rfl
    next => rfl

/-- The answer for a slot is taken where its access is under way and the target's owner reaches the channel. -/
theorem slotAnswer_taken {s : State} {ch : Ch} {n : Nat} {r : Route} (hr : (s.chan ch).slotRoute n = some r) (hreach : s.reach (bportOwner r.target) ch 4 = true) :
    s.answerReach ch n = true := by
  unfold State.answerReach
  rw [hr]
  exact hreach

/-! A commit on its way to a ring (R286, R290) -/

theorem State.slotReach_congr {s t : State} (hx : ∀ p, (t.chan p).xl = (s.chan p).xl) (hs : ∀ p, (t.chan p).sys = (s.chan p).sys) (ch o : Ch) (k : Nat) :
    t.slotReach ch o k = s.slotReach ch o k := by
  unfold State.slotReach Chan.bridgeOn Chan.speaks Chan.reeveOn
  rw [State.reach_congr hx hs, State.reach_congr hx hs, hs o]

/-- The ring's owner once a slot's commit is with its reeve. -/
def Chan.ringCommitted (c : Chan) (w : Work) (r : Route) (n tok : Nat) : Chan :=
  ({ c.br (fun b => b.addWork w) with mill := c.mill.mbWork w (ringNode r.did) (requestOctets 6 n r.did (leB 2 tok ++ leB 2 0)) } : Chan).emit
    (.ringCommit (bportRing r.target) (ringNode r.did) (ringIndex r.did) (ringSub r.did) tok n)

theorem State.sendCommit_ring {s : State} {ch : Ch} {n : Nat} {r : Route} (hr : (s.chan ch).slotRoute n = some r) (ht : r.target ≤ 1)
    (hreach : s.slotReach ch (bportOwner r.target) r.target = true) (hw : (s.chan (bportOwner r.target)).bridge.work.length < 64) :
    s.sendCommit ch n = s.upd (bportOwner r.target) fun c => c.ringCommitted (slotWork ch (bportOwner r.target) n) r n ((s.chan ch).bridge.slot n).token := by
  unfold State.sendCommit
  simp only [hr]
  refine (if_neg (by simp [hreach])).trans (State.upd_congr ((if_pos ht).trans (if_neg ?_)))
  simp [BridgeBlk.takes, workMax, hw]

/-- A commit on its way changes no slot. -/
theorem ringCommitted_slot (q : State) (ch o : Ch) (w : Work) (r : Route) (n tok : Nat) :
    ((q.upd o fun c => c.ringCommitted w r n tok).chan ch).bridge.slot n = (q.chan ch).bridge.slot n := by
  rw [State.upd_chan]
  split
  · exact BridgeBlk.addWork_slot ..
  · rfl

section
variable {s : State} {ch : Ch} {n tok : Nat} {r : Route} {data : List Byte}

/-- A slot whose answer is on its way back to the target as a commit. -/
def Chan.readCommitting (c : Chan) (n : Nat) (data : List Byte) (tok : Nat) : Chan :=
  (c.readReady n data tok).updSlotN n fun y => { y with state := .committing, until_ := some ((c.readReady n data tok).now + c.bridge.collectNs) }

/-- What collecting does once an answer is in. -/
theorem State.collect_readReady {q : State} (hq : q.chan ch = s.chan ch) (hlt : n < (s.chan ch).bridge.slots.length) (hr : (s.chan ch).slotRoute n = some r) :
    let c := s.chan ch
    let d := c.readReady n data tok
    let t := q.upd ch fun c => c.readReady n data tok
    ((c.bridge.slot n).held = [] → t.collect ch n = t) ∧
    ((c.bridge.slot n).held ≠ [] → r.side = false → ∃ u, t.collect ch n = u ∧ OnlyChan ch q u ∧
      u.chan ch = (d.repliesTo (c.bridge.slot n).held 0 ⟨0#32, 0, data⟩).withBridge (BridgeBlk.freed { d.bridge with completed := satInc c.bridge.completed } n)) ∧
    ((c.bridge.slot n).held ≠ [] → r.side = true → t.collect ch n = (q.upd ch fun c => c.readCommitting n data tok).sendCommit ch n) := by
  intro c d t
  have hchan : t.chan ch = d := by rw [State.upd_chan_self, hq]
  have hslot : (t.chan ch).bridge.slot n = { c.bridge.slot n with state := .ready, data := data, token := tok, until_ := some (c.now + c.bridge.collect * 10000) } := by
    rw [hchan]; exact Chan.readReady_slot hlt data tok
  have hroute : (t.chan ch).slotRoute n = some r := by
    rw [hchan]; exact (Chan.readReady_route hlt data tok).trans hr
  refine ⟨fun hh => State.collect_none (by rw [hslot]; exact hh), fun hh hs => ?_, fun hh hs => ?_⟩
  · refine ⟨_, State.collect_answered (by rw [hslot]; exact hh) (by rw [hslot]) hroute hs, ?_⟩
    rw [State.upd_upd, State.upd_chan_self, hq]
    refine ⟨onlyChan_of_upd .., ?_⟩
    rw [show (c.readReady n data tok).bridge.slot n = _ from Chan.readReady_slot hlt data tok]
    rfl
  · refine (State.collect_committed (by rw [hslot]; exact hh) (by rw [hslot]) hroute hs).trans ?_
    rw [State.upd_upd]
    rfl

theorem Chan.readCommitting_slot {c : Chan} (h : n < c.bridge.slots.length) : (c.readCommitting n data tok).bridge.slot n =
    { c.bridge.slot n with state := .committing, data := data, token := tok, until_ := some (c.now + c.bridge.collectNs) } := by
  refine (BridgeBlk.slot_modAt (b := (c.readReady n data tok).bridge) (by simpa [Chan.readReady] using h) _).trans ?_
  rw [Chan.readReady_slot h]
  rfl

theorem Chan.readCommitting_route {c : Chan} (h : n < c.bridge.slots.length) : (c.readCommitting n data tok).slotRoute n = c.slotRoute n := by
  unfold Chan.slotRoute
  rw [Chan.readCommitting_slot h]
  rfl

/-- What another owner's reeve has no more work for leaves its work list no longer. -/
theorem State.awayDone_keeps (s : State) (ch o p : Ch) (n : Nat) : ((s.awayDone ch o n).chan p).xl = (s.chan p).xl ∧ ((s.awayDone ch o n).chan p).sys = (s.chan p).sys ∧
    ((s.awayDone ch o n).chan p).sent = (s.chan p).sent ∧ ((s.awayDone ch o n).chan p).bridge.work.length ≤ (s.chan p).bridge.work.length := by
  unfold State.awayDone
  split
  · exact ⟨rfl, rfl, rfl, Nat.le_refl _⟩
  · rw [State.upd_chan]
    split
    · exact ⟨rfl, rfl, rfl, List.length_filter_le ..⟩
    · exact ⟨rfl, rfl, rfl, Nat.le_refl _⟩

theorem State.readCommitting_goes (hlt : n < (s.chan ch).bridge.slots.length) (hr : (s.chan ch).slotRoute n = some r) (ht : r.target ≤ 1)
    (hreach : s.slotReach ch (bportOwner r.target) r.target = true) (hw : (s.chan (bportOwner r.target)).bridge.work.length < 64) {t : State}
    (h : ((s.awayDone ch (bportOwner r.target) n).upd ch fun c => c.readCommitting n data tok).sendCommit ch n = t) :
    ((t.chan ch).bridge.slot n).state = .committing ∧ ((t.chan ch).bridge.slot n).data = data ∧
      (t.chan (bportOwner r.target)).sent = (s.chan (bportOwner r.target)).sent ++
        [.ringCommit (bportRing r.target) (ringNode r.did) (ringIndex r.did) (ringSub r.did) tok n] := by
  have hself := State.awayDone_self s ch (bportOwner r.target) n
  have keep (p : Ch) : (((s.awayDone ch (bportOwner r.target) n).upd ch fun c => c.readCommitting n data tok).chan p).xl = (s.chan p).xl ∧
      (((s.awayDone ch (bportOwner r.target) n).upd ch fun c => c.readCommitting n data tok).chan p).sys = (s.chan p).sys ∧
      (((s.awayDone ch (bportOwner r.target) n).upd ch fun c => c.readCommitting n data tok).chan p).sent = (s.chan p).sent ∧
      (((s.awayDone ch (bportOwner r.target) n).upd ch fun c => c.readCommitting n data tok).chan p).bridge.work.length ≤ (s.chan p).bridge.work.length := by
    obtain ⟨h1, h2, h3, h4⟩ := s.awayDone_keeps ch (bportOwner r.target) p n
    rw [State.upd_chan]
    split
    · exact ⟨h1, h2, h3, Nat.le_trans (List.length_filter_le ..) h4⟩
    · exact ⟨h1, h2, h3, h4⟩
  have hslot : (((s.awayDone ch (bportOwner r.target) n).upd ch fun c => c.readCommitting n data tok).chan ch).bridge.slot n =
      ((s.chan ch).readCommitting n data tok).bridge.slot n := by rw [State.upd_chan_self, hself]
  rw [Chan.readCommitting_slot hlt] at hslot
  rw [State.sendCommit_ring (r := r) (by rw [State.upd_chan_self, hself]; exact (Chan.readCommitting_route hlt).trans hr) ht
    ((State.slotReach_congr (fun p => (keep p).1) (fun p => (keep p).2.1) ..).trans hreach) (Nat.lt_of_le_of_lt (keep _).2.2.2 hw), hslot] at h
  subst h
  rw [ringCommitted_slot, hslot, State.upd_chan_self]
  exact ⟨rfl, rfl, congrArg (· ++ _) (keep (bportOwner r.target)).2.2.1⟩

end

/-! A delayed read ends without an answer (R284, R285) -/

theorem Chan.readFailed_eq {c : Chan} {n : Nat} {v : Transport} (hv : (c.bridge.slot n).via = some v) (ab : Word) :
    c.readFailed n ab = (c.repliesTo (c.bridge.slot n).held 1 ⟨abPending, 0, []⟩).withBridge
      (BridgeBlk.freed { c.bridge with flag := c.bridge.flag.raise 11, failed := c.bridge.failed ++ [(v, (c.bridge.slot n).index, (c.bridge.slot n).sub, ab)] } n) := by
  unfold Chan.readFailed
  simp only [hv]
  exact Chan.answerHeld_freed c n (abortEntry abPending) (fun f => f.raise 11) (fun l => l ++ [(v, (c.bridge.slot n).index, (c.bridge.slot n).sub, ab)]) (by decide)

/-- The flag that an expired collect time raises. -/
def collectFlag (x : Slot) : Nat := if x.state = .ready then 4 else 5

theorem collectTimerExpiry_next {s : State} {ch : Ch} {n k : Nat} {r : Route} (hr : (s.chan ch).slotRoute n = some r) (hu : ((s.chan ch).bridge.slot n).until_ = some k)
    (hst : ((s.chan ch).bridge.slot n).state = .ready ∨ ((s.chan ch).bridge.slot n).state = .handover) :
    exec (.collectTimerExpiry ch n) s = .next ((s.awayDone ch (bportOwner r.target) n).upd ch fun c =>
      (({ c with tb := c.tb.reach k } : Chan).repliesTo (c.bridge.slot n).held 1 ⟨abPending, 0, []⟩).withBridge
        (BridgeBlk.freed { c.bridge with flag := c.bridge.flag.raise (collectFlag (c.bridge.slot n)) } n)) := by
  have hd : (if ((s.chan ch).bridge.slot n).until_.isSome then s.workDone ch n else s) = s.awayDone ch (bportOwner r.target) n := by
    rw [hu]; exact State.workDone_eq hr
  change execCollectTimerExpiry ch n s = _
  unfold execCollectTimerExpiry
  rw [hd]
  have hself := State.awayDone_self s ch (bportOwner r.target) n
  refine onChan_next ?_
  rw [hself]
  have key (m : Nat) := Chan.answerHeld_freed { s.chan ch with tb := (s.chan ch).tb.reach k } n (abortEntry abPending) (fun f => f.raise m) id (rst := 1) (by decide)
  rcases hst with h | h
  · simp only [hu, h, collectFlag]
    exact key 4
  · simp only [hu, h, collectFlag]
    exact key 5

/-- Settles O48. -/
theorem delayedReadsProceed : Obligations.DelayedReadsProceed := by
  intro s ch n idx sub tok v tag r data ab hn hlen c b x o s1 replies
  have hlt : n < c.bridge.slots.length := by rw [hlen]; exact hn
  refine ⟨fun hup hon hre hr hf hw hmine hbusy hfree => ?_, fun hr hp hst hwait ht hon hreach hw => ?_, fun hr hev hp hst hreach => ?_,
    onChan_goes fun t e o => ?_, fun k hr hu hh hst => ?_⟩
  · exact (guardC_true hup).trans (congrArg Host.Outcome.next (State.proxyRead_first hon hre hr hf hw hmine hn hbusy hfree))
  · refine ⟨_, downstreamAccessStart_ring hr hp hst hwait ht hon hreach hw, ?_⟩
    exact slotStart_goes hlt
  · have hrun : (c.bridge.slot n).running = true := by simp [Slot.running, show (c.bridge.slot n).state = .pending from hp, show (c.bridge.slot n).started = true from hst]
    have hreach := slotAnswer_taken hr hreach
    have hg : ((c.bridge.slot n).running && s.answerReach ch n) = true := by rw [hrun, hreach]; rfl
    have hdone := State.readDone_eq hr hev data tok
    have hself := State.awayDone_self s ch (bportOwner r.target) n
    obtain ⟨hnone, hanswer, hcommit⟩ := State.collect_readReady (data := data) (tok := tok) hself hlt hr
    have done {u : State} (h : s.readDone ch n data tok = u) : exec (.downstreamReadComplete ch n data tok) s = .next u :=
      (guardC_true hg).trans (congrArg Host.Outcome.next h)
    refine ⟨fun hh => ⟨_, done (hdone.trans (hnone hh)), onlyChan_of_upd .., ?_⟩, fun hh hs => ?_, fun hh hs ht hre hw => ?_, fun hv hh => ?_⟩
    · rw [State.upd_chan_self, hself]; exact ⟨rfl, rfl⟩
    · have hh : (c.bridge.slot n).held = [(v, tag)] := hh
      obtain ⟨u, hu, ho, hc⟩ := hanswer (by rw [hh]; simp) hs
      rw [hh] at hc
      obtain ⟨hsent, hb, hm⟩ := Chan.repliesTo_one (c := c) (B := (c.readReady n data tok).bridge) hc
      refine ⟨u, done (hdone.trans hu), ho, hsent, ?_, ?_, hm⟩
      · rw [hb]
        exact BridgeBlk.freed_slot (by simpa [Chan.readReady] using hlt)
      · rw [hb]; rfl
    · have hh : (c.bridge.slot n).held = [(v, tag)] := hh
      exact ⟨_, done (hdone.trans (hcommit (by rw [hh]; simp) hs)), State.readCommitting_goes hlt hr ht hre hw rfl⟩
    · have hh : (c.bridge.slot n).held = [(v, tag)] := hh
      have hc : ((s.awayDone ch (bportOwner r.target) n).upd ch fun c => c.readFailed n ab).chan ch = _ := (State.upd_chan_self ..).trans
        ((congrArg (Chan.readFailed · n ab) hself).trans (Chan.readFailed_eq hv ab))
      rw [hh] at hc
      obtain ⟨hsent, hb, hm⟩ := Chan.repliesTo_one (c := c) (B := c.bridge) hc
      refine ⟨_, (guardC_true hg).trans (congrArg (fun q => Host.Outcome.next (State.upd q ch fun c => c.readFailed n ab)) (State.workDone_eq hr)), onlyChan_of_upd .., hsent, ?_, ?_, ?_⟩
      · rw [hb]; exact BridgeBlk.freed_slot hlt
      · rw [hb]; rfl
      · rw [hb]; rfl
  · have e := e.trans (Chan.answerHeld_eq ..)
    rw [e]
    exact ⟨o, rfl, rfl⟩
  · have hself := State.awayDone_self s ch (bportOwner r.target) n
    refine ⟨_, collectTimerExpiry_next hr hu hst, onlyChan_of_upd .., ?_⟩
    rw [State.upd_chan_self, hself, show ((s.chan ch).bridge.slot n).held = [] from hh]
    exact ⟨rfl, rfl⟩

/-! Commits and host answers (R285, R286, R289, R465) -/

theorem BridgeBlk.addWork_shape (b : BridgeBlk) (w : Work) : b.addWork w = { b with work := if b.work.contains w then b.work else b.work ++ [w] } := by
  unfold BridgeBlk.addWork
  split <;> rfl

theorem commitAcknowledge_next {s : State} {ch : Ch} {n : Nat} {r : Route} (hst : ((s.chan ch).bridge.slot n).state = .committing) (hh : ((s.chan ch).bridge.slot n).held = [])
    (hlt : n < (s.chan ch).bridge.slots.length) (hr : (s.chan ch).slotRoute n = some r) (hreach : s.reach (bportOwner r.target) ch 4 = true) :
    exec (.commitAcknowledge ch n) s = .next ((s.awayDone ch (bportOwner r.target) n).upd ch fun c => (c.br (fun b => b.endWork (.slot n))).updSlotN n (fun x =>
      { x with state := .handover, until_ := some (c.now + c.bridge.collectNs) })) := by
  have hself := State.awayDone_self s ch (bportOwner r.target) n
  refine (guardC_true (by simp [hst, slotAnswer_taken hr hreach])).trans (congrArg Host.Outcome.next ?_)
  unfold State.committedAck
  rw [State.workDone_eq hr]
  refine State.collect_none ?_
  rw [State.upd_chan_self, hself]
  exact (congrArg Slot.held (BridgeBlk.slot_modAt hlt _)).trans hh

theorem Chan.commitRefused_eq {c : Chan} {n : Nat} (hh : (c.bridge.slot n).held = []) :
    c.commitRefused n = c.withBridge (BridgeBlk.freed { c.bridge with flag := c.bridge.flag.raise 6 } n) := by
  have key := Chan.answerHeld_freed c n (abortEntry abPending) (fun f => f.raise 6) id (rst := 1) (by decide)
  rw [hh] at key
  exact key

/-- The channel that a host message's tag names. -/
def tagCh : Nat → Ch
  | 0 => .A
  | 1 => .B
  | _ => .C

/-- A host message for slot `n` of channel `k`. -/
def State.hostAnswerAt (s : State) (lane k : Ch) (n : Nat) (m : HostMsg) : State :=
  let named := (((s.chan k).slotRoute n).map (fun (r : Route) => r.did == m.id && r.target == laneBport lane)).getD false && m.tag.toNat < 96
  let err := s.upd lane (fun c => { c with host := { c.host with flag := c.host.flag.raise 0 } })
  if !named || !(s.reach lane k 4) then err
  else match m.kind with
    | 4 => if ((s.chan k).bridge.slot n).running then s.readDone k n m.data m.token else err
    | 5 => if ((s.chan k).bridge.slot n).state = .committing then s.committedAck k n else err
    | 6 =>
      if ((s.chan k).bridge.slot n).state = .committing then (s.workDone k n).upd k (fun c => c.commitRefused n)
      else if ((s.chan k).bridge.slot n).running then ((s.workDone k n).upd k (fun c => c.readFailed n (freeAbort s.free))).tick
      else err
    | _ => err

theorem State.hostAnswer_at (s : State) (lane : Ch) (m : HostMsg) :
    s.hostAnswer lane m = s.hostAnswerAt lane (tagCh (m.tag.toNat / 32)) (m.tag.toNat % 32) m := rfl

/-- The answer of a host that names a slot of channel `ch` by its tag. -/
theorem State.hostAnswer_data {s : State} {lane ch : Ch} {n : Nat} {r : Route} {m : HostMsg} (hn : n < 32) (hreach : s.reach lane ch 4 = true) (hk : m.kind = 4)
    (ht : m.tag.toNat = chCode ch * 32 + n) (hr : (s.chan ch).slotRoute n = some r) (hid : r.did = m.id) (hl : r.target = laneBport lane)
    (hrun : ((s.chan ch).bridge.slot n).running = true) : s.hostAnswer lane m = s.readDone ch n m.data m.token := by
  have hdiv : m.tag.toNat / 32 = chCode ch := by omega
  have hmod : m.tag.toNat % 32 = n := by omega
  have hlt : m.tag.toNat < 96 := by cases ch <;> simp only [chCode] at ht <;> omega
  have hq : tagCh (m.tag.toNat / 32) = ch := by
    rw [hdiv]
    cases ch <;> rfl
  rw [State.hostAnswer_at, hq, hmod]
  refine (if_neg ?_).trans ?_
  · rw [hr]
    simp [hid, hl, hlt, hreach]
  · rw [hk]
    exact if_pos hrun

/-- Settles O49. -/
theorem commitsAndHostAnswers : Obligations.CommitsAndHostAnswers := by
  intro s ch n tag r m hn hlen c b x o s1
  have hlt : n < c.bridge.slots.length := by rw [hlen]; exact hn
  refine ⟨fun hst hh hr hreach => ⟨?_, ?_⟩, fun hst hr ht hreach hw => ?_, fun hv hh hr ht hw => ?_,
    fun lane hon hreach hk htag hr hid hl hev hp hst hh => ?_, fun hon ht => ?_⟩
  · refine (commitAcknowledge_next hst hh hlt hr hreach).trans (congrArg Host.Outcome.next (State.upd_congr ?_))
    rw [show s.awayDone ch (bportOwner r.target) n = s1 from rfl, show s1.chan ch = c from State.awayDone_self ..]
    rfl
  · refine (guardC_true (by simp [show ((s.chan ch).bridge.slot n).state = .committing from hst, slotAnswer_taken hr hreach])).trans (congrArg Host.Outcome.next ?_)
    rw [State.workDone_eq hr]
    refine State.upd_congr ?_
    rw [show (s.awayDone ch (bportOwner r.target) n).chan ch = c from State.awayDone_self .., Chan.commitRefused_eq hh]
    rfl
  · refine ⟨_, (guardC_true (by simp [show ((s.chan ch).bridge.slot n).state = .committing from hst])).trans (congrArg Host.Outcome.next (State.sendCommit_ring hr ht hreach hw)),
      onlyChan_of_upd .., ?_⟩
    rw [State.upd_chan_self]
    exact ⟨BridgeBlk.addWork_shape .., rfl⟩
  · have hh : (c.bridge.slot n).held = [(.host, tag)] := hh
    have hv : (c.bridge.slot n).via = some .host := hv
    have hg : ((c.bridge.slot n).via == some Transport.host && !(c.bridge.slot n).held.isEmpty &&
        ((c.slotRoute n).map (fun (r : Route) => decide (r.target ≤ 1))).getD false && s.laneWaited ch) = true := by
      rw [hv, hh, show c.slotRoute n = some r from hr, hw]
      simp [ht]
    have hc := Chan.answerHeld_eq (c.br fun b => b.hit 7) n (abortEntry abPending)
    obtain ⟨l, hl⟩ := Chan.reply_sent (c := c.br fun b => b.hit 7) (.inl rfl) tag 1 1 [⟨abPending, 0, []⟩]
    refine ⟨_, l, guardC_true hg, onlyChan_of_upd .., ?_, ?_⟩
    · rw [State.upd_chan_self, hc, show ((c.br fun b => b.hit 7).bridge.slot n).held = [(.host, tag)] from hh]
      exact hl
    · rw [State.upd_chan_self, hc]
      rfl
  · have hrun : (c.bridge.slot n).running = true := by simp [Slot.running, show (c.bridge.slot n).state = .pending from hp, show (c.bridge.slot n).started = true from hst]
    have hself := State.awayDone_self s ch (bportOwner r.target) n
    obtain ⟨hnone, -, -⟩ := State.collect_readReady (data := m.data) (tok := m.token) hself hlt hr
    refine (guardC_true hon).trans (congrArg Host.Outcome.next ((State.hostAnswer_data hn hreach hk htag hr hid hl hrun).trans
      ((State.readDone_eq hr hev _ _).trans ((hnone hh).trans (State.upd_congr ?_)))))
    rw [hself]
    rfl
  · refine (guardC_true hon).trans (congrArg Host.Outcome.next (if_pos ?_))
    have h : ¬ m.tag.toNat < 96 := by omega
    simp [h]

end Sys2Proof.Machine
end


/-! PROOFS. The dictionary (obligation O56). -/

section
namespace Sys2Proof.Machine
open Sys2Proof Sys2Proof.Safety
/-! A request by a transport that owes no reply of its own (O56) -/

/-- A machine in M7, in which no call of several parts is open. -/
def noCallOpen : State := Tests.served .m7 id

/-- A request of one entry. -/
def oneEntry : DReq := ⟨0#8, true, 8, [⟨0x1000, 0, [], 0⟩]⟩

theorem noCallOpen_served : (noCallOpen.chan .A).up = true ∧ (noCallOpen.chan .A).ringBusy (.part 0 0) = false ∧
    viaOffered (noCallOpen.chan .A).sys.mode (.part 0 0) = true ∧ (noCallOpen.chan .A).sys.reeveState = 0 ∧ (noCallOpen.chan .A).overLimit (.part 0 0) = false ∧
    oneEntry.len ≤ 8192 ∧ reqOk 4 oneEntry = true := by decide

/-- What channel A has sent after a run. -/
def sentByA (o : Out) : List Emission :=
  match o with | .next t => (t.chan .A).sent | _ => []

theorem noCallOpen_silent : sentByA (exec (.dictNext .A (.part 0 0) oneEntry) noCallOpen) = (noCallOpen.chan .A).sent := by decide

/-- Refutes O56: the statement admits every transport but notifications, legacy messages and message data, so also a part of a call of several entries; such a part, of a call that is not open, is served and sends no reply. -/
theorem not_dictionaryServices : ¬ Obligations.DictionaryServices := by
  intro h
  obtain ⟨hup, hring, hvia, hreeve, hlim, hlen, hok⟩ := noCallOpen_served
  obtain ⟨hplain, -⟩ := h noCallOpen .A (.part 0 0) 0#8 8 ⟨0x1000, 0, [], 0⟩ ⟨0, 0, false, 0, 0, 0, false, false, none, false, false⟩ Tests.decl1 Tests.task1 0#32
  obtain ⟨-, -, -, hnext, -⟩ := hplain ⟨fun _ _ => Transport.noConfusion, fun _ => Transport.noConfusion, fun _ _ _ => Transport.noConfusion⟩
  obtain ⟨t, he, -, l, hsent⟩ := hnext ⟨hup, hring, hvia, hreeve, hlim, hlen, hok, fun h => absurd h (by decide)⟩
  have hrun := noCallOpen_silent
  rw [show exec (.dictNext .A (.part 0 0) oneEntry) noCallOpen = .next t from he] at hrun
  have hlength := congrArg List.length (hsent.symm.trans hrun)
  simp at hlength

end Sys2Proof.Machine
end

/-! PROOFS. The bucket brigade, image verification and update commands (R400 to R422, obligations O57 and O58). -/

section
namespace Sys2Proof.Machine
open Sys2Proof Sys2Proof.Safety

/-! What is sent to a neighbour (R403, R404) -/

/-- A message to a neighbour changes the ring's mailbox and what is sent, each as the neighbour's port carries it. -/
theorem Chan.brigade_eq (c : Chan) (p : Peer) (t : Nat) (img : Word) (block piece reason : Nat) (map : W64) (data : List Byte) :
    c.brigade p t img block piece reason map data = { c with
      mill := if c.brigadePort p && (p.transport = 3 || p.transport = 4) then
        c.mill.mbSend p.addr.toNat (brigadeWriteOctets (brigadeOctets t img block piece reason map data)) else c.mill
      sent := if c.brigadePort p then c.sent ++ [.brigade p t img block piece reason map data] else c.sent } := by
  unfold Chan.brigade
  cases hp : c.brigadePort p
  · rfl
  · by_cases ht : (p.transport = 3 || p.transport = 4) = true
    · simp only [ht]; rfl
    · simp only [ht]; rfl

/-- What offers and pieces to neighbours change of a channel: the ring's mailbox, the transfers it sends, and what is sent, at its end. -/
def Chan.Offered (c c' : Chan) : Prop := ∃ m ss l, c' = { c with mill := m, upd := { c.upd with sends := ss }, sent := c.sent ++ l }

theorem Chan.offered_refl (c : Chan) : c.Offered c := ⟨c.mill, c.upd.sends, [], by rw [List.append_nil]⟩

theorem Chan.offered_trans {a b c : Chan} (h : a.Offered b) (g : b.Offered c) : a.Offered c := by
  obtain ⟨m, ss, l, rfl⟩ := h
  obtain ⟨m', ss', l', rfl⟩ := g
  exact ⟨m', ss', l ++ l', by rw [List.append_assoc]⟩

theorem Chan.offered_sends (c : Chan) (ss : List Send) : c.Offered { c with upd := { c.upd with sends := ss } } :=
  ⟨c.mill, ss, [], by rw [List.append_nil]⟩

theorem Chan.offered_brigade (c : Chan) (p : Peer) (t : Nat) (img : Word) (block piece reason : Nat) (map : W64) (data : List Byte) :
    c.Offered (c.brigade p t img block piece reason map data) := by
  rw [Chan.brigade_eq]
  cases c.brigadePort p
  · exact ⟨_, c.upd.sends, [], by rw [List.append_nil]; rfl⟩
  · exact ⟨_, c.upd.sends, [.brigade p t img block piece reason map data], rfl⟩

theorem Chan.offered_foldl {α : Type} {f : Chan → α → Chan} (hf : ∀ c x, Chan.Offered c (f c x)) : ∀ (l : List α) (c : Chan), c.Offered (l.foldl f c)
  | [], c => c.offered_refl
  | x :: l, c => Chan.offered_trans (hf c x) (Chan.offered_foldl hf l _)

theorem Chan.offered_sendPieces (c : Chan) (x : Send) : c.Offered (c.sendPieces x) := by
  unfold Chan.sendPieces
  split
  · exact c.offered_refl
  · exact Chan.offered_trans (Chan.offered_foldl (fun c t => Chan.offered_brigade c ..) _ c) (Chan.offered_sends ..)

theorem Chan.offered_pump (c : Chan) (n : Nat) : c.Offered (c.pump n) := Chan.offered_foldl (fun c x => c.offered_sendPieces x) _ c

theorem Chan.offered_offerDown (c : Chan) (ch : Ch) (n : Nat) (m : Manifest) : c.Offered (c.offerDown ch n m) := by
  unfold Chan.offerDown
  split
  · exact c.offered_refl
  · refine Chan.offered_foldl (fun c k => ?_) _ c
    dsimp only
    split
    · exact Chan.offered_trans (Chan.offered_sends ..) (Chan.offered_brigade ..)
    · exact c.offered_refl

/-! An offer (R404 step 1, R405) -/

theorem Chan.takeSlot_lt {c : Chan} {busy : Nat → Bool} {m : Manifest} {n : Nat} (h : c.takeSlot busy m = some n) : n < 12 := by
  have htransit : ∀ k ∈ transitPlaces, k < 12 := by decide
  have hother : c.upd.otherSlot < 12 := by unfold UpdBlk.otherSlot; split <;> decide
  unfold Chan.takeSlot at h
  split at h
  · dsimp only at h
    split at h
    next k hk => cases h; exact htransit _ (List.mem_of_mem_filter (List.mem_of_find?_eq_some hk))
    next =>
      obtain hk | ⟨-, hk⟩ := Option.or_eq_some_iff.mp h
      · exact htransit _ (List.mem_of_mem_filter (List.mem_of_find?_eq_some hk))
      · exact htransit _ (List.mem_of_mem_filter (List.mem_of_mem_head? hk))
  · have hcand : ∀ k ∈ (if m.kind = 1 then (if (c.upd.find [0, 1] .trial).isSome then [] else [0, 1].filter (fun n => c.upd.selected ≠ some n))
        else if c.chg.state != .idle && c.chg.state != .loading then [] else [c.upd.otherSlot]), k < 12 := by
      intro k hk
      split at hk
      · split at hk
        · cases hk
        · obtain rfl | rfl := List.mem_pair.mp (List.mem_of_mem_filter hk) <;> decide
      · split at hk
        · cases hk
        · exact List.mem_singleton.mp hk ▸ hother
    dsimp only at h
    split at h
    next k hk => cases h; exact hcand _ (List.mem_of_mem_filter (List.mem_of_find?_eq_some hk))
    next => exact hcand _ (List.mem_of_mem_filter (List.mem_of_mem_head? h))

/-- An OFFER with no reason against it has a slot that takes its image. -/
theorem State.takeSlot_of_offerReason {s : State} {ch : Ch} {p : Peer} {m : Manifest} (h : s.offerReason ch p m = 0) :
    ∃ n, (s.chan ch).takeSlot (s.slotTaken ch m) m = some n := by
  refine Option.isSome_iff_exists.mp (by_contra fun hn => ?_)
  rw [Option.not_isSome_iff_eq_none] at hn
  unfold State.offerReason at h
  simp only [hn, Option.isNone_none, Bool.and_true] at h
  by_cases hf : (s.chan ch).foreign m = true
  · by_cases hr : transitSize < m.nblk * 65536
    · simp [hf, hr, ite_eq_iff, Nat.not_le.mpr hr] at h
    · simp [hf, Nat.not_lt.mp hr, ite_eq_iff] at h
  · simp [hf, ite_eq_iff] at h

/-- A slot with the manifest of an image that it takes. -/
theorem UpdBlk.openSlot_slot {u : UpdBlk} {n : Nat} (m : Manifest) (h : n < u.slots.length) :
    ((u.openSlot n m).slot n).st = .partial_ ∧ ((u.openSlot n m).slot n).man.map manImgid = some (manImgid m) ∧
      ∀ j, j ≠ n → (u.openSlot n m).slot j = u.slot j := by
  have hn : (u.openSlot n m).slot n = _ := atD_modAt_self ImgSlot.empty _ h
  refine ⟨?_, ?_, fun j hj => atD_modAt_other ImgSlot.empty _ _ hj⟩
  · rw [hn]; split
    next hs => exact (by simpa using hs : _ ∧ _).1
    next => rfl
  · rw [hn]; split
    next hs => exact (by simpa using hs : _ ∧ _).2
    next => rfl

/-- A channel with the transfer of an image to slot `n` opened by an accepted offer, object 0x5831 showing it. -/
def Chan.taking (c : Chan) (p : Peer) (n : Nat) (m : Manifest) : Chan :=
  { c with upd := { c.upd.openSlot n m with
    recv := c.upd.recv.filter (fun y => !(y.peer == p || y.slot == n)) ++ [⟨p, n, m, []⟩]
    xState := 1
    xImg := manImgid m
    xNext := ((c.upd.openSlot n m).slot n).next m.nblk
    xNblk := m.nblk } }

theorem State.acceptOffer_self (s : State) (ch : Ch) (p : Peer) (m : Manifest) (n : Nat) : (s.acceptOffer ch p m n).chan ch =
    ((((s.chan ch).taking p n m).sendStatus ⟨p, n, m, []⟩).offerDown ch n m).pump n := by
  unfold State.acceptOffer
  rw [State.updAll_chan, if_neg (by simp)]
  dsimp only
  rw [if_pos rfl]
  rfl

theorem State.acceptOffer_other {s : State} {ch k : Ch} (p : Peer) (m : Manifest) (n : Nat) (hk : k ≠ ch) : (s.acceptOffer ch p m n).chan k =
    if s.participates k && s.reach ch k 4 then
      (({ s.chan k with upd := (s.chan k).upd.openSlot n m } : Chan).offerDown k n m).pump n else s.chan k := by
  unfold State.acceptOffer
  rw [State.updAll_chan]
  dsimp only
  cases hp : (s.participates k && s.reach ch k 4)
  · rw [if_pos (by simp [hk]), if_neg Bool.false_ne_true]
  · rw [if_neg (by simp), if_neg hk, if_pos rfl]

theorem Chan.answerDict_none {c : Chan} {h : BrigadeHdr} (p : Peer) (ab : Word) (hd : h.dict = none) : c.answerDict p h ab = c := by
  simp only [Chan.answerDict, hd]

/-- What a message to a working brigade does when its check holds. -/
theorem brigade_good {s : State} {ch : Ch} {p : Peer} {h : BrigadeHdr} {f : Chan → Chan} {x : Out} (hon : (s.chan ch).brigadeOn ch p = true) (hok : h.ok = true) :
    (if !((s.chan ch).brigadeOn ch p) then .next s else if !h.ok then onChan s ch f else x) = x :=
  (if_neg (by simp [hon])).trans (if_neg (by simp [hok]))

/-- A message whose check fails is only counted. -/
theorem brigade_bad {s : State} {ch : Ch} {p : Peer} {h : BrigadeHdr} {x : Out} (hon : (s.chan ch).brigadeOn ch p = true) (hok : h.ok = false) (hd : h.dict = none) :
    (if !((s.chan ch).brigadeOn ch p) then .next s else if !h.ok then onChan s ch (fun c => c.badMessage p h) else x) =
      .next (s.upd ch fun c => { c with upd := { (s.chan ch).upd with stats := modAt satInc 2 (s.chan ch).upd.stats } }) :=
  ((if_neg (by simp [hon])).trans (if_pos (by simp [hok]))).trans
    (onChan_next (Chan.answerDict_none p _ hd))

theorem execBrigadeOffer_accepts {s : State} {ch : Ch} {p : Peer} {h : BrigadeHdr} {m : Manifest} (hon : (s.chan ch).brigadeOn ch p = true) (hok : h.ok = true)
    (hd : h.dict = none) (hr : s.offerReason ch p m = 0) (hl : ∀ k, (s.chan k).upd.slots.length = 12) :
    ∃ t n l, execBrigadeOffer ch p h m s = .next t ∧ t.wire = s.wire ∧ t.pending = s.pending ∧ (s.chan ch).takeSlot (s.slotTaken ch m) m = some n ∧
      (t.chan ch).upd.recv = (s.chan ch).upd.recv.filter (fun y => !(y.peer == p || y.slot == n)) ++ [⟨p, n, m, []⟩] ∧
      (t.chan ch).upd.xState = 1 ∧ (t.chan ch).upd.xImg = manImgid m ∧ (t.chan ch).upd.xNblk = m.nblk ∧ (t.chan ch).mem = (s.chan ch).mem ∧ (t.chan ch).sl = (s.chan ch).sl ∧
      (t.chan ch).sent = ((s.chan ch).brigade p 3 (manImgid m) (((t.chan ch).upd.slot n).next m.nblk) 0 0 0#64 []).sent ++ l ∧
      (∀ k, k = ch ∨ (s.participates k = true ∧ s.reach ch k 4 = true) → ((t.chan k).upd.slot n).st = .partial_ ∧ ((t.chan k).upd.slot n).man.map manImgid = some (manImgid m) ∧
        ∀ j, j ≠ n → (t.chan k).upd.slot j = (s.chan k).upd.slot j) ∧
      (∀ k, k ≠ ch → ¬(s.participates k = true ∧ s.reach ch k 4 = true) → t.chan k = s.chan k) := by
  obtain ⟨n, hn⟩ := State.takeSlot_of_offerReason hr
  have he : execBrigadeOffer ch p h m s = .next (s.acceptOffer ch p m n) := by
    refine (brigade_good hon hok).trans ?_
    rw [hr]
    refine (if_neg (by decide)).trans ?_
    rw [hn]
    exact congrArg Host.Outcome.next ((State.upd_congr (g := id) (Chan.answerDict_none p _ hd)).trans (State.upd_self ..))
  have hslot (k : Ch) := UpdBlk.openSlot_slot m (u := (s.chan k).upd) (lt_of_lt_of_eq (Chan.takeSlot_lt hn) (hl k).symm)
  obtain ⟨mill, ss, l, hc⟩ := Chan.offered_trans (Chan.offered_offerDown (((s.chan ch).taking p n m).sendStatus ⟨p, n, m, []⟩) ch n m) (Chan.offered_pump _ n)
  rw [← State.acceptOffer_self, Chan.sendStatus, Chan.brigade_eq] at hc
  refine ⟨_, n, l, he, rfl, rfl, hn, ?_⟩
  refine ⟨by rw [hc]; rfl, by rw [hc]; rfl, by rw [hc]; rfl, by rw [hc]; rfl, by rw [hc]; rfl, by rw [hc]; rfl, ?_, fun k hk => ?_, fun k hk hp => ?_⟩
  · rw [hc, Chan.brigade_eq]
    rfl
  · by_cases hkc : k = ch
    · subst hkc
      rw [hc]
      exact hslot k
    · obtain ⟨hp1, hp2⟩ := hk.resolve_left hkc
      rw [State.acceptOffer_other p m n hkc, if_pos (by rw [hp1, hp2]; rfl)]
      obtain ⟨mill', ss', l', hc'⟩ := Chan.offered_trans (Chan.offered_offerDown ({ s.chan k with upd := (s.chan k).upd.openSlot n m } : Chan) k n m) (Chan.offered_pump _ n)
      rw [hc']
      exact hslot k
  · rw [State.acceptOffer_other p m n hk, if_neg (by rwa [Bool.and_eq_true])]

/-- A REFUSE to a neighbour: what is sent, and which parts stay. -/
theorem Chan.sendRefuse_sent {c : Chan} {h : BrigadeHdr} (p : Peer) (reason : Nat) (ab : Word) (hd : h.dict = none) :
    (c.sendRefuse p h reason ab).sent = (c.brigade p 5 h.imgid 0 0 reason 0#64 []).sent ∧ (c.sendRefuse p h reason ab).upd.slots = c.upd.slots ∧
      (c.sendRefuse p h reason ab).upd.recv = c.upd.recv ∧ (c.sendRefuse p h reason ab).upd.xReason = reason := by
  rw [Chan.sendRefuse, Chan.answerDict_none p ab hd, Chan.brigade_eq, Chan.brigade_eq]
  exact ⟨rfl, rfl, rfl, rfl⟩

theorem execBrigadeOffer_refuses {s : State} {ch : Ch} {p : Peer} {h : BrigadeHdr} {m : Manifest} (hon : (s.chan ch).brigadeOn ch p = true) (hok : h.ok = true)
    (hd : h.dict = none) (hr : s.offerReason ch p m ≠ 0) : ∃ t, execBrigadeOffer ch p h m s = .next t ∧ OnlyChan ch s t ∧
      (t.chan ch).upd.xReason = s.offerReason ch p m ∧ (t.chan ch).sent = ((s.chan ch).brigade p 5 h.imgid 0 0 (s.offerReason ch p m) 0#64 []).sent ∧
      (t.chan ch).upd.slots = (s.chan ch).upd.slots ∧ (t.chan ch).upd.recv = (s.chan ch).upd.recv := by
  refine ⟨_, (brigade_good hon hok).trans (if_pos hr), onlyChan_of_upd .., ?_⟩
  rw [State.upd_chan_self]
  obtain ⟨hs, hl, hv, hx⟩ := Chan.sendRefuse_sent (c := s.chan ch) p (s.offerReason ch p m)
    (if s.offerReason ch p m = 3 then abFloor else if s.offerReason ch p m = 2 then abImage else if s.offerReason ch p m = 5 then abState else abConfig) hd
  exact ⟨hx, hs, hl, hv⟩

theorem execBrigadePiece_refuses {s : State} {ch : Ch} {p : Peer} {h : BrigadeHdr} {data : List Byte} (hon : (s.chan ch).brigadeOn ch p = true) (hok : h.ok = true)
    (hd : h.dict = none) (hf : (s.chan ch).upd.recv.find? (fun y => y.peer == p && manImgid y.man == h.imgid) = none) :
    ∃ t, execBrigadePiece ch p h data s = .next t ∧ OnlyChan ch s t ∧
      (t.chan ch).sent = ((s.chan ch).brigade p 5 h.imgid 0 0 10 0#64 []).sent ∧ (t.chan ch).upd.slots = (s.chan ch).upd.slots := by
  have he : execBrigadePiece ch p h data s = onChan s ch fun c => c.sendRefuse p h 10 abOrder := by
    refine (brigade_good hon hok).trans ?_
    dsimp only
    rw [hf]
  refine ⟨_, he, onlyChan_of_upd .., ?_⟩
  rw [State.upd_chan_self]
  obtain ⟨hs, hl, -, -⟩ := Chan.sendRefuse_sent (c := s.chan ch) p 10 abOrder hd
  exact ⟨hs, hl⟩

/-- A first piece of a transfer does not complete its block. -/
theorem State.takePiece_first {s : State} {ch : Ch} {r : Recv} (block piece : Nat) (data : List Byte) (hr : (s.chan ch).upd.recv = [r]) (hp : r.pieces = []) :
    s.takePiece ch r block piece data = s.upd ch fun c => { c with upd := { (s.chan ch).upd with recv := [{ r with pieces := [(block, piece, data)] }] } } := by
  unfold State.takePiece
  dsimp only
  rw [hp, if_pos (by simp)]
  refine State.upd_congr ?_
  simp [hr]

theorem execBrigadePiece_takes {s : State} {ch : Ch} {p : Peer} {h : BrigadeHdr} {data : List Byte} {r : Recv} (hon : (s.chan ch).brigadeOn ch p = true)
    (hok : h.ok = true) (hd : h.dict = none) (hr : (s.chan ch).upd.recv = [r]) (hp : r.peer = p) (hi : manImgid r.man = h.imgid) (h1 : (s.chan ch).recvNext r ≤ h.block)
    (h2 : h.block ≤ (s.chan ch).recvNext r + 3) (h3 : h.block < r.man.nblk) (h4 : h.piece < 64) (h5 : data.length = 1024)
    (h6 : ((s.chan ch).upd.slot r.slot).block h.block = none) (h7 : r.pieces = []) : execBrigadePiece ch p h data s =
      .next (s.upd ch fun c => { c with upd := { (s.chan ch).upd with recv := [{ r with pieces := [(h.block, h.piece, data)] }] } }) := by
  have hf : (s.chan ch).upd.recv.find? (fun y => y.peer == p && manImgid y.man == h.imgid) = some r := by
    rw [hr]; simp [hp, hi]
  refine (brigade_good hon hok).trans ?_
  dsimp only
  rw [hf]
  dsimp only
  rw [if_pos (by simp [h1, h2, h3, h4, h5]), if_neg (by simp [h6]), State.takePiece_first _ _ _ hr h7]
  exact congrArg Host.Outcome.next ((State.upd_congr (g := id) (Chan.answerDict_none p _ hd)).trans (State.upd_self ..))

/-! The sender (R404 steps 2, 5 and 6) -/

theorem sends_find {u : UpdBlk} {x : Send} {p : Peer} {h : BrigadeHdr} (hs : u.sends = [x]) (hp : x.peer = p) (hi : x.imgid = h.imgid) :
    u.sends.find? (fun x => x.peer == p && x.imgid == h.imgid) = some x := by
  rw [hs]; simp [hp, hi]

theorem execBrigadeStatus_ends {s : State} {ch : Ch} {p : Peer} {h : BrigadeHdr} {x : Send} (hon : (s.chan ch).brigadeOn ch p = true) (hok : h.ok = true)
    (hd : h.dict = none) (hs : (s.chan ch).upd.sends = [x]) (hp : x.peer = p) (hi : x.imgid = h.imgid) (hb : h.block = x.nblk) : execBrigadeStatus ch p h s =
      .next (s.upd ch fun c => ({ c with upd := { (s.chan ch).upd with sends := [], stats := (s.chan ch).upd.forwardedTo x.next h.block } } : Chan).brigade
        p 4 h.imgid 0 0 0 0#64 []) := by
  refine (brigade_good hon hok).trans (onChan_next ?_)
  rw [sends_find hs hp hi]
  dsimp only
  rw [if_pos hb, Chan.answerDict_none p _ hd]
  simp only [hs, List.filter_cons, hp, hi, beq_self_eq_true, Bool.and_self, Bool.not_true, Bool.false_eq_true, if_false, List.filter_nil]

theorem execBrigadeRefuse_ends {s : State} {ch : Ch} {p : Peer} {h : BrigadeHdr} {x : Send} (hon : (s.chan ch).brigadeOn ch p = true) (hok : h.ok = true)
    (hd : h.dict = none) (hs : (s.chan ch).upd.sends = [x]) (hp : x.peer = p) (hi : x.imgid = h.imgid) (hb : h.reason ≠ 10) : execBrigadeRefuse ch p h s =
      .next (s.upd ch fun c => { c with upd := { (s.chan ch).upd with sends := [] } }) := by
  refine (brigade_good hon hok).trans (onChan_next ?_)
  rw [sends_find hs hp hi]
  dsimp only
  rw [if_neg hb, Chan.answerDict_none p _ hd]
  simp [hs, hp, hi]

theorem execBrigadeRefuse_offersAgain {s : State} {ch : Ch} {p : Peer} {h : BrigadeHdr} {x : Send} {m : Manifest} (hon : (s.chan ch).brigadeOn ch p = true)
    (hok : h.ok = true) (hd : h.dict = none) (hs : (s.chan ch).upd.sends = [x]) (hp : x.peer = p) (hi : x.imgid = h.imgid) (hb : h.reason = 10)
    (hm : ((s.chan ch).upd.slot x.slot).man = some m) : execBrigadeRefuse ch p h s =
      .next (s.upd ch fun c => ({ c with upd := { (s.chan ch).upd with sends := [{ x with started := false, sent := [], since := (s.chan ch).now }] } } : Chan).brigade
        p 1 h.imgid 0 0 0 0#64 (m.raw ++ m.sig)) := by
  refine (brigade_good hon hok).trans (onChan_next ?_)
  rw [sends_find hs hp hi]
  dsimp only
  rw [if_pos hb, Chan.answerDict_none p _ hd, hm]
  simp [hs, hp, hi]

/-- Pieces to a neighbour whose port carries them are sent in order. -/
theorem Chan.foldl_brigade_sent (p : Peer) (img : Word) (l : List (Nat × Nat × List Byte)) {c : Chan} (hp : c.brigadePort p = true) :
    (l.foldl (fun (c : Chan) t => c.brigade p 2 img t.1 t.2.1 0 0#64 t.2.2) c).sent = c.sent ++ l.map fun t => .brigade p 2 img t.1 t.2.1 0 0#64 t.2.2 := by
  induction l generalizing c with
  | nil => exact (List.append_nil _).symm
  | cons t l ih =>
    have hb : (c.brigade p 2 img t.1 t.2.1 0 0#64 t.2.2).brigadePort p = true := by rw [Chan.brigade_eq]; exact hp
    rw [List.foldl_cons, ih hb, Chan.brigade_eq, hp, if_pos rfl, List.append_assoc]
    rfl

/-- The pieces of the last block of an image that the receiver does not show as held, none sent since. -/
theorem Chan.sendPieces_last {c : Chan} {x : Send} {b : List Byte} (hst : x.started = true) (hn : x.nblk = x.next + 1) (hsent : x.sent = [])
    (hb : (c.upd.slot x.slot).block x.next = some b) (hp : c.brigadePort x.peer = true) : (c.sendPieces x).sent =
      c.sent ++ ((List.range 64).filter fun k => !x.map.getLsbD k).map fun k => .brigade x.peer 2 x.imgid x.next k 0 0#64 ((b.drop (1024 * k)).take 1024) := by
  have hw : ((List.range 4).map (· + x.next)).filter (fun b => decide (b < x.nblk)) = [x.next] := by
    have hr : List.range 4 = [0, 1, 2, 3] := rfl
    have h0 : x.next < x.nblk := by omega
    have h1 : ¬1 + x.next < x.nblk := by omega
    have h2 : ¬2 + x.next < x.nblk := by omega
    have h3 : ¬3 + x.next < x.nblk := by omega
    rw [hr]
    simp only [List.map_cons, List.map_nil, List.filter_cons, h0, h1, h2, h3, decide_true, decide_false, if_true, Bool.false_eq_true, if_false, Nat.zero_add,
      List.filter_nil]
  unfold Chan.sendPieces
  rw [hst, if_neg (by decide)]
  dsimp only
  rw [hw, List.flatMap_singleton, hb]
  dsimp only
  rw [Chan.foldl_brigade_sent _ _ _ hp, List.map_map, hsent]
  simp only [List.contains_nil, Bool.not_false, Bool.and_true, beq_self_eq_true, Bool.true_and]
  rfl

/-- The sending of a last block again from a channel whose clock and transfers have moved on. -/
theorem Chan.resend_last {c : Chan} {x : Send} {b : List Byte} (tb : TimeBlk) (ss : List Send) (hst : x.started = true) (hn : x.nblk = x.next + 1)
    (hb : (c.upd.slot x.slot).block x.next = some b) (hp : c.brigadePort x.peer = true) :
    ∃ d, ({ c with tb := tb, upd := { c.upd with sends := ss } } : Chan).sendPieces { x with sent := [] } = d ∧
      ({ d with upd := c.upd, sent := c.sent, tb := c.tb, mill := c.mill } : Chan) = c ∧ d.upd.slots = c.upd.slots ∧
      d.sent = c.sent ++ ((List.range 64).filter fun k => !x.map.getLsbD k).map fun k => .brigade x.peer 2 x.imgid x.next k 0 0#64 ((b.drop (1024 * k)).take 1024) := by
  refine ⟨_, rfl, ?_, ?_, Chan.sendPieces_last (x := { x with sent := [] }) hst hn rfl hb hp⟩
  · obtain ⟨m, ss, l, hc⟩ := Chan.offered_sendPieces _ _
    rw [hc]
  · obtain ⟨m, ss, l, hc⟩ := Chan.offered_sendPieces _ _
    rw [hc]

theorem execBrigadeResend_sends {s : State} {ch : Ch} {p : Peer} {x : Send} {b : List Byte} (hs : (s.chan ch).upd.sends = [x]) (hx : x.peer = p)
    (hst : x.started = true) (hn : x.nblk = x.next + 1) (hb : ((s.chan ch).upd.slot x.slot).block x.next = some b) (hp : (s.chan ch).brigadePort p = true) :
    ∃ t, execBrigadeResend ch p s = .next t ∧ OnlyChan ch s t ∧
      ({ t.chan ch with upd := (s.chan ch).upd, sent := (s.chan ch).sent, tb := (s.chan ch).tb, mill := (s.chan ch).mill } : Chan) = s.chan ch ∧
      (t.chan ch).upd.slots = (s.chan ch).upd.slots ∧ (t.chan ch).sent = (s.chan ch).sent ++
        ((List.range 64).filter fun k => !x.map.getLsbD k).map fun k => .brigade p 2 x.imgid x.next k 0 0#64 ((b.drop (1024 * k)).take 1024) := by
  subst hx
  refine onChan_goes fun t e o => ?_
  have hf : (s.chan ch).upd.sends.filter (fun y => y.peer == x.peer) = [x] := by rw [hs]; simp
  rw [hf, List.foldl_cons, List.foldl_nil] at e
  obtain ⟨d, hd, h⟩ := Chan.resend_last ((s.chan ch).tb.reach (x.since + 200000000)) _ hst hn hb hp
  rw [e.trans hd]
  exact ⟨o, h⟩

theorem execBrigadeGiveUp_ends {s : State} {ch : Ch} {p : Peer} {x : Send} (hs : (s.chan ch).upd.sends = [x]) (hx : x.peer = p) :
    ∃ t, execBrigadeGiveUp ch p s = .next t ∧ OnlyChan ch s t ∧ (t.chan ch).upd = { (s.chan ch).upd with sends := [] } ∧ (t.chan ch).mem = (s.chan ch).mem := by
  refine onChan_goes fun t e o => ?_
  have hf : (s.chan ch).upd.sends.filter (fun y => y.peer == p) = [x] := by rw [hs]; simp [hx]
  have hnil : (s.chan ch).upd.sends.filter (fun y => !(y.peer == p && y.imgid == x.imgid)) = [] := by rw [hs]; simp [hx]
  rw [hf, List.foldl_cons, List.foldl_nil, hnil] at e
  obtain ⟨k, hk⟩ := Chan.log_shape _ _ _
  rw [hk] at e
  exact ⟨o, by rw [e], by rw [e]⟩

/-! The receiver (R404 step 6, R406) -/

theorem execBrigadeEnd_closes {s : State} {ch : Ch} {p : Peer} {h : BrigadeHdr} {r : Recv} (hon : (s.chan ch).brigadeOn ch p = true) (hok : h.ok = true)
    (hd : h.dict = none) (hr : (s.chan ch).upd.recv = [r]) (hp : r.peer = p) (hi : manImgid r.man = h.imgid) :
    ∃ t, execBrigadeEnd ch p h s = .next t ∧ (t.chan ch).upd.recv = [] ∧ r.slot ∈ (t.chan ch).upd.verify ∧ (t.chan ch).upd.slots = (s.chan ch).upd.slots ∧
      (t.chan ch).mem = (s.chan ch).mem := by
  have hf : (s.chan ch).upd.recv.find? (fun y => y.peer == p && manImgid y.man == h.imgid) = some r := by
    rw [hr]; simp [hp, hi]
  have hnil : (s.chan ch).upd.recv.filter (fun y => !(y.peer == p && y.slot == r.slot)) = [] := by rw [hr]; simp [hp]
  unfold execBrigadeEnd
  dsimp only
  rw [brigade_good hon hok, hf]
  refine ⟨_, rfl, ?_⟩
  rw [State.updAll_chan, if_pos (by simp), State.foldl_send_chan, State.foldl_send_chan, State.upd_chan_self, Chan.answerDict_none p _ hd]
  dsimp only
  rw [hnil]
  refine ⟨rfl, ?_, rfl, rfl⟩
  split
  next hc => exact List.contains_iff_mem.mp hc
  next => exact List.mem_append_right _ (List.mem_singleton_self _)

theorem Chan.verifySlot_outcome {c : Chan} {n floor : Nat} (hl : c.upd.slots.length = 12) (hn : n < 12) (hm : c.sys.mode ≠ .m3) :
    ({ c.verifySlot n floor with upd := c.upd } : Chan) = c ∧ (c.verifySlot n floor).upd.verify = c.upd.verify.filter (· ≠ n) ∧
      ((c.verifySlot n floor).upd.slot n).st = (if c.verifyCode (c.upd.slot n) floor = 0 then .verified else .failed) ∧
      ∀ k, k ≠ n → (c.verifySlot n floor).upd.slot k = c.upd.slot k := by
  have hself (f : ImgSlot → ImgSlot) : atD ImgSlot.empty n (modAt f n c.upd.slots) = f (c.upd.slot n) := atD_modAt_self ImgSlot.empty _ (by rw [hl]; exact hn)
  unfold Chan.verifySlot
  dsimp only
  by_cases hz : c.verifyCode (c.upd.slot n) floor = 0
  · rw [if_neg (not_not_intro hz), if_neg hm, if_pos hz]
    exact ⟨rfl, rfl, congrArg ImgSlot.st (hself _), fun k hk => atD_modAt_other ImgSlot.empty _ _ hk⟩
  · rw [if_pos hz, if_neg hz]
    exact ⟨rfl, rfl, congrArg ImgSlot.st (hself _), fun k hk => atD_modAt_other ImgSlot.empty _ _ hk⟩

theorem execImageVerification_verifies {s : State} {ch : Ch} {n : Nat} (hv : n ∈ (s.chan ch).upd.verify) (hst : ((s.chan ch).upd.slot n).st = .partial_)
    (hk : ((s.chan ch).upd.slot n).lacks = []) (hu : (s.chan ch).up = true) (hr : (s.chan ch).sys.reeveState = 0) :
    execImageVerification ch n s = .next (s.upd ch fun c => c.verifySlot n (s.secFloor ch)) := by
  unfold execImageVerification
  dsimp only
  rw [if_neg (by simp [hu, hr, hv, hst]), hk]
  split
  next o ho => exact absurd (List.find?_some ho) Bool.false_ne_true
  next => rfl

/-- Settles O57: what offers and pieces change of a channel (`Chan.Offered`), and each message and timer in its turn. -/
theorem imageTransfers : Obligations.ImageTransfers := by
  unfold Obligations.ImageTransfers
  intro s ch p h m data r x n hd
  dsimp only
  refine ⟨fun hon => ⟨fun hok i hi => ?_, fun hok => ⟨fun hr hl => execBrigadeOffer_accepts hon hok hd hr hl, fun hr => execBrigadeOffer_refuses hon hok hd hr,
      fun hf => execBrigadePiece_refuses hon hok hd hf,
      fun hr hp hi h1 h2 h3 h4 h5 h6 h7 => execBrigadePiece_takes hon hok hd hr hp hi h1 h2 h3 h4 h5 h6 h7,
      fun hs hp hi => ⟨fun hb => execBrigadeStatus_ends hon hok hd hs hp hi hb, fun hb => execBrigadeRefuse_ends hon hok hd hs hp hi hb,
        fun hb hm => execBrigadeRefuse_offersAgain hon hok hd hs hp hi hb hm⟩,
      fun hr hp hi => execBrigadeEnd_closes hon hok hd hr hp hi⟩⟩,
    fun hr hu hs => onChan_next ?_, fun b hs hx hst hn hb hp => execBrigadeResend_sends hs hx hst hn hb hp, fun hs hx => execBrigadeGiveUp_ends hs hx,
    fun hl hn hv hst hk hu hr hm => ?_⟩
  · simp only [List.mem_cons, List.not_mem_nil, or_false] at hi
    obtain rfl | rfl | rfl | rfl | rfl := hi <;> exact brigade_bad hon hok hd
  · rw [if_pos (by simp [hu, hs]), hr]
    rfl
  · refine ⟨_, execImageVerification_verifies hv hst hk hu hr, onlyChan_of_upd .., ?_⟩
    rw [State.upd_chan_self]
    exact Chan.verifySlot_outcome hl hn hm

/-! Commands of Table 15-9 -/

/-- A directory command waits at the sequencing channel of at least two participants that class 4 reaches. -/
theorem State.orderAct_waits {s : State} {ch q : Ch} (h2 : 2 ≤ s.participants.length) (hq : s.seqCh = some q) (hr : s.reach ch q 4 = true) (es : List JEntry) (k op : Nat) :
    s.orderAct ch none 0#8 es k op = s.upd q fun c => { c with dict := { c.dict with waiting := c.dict.waiting ++ [⟨es, [(k, op)], ch, none, 0#8, 1⟩] } } := by
  unfold State.orderAct State.enqueue
  rw [if_neg (Nat.not_lt.mpr h2), hq]
  dsimp only
  rw [if_pos hr]

/-- What a command of Table 15-9 does in a channel whose reeve runs. -/
theorem State.updCommand_conflict_of_m6 {s : State} {ch : Ch} {v : Nat} (b : Bool) (hu : (s.chan ch).up = true) (hs : (s.chan ch).sys.reeveState = 0)
    (hm : (s.chan ch).sys.mode = .m6) (hv : v ∈ [1, 2, 3, 4, 5, 6]) : s.updCommand ch none 0#8 v b = s.upd ch Chan.conflict := by
  simp only [List.mem_cons, List.not_mem_nil, or_false] at hv
  obtain rfl | rfl | rfl | rfl | rfl | rfl := hv <;> unfold State.updCommand <;> simp only <;> rw [if_neg (by simp [hu]), if_neg (not_not_intro hs), hm]
  · split
    next => exact State.refuseOne_state s ch 0#8
    next => exact State.refuseOne_state s ch 0#8
  · split
    next => exact State.refuseOne_state s ch 0#8
    next => exact State.refuseOne_state s ch 0#8
  · exact State.refuseOne_state s ch 0#8
  · exact State.refuseOne_state s ch 0#8
  · exact State.refuseOne_state s ch 0#8
  · exact State.refuseOne_state s ch 0#8

theorem State.fwConfirm_conflict_of_m6 {s : State} {ch : Ch} (v : Word) (hu : (s.chan ch).up = true) (hs : (s.chan ch).sys.reeveState = 0)
    (hm : (s.chan ch).sys.mode = .m6) : s.fwConfirm ch none 0#8 v = s.upd ch Chan.conflict := by
  unfold State.fwConfirm
  dsimp only
  rw [if_neg (by simp [hu]), if_neg (not_not_intro hs), hm]
  split
  next => exact State.refuseOne_state s ch 0#8
  next => exact State.refuseOne_state s ch 0#8

section
variable {s : State} {ch : Ch} {n : Nat} (hu : (s.chan ch).up = true) (hs : (s.chan ch).sys.reeveState = 0) (hm : (s.chan ch).sys.mode = .m4)
include hu hs hm

theorem State.updCommand_activate (hv : (s.chan ch).upd.fwVerified = some n) (ht : (s.chan ch).upd.find [0, 1] .trial = none)
    (hc : ((((s.chan ch).upd.slot n).man.map (·.mincfmt)).getD 0) ≤ (s.chan ch).runCfmt) : s.updCommand ch none 0#8 1 true = s.orderAct ch none 0#8 [] 1 n := by
  unfold State.updCommand
  simp only
  rw [if_neg (by simp [hu]), if_neg (not_not_intro hs), hm, hv]
  dsimp only
  rw [if_neg (by simp [ht]), if_neg (Nat.not_lt.mpr hc)]

theorem State.updCommand_store {m : Manifest} (hv : (s.chan ch).upd.find [2, 3] .verified = some n) (hman : ((s.chan ch).upd.slot n).man = some m)
    (hw : m.fwver ≤ (s.chan ch).runFw) (hp : (s.chan ch).programOk n = true) : s.updCommand ch none 0#8 2 true = s.orderAct ch none 0#8 clearConfirm 2 0 := by
  unfold State.updCommand
  simp only
  rw [if_neg (by simp [hu]), if_neg (not_not_intro hs), hm, hv]
  dsimp only
  rw [if_neg (not_not_intro rfl), hman, Option.getD_some, if_neg (Nat.not_lt.mpr hw), if_neg (by simp [hp])]

theorem State.updCommand_fallback (ht : (s.chan ch).upd.find [0, 1] .trial = some n) : s.updCommand ch none 0#8 3 true = s.orderAct ch none 0#8 [] 3 0 := by
  unfold State.updCommand
  simp only
  rw [if_neg (by simp [hu]), if_neg (not_not_intro hs), hm]
  rw [if_pos (by simp [ht])]

theorem State.updCommand_erase : s.updCommand ch none 0#8 4 true = s.orderAct ch none 0#8 [] 4 0 := by
  unfold State.updCommand
  simp only
  rw [if_neg (by simp [hu]), if_neg (not_not_intro hs), hm]
  rfl

theorem State.updCommand_abort : s.updCommand ch none 0#8 5 true = s.orderAct ch none 0#8 [] 5 0 := by
  unfold State.updCommand
  simp only
  rw [if_neg (by simp [hu]), if_neg (not_not_intro hs), hm]
  rfl

theorem State.updCommand_installKey {m : Manifest} (b : Bool) (h4 : 4 ≤ n) (h11 : n ≤ 11) (hv : ((s.chan ch).upd.slot n).st = .verified)
    (hman : ((s.chan ch).upd.slot n).man = some m) (hk : m.kind = 4) (hf : (s.chan ch).upd.custFuse = none) :
    s.updCommand ch none 0#8 6 b = s.orderAct ch none 0#8 [] 6 (chCode ch * 2 + b.toNat) := by
  have hplace : (s.chan ch).upd.keyPlace.isSome = true := by
    have hplaces : ∀ k < 12, 4 ≤ k → k ∈ transitPlaces := by decide
    exact List.find?_isSome.mpr ⟨n, hplaces n (Nat.lt_succ_of_le h11) h4, by simp [hv, hman, hk]⟩
  unfold State.updCommand
  simp only
  rw [if_neg (by simp [hu]), if_neg (not_not_intro hs), hm]
  rw [if_neg (by simp [Option.isSome_iff_ne_none.mp hplace]), hf]
  cases b <;> rfl

theorem State.fwConfirm_order {m : Manifest} (ht : (s.chan ch).upd.find [0, 1] .trial = some n) (hman : ((s.chan ch).upd.slot n).man = some m) :
    s.fwConfirm ch none 0#8 (manImgid m) = s.orderAct ch none 0#8 (s.chan ch).floorEntries 7 0 := by
  unfold State.fwConfirm
  dsimp only
  rw [if_neg (by simp [hu]), if_neg (not_not_intro hs), ht, hm]
  dsimp only
  rw [if_neg (by decide), hman, Option.map_some, if_neg (not_not_intro rfl)]

end

/-! The SEC block (R418, R422) and the end of recovery (R419) -/

theorem Chan.access_served {c : Chan} {ini : Initiator} {write : Bool} {a : Nat} (f : Chan → Chan) (h : c.verdict ini write a = .served) :
    c.access ini write a f = f c := by
  unfold Chan.access
  rw [h]

theorem Chan.advanceFuses_burns {c : Chan} {k : Nat} (h4 : 4 ≤ c.sys.mode.num) (h10 : c.sys.mode.num ≤ 10) (hf : c.upd.fuses < k) (hk : k ≤ 256) :
    c.advanceFuses k true = { c with upd := { c.upd with fuses := k } } := by
  have ht : min (k % 512) 256 = k := by omega
  unfold Chan.advanceFuses
  dsimp only
  rw [if_neg (by simp [h4, h10]), ht, if_neg (Nat.not_le.mpr hf)]
  rfl

theorem execRecoveryComplete_proposes {s : State} (hm : s.mode = .m3) (hd : 2 ≤ (allCh.filter fun x => (s.chan x).upd.recovered).length)
    (hq : ∀ x, (s.chan x).upd.recv = [] ∧ (s.chan x).upd.quietAt + 10000000000 ≤ (s.chan x).now) :
    ∃ t, execRecoveryComplete s = .next t ∧ t.wire = s.wire ∧ t.pending = s.pending ∧ ∀ x, ({ t.chan x with sys := (s.chan x).sys } : Chan) = s.chan x ∧
      (t.chan x).sys = { (s.chan x).sys with triggers := (s.chan x).sys.triggers ++
        (if (s.chan x).up = true ∧ (s.chan x).sys.mode = .m3 ∧ (⟨.m1, 0x02⟩ : Proposal) ∉ (s.chan x).sys.triggers then [⟨.m1, 0x02⟩] else []) } := by
  have hquiet : (allCh.all fun c => (s.chan c).upd.recv.isEmpty && (s.chan c).upd.quietAt + 10000000000 ≤ (s.chan c).now || !(s.view c).present) = true :=
    List.all_eq_true.mpr fun x _ => by simp [(hq x).1, (hq x).2]
  refine ⟨_, guardC_true (by rw [hquiet]; simp [hm, hd]), rfl, rfl, fun x => ?_⟩
  rw [State.updAll_chan]
  by_cases hp : (s.chan x).up = true ∧ (s.chan x).sys.mode = .m3 ∧ (⟨.m1, 0x02⟩ : Proposal) ∉ (s.chan x).sys.triggers
  · rw [if_pos (by simpa [and_assoc] using hp), if_pos hp]
    exact ⟨rfl, rfl⟩
  · rw [if_neg (by simpa [and_assoc] using hp), if_neg hp, List.append_nil]
    exact ⟨rfl, rfl⟩

/-- Settles O58: each command comes to an order at the sequencing channel, or to a conflict. -/
theorem updateCommands : Obligations.UpdateCommands := by
  unfold Obligations.UpdateCommands
  intro s ch q n k v b
  dsimp only
  refine ⟨fun hu hs h2 hq hr hm => ?_, fun hu hs hm i hi => ?_, fun hv h4 h10 hf hk => onChan_next ?_, fun hv => onChan_next ?_, fun hb => onChan_next ?_,
    fun hm hd hq => execRecoveryComplete_proposes hm hd hq⟩
  · have hwaits := State.orderAct_waits h2 hq hr
    exact ⟨fun hv ht hc => congrArg Host.Outcome.next ((State.updCommand_activate hu hs hm hv ht hc).trans (hwaits ..)),
      fun m hv hman hw hp => congrArg Host.Outcome.next ((State.updCommand_store hu hs hm hv hman hw hp).trans (hwaits ..)),
      fun ht => congrArg Host.Outcome.next ((State.updCommand_fallback hu hs hm ht).trans (hwaits ..)),
      congrArg Host.Outcome.next ((State.updCommand_erase hu hs hm).trans (hwaits ..)),
      congrArg Host.Outcome.next ((State.updCommand_abort hu hs hm).trans (hwaits ..)),
      fun m h4 h11 hv hman hk hf => congrArg Host.Outcome.next ((State.updCommand_installKey hu hs hm b h4 h11 hv hman hk hf).trans (hwaits ..)),
      fun m ht hman hv => hv ▸ congrArg Host.Outcome.next ((State.fwConfirm_order hu hs hm ht hman).trans (hwaits ..))⟩
  · have hc := fun v b => State.updCommand_conflict_of_m6 (v := v) b hu hs hm
    simp only [List.mem_cons, List.not_mem_nil, or_false] at hi
    obtain rfl | rfl | rfl | rfl | rfl | rfl | rfl := hi
    · exact congrArg Host.Outcome.next (hc 1 true (by simp))
    · exact congrArg Host.Outcome.next (hc 2 true (by simp))
    · exact congrArg Host.Outcome.next (hc 3 true (by simp))
    · exact congrArg Host.Outcome.next (hc 4 true (by simp))
    · exact congrArg Host.Outcome.next (hc 5 true (by simp))
    · exact congrArg Host.Outcome.next (hc 6 b (by simp))
    · exact congrArg Host.Outcome.next (State.fwConfirm_conflict_of_m6 v hu hs hm)
  · exact (Chan.access_served _ hv).trans (Chan.advanceFuses_burns h4 h10 hf hk)
  · exact Chan.access_served _ hv
  · rw [if_pos hb]

end Sys2Proof.Machine
end

/-! PROOFS. The chronicle, legacy messages and register writes (obligation O59). -/

section
namespace Sys2Proof.Machine
open Sys2Proof Sys2Proof.Safety

/-! The chronicle (R427 to R431) -/

/-- A post that the core's type and the length allow joins the queue; a type of another's only raises flag 1. -/
theorem Chan.chronPost_core {c : Chan} {h : Nat} {v : Word} (hh : h < 16) (hm : c.sys.mode.runs = true ∧ c.sys.cstate = .voting ∨ c.sys.mode = .m9)
    (hf : c.chron.flush = false) (hq : c.chron.queue.length < 16) :
    (128 ≤ v.toNat / 16777216 → v.toNat % 65536 ≤ 488 → c.chronPost h v = { c with chron := { c.chron with
      queue := c.chron.queue ++ [c.recordBytes (v.toNat / 16777216) h (wBytes ((c.chron.stage[h]?).getD []) (v.toNat % 65536))] } }) ∧
    (v.toNat / 16777216 < 128 → c.chronPost h v = { c with chron := { c.chron with flag := c.chron.flag.raise 1 } }) := by
  have hp : c.postMode h = true := by
    unfold Chan.postMode
    rw [if_pos hh]
    obtain ⟨h1, h2⟩ | h9 := hm
    · simp [h1, h2]
    · simp [h9]
  unfold Chan.chronPost
  dsimp only
  rw [if_neg (by simp [hp, hf])]
  refine ⟨fun ht hl => ?_, fun ht => if_pos (by simp [postType, hh]; omega)⟩
  rw [if_neg (by simp [postType, hh]; omega), if_neg (Nat.not_lt.mpr hl), Chan.post, if_neg (by simp [hf]), if_neg (Nat.not_le.mpr hq)]

/-- Nothing is dropped from a ring with the octets free. -/
theorem ringDrop_of_free {head size : Nat} {l : List CRec} (h : size ≤ ringFree head l) : ringDrop head size l 0 0 = (l, 0, 0) := by
  cases l with
  | nil => rfl
  | cons r rs => rw [ringDrop, if_neg (Nat.not_lt.mpr h)]

/-- A record for which the ring has room, and that ends before the ring does, drops nothing. -/
theorem ChronBlk.makeRoom_of_free {k : ChronBlk} {size : Nat} (hl : k.head + size < 0x400000) (hf : size ≤ ringFree k.head k.ring) :
    ∃ tail, k.makeRoom size = { k with tail := tail } := by
  have hleft : ¬ringSize - k.head < size := by simp only [ringSize]; omega
  unfold ChronBlk.makeRoom
  dsimp only
  rw [if_neg hleft, ringDrop_of_free hf]
  exact ⟨_, rfl⟩

theorem ChronBlk.writeOne_places {k : ChronBlk} {r : List Byte} {rs : List (List Byte)} (hq : k.queue = r :: rs) (hl : k.head + r.length < 0x400000)
    (hf : r.length ≤ ringFree k.head k.ring) : k.writeOne.queue = rs ∧ k.writeOne.ring = k.ring ++ [⟨k.head, false, r⟩] ∧ k.writeOne.seq = k.seq + 1#32 ∧
      k.writeOne.head = k.head + r.length ∧ k.writeOne.ctl0 = k.writeOne.ctl ∧ k.writeOne.ctl1 = k.writeOne.ctl := by
  obtain ⟨tail, ht⟩ := ChronBlk.makeRoom_of_free (k := { k with queue := rs }) hl hf
  unfold ChronBlk.writeOne
  rw [hq]
  dsimp only
  unfold ChronBlk.place
  rw [ht]
  exact ⟨rfl, rfl, rfl, Nat.mod_eq_of_lt hl, rfl, rfl⟩

/-- The scan of the control leaves the torn record and the records of the ring. -/
theorem ChronBlk.scanCtl_frame (k : ChronBlk) : k.scanCtl.torn = k.torn ∧ k.scanCtl.ring = k.ring := by
  unfold ChronBlk.scanCtl
  dsimp only
  split
  · split <;> exact ⟨rfl, rfl⟩
  · split <;> exact ⟨rfl, rfl⟩

theorem ChronBlk.scanCtl_repairs {k : ChronBlk} (h0 : ctlOk k.ctl0 = false) (h1 : ctlOk k.ctl1 = true) :
    k.scanCtl.flag = k.flag.raise 5 ∧ k.scanCtl.ctl0 = k.ctl1 ∧ k.scanCtl.ctl1 = k.ctl1 ∧ k.scanCtl.head = leAt k.ctl1 0 4 := by
  unfold ChronBlk.scanCtl
  rw [if_neg (by simp [h0]), if_pos h1]
  exact ⟨rfl, rfl, rfl, rfl⟩

theorem ChronBlk.scanHead_whole {k : ChronBlk} {x : CRec} (ht : k.torn = some x) (hx : x.crcOk = true) (hs : x.seq = k.seq) :
    k.scanHead.torn = none ∧ k.scanHead.ring = k.ring ++ [⟨k.head, false, x.bytes⟩] ∧ k.scanHead.seq = k.seq + 1#32 := by
  unfold ChronBlk.scanHead
  rw [ht]
  dsimp only
  rw [if_pos (by simp [hx, hs])]
  exact ⟨rfl, rfl, rfl⟩

theorem ChronBlk.scanHead_torn {k : ChronBlk} {x : CRec} (ht : k.torn = some x) (hx : x.crcOk = false) :
    k.scanHead = { k with torn := none, flag := k.flag.raiseIf x.headOk 2 } := by
  unfold ChronBlk.scanHead
  rw [ht]
  dsimp only
  rw [if_neg (by simp [hx]), hx]
  simp

theorem ChronBlk.scanHead_none {k : ChronBlk} (ht : k.torn = none) : k.scanHead = k := by
  unfold ChronBlk.scanHead
  rw [ht]

theorem ChronBlk.scanHead_torn_none (k : ChronBlk) : k.scanHead.torn = none := by
  unfold ChronBlk.scanHead
  split
  next h => exact h
  next => split <;> rfl

/-! Legacy commands and messages (R447) -/

/-- The octets of a legacy read: service 1, tag, object and subindex, no data. -/
theorem State.legacyCall_read (s : State) (ch : Ch) (n : Nat) (y : Byte) {i sub : Nat} (hi : i < 65536) (hs : sub < 256) :
    s.legacyCall ch n ([1#8, y, 0#8, 0#8] ++ leB 2 i ++ leB 1 sub ++ [0#8]) = s.dictCall ch (.legacy n) 1 ⟨y, true, 8, [⟨i, sub, [], 0⟩]⟩ := by
  have hidx : i % 256 + 256 * (i / 256 % 256) = i := by omega
  simp [State.legacyCall, leAt, leB, leN, hidx, Nat.mod_eq_of_lt hs]

/-- A legacy transport's answer of one entry. -/
theorem Chan.reply_legacy (c : Chan) (n : Nat) (y : Byte) (e : REntry) {m : List Byte}
    (hm : [0x81#8, y] ++ leB 2 e.data.length ++ leB 2 (e.abort.toNat / 65536) ++ [0#8, 0#8] ++ e.data = m) :
    (c.reply (.legacy n) y 1 0 [e]).sent = c.sent ++ [.legacyReply n m] ∧ (c.reply (.legacy n) y 1 0 [e]).compat.rx = (if n = 0 then m else c.compat.rx) ∧
      (c.reply (.legacy n) y 1 0 [e]).mem = c.mem ∧ (c.reply (.legacy n) y 1 0 [e]).sl = c.sl := by
  subst hm
  unfold Chan.reply Chan.replyBy
  dsimp only
  by_cases hn : n = 0
  · rw [if_pos hn, if_pos hn]
    exact ⟨rfl, rfl, rfl, rfl⟩
  · rw [if_neg hn, if_neg hn]
    exact ⟨rfl, rfl, rfl, rfl⟩

/-- A channel with a call of one entry by a legacy transport entered. -/
def Chan.legacyEntered (c : Chan) (n : Nat) (y : Byte) : Chan :=
  { c with sys := { c.sys with unanswered := c.sys.unanswered ++ [(.legacy n, y, 1, 1, false)] } }

/-- The machine with that call entered. -/
def State.legacyEntered (s : State) (ch : Ch) (n : Nat) (y : Byte) : State := s.tick.upd ch fun c => c.legacyEntered n y

theorem State.dictCall_legacy {s : State} {ch : Ch} {n : Nat} {y : Byte} {e : DEntry} (hu : (s.chan ch).up = true) (hm : (s.chan ch).sys.mode = .m6)
    (hr : (s.chan ch).sys.reeveState = 0) : s.dictCall ch (.legacy n) 1 ⟨y, true, 8, [e]⟩ = (s.legacyEntered ch n y).readCall ch (.legacy n) 1 ⟨y, true, 8, [e]⟩ := by
  have hbusy : (s.chan ch).ringBusy (.legacy n) = false := rfl
  have hoffered : viaOffered .m6 (.legacy n) = true := rfl
  have hlimit : (s.chan ch).overLimit (.legacy n) = false := rfl
  have hok : reqOk 1 ⟨y, true, 8, [e]⟩ = true := rfl
  unfold State.dictCall
  dsimp only
  rw [if_neg (by simp [hu, hbusy]), if_neg (by simp [hm, hr, hoffered]), if_neg (by simp [hlimit]), if_neg (by decide), if_neg (by simp [hok])]
  rfl

/-- A read of one entry that waits for no vote and is no proxy is answered as the entry reads. -/
theorem State.readCall_own {s : State} {ch : Ch} {via : Transport} {y : Byte} {e : DEntry} {len : Nat}
    (hv : (s.chan ch).votedEntry e.index e.sub = false ∨ (s.chan ch).votedRead ≠ 1) (hb : (s.chan ch).toBridge ch via e = false) :
    s.readCall ch via 1 ⟨y, true, len, [e]⟩ =
      s.upd ch fun c => (c.noteUnconf [s.readEntry ch via e]).reply via y 1 0 [s.readEntry ch via e] := by
  have hans : s.answerEntry ch via 1 false e = s.readEntry ch via e := by
    unfold State.answerEntry
    rw [if_neg (by simp)]
    exact if_neg (by simp)
  unfold State.readCall
  dsimp only
  rw [if_neg (by simpa [or_comm, imp_iff_or_not] using hv)]
  unfold State.serveRead
  simp only [List.zipIdx_cons, List.zipIdx_nil, List.filter_cons, List.filter_nil, hb, Bool.and_false, Bool.not_false, if_true, Bool.false_eq_true, if_false,
    List.map_cons, List.map_nil, hans]
  exact State.upd_upd ..

/-- What entering a call leaves: the legacy objects read as before. -/
theorem State.legacyVal_entered (s : State) (ch : Ch) (n : Nat) (y : Byte) (i sub : Nat) : (s.legacyEntered ch n y).legacyVal ch i sub = s.legacyVal ch i sub := by
  cases ch <;> rfl

theorem Chan.noteUnconf_of_ne (c : Chan) {e : REntry} (h : e.abort ≠ abUnconf) : c.noteUnconf [e] = c := if_neg (by simp [h])

/-- A legacy read that waits for no vote and is no proxy, with an answer other than "unconfirmed", is answered on the port it came by. -/
theorem execLegacyMessage_answers {s : State} {ch : Ch} {n i sub : Nat} {y : Byte} {e : REntry} {m : List Byte} (hn : n = 0 ∨ ch = .C ∧ n ≤ 2) (hi : i < 65536)
    (hsub : sub < 256) (hu : (s.chan ch).up = true) (hm : (s.chan ch).sys.mode = .m6) (hr : (s.chan ch).sys.reeveState = 0)
    (hv : (s.chan ch).votedEntry i sub = false ∨ (s.chan ch).votedRead ≠ 1) (hb : (s.chan ch).toBridge ch (.legacy n) ⟨i, sub, [], 0⟩ = false)
    (he : (s.legacyEntered ch n y).readEntry ch (.legacy n) ⟨i, sub, [], 0⟩ = e) (hab : e.abort ≠ abUnconf)
    (hans : [0x81#8, y] ++ leB 2 e.data.length ++ leB 2 (e.abort.toNat / 65536) ++ [0#8, 0#8] ++ e.data = m) :
    ∃ t, execLegacyMessage ch n ([1#8, y, 0#8, 0#8] ++ leB 2 i ++ leB 1 sub ++ [0#8]) s = .next t ∧ OnlyChan ch s t ∧ (t.chan ch).mem = (s.chan ch).mem ∧
      (t.chan ch).sl = (s.chan ch).sl ∧ (t.chan ch).sent = (s.chan ch).sent ++ [.legacyReply n m] ∧
      (t.chan ch).compat.rx = (if n = 0 then m else (s.chan ch).compat.rx) := by
  have hguard : (decide (n ≤ 2) && (n = 0 || ch == .C)) = true := by
    obtain rfl | ⟨rfl, h2⟩ := hn
    · rfl
    · simp [h2]
  have hself : (s.legacyEntered ch n y).chan ch = (s.chan ch).legacyEntered n y := State.upd_chan_self ..
  have hv' : ((s.legacyEntered ch n y).chan ch).votedEntry i sub = false ∨ ((s.legacyEntered ch n y).chan ch).votedRead ≠ 1 := by rw [hself]; exact hv
  have hb' : ((s.legacyEntered ch n y).chan ch).toBridge ch (.legacy n) ⟨i, sub, [], 0⟩ = false := by rw [hself]; exact hb
  refine ⟨_, guardC_true hguard, ?_⟩
  rw [State.legacyCall_read s ch n y hi hsub, State.dictCall_legacy hu hm hr, State.readCall_own hv' hb', he]
  refine ⟨onlyChan_upd _ (onlyChan_of_tick_upd ..), ?_⟩
  rw [State.upd_chan_self, hself, Chan.noteUnconf_of_ne _ hab]
  obtain ⟨hsent, hrx, hmem, hsl⟩ := Chan.reply_legacy ((s.chan ch).legacyEntered n y) n y e hans
  exact ⟨hmem, hsl, hsent, hrx⟩

/-- A present legacy object that may be read in M6 reads as its octets. -/
theorem State.readEntry_legacy {s : State} {ch : Ch} {n i sub : Nat} {d : Desc} (hm : (s.chan ch).sys.mode = .m6) (h0 : 0x3000 ≤ i) (h1 : i ≤ 0x3FFF)
    (hd : (s.chan ch).desc ch (.legacy n) i sub = .ok d) (ht : d.top = false) (hdecl : d.decl = none) (hmask : d.rmask.testBit 6 = true)
    (hv : (s.chan ch).votedEntry i sub = false ∨ (s.chan ch).votedRead = 0) :
    s.readEntry ch (.legacy n) ⟨i, sub, [], 0⟩ = ⟨0#32, 0, s.legacyVal ch i sub⟩ := by
  have hmask0 : d.rmask ≠ 0 := fun h => by rw [h] at hmask; exact absurd hmask (by decide)
  have hbar : (s.chan ch).readBar d = 0#32 := by
    unfold Chan.readBar
    rw [if_neg hmask0, hm]
    exact if_neg (by simp [Mode.num, hmask])
  unfold State.readEntry
  dsimp only
  have hrange : readRange .m6 i = true := rfl
  rw [hm, if_neg (by simp [hrange]), hd]
  dsimp only
  rw [hbar, if_neg (not_not_intro rfl), if_neg (by simpa [imp_iff_not_or] using hv), State.dictVal, ht]
  simp [hdecl, h0, h1]

/-- An absent object is refused with its abort code. -/
theorem State.readEntry_absent {s : State} {ch : Ch} {via : Transport} {e : DEntry} {ab : Word} (hm : (s.chan ch).sys.mode = .m6)
    (hd : (s.chan ch).desc ch via e.index e.sub = .error ab) : s.readEntry ch via e = abortEntry ab := by
  unfold State.readEntry
  dsimp only
  have hrange : readRange .m6 e.index = true := rfl
  rw [hm, if_neg (by simp [hrange]), hd]

/-- No object outside 0x4200 to 0x43FF whose descriptor shows no proxy goes to the bridge. -/
theorem Chan.toBridge_of_legacy {c : Chan} {ch : Ch} {via : Transport} {e : DEntry} (h1 : e.index ≤ 0x3FFF) (hp : c.isProxy ch via e = false) :
    c.toBridge ch via e = false := by
  unfold Chan.toBridge
  rw [hp]
  have : isProxyIndex e.index = false := by simp [isProxyIndex, within]; omega
  rw [this]
  rfl

/-! Register writes -/

/-- All lanes written, a register holds the new word. -/
theorem under_all (new old : Word) : under 0xFFFFFFFF#32 new old = new := by
  have h : 0xFFFFFFFF#32 = BitVec.allOnes 32 := rfl
  rw [under, h, BitVec.and_allOnes, BitVec.not_allOnes, BitVec.and_zero, BitVec.zero_or]

theorem execRegisterWrite_reeve {s : State} {ch : Ch} {a : Nat} {v : Word} (hu : (s.chan ch).up = true) (hr : (s.chan ch).sys.reeveState = 0)
    (hreg : isReg a = true) (ha : a % 4 = 0) (hlt : a < 4294967296) (hv : (s.chan ch).verdict .reeve true a = .served) :
    execRegisterWrite ch .reeve a v s = .next (s.regWrite ch ((a - 0x40000000) / 65536) (a % 65536 / 4 * 4) v 0xFFFFFFFF#32) := by
  have haddr : a % 4294967296 / 4 * 4 = a := by omega
  unfold execRegisterWrite
  dsimp only
  rw [haddr, if_neg (by simp [hreg])]
  refine (guardC_true (by simp [hu, hr])).trans (congrArg Host.Outcome.next ?_)
  unfold State.plainAccess
  rw [if_neg (by simp [aligned, ha]), hv]
  dsimp only
  rw [if_pos rfl, State.busWrite, if_pos hreg, laneMask, ha]
  simp

/-- STOP and RESTART of the legacy window wait as mode commands, in M6 both as STOP. -/
theorem State.lcmd_waits {s : State} {ch : Ch} (hl : (s.chan ch).host.legacy = true) (hu : (s.chan ch).up = true) (hr : (s.chan ch).sys.reeveState = 0)
    (ht : (s.chan ch).tb.tickRun = true) {v : Nat} (hv : v = 1 ∨ v = 2) : s.lcmd ch v = s.upd ch fun c => { c with
      sys := { c.sys with cmds := c.sys.cmds ++ [⟨0, if c.sys.mode = .m6 then 1 else v, c.tb.c, c.now, ch, none, 0#8⟩] }
      compat := { c.compat with restartDue := c.compat.restartDue || (decide (v = 2) && decide (c.sys.mode = .m6)) } } := by
  have hwait (v : Nat) (hv : 1 ≤ v ∧ v ≤ 5) : s.modeCommand ch none 0#8 v = s.upd ch fun c => c.queueCmd ch 0 v none 0#8 :=
    (State.modeCommand_waits hu hr hv).trans (if_pos ht)
  unfold State.lcmd
  dsimp only
  rw [if_neg (by simp [hl])]
  obtain rfl | rfl := hv
  · refine (hwait 1 (by decide)).trans (State.upd_congr ?_)
    simp [Chan.queueCmd]
  · by_cases hm : (s.chan ch).sys.mode = .m6
    · refine (if_pos hm).trans ?_
      rw [hwait 1 (by decide), State.upd_upd]
      exact State.upd_congr (by simp [Chan.queueCmd, hm])
    · refine (if_neg hm).trans ((hwait 2 (by decide)).trans (State.upd_congr ?_))
      simp [Chan.queueCmd, hm]

/-- Settles O59: each command by its own lemma; a legacy read by `execLegacyMessage_answers`. -/
theorem chronicleLegacyAndRegisters : Obligations.ChronicleLegacyAndRegisters := by
  unfold Obligations.ChronicleLegacyAndRegisters
  intro s ch h v r rs
  dsimp only
  refine ⟨fun hh hv hm hf hq => ?_, fun hr hq hl hf => ?_, fun ho hh hr => ?_, fun hl hu hr ht => ⟨fun x hx => ?_, ?_⟩,
    fun n i sub y d hn h0 h1 hs hu hm hr hd ht hdecl hp hmask hv => ?_, fun msg hu hm hr hmsg hd => ?_, fun hu hv hs => ?_, fun hu hr hv => ?_, fun hu hr hv => ?_⟩
  · obtain ⟨hpost, hrefuse⟩ := Chan.chronPost_core hh hm hf hq
    have he : execChronPost ch (.core h) h v s = .next (s.upd ch fun c => c.chronPost h v) :=
      (guardC_true (by simp; omega)).trans (congrArg Host.Outcome.next (State.upd_congr (Chan.access_served _ hv)))
    refine ⟨fun ht hl => ⟨_, he, onlyChan_of_upd .., ?_⟩, fun ht => ⟨_, he, onlyChan_of_upd .., ?_⟩⟩
    · rw [State.upd_chan_self, hpost ht hl]
      exact ⟨rfl, rfl⟩
    · rw [State.upd_chan_self, hrefuse ht]
  · refine onChan_goes fun t e o => ?_
    rw [if_pos hr] at e
    rw [e]
    exact ⟨o, rfl, ChronBlk.writeOne_places hq hl hf⟩
  · obtain ⟨htorn, hring⟩ := (s.chan ch).chron.scanCtl_frame
    refine onChan_goes fun t e o => ?_
    rw [if_neg (by simp [ho, hh, hr])] at e
    rw [e]
    refine ⟨o, rfl, rfl, ChronBlk.scanHead_torn_none _, ChronBlk.scanCtl_repairs, fun hn => ?_, fun x hx hc hs => ?_, fun x hx hc => ?_⟩
    · exact congrArg (fun k : ChronBlk => { k with ready := true }) (ChronBlk.scanHead_none (htorn.trans hn))
    · obtain ⟨-, hr, hq⟩ := ChronBlk.scanHead_whole (htorn.trans hx) hc hs
      exact ⟨hr.trans (by rw [hring]), hq⟩
    · have hk := ChronBlk.scanHead_torn (htorn.trans hx) hc
      exact ⟨(congrArg ChronBlk.ring hk).trans hring, congrArg ChronBlk.flag hk⟩
  · simp only [List.mem_cons, List.not_mem_nil, or_false] at hx
    obtain rfl | rfl := hx
    · exact congrArg Host.Outcome.next (State.lcmd_waits hl hu hr ht (.inl rfl))
    · exact congrArg Host.Outcome.next (State.lcmd_waits hl hu hr ht (.inr rfl))
  · refine congrArg Host.Outcome.next ?_
    unfold State.lcmd
    exact if_neg (by simp [hl])
  · have hproxy : (s.chan ch).isProxy ch (.legacy n) ⟨i, sub, [], 0⟩ = false := by
      unfold Chan.isProxy
      rw [hd]
      exact hp
    have hself : (s.legacyEntered ch n y).chan ch = (s.chan ch).legacyEntered n y := State.upd_chan_self ..
    have he : (s.legacyEntered ch n y).readEntry ch (.legacy n) ⟨i, sub, [], 0⟩ = ⟨0#32, 0, s.legacyVal ch i sub⟩ := by
      rw [State.readEntry_legacy (by rw [hself]; exact hm) h0 h1 (by rw [hself]; exact hd) ht hdecl hmask (by rw [hself]; exact hv), State.legacyVal_entered]
    obtain ⟨t, h1, h2, h3, h4, h5, h6⟩ := execLegacyMessage_answers (m := [0x81#8, y] ++ leB 2 (s.legacyVal ch i sub).length ++ [0#8, 0#8, 0#8, 0#8] ++ s.legacyVal ch i sub)
      hn (by omega) hs hu hm hr (hv.imp_right fun h => by rw [h]; decide) (Chan.toBridge_of_legacy h1 hproxy) he (show 0#32 ≠ abUnconf by decide)
      (by simp [leB])
    exact ⟨t, h1, h2, h3, h4, h5, h6⟩
  · subst hmsg
    have hproxy : (s.chan ch).isProxy ch (.legacy 0) ⟨0x3FFF, 1, [], 0⟩ = false := by
      unfold Chan.isProxy
      rw [hd]
    have hself : (s.legacyEntered ch 0 7#8).chan ch = (s.chan ch).legacyEntered 0 7#8 := State.upd_chan_self ..
    have he : (s.legacyEntered ch 0 7#8).readEntry ch (.legacy 0) ⟨0x3FFF, 1, [], 0⟩ = abortEntry abNoObject :=
      State.readEntry_absent (by rw [hself]; exact hm) (by rw [hself]; exact hd)
    have hv : (s.chan ch).votedEntry 0x3FFF 1 = false := by simp [Chan.votedEntry]
    obtain ⟨t, h1, h2, h3, h4, -, h6⟩ := execLegacyMessage_answers (m := [0x81#8, 7#8, 0#8, 0#8, 1#8, 6#8, 0#8, 0#8])
      (.inl rfl) (by decide) (by decide) hu hm hr (.inl hv) (Chan.toBridge_of_legacy (by decide) hproxy) he (by decide) (by decide)
    exact ⟨t, h1, h2, h3, h6, h4⟩
  · refine (guardC_true hu).trans (congrArg Host.Outcome.next (State.upd_congr ((Chan.access_served _ hv).trans ?_)))
    exact if_pos hs
  · refine (execRegisterWrite_reeve hu hr (by decide) (by decide) (by decide) hv).trans (congrArg Host.Outcome.next ?_)
    refine (show _ = s.upd ch fun c => { c with tb := { c.tb with qid := under 0xFFFFFFFF#32 v c.tb.qid } } from rfl).trans ?_
    simp only [under_all]
  · refine (execRegisterWrite_reeve hu hr (by decide) (by decide) (by decide) hv).trans (congrArg Host.Outcome.next ?_)
    refine (show _ = s.upd ch fun c => { c with sys := { c.sys with viol := c.sys.viol.clear (v &&& 0xFFFFFFFF#32) } } from rfl).trans ?_
    have hall : 0xFFFFFFFF#32 = BitVec.allOnes 32 := rfl
    rw [hall, BitVec.and_allOnes]
    rfl

end Sys2Proof.Machine
end

/-! PROOFS. The host port (obligation O60). -/

section
namespace Sys2Proof.Machine
open Sys2Proof Sys2Proof.Safety

/-! A lane packet with its count and its address exchanged (O60) -/

theorem laned_ready : ((Tests.laned id).chan .A).laneOn = true ∧ ((Tests.laned id).chan .A).host.outst = [] := by decide

/-- A packet of more than 64 words is a packet error. -/
theorem execLaneRead_error {s : State} {ch : Ch} {p : LanePkt} (hon : (s.chan ch).laneOn = true) (hp : 64 < p.cnt) :
    execLaneRead ch p s = .next (s.upd ch Chan.pktErr) := by
  have hbad : pktGood p false = false := by simp [pktGood, Nat.not_le.mpr hp]
  exact (if_neg (by simp [hon])).trans (if_pos (by simp [hbad]))

/-- Refutes O60: the packet of the first clause, `⟨true, tag, a, 1, []⟩`, has `a` in the place of its word count and 1 in that of its address, so a
count of 0x1000 words makes it a packet error, which sends nothing, in a channel whose lane carries packets. -/
theorem not_hostPort : ¬ Obligations.HostPort := by
  intro h
  obtain ⟨hon, hout⟩ := laned_ready
  obtain ⟨hread, -⟩ := h (Tests.laned id) .A 0#8 0x1000 0#32 ⟨true, 0#8, 0, 0, []⟩
  obtain ⟨⟨t, he, -, ht⟩, -⟩ := hread hon hout (by decide) (by decide) (by decide)
  have hrun : exec (.laneRead .A ⟨true, 0#8, 0x1000, 1, []⟩) (Tests.laned id) = .next ((Tests.laned id).upd .A Chan.pktErr) :=
    execLaneRead_error (p := ⟨true, 0#8, 0x1000, 1, []⟩) hon (by decide)
  cases hrun.symm.trans he
  have hlength := congrArg (fun c : Chan => c.sent.length) ht
  rw [State.upd_chan_self] at hlength
  simp [Chan.pktErr] at hlength

end Sys2Proof.Machine
end
